-- ==== Sys2Proof/Word.lean ====
section
/-!
DEFINITION. The word types of the CN160 and their plainest arithmetic.
-/
namespace Sys2Proof

/-- A byte (R8). -/
abbrev Byte := BitVec 8

/-- A 32-bit word: an engine data register, a context word, an event sequence number. -/
abbrev Word := BitVec 32

end Sys2Proof
end

