-- ==== Sys2Proof/Types.lean ====
section
/-!
DEFINITION. The enumerations, records and tables of the CN160 that State and the commands are made of.
Every field names the piece of state the manual gives; INVENTORY.md gives the rule and the reset value of each.
-/
namespace Sys2Proof.Machine

/-- The lanes (Table 0.1). -/
inductive Lane where
  | a | b | c | s
deriving DecidableEq, Repr

/-- The Septivel channels (Table 0.2). -/
inductive Channel where
  | x | y
deriving DecidableEq, Repr

/-- The intervals of a basic cycle, in the order of Table 1.2. -/
inductive Interval where
  | lead | uplink | consensus | compute | assembly | downlink | arbitrating | idle
deriving DecidableEq, Repr

/-- Axis types (Table 2.1). -/
inductive AxisType where
  | segment | servo | stepper | aux
deriving DecidableEq, Repr

/-- Axis states (Table 2.2). -/
inductive AxisSt where
  | off | ready | coast | hold | run | stopRamp | faulted
deriving DecidableEq, Repr

/-- Output modes (Table 6.5). -/
inductive OutMode where
  | off | enabled | shortLow
deriving DecidableEq, Repr

/-- Lane network states (Table 6.11). -/
inductive NetState where
  | config | listen | coldstart | integrate | sync
deriving DecidableEq, Repr

/-- Link states (Table 7.3). -/
inductive LinkState where
  | off | down | align | up
deriving DecidableEq, Repr

/-- Lane roles (Table 8.6). -/
inductive Role where
  | unassigned | voting | joining | removed | isolated | refresh | dormant
deriving DecidableEq, Repr

/-- States of the PHC servo (Table 9.7). -/
inductive Servo where
  | unlocked | acquiring | locked | holdover
deriving DecidableEq, Repr

/-- Acquisition states (Table 10.5). -/
inductive AcqState where
  | idle | filling | armed | post | complete
deriving DecidableEq, Repr

/-- States of a safety input in a channel (Table 11.3). -/
inductive InState where
  | clear | delay | demand | waitRestart
deriving DecidableEq, Repr

/-- Fault classes (R502). -/
inductive FClass where
  | f0 | f1 | f2 | f3
deriving DecidableEq, Repr

/-- Mailbox states (Table 14.12). -/
inductive MbState where
  | idle | busy | wait | done
deriving DecidableEq, Repr

/-- States of a firmware slot (R618). -/
inductive SlotState where
  | empty | verified | bad
deriving DecidableEq, Repr

/-- Power modes (Table 16.1). -/
inductive PowerMode where
  | standby | refresh | operating
deriving DecidableEq, Repr

/-- The two safety channels (R443). -/
inductive SafeChan where
  | proc | dyke
deriving DecidableEq, Repr

/-- Which half of an opcode's life a command of that opcode stands for: a lane takes the command from a mailbox (or a BODY) and checks and answers it, or its effective cycle has come (R29, R30). -/
inductive Phase where
  | service | effect
deriving DecidableEq, Repr

/-- Filtered edges of a local channel (R219): a level change of A, B or Z, or of the loss-of-signal state of a receiver (R220). -/
inductive LocalEdge where
  | a (level : Bool)
  | b (level : Bool)
  | z (level : Bool)
  | lost (level : Bool)
deriving DecidableEq, Repr

/-- How MOVS scales the accumulator (Table 3.9, R125, R126). -/
inductive MovsMode where
  | shift (n : Int)
  | scale (sc : Fin 32)
  | normalise
deriving DecidableEq, Repr

/-- Conditions of CMP (Table 3.9). -/
inductive CmpCond where
  | less | lessEq | equal | notEqual
deriving DecidableEq, Repr

/-- Sources of XRD (Table 3.9). -/
inductive XrdSrc where
  | nx | sf | preds
deriving DecidableEq, Repr

/-- PTP message kinds (R378, R381). -/
inductive PtpKind where
  | announce | sync | followUp | delayReq | delayResp | pdelayReq | pdelayResp | pdelayRespFollowUp
deriving DecidableEq, Repr

/-- Where a command came from. -/
inductive Origin where
  | mailbox (n : Nat)
  | forwarded (lane : Lane) (n : Nat)
  | internal
deriving DecidableEq, Repr

/-- A command as a lane copies it from a mailbox (Table 14.9). -/
structure Req where
  /-- Mailbox of this lane, or forwarding lane and its mailbox. -/
  origin : Origin := .internal
  /-- OPCODE. -/
  opcode : Nat := 0
  /-- CLASS. -/
  cls : Nat := 0
  /-- FLAGS. -/
  flags : BitVec 8 := 0
  /-- TAG. -/
  tag : BitVec 32 := 0
  /-- TARGET. -/
  target : BitVec 16 := 0xFFFF
  /-- CYCLE. -/
  cycle : BitVec 32 := 0
  /-- Payload. -/
  payload : List Byte := []
deriving DecidableEq, Repr

/-- An event record (Table 14.14). -/
structure EvRec where
  /-- SEQ. -/
  seq : BitVec 32 := 0
  /-- COUNT. -/
  count : BitVec 32 := 0
  /-- TIME. -/
  time : BitVec 64 := 0
  /-- SOURCE. -/
  source : BitVec 8 := 0
  /-- AXIS. -/
  axis : BitVec 8 := 0xFF
  /-- KIND. -/
  kind : BitVec 16 := 0
  /-- PAYLOAD. -/
  payload : List Byte := []
deriving DecidableEq, Repr

/-- A sync member of R267. -/
inductive SyncMember where
  | lane (l : Lane)
  | node (branch pos : Nat)
deriving DecidableEq, Repr

/-- One deviation of R268. -/
structure Deviation where
  /-- The member that sent the sync frame. -/
  member : SyncMember := .lane .a
  /-- Positive when the member runs late. -/
  delta : Int := 0
  /-- The value came from a LANE frame, which R272 counts. -/
  isLane : Bool := false
deriving DecidableEq, Repr

/-- The time base of the lane: the basic-cycle count and where in the cycle the lane stands. -/
structure Clock where
  /-- Basic-cycle count; its place in the matrix cycle is the count modulo 64, the matrix count is the count divided by 64. -/
  cycle : Nat := 0
  /-- The interval of Table 1.2 the lane stands in. -/
  interval : Interval := .idle
  /-- The cluster of this lane runs: the lane is in COLDSTART, INTEGRATE or SYNC. -/
  running : Bool := false
  /-- Sum of the offset corrections applied in the present rate period. -/
  csum : Int := 0
  /-- Offset correction c measured in the present cycle. -/
  corr : Int := 0
  /-- Deviations of the sync frames received in the present cycle. -/
  devs : List Deviation := []
  /-- Deviations measured in the first cycle of the present rate period. -/
  rateFirst : List (SyncMember × Int) := []
  /-- Deviations measured in the last cycle of the rate period just ended. -/
  rateLast : List (SyncMember × Int) := []
  /-- Rate correction, in 10^-9. -/
  kappa : Int := 0
  /-- Consecutive rate periods at whose end the rate correction was held at its limit. -/
  kappaHeld : Nat := 0
  /-- Steering value s applied in this rate period. -/
  steer : Int := 0
  /-- STEER value heard (or sent) in the eighth cycle of this rate period, for the next one. -/
  steerNext : Option Int := none
  /-- Consecutive rate periods with s held at its limit. -/
  steerHeld : Nat := 0
deriving DecidableEq, Repr

/-- An axis entry of the axis map (MAP_AXIS). -/
structure AxisEntry where
  /-- Axis number. -/
  axis : Nat := 0
  /-- Axis type. -/
  ty : AxisType := .servo
  /-- Kernel ID. -/
  kernel : Nat := 2
  /-- Rate divisor d. -/
  divisor : Nat := 1
  /-- Pinned engine. -/
  pinned : Option Nat := none
  /-- Node that holds the axis. -/
  node : Nat := 0
  /-- Part index of the axis within its node. -/
  part : Nat := 0
deriving DecidableEq, Repr

/-- A node descriptor of the axis map (MAP_NODE). -/
structure NodeEntry where
  /-- Node number. -/
  node : Nat := 0
  /-- Branch of X and of Y. -/
  branch : Nat := 0
  /-- Chain position. -/
  pos : Nat := 0
  /-- Uplink payload length P_up. -/
  pUp : Nat := 4
  /-- Downlink payload length P_down. -/
  pDown : Nat := 4
deriving DecidableEq, Repr

/-- An axis map: the axes and the node descriptors. -/
structure AxisMap where
  /-- Axes, ascending number. -/
  axes : List AxisEntry := []
  /-- Node descriptors, ascending number. -/
  nodes : List NodeEntry := []
deriving DecidableEq, Repr

/-- Where admission put an axis (R45). -/
structure Placement where
  /-- Axis number. -/
  axis : Nat := 0
  /-- Engine. -/
  engine : Nat := 0
  /-- Slot of the engine. -/
  slot : Nat := 0
  /-- Phase of the axis and of its node. -/
  phase : Nat := 0
deriving DecidableEq, Repr

/-- Slots admission gave a node (R231, R232). -/
structure NodePlace where
  /-- Node number. -/
  node : Nat := 0
  /-- Phase. -/
  phase : Nat := 0
  /-- Divisor shared by its axes. -/
  divisor : Nat := 1
  /-- Uplink START in MT. -/
  upStart : Nat := 0
  /-- Uplink LEN in MT. -/
  upLen : Nat := 1
  /-- Downlink START in MT. -/
  downStart : Nat := 0
  /-- Downlink LEN in MT. -/
  downLen : Nat := 1
deriving DecidableEq, Repr

/-- What the lane holds about a node of the map in force. -/
structure NodeRt where
  /-- Node number. -/
  node : Nat := 0
  /-- SCHED_ID the lanes hold for the node. -/
  schedId : BitVec 8 := 0
  /-- ACT_MATRIX of the SCHEDULE in distribution. -/
  actMatrix : BitVec 8 := 0
  /-- A changed SCHEDULE is being distributed. -/
  schedPending : Bool := false
  /-- The node confirmed its SCHEDULE. -/
  confirmed : Bool := false
  /-- The node has had an active schedule (an UPLINK of it was agreed). -/
  active : Bool := false
  /-- SEQ under which the SCHEDULE in distribution is sent. -/
  schedSeq : Option (BitVec 8) := none
  /-- SEQ of the next ACYC_DOWN payload. -/
  seq : BitVec 8 := 0
  /-- The last agreed UPLINK carried TRIPPED. -/
  tripped : Bool := false
  /-- The last agreed UPLINK carried HOLDING. -/
  holding : Bool := false
  /-- The last agreed UPLINK carried EPOCH_CONFLICT. -/
  epochConflict : Bool := false
  /-- EPOCH_LOW of the last agreed UPLINK. -/
  epochLow : BitVec 8 := 0
  /-- Report area of the last agreed UPLINK. -/
  report : List Byte := []
  /-- Basic cycle of that UPLINK. -/
  reportCycle : Option Nat := none
  /-- VDC of the last agreed sample block. -/
  vdc : BitVec 16 := 0
  /-- NSTAT[0] of the last agreed sample block, for this cycle. -/
  vdcValid : Bool := false
  /-- An agreed copy of the frame exists in this cycle. -/
  agreed : Bool := false
  /-- PORT_DELAY carried in the last SCHEDULE of each channel. -/
  portDelay : List (Channel × Nat) := []
deriving DecidableEq, Repr

/-- The snapshot part of an axis: what the last due cycle left (R25). -/
structure Snap where
  /-- Count of the last due cycle. -/
  dueCycle : Nat := 0
  /-- SNAP[0..11]. -/
  words : List (BitVec 32) := []
  /-- ACQ[0..7]. -/
  acq : List (BitVec 32) := []
  /-- Flags of the snapshot entry. -/
  flags : BitVec 16 := 0
  /-- Validity mask of the p measurements. -/
  measMask : BitVec 8 := 0
  /-- Hardware part of the entry as the last due cycle left it, SINCE 0. -/
  hw : List Byte := []
deriving DecidableEq, Repr

/-- What a standard kernel keeps of an axis from one servo period to the next. -/
structure LawRt where
  /-- State estimate, at EXP_STATE. -/
  xhat : List (BitVec 32) := []
  /-- Limited output of the last computed period, at EXP_OUT. -/
  u : List (BitVec 32) := []
  /-- Applied output. -/
  uApp : List (BitVec 32) := []
  /-- Duty words of the last period. -/
  duty : List (BitVec 16) := []
  /-- Output mode sent with the last duties. -/
  mode : OutMode := .off
  /-- Last valid w[0]. -/
  lastVdc : Option (BitVec 32) := none
  /-- Last valid electrical angle. -/
  lastAngle : Option (BitVec 32) := none
  /-- Electrical speed at the last valid angle. -/
  lastOmega : BitVec 32 := 0
  /-- Consecutive due periods with an invalid measurement. -/
  missCount : Nat := 0
  /-- Consecutive due periods over FOLLOW_LIMIT. -/
  followCount : Nat := 0
  /-- Consecutive due periods with saturation. -/
  satCount : Nat := 0
  /-- The DC-link-low condition stands. -/
  vdcLow : Bool := false
deriving DecidableEq, Repr

/-- A queued coefficient element (R92). -/
structure CoefElem where
  /-- Block code. -/
  block : Nat := 0
  /-- Row. -/
  row : Nat := 0
  /-- Column. -/
  col : Nat := 0
  /-- Value as written. -/
  value : BitVec 32 := 0
  /-- Effective cycle of the element. -/
  eff : Nat := 0
  /-- Tag of the write that held it. -/
  tag : BitVec 32 := 0
  /-- Exponent this element fixes when it takes effect. -/
  fixes : Option Int := none
deriving DecidableEq, Repr

/-- Coefficients of an axis or of a coupling group. -/
structure CoefRt where
  /-- Elements in force that are not 0, by (block, row, column). -/
  elems : List ((Nat × Nat × Nat) × BitVec 32) := []
  /-- Exponent at which a block is held, for blocks once fixed. -/
  held : List (Nat × Int) := []
  /-- AUTO exponents that stand fixed (accepted). -/
  fixed : List (Nat × Int) := []
  /-- Elements accepted and not yet in effect. -/
  queue : List CoefElem := []
  /-- Generation counter. -/
  gen : BitVec 32 := 0
deriving DecidableEq, Repr

/-- An event that is to become a record (Table 14.14, R549). -/
structure EvBody where
  /-- CODE. -/
  code : Nat := 0
  /-- AXIS. -/
  axis : Nat := 0xFF
  /-- PAYLOAD. -/
  payload : List Byte := []
deriving DecidableEq, Repr

/-- A mailbox (Tables 14.9 to 14.12). -/
structure Mailbox where
  /-- State. -/
  st : MbState := .idle
  /-- Command area; a byte beyond the list reads 0. -/
  cmd : List Byte := []
  /-- Response area; a byte beyond the list reads 0. -/
  rsp : List Byte := []
  /-- BELL_IGNORED. -/
  ignored : Bool := false
deriving DecidableEq, Repr

/-- The location of a fault source (Table 13.4). -/
structure Loc where
  /-- Location kind. -/
  kind : Nat := 0
  /-- Location number. -/
  num : Nat := 0
  /-- Axis, when the location is an axis. -/
  axis : Option Nat := none
deriving DecidableEq, Repr

/-- A fault on its way to the collector (R506). -/
structure FaultRep where
  /-- Fault code. -/
  code : Nat := 0
  /-- Class. -/
  cls : FClass := .f0
  /-- Location. -/
  loc : Loc := {}
  /-- Detecting lane; none when every voting lane detects it. -/
  lane : Option Lane := none
  /-- Event named by the source's own chapter, written directly after the record. -/
  event : Option EvBody := none
deriving DecidableEq, Repr

/-- The map in force (R391). -/
structure TimeMap where
  /-- BASE_COUNT. -/
  baseCount : Nat := 0
  /-- VT_BASE, ns. -/
  vtBase : BitVec 64 := 0
  /-- RATIO. -/
  ratio : Int := 0
  /-- VT_VALID. -/
  valid : Bool := false
  /-- HOLDOVER. -/
  holdover : Bool := false
  /-- STEP. -/
  step : Bool := false
deriving DecidableEq, Repr

/-- What the command order carries: a command, or the kinds of lane report. -/
inductive Body where
  | cmd (r : Req)
  | fault (rep : FaultRep)
  | event (e : EvBody)
  | evtRd (value : BitVec 32)
  | timeMap (m : TimeMap)
  | sourceEnded (code : Nat) (loc : Loc)
  | safetyDemand (input : Nat) (e : EvBody)
  | acqDone (lane : Lane) (e : EvBody)
  | kernelOutcome (tag : BitVec 32) (ok : Bool) (e : EvBody)
  | f3 (rep : FaultRep)
deriving DecidableEq, Repr

/-- What names a configuration field (R567) of an object. -/
structure FieldKey where
  /-- Object. -/
  target : Nat := 0xFFFF
  /-- TABLE. -/
  table : Nat := 0
  /-- ROW. -/
  row : Nat := 0
  /-- ELEM. -/
  elem : Nat := 0
  /-- UNIT. -/
  unit : Nat := 0xFF
  /-- LANE. -/
  lane : Nat := 0xFF
deriving DecidableEq, Repr

/-- An accepted command or lane report in the command order (R29, R345). -/
structure Accepted where
  /-- Sequence number in the command order. -/
  seq : Nat := 0
  /-- What it is. -/
  body : Body := .evtRd 0
  /-- Lane whose command or report it is. -/
  lane : Lane := .a
  /-- Effective cycle. -/
  eff : Nat := 0
  /-- Status of its response. -/
  status : BitVec 8 := 0
  /-- AUX of its response. -/
  aux : Nat := 0
  /-- Response payload. -/
  rsp : List Byte := []
  /-- Values that acceptance captured: the staged values of an acquisition set-up for its COMMIT, the values a FIELD_WRITE puts in force. -/
  captured : List (FieldKey × BitVec 64) := []
deriving DecidableEq, Repr

/-- A command that waits for the command cut (R544). -/
structure Held where
  /-- The command. -/
  req : Req := {}
  /-- Lane whose mailbox holds it. -/
  lane : Lane := .a
  /-- For a lane report: what it is. -/
  body : Option Body := none
deriving DecidableEq, Repr

/-- An admitted axis map that is not yet in force (R47). -/
structure PendingMap where
  /-- The map. -/
  map : AxisMap := {}
  /-- Its placements. -/
  places : List Placement := []
  /-- Slots of its nodes. -/
  nodes : List NodePlace := []
  /-- First basic cycle in which it is in force. -/
  at_ : Nat := 0
  /-- Staged values that come into force with it. -/
  fields : List (FieldKey × BitVec 64) := []
  /-- Nodes whose SCHEDULE it changes. -/
  changed : List Nat := []
  /-- Coefficients accepted for the axes it creates or creates anew, by axis. -/
  coefs : List (Nat × CoefRt) := []
deriving DecidableEq, Repr

/-- A SEAL (Table 8.4). -/
structure Seal where
  /-- First sequence number. -/
  seq0 : Nat := 0
  /-- Number of commands. -/
  n : Nat := 0
  /-- BODY_CRC. -/
  crc : BitVec 64 := 0
  /-- Voice epoch. -/
  epoch : BitVec 16 := 0
  /-- Cycle k of the command cut. -/
  cycle : Nat := 0
  /-- Lanes whose complete CONFIRM arrived. -/
  confirms : List Lane := []
  /-- This lane holds every body named and BODY_CRC holds. -/
  complete : Bool := true
  /-- Commands and lane reports named. -/
  bodies : List Accepted := []
deriving DecidableEq, Repr

/-- The command order of the lane's steward (R29 to R34, R345 to R349). -/
structure Order where
  /-- Commands and reports held, in order of arrival (voice lane). -/
  held : List Held := []
  /-- Validated commands and reports to be passed to the voice lane. -/
  forward : List Held := []
  /-- Bodies passed on and not yet in an applied seal. -/
  forwarded : List Held := []
  /-- Bodies received from the voice lane and not yet named in a seal. -/
  bodies : List Held := []
  /-- Seal of this cycle. -/
  sealMsg : Option Seal := none
  /-- Commands in the command order that have not yet acted, in order. -/
  accepted : List Accepted := []
  /-- Next sequence number. -/
  nextSeq : Nat := 0
  /-- Admitted map not yet in force. -/
  mapPending : Option PendingMap := none
deriving DecidableEq, Repr

/-- The configuration fields of every field table (Tables 1.2, 2.8, 2.9, 4.5, 4.7, 5.8, 5.9, 6.14, 7.4, 8.15, 9.6, 10.7, 10.8, 11.7, 12.3, 13.2, 14.16, 16.10) and the axis map. -/
structure Fields where
  /-- Active values that have been written. -/
  active : List (FieldKey × BitVec 64) := []
  /-- Staged values that have been written since the last COMMIT or DISCARD. -/
  staged : List (FieldKey × BitVec 64) := []
  /-- Axis map in force. -/
  map : AxisMap := {}
  /-- Staging copy of the axis map. -/
  stagedMap : AxisMap := {}
  /-- Slots of the nodes of the map in force. -/
  nodes : List NodePlace := []
deriving DecidableEq, Repr

/-- Event records and the rings (R547 to R554). -/
structure Events where
  /-- Records formed in this cycle, in order, not yet written. -/
  fresh : List EvRec := []
  /-- On-chip ring, newest first. -/
  ring : List EvRec := []
  /-- EVT_LOCAL_WR. -/
  localWr : BitVec 32 := 0
  /-- Next event sequence number. -/
  seq : BitVec 32 := 0
  /-- Next sequence number of a lane outside VOTING. -/
  ownSeq : BitVec 32 := 0
  /-- W. -/
  w : BitVec 32 := 0
  /-- R. -/
  r : BitVec 32 := 0
  /-- EVT_DROPPED. -/
  dropped : BitVec 32 := 0
  /-- Count of the first drop. -/
  dropFirst : BitVec 32 := 0
  /-- Count of the last drop. -/
  dropLast : BitVec 32 := 0
  /-- Cycles since vector 1 was last raised. -/
  sinceVec1 : Option Nat := none
  /-- The lane took voice: the records and mirrors of the two previous cycles are written again first. -/
  rewrite : Bool := false
  /-- Records written and not yet announced by vector 1. -/
  unannounced : Bool := false
deriving DecidableEq, Repr

/-- The host port of the lane. -/
structure HostPort where
  /-- IRQ_STATUS. -/
  irqStatus : BitVec 8 := 0
  /-- IRQ_ENABLE. -/
  irqEnable : BitVec 8 := 0
  /-- SCRATCH. -/
  scratch : BitVec 32 := 0
  /-- MSPI_INT_EN. -/
  mspiIntEn : Bool := false
  /-- ERR of MSPI STATUS. -/
  mspiErr : Bool := false
  /-- MB0 to MB15. -/
  boxes : List Mailbox := List.replicate 16 {}
  /-- MSI-X table and pending bit array, bytes that are not 0, by BAR0 offset. -/
  msix : List Host.Cell := []
  /-- Closed snapshot. -/
  snap : List Byte := []
  /-- Held snapshot. -/
  heldSnap : List Byte := []
  /-- A held snapshot is requested. -/
  holdReq : Bool := false
  /-- SNAP_HOLD. -/
  snapHold : BitVec 32 := 0
  /-- SNAP_SEQ. -/
  snapSeq : BitVec 32 := 0xFFFFFFFF
  /-- SNAP_SKIPPED. -/
  snapSkipped : BitVec 32 := 0
  /-- Sequence number of the next mirror. -/
  mirrorNext : BitVec 32 := 0
  /-- Mirrors of the last cycles: sequence number, cycle and bytes. -/
  mirrors : List (BitVec 32 × Nat × List Byte) := []
  /-- Mirror being written. -/
  mirroring : Option (BitVec 32) := none
  /-- The PCIe link is in L0. -/
  linkUp : Bool := false
  /-- The endpoint is out of reset (PCIE_PERSTN high). -/
  endpoint : Bool := false
  /-- Configuration requests are answered with Retry Status. -/
  retry : Bool := true
  /-- Writes of WDT counted (model): the watchdog was restarted. -/
  wdtRun : Nat := 0
  /-- COUNT_HI as latched. -/
  countHi : BitVec 32 := 0
deriving DecidableEq, Repr

/-- A node parameter request (R579). -/
structure NodeReq where
  /-- TAG. -/
  tag : BitVec 32 := 0
  /-- Node index. -/
  node : Nat := 0
  /-- A NODE_WRITE. -/
  write : Bool := false
  /-- Parameter index. -/
  index : BitVec 16 := 0
  /-- Service payload from offset 2. -/
  bytes : List Byte := []
  /-- SEQ. -/
  seq : BitVec 8 := 0
  /-- It was resent once. -/
  resent : Bool := false
  /-- It was sent. -/
  sent : Bool := false
  /-- Arbitrating windows since it was sent. -/
  windows : Nat := 0
  /-- Outcome; 0xFE while outstanding. -/
  outcome : BitVec 8 := 0xFE
  /-- Data of the answer. -/
  data : List Byte := []
deriving DecidableEq, Repr

/-- A record of the ring of node events (R581). -/
structure NodeEvent where
  /-- Sequence number. -/
  seq : BitVec 32 := 0
  /-- Bytes 4 to 31. -/
  bytes : List Byte := []
deriving DecidableEq, Repr

/-- Node parameter requests and node events. -/
structure NodeServices where
  /-- The last 32 requests, newest first. -/
  reqs : List NodeReq := []
  /-- The last 64 NODE_EVENTs, newest first. -/
  events : List NodeEvent := []
  /-- Next sequence number. -/
  nextSeq : BitVec 32 := 0
deriving DecidableEq, Repr

/-- A custom kernel held in steward memory (R141). -/
structure Kernel where
  /-- Kernel ID. -/
  id : Nat := 0
  /-- Image. -/
  image : List Byte := []
  /-- Verified cost. -/
  cost : Nat := 0
  /-- Effective cycle of its KERNEL_VERIFIED outcome. -/
  verifiedAt : Nat := 0
deriving DecidableEq, Repr

/-- A settings copy in the peat store (Table 16.7), its content as the configuration it holds. -/
structure Settings where
  /-- Valid. -/
  valid : Bool := false
  /-- SAVE_SEQ. -/
  saveSeq : Nat := 0
  /-- ORIGIN. -/
  origin : BitVec 8 := 0
  /-- LANE. -/
  lane : BitVec 8 := 0
  /-- SAVE_COUNT. -/
  saveCount : Nat := 0
  /-- Fields, axis map and slots. -/
  cfg : Fields := {}
  /-- Placements. -/
  places : List Placement := []
  /-- Axes whose state was other than OFF. -/
  notOff : List Nat := []
  /-- Coefficients of axes. -/
  coefs : List (Nat × CoefRt) := []
  /-- Coefficients of coupling groups. -/
  groupCoefs : List (Nat × CoefRt) := []
  /-- Custom kernels. -/
  kernels : List Kernel := []
  /-- SCHED_IDs. -/
  schedIds : List (Nat × BitVec 8) := []
deriving DecidableEq, Repr

/-- A firmware slot (R618). -/
structure Slot where
  /-- State. -/
  st : SlotState := .empty
  /-- SLOT_SEQ. -/
  seq : Nat := 0
  /-- Release. -/
  release : BitVec 16 := 0
  /-- Image bytes written by a load. -/
  image : List Byte := []
deriving DecidableEq, Repr

/-- The open firmware load. -/
structure FwLoad where
  /-- Declared length. -/
  length : Nat := 0
  /-- Parts written. -/
  data : List (Nat × Byte) := []
  /-- Cycle of the last FW_WRITE. -/
  last : Nat := 0
  /-- The signature check runs. -/
  checking : Bool := false
  /-- Number of the load (model): image bytes never written are free values of this load. -/
  id : Nat := 0
deriving DecidableEq, Repr

/-- Power, start-up and the peat store. -/
structure Power where
  /-- Power mode. -/
  mode : PowerMode := .standby
  /-- PWR_EN. -/
  pwrEn : Bool := false
  /-- PD_AON is out of its power-on reset. -/
  vaon : Bool := false
  /-- The core, SerDes, analog and I/O supplies are in range. -/
  supplies : Bool := false
  /-- The reference is valid and the PLLs are locked. -/
  refValid : Bool := false
  /-- Step 7 is complete. -/
  booted : Bool := false
  /-- Step 8 is complete: the steward runs. -/
  steward : Bool := false
  /-- No image passed: the boot ROM serves firmware loading only. -/
  noImage : Bool := false
  /-- Image slot running. -/
  running : Option Nat := none
  /-- Image slots. -/
  slots : List Slot := [{ st := .verified, seq := 1, release := 0x0302 }, {}]
  /-- Settings copies. -/
  copies : List Settings := [{}, {}]
  /-- Copy restored at the last start; none for factory defaults. -/
  restored : Option Nat := none
  /-- A restore whose SCHEDULEs are not yet distributed. -/
  fresh : Bool := false
  /-- F3 record of the store header. -/
  f3Record : Option (BitVec 12 × BitVec 32) := none
  /-- F3 register of PD_AON. -/
  f3Reg : Bool := false
  /-- Content captured by a running save. -/
  saving : Option Settings := none
  /-- Effective cycle of the running save. -/
  saveAt : Nat := 0
  /-- Last result of STORE_STATUS. -/
  lastResult : BitVec 8 := 0
  /-- [31:0] of the cycle at which the last save completed. -/
  lastSave : BitVec 32 := 0
  /-- Open firmware load. -/
  fw : Option FwLoad := none
  /-- STANDBY was answered; entry follows. -/
  standbyDue : Bool := false
  /-- Refresh record: count, result, copy written. -/
  refreshRec : Nat × BitVec 8 × Nat := (0, 0, 0)
  /-- PD_AON holds that the address is S. -/
  aonSpare : Bool := false
  /-- SPARE_REFRESH as written to PD_AON. -/
  aonRefresh : Nat := 0
  /-- Classification of the wake of lane S: true for a take-over. -/
  wakeKind : Option Bool := none
  /-- Start-up faults held until VOTING. -/
  pending : List FaultRep := []
  /-- Number unique to the chip. -/
  chipId : BitVec 64 := 0
  /-- LCH_IN head. -/
  head : Bool := false
  /-- Last reading of each temperature sensor. -/
  temps : List Int := [0, 0, 0, 0, 0, 0, 0]
  /-- Supplies out of range (2) or near a limit (1). -/
  badSupplies : List (Nat × Nat) := []
  /-- RESET_N holds the lane in reset. -/
  standbyReset : Bool := false
deriving DecidableEq, Repr

/-- A register or memory write that a slot of the open bundle makes when the bundle closes (R121: every slot reads before any writes). -/
structure Commit where
  /-- Data-register writes. -/
  dregs : List (Nat × BitVec 32) := []
  /-- Accumulator writes. -/
  accs : List (Nat × BitVec 80) := []
  /-- Address-register writes. -/
  aregs : List (Nat × BitVec 16) := []
  /-- Modify-register writes. -/
  mregs : List (Nat × BitVec 16) := []
  /-- Data-memory writes. -/
  mem : List (Nat × BitVec 32) := []
  /-- Write of P2. -/
  p2 : Option Bool := none
  /-- Write of P3. -/
  p3 : Option Bool := none
  /-- Write of NX. -/
  nx : Option (BitVec 7) := none
  /-- Write of SF. -/
  sf : Option Bool := none
deriving DecidableEq, Repr

/-- Ready times of the results of an engine run (R122), in engine cycles of the run. -/
structure Ready where
  /-- Data registers. -/
  d : List (Nat × Nat) := []
  /-- Accumulators, for a MAC-slot operation. -/
  accMac : List (Nat × Nat) := []
  /-- Accumulators, for MOVS. -/
  accMov : List (Nat × Nat) := []
  /-- Address registers. -/
  a : List (Nat × Nat) := []
  /-- Modify registers. -/
  m : List (Nat × Nat) := []
  /-- Predicates. -/
  p : List (Nat × Nat) := []
  /-- NX. -/
  nx : Nat := 0
  /-- Stored words, for a load. -/
  mem : List (Nat × Nat) := []
deriving DecidableEq, Repr

/-- A loop of the run (R123). -/
structure LoopFrame where
  /-- First bundle of the body. -/
  first : Nat := 0
  /-- Last bundle of the body. -/
  last : Nat := 0
  /-- Iterations left after the present one. -/
  left : Nat := 0
deriving DecidableEq, Repr

/-- What a result of the open bundle becomes ready as (R122, Table 3.11). -/
inductive ReadyMark where
  | d (r dist : Nat)
  | acc (r : Nat)
  | a (r : Nat)
  | m (r : Nat)
  | p (r : Nat)
  | nx (dist : Nat)
  | dEnd (r : Nat)
  | nxEnd
  | mem (w : Nat)
deriving DecidableEq, Repr

/-- The timing of the bundle being issued. -/
structure Bundle where
  /-- Latest ready time of the operands read so far. -/
  startMin : Nat := 0
  /-- Length of the bundle so far. -/
  len : Nat := 1
  /-- Region the MAC slot accesses. -/
  macRegion : Option Nat := none
  /-- Region the MOVE slot accesses. -/
  movRegion : Option Nat := none
  /-- Results whose ready times follow from the issue cycle. -/
  marks : List ReadyMark := []
deriving DecidableEq, Repr

/-- A loop engine (Table 3.1) with the run it performs. -/
structure Engine where
  /-- Data registers D0 to D31; a register not listed holds 0. -/
  d : List (BitVec 32) := []
  /-- Accumulators ACC0 to ACC3. -/
  acc : List (BitVec 80) := []
  /-- Address registers A0 to A7. -/
  a : List (BitVec 16) := []
  /-- Modify registers M0 to M7. -/
  m : List (BitVec 16) := []
  /-- Scale registers SC0 to SC30; SC31 is always 0. -/
  sc : List Int := []
  /-- Predicate P1; P0 is always 1. -/
  p1 : Bool := false
  /-- Predicate P2. -/
  p2 : Bool := false
  /-- Predicate P3. -/
  p3 : Bool := false
  /-- Normalisation exponent NX. -/
  nx : BitVec 7 := 0
  /-- Sticky saturation flag SF. -/
  sf : Bool := false
  /-- Axis being run. -/
  axis : Option Nat := none
  /-- Index of the present bundle within the kernel. -/
  pc : Nat := 0
  /-- Loops in progress, innermost first. -/
  loops : List LoopFrame := []
  /-- Engine cycles of the run so far, dispatch included. -/
  cyc : Nat := 0
  /-- Engine cycles used in the present compute window. -/
  used : Nat := 0
  /-- Ready times of results. -/
  ready : Ready := {}
  /-- Timing of the bundle in issue. -/
  bundle : Bundle := {}
  /-- Writes of the open bundle. -/
  commit : Commit := {}
  /-- Context words written by the run. -/
  ctxWrites : List (Nat × BitVec 32) := []
  /-- Output area of the run. -/
  out : List (Nat × BitVec 32) := []
  /-- Input area of the axis being run. -/
  inp : List (Nat × BitVec 32) := []
  /-- Local data of the engine that is not 0: the constants and scratch of the run, from its local base. -/
  localMem : List (Nat × BitVec 32) := []
  /-- The run has executed END and not yet been committed. -/
  done : Bool := false
  /-- The run was stopped by an uncorrectable memory error. -/
  stopped : Bool := false
  /-- Due axes of this cycle still to run, in slot order. -/
  todo : List Nat := []
deriving DecidableEq, Repr

/-- The open kernel load (R143). -/
structure KernelLoad where
  /-- Declared length. -/
  length : Nat := 0
  /-- Parts written so far. -/
  data : List (Nat × Byte) := []
  /-- Cycle of the last KERNEL_WRITE (or of the open). -/
  last : Nat := 0
  /-- KERNEL_CLOSE was accepted; verification runs. -/
  closing : Bool := false
  /-- Tag of the KERNEL_CLOSE. -/
  closeTag : BitVec 32 := 0
  /-- Cycle of the open (model): image bytes never written are free values of this load. -/
  id : Nat := 0
deriving DecidableEq, Repr

/-- The kernel store of the steward. -/
structure Kernels where
  /-- Custom kernels, ascending ID. -/
  held : List Kernel := []
  /-- Open load. -/
  load : Option KernelLoad := none
deriving DecidableEq, Repr

/-- The motion in force on an axis (Table 4.2). -/
inductive Motion where
  | move (target : BitVec 48)
  | velocity (v : Rat)
  | table
  | group (g : Nat)
  | reference (t0 t1 : Rat)
deriving DecidableEq, Repr

/-- How the plan in force is computed. -/
inductive PlanKind where
  | toRest (dist : Rat)
  | toVelocity (v : Rat)
  | stop
deriving DecidableEq, Repr

/-- A plan of the generator (R159 to R163). -/
structure Plan where
  /-- What the plan leads to. -/
  kind : PlanKind := .stop
  /-- Stretches of constant acceleration (duration in s, acceleration), with no jerk bound. -/
  segs : List (Rat × Rat) := []
  /-- Start position. -/
  p0 : BitVec 48 := 0
  /-- Start velocity. -/
  v0 : Rat := 0
  /-- Start acceleration. -/
  a0 : Rat := 0
  /-- Duration. -/
  total : Rat := 0
  /-- Samples issued. -/
  n : Nat := 0
  /-- Servo period. -/
  ts : Rat := 0
  /-- The plan has a jerk bound. -/
  jerk : Bool := false
  /-- Number of the plan, to which its free deviation is applied. -/
  id : Nat := 0
deriving DecidableEq, Repr

/-- A table point (Table 4.3). -/
structure Point where
  /-- DURATION in servo periods. -/
  dur : Nat := 1
  /-- Position or signed distance. -/
  pos : BitVec 48 := 0
  /-- Velocity. -/
  vel : BitVec 32 := 0
  /-- RELATIVE. -/
  relative : Bool := false
  /-- EVENT. -/
  event : Bool := false
  /-- LAST. -/
  last : Bool := false
  /-- Sequence number since AXIS_ON. -/
  seq : Nat := 0
deriving DecidableEq, Repr

/-- The Hermite segment being sampled (R168). -/
structure Segment where
  /-- Start position. -/
  p0 : BitVec 48 := 0
  /-- Start velocity. -/
  v0 : Rat := 0
  /-- Displacement. -/
  delta : Rat := 0
  /-- Samples issued. -/
  j : Nat := 0
  /-- End point. -/
  point : Point := {}
  /-- Number of the segment, to which its free deviation is applied (model). -/
  id : Nat := 0
deriving DecidableEq, Repr

/-- The profile generator of an axis. -/
structure MotionRt where
  /-- Set-point position o[k] of the last due period. -/
  o : BitVec 48 := 0
  /-- o[k−1]. -/
  oPrev : BitVec 48 := 0
  /-- Trajectory velocity. -/
  vel : Rat := 0
  /-- Trajectory acceleration. -/
  acc : Rat := 0
  /-- Set-point vector. -/
  r : List (BitVec 32) := []
  /-- Motion in force. -/
  motion : Option Motion := none
  /-- Pending motion. -/
  pend : Option Motion := none
  /-- A pending relative move: its distance and its tag; the target is resolved when it comes into force. -/
  pendRel : Option (Int × BitVec 32) := none
  /-- Plan in force. -/
  plan : Option Plan := none
  /-- A new plan is to be formed in the next due period. -/
  replan : Bool := false
  /-- The MOVE_DONE of the motion in force has been recorded (or none is due). -/
  moveDone : Bool := true
  /-- Segment being sampled. -/
  seg : Option Segment := none
  /-- Held points. -/
  points : List Point := []
  /-- Points appended since AXIS_ON. -/
  pointSeq : Nat := 0
  /-- References in force. -/
  refs : List Rat := []
  /-- Microstep band. -/
  band : Nat := 0
  /-- Full-step number f of the previous due period. -/
  fPrev : Nat := 0
  /-- An element of r was held at its range in the last due period. -/
  satFlag : Bool := false
  /-- The stop ramp in force is a quick stop. -/
  quick : Bool := false
  /-- The set-point of STOP_RAMP has reached standstill. -/
  standstill : Bool := false
  /-- The axis enters HOLD in this period. -/
  enterHold : Bool := false
  /-- First due period after AXIS_ON. -/
  first : Bool := false
  /-- The previous sample was at rest. -/
  atRest : Bool := true
deriving DecidableEq, Repr

/-- A waiting group move (R179). -/
structure GroupMove where
  /-- Per member: axis, relative flag, target or distance in 2^-16 counts. -/
  targets : List (Nat × Bool × Int) := []
  /-- Effective cycle. -/
  eff : Nat := 0
  /-- Tag. -/
  tag : BitVec 32 := 0
deriving DecidableEq, Repr

/-- The running group move. -/
structure GroupRun where
  /-- Per member: axis, start position, displacement. -/
  starts : List (Nat × BitVec 48 × Rat) := []
  /-- Path length D (signed displacement of the leading member). -/
  dist : Rat := 0
  /-- Path velocity bound. -/
  vmax : Rat := 0
  /-- Path bound for speeding up. -/
  amax : Rat := 0
  /-- Path bound for braking. -/
  dmax : Rat := 0
  /-- Path jerk bound, 0 for none. -/
  jmax : Rat := 0
  /-- Path plan. -/
  plan : Plan := {}
  /-- Path position. -/
  sigma : Rat := 0
  /-- Path velocity. -/
  dsigma : Rat := 0
  /-- Path acceleration. -/
  ddsigma : Rat := 0
  /-- A path stop is under way. -/
  stopping : Bool := false
  /-- Path position at which the plan in force starts. -/
  base : Rat := 0
  /-- GROUP_BROKEN has been recorded. -/
  brokenDone : Bool := false
  /-- Members that broke the line. -/
  broken : List Nat := []
deriving DecidableEq, Repr

/-- A coordination group (R177). -/
structure Group where
  /-- Waiting moves, oldest first. -/
  waiting : List GroupMove := []
  /-- Running move. -/
  run : Option GroupRun := none
deriving DecidableEq, Repr

/-- A past position of the decoder (R214). -/
structure Hist where
  /-- Position of the due period. -/
  pos : BitVec 48 := 0
  /-- It was valid. -/
  valid : Bool := false
  /-- It was a reference record. -/
  isRef : Bool := false
  /-- Cycle of the period. -/
  cycle : Nat := 0
  /-- EDGE_TIME of the record. -/
  edgeTime : BitVec 16 := 0
deriving DecidableEq, Repr

/-- The feedback decoder of an axis (R186). -/
structure Decoder where
  /-- Position. -/
  pos : BitVec 48 := 0
  /-- Position valid in the last due period. -/
  posValid : Bool := false
  /-- The next agreed record becomes a reference record, for this reason code. -/
  refNeeded : Option Nat := some 1
  /-- Consecutive due periods without an agreed record. -/
  gap : Nat := 0
  /-- Reason of the last reference record. -/
  lastRef : Nat := 0
  /-- Due periods since the last valid position. -/
  since : Nat := 0
  /-- Base of COUNT or QCOUNT. -/
  count : BitVec 16 := 0
  /-- Start of the quadrant of QCOUNT (SINCOS). -/
  base : BitVec 48 := 0
  /-- Base sector (HALL). -/
  sector : Nat := 0
  /-- Base field (SERIAL). -/
  field : BitVec 32 := 0
  /-- Base of ILLCNT. -/
  illBase : BitVec 4 := 0
  /-- Illegal transitions of the last 64 cycles: (cycle, number). -/
  illWin : List (Nat × Nat) := []
  /-- Cumulative illegal transitions. -/
  illTotal : BitVec 32 := 0
  /-- The feedback-transition F1 was raised and the window has not fallen to 0. -/
  illRaised : Bool := false
  /-- Illegal-transition flag of the period. -/
  illFlag : Bool := false
  /-- Consecutive periods with the amplitude outside. -/
  ampCount : Nat := 0
  /-- Consecutive periods with loss of signal. -/
  lossCount : Nat := 0
  /-- Consecutive failed serial reads. -/
  serCount : Nat := 0
  /-- Consecutive periods with SENSOR_FAIL. -/
  sensCount : Nat := 0
  /-- Index reference L. -/
  index : Option (BitVec 32) := none
  /-- Consecutive mismatches. -/
  misCount : Nat := 0
  /-- INDEX_COUNT was reached; the policy is to act, with this δ. -/
  policyDue : Option Int := none
  /-- Deferred realignment shift, counts. -/
  deferred : Option Int := none
  /-- Direction established. -/
  dir : Int := 0
  /-- Turning point. -/
  turning : BitVec 48 := 0
  /-- Extreme position in the present direction. -/
  extreme : BitVec 48 := 0
  /-- A direction was established in this period. -/
  dirFlag : Bool := false
  /-- Cycle of the last DIR_CHANGE recorded. -/
  dirLast : Option Nat := none
  /-- Suppressed changes. -/
  dirSupp : Nat := 0
  /-- Past positions, newest first. -/
  hist : List Hist := []
  /-- SPEED. -/
  speed : Int := 0
  /-- SPEED valid. -/
  speedValid : Bool := false
  /-- Mechanical angle accumulator. -/
  mech : BitVec 48 := 0
  /-- ANGLE_STEP. -/
  angleStep : BitVec 32 := 0
  /-- Angle valid. -/
  angleValid : Bool := false
  /-- Change of position over the last due period, without shifts. -/
  step : Int := 0
  /-- The last due period was a reference record. -/
  refNow : Bool := false
  /-- RAW words of the last agreed frame. -/
  raw : List (BitVec 16) := []
  /-- AVALID of this period. -/
  avalid : BitVec 8 := 0
  /-- VALID word of this period. -/
  valid : BitVec 13 := 0
deriving DecidableEq, Repr

/-- A local feedback channel (R219). -/
structure LocalChan where
  /-- Edge or quadrant counter. -/
  count : BitVec 16 := 0
  /-- Illegal-transition counter. -/
  ill : BitVec 4 := 0
  /-- Filtered level of A (U). -/
  a : Bool := false
  /-- Filtered level of B (V). -/
  b : Bool := false
  /-- Filtered level of Z (W). -/
  z : Bool := false
  /-- Sector of the last valid Hall state. -/
  sector : Nat := 0
  /-- Counter at the last qualified index edge. -/
  latch : BitVec 16 := 0
  /-- INDEX_SEEN since the last period. -/
  seen : Bool := false
  /-- INDEX_MULTI since the last period. -/
  multi : Bool := false
  /-- ILLEGAL since the last period. -/
  illegal : Bool := false
  /-- Loss of signal on a receiver in use. -/
  lost : Bool := false
  /-- Time of the last counted edge. -/
  edgeAt : Nat := 0
  /-- Last converted sine. -/
  sin : BitVec 16 := 0
  /-- Last converted cosine. -/
  cos : BitVec 16 := 0
  /-- Last SSI word. -/
  word : BitVec 32 := 0
  /-- Last SSI read saw a wrong data level. -/
  serErr : Bool := false
  /-- The last transition of A or B: its filter sample, the change it made, and the edge before it. -/
  prev : Option (Nat × Int × Nat) := none
  /-- Record latched at the sampling instant of a cycle. -/
  latched : Option (Nat × List Byte) := none
deriving DecidableEq, Repr

/-- A running test-signal injection. -/
structure Inj where
  /-- Its first due cycle has come. -/
  started : Bool := false
  /-- INJ_STOP has taken effect. -/
  stop : Bool := false
  /-- INJ_MODE read at the effective cycle. -/
  mode : Nat := 0
  /-- INJ_POINT read at the effective cycle. -/
  point : Nat := 0
  /-- A: INJ_AMP held at the exponent of the point. -/
  amp : Int := 0
  /-- Phase increment of INJ_F0. -/
  inc0 : Nat := 0
  /-- Phase increment of INJ_F1. -/
  inc1 : Nat := 0
  /-- N: INJ_DURATION, 0 for no bound. -/
  total : Nat := 0
  /-- Order q of the binary sequence. -/
  order : Nat := 11
  /-- INJ_HOLD. -/
  hold : Nat := 1
  /-- Due periods issued. -/
  n : Nat := 0
  /-- Phase of the next period. -/
  phase : BitVec 32 := 0
  /-- State of the binary sequence. -/
  lfsr : BitVec 32 := 0xFFFFFFFF
  /-- Chip b in force. -/
  chip : Bool := true
  /-- Value of the present period. -/
  value : Int := 0
deriving DecidableEq, Repr

/-- An axis of the axis map in force. -/
structure Axis where
  /-- Its MAP_AXIS entry. -/
  entry : AxisEntry := {}
  /-- Engine, slot and phase. -/
  place : Placement := {}
  /-- Axis state. -/
  st : AxisSt := .off
  /-- Commands whose effective cycle has come and whose due cycle has not. -/
  waiting : List Accepted := []
  /-- Law state. -/
  law : LawRt := {}
  /-- Coefficients. -/
  coef : CoefRt := {}
  /-- Context words of a custom kernel that are not 0 and are not coefficients or parameters. -/
  ctx : List (Nat × BitVec 32) := []
  /-- Profile generator. -/
  mot : MotionRt := {}
  /-- Feedback decoder. -/
  dec : Decoder := {}
  /-- Injection. -/
  inj : Option Inj := none
  /-- Snapshot words. -/
  snap : Snap := {}
  /-- Output area of the last completed run. -/
  out : List (Nat × BitVec 32) := []
  /-- The last due cycle overran. -/
  overrun : Bool := false
  /-- Dispatched and not yet complete in this window. -/
  dispatched : Bool := false
  /-- Marked divergent by the vote in this cycle. -/
  divergent : Bool := false
deriving DecidableEq, Repr

/-- The coupling table (R21) and the groups' coefficients. -/
structure Coupling where
  /-- Buffer read in this cycle, by (group, ring position), entries written and valid. -/
  rd : List ((Nat × Nat) × BitVec 32) := []
  /-- Buffer written in this cycle. -/
  wr : List ((Nat × Nat) × BitVec 32) := []
  /-- Weights of the groups CG0 to CG15 that hold any. -/
  coef : List (Nat × CoefRt) := []
deriving DecidableEq, Repr

/-- A LANE sender heard while in LISTEN. -/
structure LaneCand where
  /-- Sender. -/
  lane : Lane := .a
  /-- Its COLDSTART flag. -/
  cold : Bool := false
  /-- Its COUNT. -/
  count : Nat := 0
  /-- Its STEER. -/
  steer : Int := 0
deriving DecidableEq, Repr

/-- The lane's network state (Table 6.11). -/
structure Net where
  /-- Network state. -/
  st : NetState := .config
  /-- Local cycles in LISTEN without a valid LANE frame. -/
  listenCount : Nat := 0
  /-- Cycles in COLDSTART. -/
  coldCount : Nat := 0
  /-- Lane integrated on. -/
  intOn : Option Lane := none
  /-- Good LANE frames of INTEGRATE. -/
  intGood : Nat := 0
  /-- Senders with an equal LAYOUT_CRC heard in the present cycle of LISTEN. -/
  cands : List LaneCand := []
  /-- Consecutive cycles with foreign LAYOUT_CRC frames only. -/
  foreign : Nat := 0
  /-- Count taken over on entry to INTEGRATE. -/
  intFrom : Nat := 0
  /-- The frame integrated on carried COLDSTART. -/
  intCold : Bool := false
  /-- g_in and g_out of the last cycle. -/
  gLast : Nat × Nat := (0, 0)
  /-- A frame of INTEGRATE was missing or broke its conditions. -/
  intBad : Bool := false
  /-- A foreign frame was heard in this cycle. -/
  foreignNow : Bool := false
  /-- A frame with the own LAYOUT_CRC was heard in this cycle. -/
  ownNow : Bool := false
  /-- Lanes whose LANE frame was used in this cycle. -/
  laneIn : List Lane := []
  /-- Lanes whose valid LANE frame lay outside ACCEPT_WIN. -/
  laneOut : List Lane := []
  /-- Consecutive cycles outvoted. -/
  outvoted : Nat := 0
  /-- The refresh that follows a CLUSTER_START has been started. -/
  spareWokenThisStart : Bool := false
deriving DecidableEq, Repr

/-- A chain position at a branch port. -/
structure Position where
  /-- Violation count. -/
  viol : Nat := 0
  /-- A violation fell in this cycle. -/
  violNow : Bool := false
  /-- A frame was admitted and not cut in this cycle. -/
  goodNow : Bool := false
  /-- A frame of the closed position would have been admitted in this cycle. -/
  wouldNow : Bool := false
  /-- Closed by the sluice. -/
  closed : Bool := false
  /-- Closed by the host. -/
  hostClosed : Bool := false
  /-- Consecutive good active cycles while closed. -/
  good : Nat := 0
  /-- REQ of the last admitted UPLINK. -/
  req : Nat := 0
  /-- DEFER. -/
  defer : Nat := 0
  /-- Answered its last probe. -/
  present : Bool := false
  /-- PORT_DELAY last measured. -/
  delay : Option Nat := none
  /-- Delay carried in the node's last SCHEDULE on this channel. -/
  inForce : Option Nat := none
deriving DecidableEq, Repr

/-- A downward frame held at a sluice. -/
structure DownCand where
  /-- LANE of its header. -/
  lane : Lane := .a
  /-- EPOCH. -/
  epoch : BitVec 16 := 0
  /-- POS. -/
  pos : Nat := 0
  /-- The frame. -/
  bytes : List Byte := []
deriving DecidableEq, Repr

/-- A branch port with its sluice. -/
structure Branch where
  /-- Link state. -/
  links : LinkState := .off
  /-- Cycles out of UP while in use. -/
  outCycles : Nat := 0
  /-- Closed for babbling. -/
  closed : Bool := false
  /-- Closed by the host. -/
  hostClosed : Bool := false
  /-- Unattributed code groups of this cycle. -/
  babble : Nat := 0
  /-- Consecutive babble cycles. -/
  babbleRun : Nat := 0
  /-- Consecutive cycles without a babble cycle while closed. -/
  quietRun : Nat := 0
  /-- The 8 chain positions. -/
  poss : List Position := List.replicate 8 {}
  /-- E_branch. -/
  eBranch : Option (BitVec 16) := none
  /-- Candidates of the present downlink slot. -/
  cands : List DownCand := []
  /-- Start and end at the port of the ACYC_DOWN frames of the present window, from cycle start; a frame waits until its start. -/
  acycOut : List (Int × Int) := []
  /-- GRANT_POS of the last GRANT. -/
  grant : Nat := 0xFF
  /-- Last position granted in round-robin order. -/
  rr : Nat := 7
  /-- LATE_SEEN. -/
  lateSeen : Bool := false
  /-- BABBLE_SEEN. -/
  babbleSeen : Bool := false
  /-- DROP_SEEN. -/
  dropSeen : Bool := false
  /-- Cycles in which frames were discarded, within 64 cycles. -/
  discards : List Nat := []
  /-- Drops per lane link, within 64 cycles. -/
  drops : List (Lane × Nat) := []
  /-- Position being probed. -/
  probe : Option Nat := none
  /-- Next position to probe. -/
  probeNext : Nat := 0
  /-- The first pass of probes is under way. -/
  firstPass : Bool := true
  /-- Cycles since the last probe. -/
  probeWait : Nat := 0
  /-- The next arbitrating window is a probe window. -/
  probeDue : Bool := false
  /-- Schedule entries in force. -/
  sched : List (BitVec 32) := []
deriving DecidableEq, Repr

/-- A trunk, relay or weir link. -/
structure Link where
  /-- Link state. -/
  st : LinkState := .off
  /-- Cycles out of UP while in use. -/
  outCycles : Nat := 0
  /-- Measured round trip less turnaround. -/
  delay : Option Nat := none
deriving DecidableEq, Repr

/-- What a lane heard of another lane in a cycle. -/
structure Present where
  /-- Lane. -/
  lane : Lane := .a
  /-- Its VOTE payload. -/
  vote : List Byte := []
deriving DecidableEq, Repr

/-- A running handling timer. -/
structure Timer where
  /-- Instance number of the F1. -/
  inst : BitVec 32 := 0
  /-- The F1. -/
  rep : FaultRep := {}
  /-- Effective cycle e. -/
  start : Nat := 0
  /-- Expiry cycle e + N. -/
  expiry : Nat := 0
deriving DecidableEq, Repr

/-- A queued notice. -/
structure Queued where
  /-- Instance number. -/
  inst : BitVec 32 := 0
  /-- The F0. -/
  rep : FaultRep := {}
  /-- Its effective cycle. -/
  raised : Nat := 0
deriving DecidableEq, Repr

/-- An active source of kind L (R504). -/
structure Active where
  /-- Fault code. -/
  code : Nat := 0
  /-- Location. -/
  loc : Loc := {}
  /-- Class. -/
  cls : FClass := .f0
  /-- Instance number of the fault that made it active. -/
  inst : BitVec 32 := 0
deriving DecidableEq, Repr

/-- The fault collector. -/
structure Collector where
  /-- Instance number of the latest fault. -/
  inst : BitVec 32 := 0
  /-- Running handling timers, in instance order. -/
  timers : List Timer := []
  /-- Queued notices. -/
  queue : List Queued := []
  /-- Notices dropped. -/
  dropped : Nat := 0
  /-- Active sources. -/
  active : List Active := []
  /-- Faults of this lane that await the command order. -/
  reports : List FaultRep := []
  /-- Faults detected in the computation of this cycle. -/
  computed : List FaultRep := []
  /-- System-F2 line. -/
  sysF2 : Bool := false
  /-- F3 line. -/
  f3 : Bool := false
  /-- F3_CODE. -/
  f3Code : BitVec 12 := 0
  /-- F3_PREVIOUS. -/
  f3Prev : Bool := false
  /-- PREV_F3_CODE. -/
  f3PrevCode : BitVec 12 := 0
  /-- QUEUE_LOST_SEEN. -/
  lostSeen : Bool := false
  /-- ESCALATED_SEEN. -/
  escSeen : Bool := false
  /-- F2_SEEN. -/
  f2Seen : Bool := false
deriving DecidableEq, Repr

/-- Steward state of a couch image (Table 8.13). -/
structure StewardImage where
  /-- Configuration. -/
  cfg : Fields := {}
  /-- Commands accepted and not yet acted on, and the order. -/
  order : Order := {}
  /-- Coupling tables and weights. -/
  coupling : Coupling := {}
  /-- Coordination groups. -/
  groups : List Group := List.replicate 16 {}
  /-- Nodes of the map. -/
  nodes : List NodeRt := []
  /-- Event and snapshot state. -/
  events : Events := {}
  /-- Fault collector. -/
  faults : Collector := {}
  /-- Node requests and events. -/
  services : NodeServices := {}
  /-- Voice lane. -/
  voice : Option Lane := none
  /-- Voice epoch. -/
  epoch : BitVec 16 := 0
  /-- Voting set. -/
  vset : List Lane := []
  /-- Basic-cycle count of the checkpoint. -/
  cycle : Nat := 0
  /-- Time map in force. -/
  timeMap : TimeMap := {}
  /-- Steering value in force. -/
  steer : Int := 0
  /-- Steering target. -/
  target : Int := 0
  /-- The acquisition set-up runs in the controller. -/
  acqRunning : Bool := false
deriving DecidableEq, Repr

/-- A part of a couch image (Table 8.13). -/
inductive CouchPart where
  | axis (a : Axis)
  | kernel (k : Kernel)
  | steward (i : StewardImage)
deriving DecidableEq, Repr

/-- What REPLAY carries for one basic cycle (R367). -/
structure Replay where
  /-- Basic cycle. -/
  cycle : Nat := 0
  /-- Agreed frames by node index. -/
  agreed : List (Nat × List Byte) := []
  /-- Commands and reports of the applied seal. -/
  bodies : List Accepted := []
  /-- Voice epoch. -/
  epoch : BitVec 16 := 0
  /-- Voting set. -/
  vset : List Lane := []
deriving DecidableEq, Repr

/-- Couching state of a lane (R365 to R370). -/
structure Couch where
  /-- A couch involving this lane is running. -/
  active : Bool := false
  /-- Couch source. -/
  source : Option Lane := none
  /-- Lane being couched. -/
  joiner : Option Lane := none
  /-- Checkpoint cycle k. -/
  checkpoint : Option Nat := none
  /-- The joiner has reached the live cycle: it computes in real time. -/
  live : Bool := false
  /-- This lane has captured checkpoint k. -/
  captured : Bool := false
  /-- Image parts received so far, or captured at the checkpoint. -/
  parts : List CouchPart := []
  /-- CRC-64 of COUCH_END. -/
  imageCrc : Option (BitVec 64) := none
  /-- COUCH_CONFIRMs received: lane, CRC, epoch, checkpoint. -/
  confirms : List (Lane × BitVec 64 × BitVec 16 × Nat) := []
  /-- The image is committed. -/
  committed : Bool := false
  /-- REPLAYs received and not replayed. -/
  log : List Replay := []
  /-- Last cycle replayed. -/
  replayed : Option Nat := none
  /-- The next VOTE of the joiner is a trial. -/
  trial : Bool := false
  /-- Sources given up. -/
  tried : List Lane := []
deriving DecidableEq, Repr

/-- A copy of a frame received in this cycle. -/
structure Copy where
  /-- Channel. -/
  ch : Channel := .x
  /-- Node index b × 8 + p. -/
  node : Nat := 0
  /-- Payload. -/
  payload : List Byte := []
  /-- Valid under R331. -/
  valid : Bool := false
deriving DecidableEq, Repr

/-- What REALIGN and a couch carry of an axis (R343). -/
structure AxisImage where
  /-- Law state. -/
  law : LawRt := {}
  /-- Coefficients. -/
  coef : CoefRt := {}
  /-- Context words. -/
  ctx : List (Nat × BitVec 32) := []
  /-- Decoder. -/
  dec : Decoder := {}
  /-- Profile generator. -/
  mot : MotionRt := {}
deriving DecidableEq, Repr

/-- The lane manager (R318 to R375). -/
structure Lanes where
  /-- Lane address latched. -/
  addr : Option Lane := none
  /-- Pulses of the last train received, latched or not. -/
  pulses : Option Nat := none
  /-- SPARE_EN strap. -/
  spareEn : Bool := false
  /-- Role. -/
  role : Role := .unassigned
  /-- Lane known to hold voice. -/
  voice : Option Lane := none
  /-- Newest voice epoch known. -/
  epoch : BitVec 16 := 0
  /-- Voting set. -/
  vset : List Lane := []
  /-- Lanes present at the last final evaluation. -/
  present : List Lane := []
  /-- Consecutive final evaluations a lane was absent. -/
  absent : List (Lane × Nat) := []
  /-- Consecutive final evaluations without a majority present. -/
  noMajority : Nat := 0
  /-- The voice lane was absent at the last final evaluation. -/
  voiceAbsent : Bool := false
  /-- VOTEs received in this cycle, the own included. -/
  votes : List Present := []
  /-- CONSENSUS maps of this cycle, the own included. -/
  maps : List (Lane × List Byte) := []
  /-- This cycle's input set has been resolved. -/
  resolved : Bool := false
  /-- Copies of frames received in this cycle. -/
  copies : List Copy := []
  /-- Lanes that leave the voting set with the next basic cycle, and the role they take. -/
  leaving : List (Lane × Role) := []
  /-- ACYC_UP copies received in the last arbitrating window. -/
  acycCopies : List Copy := []
  /-- Agreed frames of this cycle, by node index (b×8+p), ACYC_UP frames at 64 + node index. -/
  agreed : List (Nat × List Byte) := []
  /-- Agreed frames of the last 256 basic cycles, newest first. -/
  past : List (Nat × List (Nat × List Byte)) := []
  /-- Lanes whose LANE frame of this cycle carried VOICE. -/
  claims : List Lane := []
  /-- Basic cycle in which the lane that holds voice took it. -/
  voiceAt : Nat := 0
  /-- Input digests of this cycle. -/
  digests : List (Lane × BitVec 64) := []
  /-- Consecutive input-deficient cycles. -/
  deficient : Nat := 0
  /-- A mismatch was found in this cycle. -/
  mismatch : Bool := false
  /-- Lanes found divergent in this cycle. -/
  divergent : List Lane := []
  /-- Components undecided in this cycle: engines 0 to 15, 16 the steward tag. -/
  undecided : List Nat := []
  /-- Engines whose nodes' DOWNLINKs are withheld in this cycle. -/
  withheld : List Nat := []
  /-- EXCHANGE records: lane, axis, digest. -/
  exch : List (Lane × Nat × BitVec 64) := []
  /-- Axes under realignment with their adoption cycle (0 while not named). -/
  realign : List (Nat × Nat) := []
  /-- What REALIGN brought, by axis. -/
  realignData : List (Nat × AxisImage) := []
  /-- The lane stops its downlinks from the next cycle. -/
  voiceStop : Bool := false
  /-- N of the present cycle. -/
  holdN : Nat := 0
  /-- H of the present cycle. -/
  holdH : Nat := 0
  /-- UPLINKs of this cycle with HOLDING clear and another EPOCH_LOW. -/
  otherEpoch : Nat := 0
  /-- UPLINKs received in this cycle. -/
  uplinks : Nat := 0
  /-- DIVERGENCE_SEEN. -/
  divSeen : Bool := false
  /-- VOICE_CHANGED. -/
  voiceSeen : Bool := false
  /-- Weir ports whose data links are UP. -/
  weirUp : List Nat := []
  /-- Path in use per weir port: 0 direct, 1 relay, 2 star, 3 none. -/
  weirPath : List (Nat × Nat) := []
  /-- Weir ports not used because of wrong wiring. -/
  weirWrong : List Nat := []
  /-- Far lane named by IDENT per weir port. -/
  ident : List (Nat × Lane) := []
  /-- Couching. -/
  couch : Couch := {}
  /-- Hours counted by the always-on timer. -/
  refreshHours : Nat := 0
  /-- Attempts of the present refresh. -/
  refreshTries : Nat := 0
  /-- Refresh source of the attempt under way. -/
  refreshSrc : Option Lane := none
  /-- Role of lane S as this lane knows it. -/
  spareState : Role := .dormant
  /-- SPARE_WAKE is being driven low. -/
  spareWake : Bool := false
  /-- A COUCH_REQ is awaited after SPARE_WAKE. -/
  couchWait : Bool := false
deriving DecidableEq, Repr

/-- A capture (R403). -/
structure Capture where
  /-- PHC time, ns. -/
  phc : Int := 0
  /-- Basic-cycle count. -/
  cycle : Nat := 0
  /-- Nanoseconds within the cycle. -/
  off : Nat := 0
  /-- Rising edge. -/
  rising : Bool := false
deriving DecidableEq, Repr

/-- A pulse output. -/
structure Pps where
  /-- Time of the next pulse. -/
  next : Option Nat := none
  /-- Index n of the next pulse. -/
  n : Nat := 0
  /-- The active level is being driven. -/
  level : Bool := false
deriving DecidableEq, Repr

/-- The time unit (R376 to R407). -/
structure TimeUnit where
  /-- Servo state. -/
  servo : Servo := .unlocked
  /-- Last servo measurement, ns. -/
  offset : Int := 0
  /-- Sum of the steps the servo made to the PHC. -/
  phcAdj : Int := 0
  /-- Frequency correction f; the PHC takes the nearest step of 2^-32. -/
  freq : Rat := 0
  /-- Integral term i. -/
  integ : Rat := 0
  /-- PHC time of the last measurement. -/
  lastAt : Option Int := none
  /-- Consecutive measurements within LOCK_WIN. -/
  locks : Nat := 0
  /-- Consecutive outliers. -/
  outliers : Nat := 0
  /-- Consecutive measurements with f or i held at ±500 ppm. -/
  freqHeld : Nat := 0
  /-- portState. -/
  portState : BitVec 4 := 3
  /-- SGMII link up. -/
  linkUp : Bool := false
  /-- SPEED. -/
  speed1000 : Bool := false
  /-- STEP_SEEN. -/
  stepSeen : Bool := false
  /-- CAP_OVERFLOW. -/
  capOvf : Bool := false
  /-- PULSE_MISSED. -/
  pulseSeen : Bool := false
  /-- clockIdentity of the selected grandmaster. -/
  master : Option (List Byte) := none
  /-- Data set of the selected master. -/
  masterData : List Byte := []
  /-- Announce intervals without an Announce. -/
  announces : Nat := 0
  /-- Measured path delay. -/
  pathDelay : Int := 0
  /-- Sequence numbers by message type. -/
  ptpSeq : List (Nat × BitVec 16) := []
  /-- Two-step Sync awaiting its Follow_Up: receive stamp, correction, sequence. -/
  syncT : Option (Int × Int × BitVec 16) := none
  /-- Transmit stamp of the last Delay_Req or Pdelay_Req. -/
  delayT3 : Option (Int × BitVec 16) := none
  /-- Pdelay_Resp awaiting its Follow_Up: t2, t4, correction. -/
  pdelay : Option (Int × Int × Int) := none
  /-- t1 and t2 of the last Sync. -/
  syncT12 : Option (Int × Int) := none
  /-- PHC times latched at cycle starts (count, ns), newest first. -/
  latches : List (Nat × Int) := []
  /-- Map in force. -/
  map : TimeMap := {}
  /-- Sealed map that comes into force at the next rate period. -/
  mapNext : Option TimeMap := none
  /-- Steering target s*. -/
  target : Int := 0
  /-- Vehicle time in ns that each of the last 16 rate periods took, newest first. -/
  rates : List Int := []
  /-- PPS0 to PPS3. -/
  pps : List Pps := List.replicate 4 {}
  /-- Capture FIFOs. -/
  fifo : List (List Capture) := List.replicate 4 []
  /-- Captures dropped since the previous CAPTURE event. -/
  capDrop : List Nat := [0,0,0,0]
  /-- Captures reported in this cycle. -/
  capReports : Nat := 0
  /-- Receive buffer. -/
  ethRx : List (List Byte) := []
  /-- Transmit frame being filled. -/
  ethTx : List (Nat × Byte) := []
  /-- Declared length of the transmit frame. -/
  ethTxLen : Option Nat := none
  /-- A host frame is being sent. -/
  ethBusy : Bool := false
  /-- Frames dropped for want of room. -/
  ethDropped : Nat := 0
deriving DecidableEq, Repr

/-- A comparator (R416). -/
structure Cmp where
  /-- Primed. -/
  primed : Bool := false
  /-- Result. -/
  result : Bool := false
  /-- Previous new value. -/
  prev : Option (BitVec 32) := none
  /-- Sampling instant of the previous new value, ns from count 0. -/
  prevAt : Int := 0
  /-- Present value. -/
  cur : Option (BitVec 32) := none
  /-- Sampling instant of the present value. -/
  curAt : Int := 0
  /-- Level c whose crossing changed the result in this cycle. -/
  level : Option (BitVec 32) := none
deriving DecidableEq, Repr

/-- A digital line DLn (R414). -/
structure DigLine where
  /-- Filtered level. -/
  level : Bool := false
  /-- Filtered level at the start of the cycle (DL_LEVEL). -/
  levelStart : Bool := false
  /-- An edge fell since the previous record. -/
  edge : Bool := false
  /-- Stamp of the last rising edge of this cycle, from the cycle start. -/
  rise : Option Int := none
  /-- Stamp of the last falling edge of this cycle. -/
  fall : Option Int := none
  /-- The same of the previous cycle, from that cycle's start. -/
  risePrev : Option Int := none
  /-- The same of the previous cycle. -/
  fallPrev : Option Int := none
deriving DecidableEq, Repr

/-- A segment descriptor (Table 10.6). -/
structure Descr where
  /-- TRIG_COUNT. -/
  trigCount : BitVec 32 := 0
  /-- TRIG_OFF. -/
  trigOff : Int := 0
  /-- TRIG_TIME. -/
  trigTime : BitVec 64 := 0
  /-- PLACEMENT. -/
  placement : BitVec 8 := 0
  /-- SOURCE. -/
  source : BitVec 8 := 0
  /-- FIRST_REC. -/
  firstRec : Nat := 0
  /-- PRE_ACTUAL. -/
  preActual : Nat := 0
  /-- POST_ACTUAL. -/
  postActual : Nat := 0
  /-- DEAD_NS. -/
  deadNs : Nat := 0
  /-- MISSED. -/
  missed : Nat := 0
deriving DecidableEq, Repr

/-- The acquisition unit of the lane. -/
structure Acq where
  /-- State. -/
  st : AcqState := .idle
  /-- The set-up runs in the controller. -/
  running : Bool := false
  /-- Recording lanes whose ACQ_COMPLETE is outstanding. -/
  openLanes : List Lane := []
  /-- Present segment. -/
  segment : Nat := 0
  /-- Records written since the segment began. -/
  written : Nat := 0
  /-- Records written after the trigger record. -/
  post : Nat := 0
  /-- A trigger is accepted and its trigger record not yet written (ACQ_DIV above 1). -/
  trigPending : Bool := false
  /-- Index of the trigger record since the segment began. -/
  trigRec : Nat := 0
  /-- Descriptor being formed. -/
  cur : Descr := {}
  /-- Descriptors written, by segment. -/
  descrs : List (Nat × Descr) := []
  /-- Acquisition memory. -/
  mem : List Host.Cell := []
  /-- Cycle from which HOLDOFF counts. -/
  lastTrig : Nat := 0
  /-- Sampling instant of the last record of the previous capture. -/
  lastRecAt : Int := 0
  /-- Start of the first cycle in which the segment was ARMED. -/
  armedAt : Option Int := none
  /-- Missed triggers since the previous accepted one. -/
  missed : Nat := 0
  /-- MISSED_TOTAL. -/
  missedTotal : Nat := 0
  /-- TRIG_SEEN. -/
  trigSeen : Bool := false
  /-- MISSED_SEEN. -/
  missedSeen : Bool := false
  /-- Condition word of this cycle. -/
  cond : BitVec 32 := 0
  /-- Condition word of the previous cycle. -/
  condPrev : BitVec 32 := 0
  /-- ACQ_FORCE takes effect in this cycle. -/
  force : Bool := false
  /-- CMP0 to CMP3. -/
  cmps : List Cmp := List.replicate 4 {}
  /-- DL0 to DL15. -/
  lines : List DigLine := List.replicate 16 {}
  /-- 1 + the highest class of a fault event recorded in this cycle; 0 for none. -/
  faultNow : Nat := 0
  /-- The same of the previous cycle. -/
  faultPrev : Nat := 0
  /-- Channel values of the last record time. -/
  values : List (BitVec 32) := []
deriving DecidableEq, Repr

/-- A safety input as one channel holds it. -/
structure SafeIn where
  /-- State. -/
  st : InState := .demand
  /-- This channel's own pin demands. -/
  pin : Bool := false
  /-- Filtered pin level is high. -/
  lowNow : Bool := false
  /-- OFF_DELAY timer runs. -/
  delay : Bool := false
deriving DecidableEq, Repr

/-- A safety channel: the processor or the dyke. -/
structure Chan where
  /-- Its copy of SI0 to SI7. -/
  ins : List SafeIn := List.replicate 8 {}
  /-- Its self-tests and checks are finished. -/
  started : Bool := false
  /-- No F3 of this channel. -/
  ok : Bool := false
  /-- Lock-out line. -/
  lockout : Bool := true
  /-- OFF line of each output. -/
  off : List Bool := List.replicate 4 true
  /-- A dark pulse of its switch of the output runs. -/
  dark : List Bool := List.replicate 4 false
  /-- CRC of the set read. -/
  setCrc : BitVec 32 := 0
  /-- Level of its heartbeat line. -/
  beat : Bool := false
  /-- It has lost the other channel's heartbeat. -/
  beatLost : Bool := false
  /-- Last SAFE_RESET hold it measured, ms. -/
  holdOk : Option Nat := none
deriving DecidableEq, Repr

/-- The test-pulse state of a safe output. -/
structure Test where
  /-- 0 idle, 1 high-side pulse, 2 gap, 3 low-side pulse. -/
  phase : Nat := 0
  /-- A test is due and waits for both switches on. -/
  due : Bool := false
deriving DecidableEq, Repr

/-- The safety functions of the lane (both channels). -/
structure Safety where
  /-- Safety processor. -/
  proc : Chan := {}
  /-- Dyke. -/
  dyke : Chan := {}
  /-- START_DONE. -/
  startDone : Bool := false
  /-- Seal word at start. -/
  sealStart : BitVec 8 := 0
  /-- Seal word last read. -/
  sealNow : BitVec 8 := 0
  /-- Release requests. -/
  release : List Bool := List.replicate 4 false
  /-- Test of each output. -/
  tests : List Test := List.replicate 4 {}
  /-- LOCKOUT_ID. -/
  lockoutId : BitVec 8 := 0
  /-- LOCKOUT_BY. -/
  lockoutBy : BitVec 2 := 0
  /-- LOCKOUT_CAUSE. -/
  lockoutCause : BitVec 12 := 0
  /-- The lock-out was caused by an F3. -/
  lockoutF3 : Bool := false
  /-- DEMAND_SEEN. -/
  demandSeen : Bool := false
  /-- SUPERSEDED_SEEN. -/
  supersededSeen : Bool := false
  /-- RESET_REFUSED. -/
  resetRefused : Bool := false
  /-- TESTS_PASSED. -/
  passed : BitVec 16 := 0
  /-- Level of SAFE_RESET. -/
  safeReset : Bool := true
  /-- A release that closed a reset step is on record (ms held). -/
  resetSince : Option Nat := none
  /-- A SAFETY_ACK awaits its outcome. -/
  ackPending : Option Nat := none
  /-- VDYK in range. -/
  vdykIn : Bool := false
  /-- PD_SAFE supply in range and PLL locked. -/
  safeSupplyIn : Bool := false
  /-- Fuse bytes that are not 0. -/
  watermark : List (Nat × Byte) := [(0, 1), (4, 1), (0x40, 0xA3), (0x41, 0x4E), (0x42, 0xB8), (0x43, 0xFA)]
  /-- Bytes of the parameter set in force. -/
  setInForce : List Byte := []
deriving DecidableEq, Repr

/-- One switch of an output. -/
structure Switch where
  /-- Gate-source voltage above 7.0 V. -/
  on : Bool := false
  /-- Commanded on. -/
  cmd : Bool := false
  /-- A turn-on waits. -/
  waiting : Bool := false
  /-- Proven off. -/
  proven : Bool := false
  /-- Gate-source voltage below 1.0 V. -/
  low : Bool := true
  /-- Turn-on strength. -/
  strOn : Nat := 7
  /-- Turn-off strength. -/
  strOff : Nat := 7
  /-- Consecutive events with the turn-on strength at 0 or 15. -/
  onHeld : Nat := 0
  /-- Consecutive events with the turn-off strength at 0 or 15. -/
  offHeld : Nat := 0
  /-- The turn-off in progress uses step 0. -/
  soft : Bool := false
deriving DecidableEq, Repr

/-- An output SDOn. -/
structure Sdo where
  /-- High side. -/
  hs : Switch := {}
  /-- Low side. -/
  ls : Switch := {}
  /-- Turned off by a short, held until its F2 is cleared. -/
  shorted : Bool := false
  /-- Turned off by gate-under or gate-stuck, held until its F2 is cleared. -/
  failed : Bool := false
  /-- SHORT_SEEN. -/
  shortSeen : Bool := false
  /-- GATE_UNDER_SEEN. -/
  underSeen : Bool := false
  /-- STUCK_SEEN. -/
  stuckSeen : Bool := false
  /-- ADAPT_LIMIT_SEEN. -/
  limitSeen : Bool := false
  /-- Duty of the present PWM period. -/
  duty : BitVec 32 := 0
deriving DecidableEq, Repr

/-- The gate drivers. -/
structure Drivers where
  /-- SDO0 to SDO3. -/
  outs : List Sdo := List.replicate 4 {}
  /-- SUPPLY_ON. -/
  supplyOn : Bool := false
  /-- VBRG_OK. -/
  vbrgOk : Bool := false
  /-- CP_OK. -/
  cpOk : Bool := false
  /-- VBRG_MV. -/
  vbrgMv : BitVec 16 := 0
  /-- VCP_MV. -/
  vcpMv : BitVec 12 := 0
  /-- Leg mask of the event being collected. -/
  legs : List Bool := List.replicate 4 false
  /-- Switch mask of the event being collected. -/
  sws : List Nat := []
  /-- Shunt mask of the event being collected. -/
  shunts : List Nat := []
  /-- VBRG at the first detection. -/
  shortVbrg : Option (BitVec 16) := none
deriving DecidableEq, Repr

/-- What left the chip in this basic cycle (the model's own record; no state of the chip). -/
inductive Tx where
  | frame (port : Nat) (bytes : List Byte)
  | up (link : Nat) (bytes : List Byte) (cut : Bool) (stamp : Int)
  | down (ch : Channel) (branch pos : Nat) (bytes : List Byte)
  | weir (ty : Nat) (dst : Option Lane) (payload : List Byte)
  | lane (port : Nat) (payload : List Byte)
  | probe (branch pos : Nat)
  | train (pulses : Nat)
  | dma (addr : BitVec 64) (bytes : List Byte)
  | msix (v : Nat)
  | eth (bytes : List Byte)
  | ptp (kind : Nat) (seq : BitVec 16)
  | pulse (n : Nat) (at_ : Nat)
  | wakeLow (us : Nat)
  | read (bytes : List Byte)
  | body (dst : Option Lane) (box : Nat) (b : Body)
  | couch (ty : Nat) (dst : Lane) (parts : List CouchPart)
  | replay (dst : Lane) (r : Replay)
  | realign (axis : Nat) (image : AxisImage)
  | refresh (settings : Settings)
  | refusal (dst : Lane) (box : Nat) (status : BitVec 8) (aux : Nat) (rsp : List Byte) (effective : Nat)
deriving DecidableEq, Repr

/-- What a local feedback channel converts at a sampling instant (R219, R220): sine, cosine, SSI word, and whether the data line stood right before and after the word. -/
structure LocalSample where
  /-- Channel FB0 to FB7. -/
  chan : Nat := 0
  /-- Converted sine. -/
  sin : BitVec 16 := 0
  /-- Converted cosine. -/
  cos : BitVec 16 := 0
  /-- SSI word. -/
  word : BitVec 32 := 0
  /-- The data line was at its right level before and after the word. -/
  dataOk : Bool := true
deriving DecidableEq, Repr

/-- A PTP message as received (IEEE 1588-2019 header fields and body that R378 to R383 use). -/
structure PtpMsg where
  /-- domainNumber. -/
  domain : Nat := 0
  /-- sequenceId. -/
  seq : BitVec 16 := 0
  /-- sourcePortIdentity, 10 bytes. -/
  src : List Byte := []
  /-- correctionField, ns. -/
  corr : Int := 0
  /-- Origin, receive or precise time-stamp of the body, ns. -/
  time : Int := 0
  /-- twoStepFlag. -/
  twoStep : Bool := false
  /-- requestingPortIdentity of an answer equals this port's identity. -/
  forUs : Bool := true
  /-- Body of an Announce: grandmaster data set. -/
  data : List Byte := []
deriving DecidableEq, Repr


end Sys2Proof.Machine
end

