-- ==== Sys2Proof/Syntax.lean ====
section
/-!
DEFINITION. The commands: one constructor per row of spec/opcode_table.json, in the table's order.
A row that is a step of the chip carries what reaches the chip in that step; a row that is an opcode carries the
command's header and payload and which half of its life is meant; a row that is a slot operation carries its operands.
-/
namespace Sys2Proof

open Sys2Proof.Machine

/-- The commands. -/
inductive Instr where
  /-- BASIC_CYCLE_START (R227): The local clock reaches a whole multiple of T and a new basic cycle begins, with the basic-cycle count raised by 1. -/
  | basicCycleStart (clk : Int) (samples : List LocalSample)
  /-- RATE_PERIOD_START (R274): A rate period of 16 basic cycles begins, and the rate correction and steering value are updated. -/
  | ratePeriodStart
  /-- RATE_LIMIT_REACHED (R275): κ held at ±250 ppm for 4 consecutive rate periods raises the rate-limit F1. -/
  | rateLimitReached
  /-- MAP_FORMATION (R394): In each cycle whose count is 8 modulo 16, the voice lane's time unit forms a new map and sends it as a lane report. -/
  | mapFormation
  /-- STEERING_LIMIT_REACHED (R399): s held at ±20 ppm for 16 rate periods raises the steering-limit F0. -/
  | steeringLimitReached
  /-- LANE_FRAME_SEND (R244): A lane in COLDSTART or SYNC sends its LANE frame 1 MT after its cycle start on every weir port that is up. -/
  | laneFrameSend
  /-- LANE_FRAME_RECEIVED (R265): A LANE frame arrives, and it drives integration, cold-start resolution and the sync deviation. -/
  | laneFrameReceived (port : Nat) (bytes : List Byte) (codeOk : Bool) (arrival : Int)
  /-- LISTEN_TIMEOUT (R263): A lane in LISTEN that hears no LANE frame for 8 + 4 × address cycles enters COLDSTART at count 0. -/
  | listenTimeout
  /-- COLDSTART_COMPLETE (R264): After 4 basic cycles in COLDSTART the lane enters SYNC. -/
  | coldstartComplete
  /-- INTEGRATE_COMPLETE (R265): After 2 good LANE frames the integrating lane enters SYNC, or it returns to LISTEN. -/
  | integrateComplete
  /-- LAYOUT_MISMATCH_REACHED (R266): 8 consecutive cycles of foreign LAYOUT_CRC frames raise the layout-mismatch F1. -/
  | layoutMismatchReached
  /-- OUTVOTED_LIMIT (R272): A lane outvoted in 3 consecutive cycles enters LISTEN and raises the sync-left F1. -/
  | outvotedLimit
  /-- UPLINK_FRAME_ARRIVAL (R290): An UPLINK frame reaches a branch port, and the sluice admits, cuts or blocks it. -/
  | uplinkFrameArrival (branch : Nat) (bytes : List Byte) (codeOk : Bool) (sof eof : Int) (stray : Nat)
  /-- NODE_CLOSED (R293): The violation count of a position reaches 3, so the position closes with a node-closed F1. -/
  | nodeClosed (branch pos : Nat)
  /-- NODE_REOPENED (R294): A closed position reopens after REOPEN_COUNT consecutive good active cycles. -/
  | nodeReopened (branch pos : Nat)
  /-- FRAME_ERROR_LIMIT (R279): 16 or more discarded frames at a port within 64 cycles raise the frame-error F0. -/
  | frameErrorLimit (branch : Nat)
  /-- BRANCH_CLOSED (R306): BABBLE_LIMIT consecutive babble cycles close the branch. -/
  | branchClosed (branch : Nat)
  /-- BRANCH_REOPENED (R307): A branch closed for babbling reopens after 64 cycles without a babble cycle. -/
  | branchReopened (branch : Nat)
  /-- LANE_LINK_DROP_LIMIT (R308): 16 drops from one lane link within 64 cycles raise a lane-link F0. -/
  | laneLinkDropLimit (branch : Nat) (lane : Lane)
  /-- UPLINK_COPY_RECEIVED (R197): A lane receives a copy of an uplink frame and decodes it provisionally. -/
  | uplinkCopyReceived (ch : Channel) (own : Bool) (bytes : List Byte) (codeOk : Bool) (complete : Int) (stamp : Int)
  /-- CONSENSUS_SEND (R331): After the R19 deadline each lane forms its copy map and sends CONSENSUS to every voting lane. -/
  | consensusSend
  /-- CONSENSUS_RECEIVED (R331): A CONSENSUS message from another lane arrives. -/
  | consensusReceived (port : Nat) (bytes : List Byte)
  /-- CONSENSUS_RESOLUTION (R332): At 4.20 µs each lane chooses the agreed copy of each entry, and the decoders commit. -/
  | consensusResolution
  /-- INDEX_POLICY_ACTION (R211): INDEX_COUNT consecutive mismatches make INDEX_POLICY act: report, realign or F2. -/
  | indexPolicyAction (axis : Nat)
  /-- REALIGN_SHIFT_APPLY (R212): A deferred realignment shift takes effect in the first due period in a non-enabled state. -/
  | realignShiftApply (axis : Nat)
  /-- FEEDBACK_SIGNAL_LIMIT (R207): Amplitude or signal loss for AMP_FILTER consecutive periods raises the feedback-signal F1. -/
  | feedbackSignalLimit (axis : Nat)
  /-- FEEDBACK_SERIAL_LIMIT (R209): SER_FILTER consecutive failed serial reads raise the feedback-serial F1. -/
  | feedbackSerialLimit (axis : Nat)
  /-- FEEDBACK_TRANSITION_LIMIT (R205): The window count of illegal transitions reaching ILLEGAL_LIMIT raises the feedback-transition F1. -/
  | feedbackTransitionLimit (axis : Nat)
  /-- FEEDBACK_SENSOR_LIMIT (R225): SENSOR_FAIL set in AMP_FILTER consecutive periods raises the feedback-sensor F1. -/
  | feedbackSensorLimit (axis : Nat)
  /-- INPUT_DIGEST_RECEIVED (R334): An INPUT_DIGEST arrives and is compared, and a difference records INPUT_MISMATCH. -/
  | inputDigestReceived (port : Nat) (bytes : List Byte)
  /-- INPUT_DEFICIENT (R335): A lane lacking over half the agreed entries in 3 consecutive cycles raises the input-deficient F1 and leaves the voting set. -/
  | inputDeficient
  /-- BODY_RECEIVED (R345): A BODY message carrying a forwarded command or lane report reaches the voice lane. -/
  | bodyReceived (lane : Lane) (mailbox : Nat) (body : Body)
  /-- COMPUTE_WINDOW_OPEN (R20): The compute window opens and the scheduler dispatches due axes to engines in slot order. -/
  | computeWindowOpen
  /-- AXIS_RUN_END (R107): A kernel run reaches END and commits its context and output area. -/
  | axisRunEnd (engine : Fin 16)
  /-- SAMPLE_LOSS_LIMIT (R69): Invalid measurements in MISS_LIMIT consecutive due periods raise the sample-loss F1. -/
  | sampleLossLimit (axis : Nat)
  /-- FOLLOWING_ERROR (R74): The position error over FOLLOW_LIMIT for FOLLOW_FILTER due periods raises a following-error F2. -/
  | followingError (axis : Nat)
  /-- NUMERIC_PERSIST (R89): Saturation in 16 consecutive due periods raises the numeric F1. -/
  | numericPersist (axis : Nat)
  /-- ENGINE_ECC_CORRECTED (R105): An engine memory corrects a single-bit error, which adds 2 cycles and raises an F0. -/
  | engineEccCorrected (engine : Fin 16)
  /-- ENGINE_ECC_UNCORRECTABLE (R105): An uncorrectable engine memory error stops the axis's run and raises its F2. -/
  | engineEccUncorrectable (engine : Fin 16)
  /-- COMPUTE_WINDOW_CLOSE (R20): The compute window closes; busy engines are stopped and acquisition records are taken. -/
  | computeWindowClose
  /-- ACQ_PRE_FILLED (R423): A FILLING segment with PRE records and holdoff run out becomes ARMED. -/
  | acqPreFilled
  /-- ACQ_POST_COMPLETE (R427): POST records after the trigger are written, so the descriptor is written and the next segment or COMPLETE follows. -/
  | acqPostComplete
  /-- COMMAND_CUT (R31): At the start of the assembly and vote interval the voice lane accepts held commands and sends the SEAL. -/
  | commandCut
  /-- SEAL_RECEIVED (R346): A voting lane receives a SEAL and answers with CONFIRM. -/
  | sealReceived (port : Nat) (bytes : List Byte)
  /-- CONFIRM_RECEIVED (R346): A CONFIRM for the seal arrives from a voting lane. -/
  | confirmReceived (port : Nat) (bytes : List Byte)
  /-- VOTE_RECEIVED (R339): A VOTE arrives and is compared for mismatch and majority. -/
  | voteReceived (port : Nat) (bytes : List Byte)
  /-- QUICK_EVALUATION (R340): At the quick evaluation the voice lane withholds divergent downlinks and voice may pass. -/
  | quickEvaluation
  /-- FINAL_EVALUATION (R341): At the final evaluation lanes are removed, divergences become F2s and the voting set changes. -/
  | finalEvaluation
  /-- LANE_LOST (R350): A voting lane absent in 2 consecutive final evaluations is lost. -/
  | laneLost (lane : Lane)
  /-- LANE_ISOLATED (R354): A lane without a majority at two final evaluations enters ISOLATED with the lane-partition F1. -/
  | laneIsolated
  /-- EXCHANGE_RECEIVED (R342): An EXCHANGE message arrives, and per-axis majorities are formed. -/
  | exchangeReceived (port : Nat) (bytes : List Byte)
  /-- REALIGN_RECEIVED (R343): REALIGN messages carry an axis's state for adoption at the named cycle. -/
  | realignReceived (axis : Nat) (image : AxisImage)
  /-- SNAPSHOT_SWITCH (R27): The snapshot double buffer switches, and event records and mirrors of the cycle are written. -/
  | snapshotSwitch
  /-- MIRROR_COMPLETE (R559): The mirror's trailer and index word are written and vector 2 is raised. -/
  | mirrorComplete
  /-- DOWNLINK_SLOT (R297): The sluice forwards the newest-epoch candidate DOWNLINK frame at the slot start. -/
  | downlinkSlot (branch pos : Nat) (frames : List (Lane × Int × List Byte))
  /-- ARBITRATING_WINDOW_START (R235): The arbitrating window opens, and SCHEDULE payloads and acyclic services are sent. -/
  | arbitratingWindowStart
  /-- ACYC_DOWN_FORWARD (R299): An ACYC_DOWN frame arrives at a sluice and is forwarded or dropped. -/
  | acycDownForward (branch : Nat) (lane : Lane) (bytes : List Byte) (start : Int)
  /-- ACYC_UP_ADMIT (R300): An ACYC_UP frame of the granted position is admitted, or judged an OUTSIDE violation. -/
  | acycUpAdmit (branch : Nat) (bytes : List Byte) (codeOk : Bool) (sof eof : Int)
  /-- NODE_REQUEST_TIMEOUT (R247): A node request unanswered for 8 arbitrating windows is resent once, and then reported as no answer. -/
  | nodeRequestTimeout (tag : BitVec 32)
  /-- NETWORK_IDLE_START (R301): The network idle time starts: grants are decided and sent and the clock correction applies. -/
  | networkIdleStart
  /-- LINK_SIGNAL_DETECT (R309): Signal is detected on a DOWN link, so it enters ALIGN. -/
  | linkSignalDetect (port : Nat)
  /-- LINK_ALIGNED (R309): Three K28.5 at one alignment bring the link to UP. -/
  | linkAligned (port : Nat)
  /-- LINK_SIGNAL_LOST (R309): Signal lost for 1 µs takes the link to DOWN. -/
  | linkSignalLost (port : Nat)
  /-- LINK_CODE_ERRORS (R309): 4 invalid code groups within 256 take an UP link back to ALIGN. -/
  | linkCodeErrors (port : Nat)
  /-- PORT_DOWN_LIMIT (R310): A port in use out of UP for 8 cycles raises the port-down F1. -/
  | portDownLimit (port : Nat)
  /-- PROBE_SEND (R311): The sluice sends a delay probe to a chain position. -/
  | probeSend (port pos : Nat)
  /-- PROBE_ANSWER (R311): A node's probe answer arrives and PORT_DELAY is computed. -/
  | probeAnswer (port pos : Nat) (roundTrip : Nat)
  /-- PROBE_TIMEOUT (R311): No answer within 1,100 ns marks the position absent. -/
  | probeTimeout (port pos : Nat)
  /-- PROBE_INTERVAL_EXPIRY (R312): After PROBE_INTERVAL cycles the next position is probed. -/
  | probeIntervalExpiry (branch : Nat)
  /-- IDENT_RECEIVED (R325): An IDENT message names the far lane, and wrong wiring or duplicates raise F1s. -/
  | identReceived (port : Nat) (bytes : List Byte)
  /-- WEIR_LINK_DOWN (R358): Weir data links out of UP for 8 cycles raise the weir-link-down F1 and traffic moves path. -/
  | weirLinkDown (port : Nat)
  /-- LCH_TRAIN_RECEIVED (R318): A pulse train on LCH_IN is received, and two equal trains latch the address. -/
  | lchTrainReceived (pulses : Nat)
  /-- LCH_TRAIN_SEND (R319): Every 100 µs a chip holding an address sends its train on LCH_OUT. -/
  | lchTrainSend
  /-- ADDRESS_TIMEOUT (R320): No address latched 50 ms after start leaves the chip UNASSIGNED with the lane-role F1. -/
  | addressTimeout
  /-- SPARE_REFRESH_TIMER (R600): The always-on timer counts SPARE_REFRESH hours and starts a refresh wake. -/
  | spareRefreshTimer
  /-- WAKE_CLASSIFY (R600): Lane S classifies its wake as take-over or refresh by the length of the WAKE low level. -/
  | wakeClassify (lowUs : Nat)
  /-- REFRESH_DATA_RECEIVED (R362): The spare receives REFRESH_DATA, writes the older settings copy and checks it. -/
  | refreshDataReceived (settings : Settings) (crc : BitVec 64)
  /-- REFRESH_FAILED (R363): A refresh whose source is lost or whose CRC fails is repeated once, and then the spare-refresh F1 is raised. -/
  | refreshFailed
  /-- COUCH_REQ_RECEIVED (R366): The couch source names checkpoint k and starts streaming the image. -/
  | couchReqReceived (lane : Lane) (kernelCrcs : List (BitVec 32))
  /-- COUCH_DATA_RECEIVED (R366): The spare receives a part of the couch image. -/
  | couchDataReceived (part : CouchPart)
  /-- COUCH_END_RECEIVED (R368): COUCH_END gives the image CRC for the spare's check. -/
  | couchEndReceived (crc : BitVec 64)
  /-- COUCH_CONFIRM_RECEIVED (R368): Matching confirmations from two voting lanes let the spare commit the image. -/
  | couchConfirmReceived (lane : Lane) (checkpoint : Nat) (epoch : BitVec 16) (crc : BitVec 64)
  /-- REPLAY_RECEIVED (R367): A REPLAY message carries copy maps, seals, epoch and voting-set changes for a cycle. -/
  | replayReceived (replay : Replay)
  /-- FRAME_REQUEST (R367): The spare asks for a missing agreed frame with FRAME, and a voting lane returns it. -/
  | frameRequest (lane : Lane) (cycle node : Nat)
  /-- COUCH_ABANDON (R369): A lost source or too few confirmations make the spare discard the couch and ask another lane. -/
  | couchAbandon
  /-- CATCH_UP_COMPLETE (R370): The spare reaches the live cycle and sends JOIN. -/
  | catchUpComplete
  /-- SPARE_WAKE_TIMEOUT (R375): No COUCH_REQ within 5 ms of SPARE_WAKE raises the spare-wake F1. -/
  | spareWakeTimeout
  /-- PTP_SYNC_RECEIVED (R389): A Sync gives an offset measurement that the servo acts on. -/
  | ptpSyncReceived (msg : PtpMsg) (stamp : Int)
  /-- PTP_MESSAGE_RECEIVED (R378): A PTP message other than Sync is received and time-stamped. -/
  | ptpMessageReceived (kind : PtpKind) (msg : PtpMsg) (stamp : Int)
  /-- SERVO_LOCKED (R389): 16 consecutive measurements within LOCK_WIN bring the servo to LOCKED. -/
  | servoLocked
  /-- SERVO_OUTLIERS (R389): 4 consecutive outliers return the servo to ACQUIRING. -/
  | servoOutliers
  /-- TIME_SOURCE_LOST (R390): The source is lost, so the servo enters HOLDOVER and the F1 is raised. -/
  | timeSourceLost
  /-- HOLDOVER_EXPIRED (R389): HOLDOVER_MAX passes and the servo becomes UNLOCKED. -/
  | holdoverExpired
  /-- PHC_FREQUENCY_LIMIT (R407): f or i held at ±500 ppm for 16 measurements raises an F1. -/
  | phcFrequencyLimit
  /-- PPS_EDGE (R401): A pulse output reaches a pulse time and gives its pulse. -/
  | ppsEdge (output : Nat) (clk : Int) (cluster : Int)
  /-- PULSE_MISSED (R402): A pulse whose time has passed or was stepped over is recorded as missed. -/
  | pulseMissed (output : Nat) (count : Nat)
  /-- CAP_EDGE (R403): A filtered edge on CAPn is captured into its FIFO, or dropped when the FIFO is full. -/
  | capEdge (input : Nat) (rising : Bool) (clk : Int) (cycle ns : Nat)
  /-- ETH_FRAME_RECEIVED (R380): A non-PTP Ethernet frame goes to the receive buffer. -/
  | ethFrameReceived (bytes : List Byte)
  /-- ETH_LINK_DOWN_LIMIT (R407): The SGMII link down for 1 s with ETH_ENABLE raises the Ethernet-down F1. -/
  | ethLinkDownLimit
  /-- DL_EDGE (R414): A filtered edge on DLn is stamped by the time-to-digital converter. -/
  | dlEdge (line : Nat) (rising : Bool) (stamp : Int)
  /-- SAFETY_INPUT_CHANGE (R446): A filtered pin level or cross demand changes the state of a safety input in a channel. -/
  | safetyInputChange (chan : SafeChan) (input : Nat) (level : Bool)
  /-- OFF_DELAY_EXPIRY (R446): A channel's delay timer reaches OFF_DELAY and the input enters DEMAND. -/
  | offDelayExpiry (chan : SafeChan) (input : Nat)
  /-- DISCREPANCY_TIMEOUT (R448): A discrepancy lasting beyond DISCREPANCY raises the input-discrepancy F2 and locks out. -/
  | discrepancyTimeout (chan : SafeChan) (input : Nat)
  /-- SAFE_RESET_RELEASE (R447): SAFE_RESET is released after a timed hold, giving a restart pulse or a reset step. -/
  | safeResetRelease (procMs dykeMs : Nat)
  /-- SEAL_POLL (R462): Every 10 ms both channels reread the seals, and a change raises the seal-change F2. -/
  | sealPoll (chan : SafeChan) (word : BitVec 8)
  /-- TEST_PULSE_DUE (R458): A test falls due and the processor starts the high-side dark pulse. -/
  | testPulseDue (output : Nat)
  /-- DARK_PULSE_END (R457): A dark pulse ends, passing or raising the test-pulse-fail F2. -/
  | darkPulseEnd (output : Nat) (high : Bool) (provenP provenD : Bool) (us : Nat)
  /-- TEST_GAP_EXPIRY (R456): 10 ms after the high-side pulse the dyke starts the low-side dark pulse. -/
  | testGapExpiry (output : Nat)
  /-- TEST_MISSING (R460): An output on without a dark pulse beyond 2 × TP_INTERVAL + 1 s raises the test-missing F2. -/
  | testMissing (output : Nat)
  /-- HEARTBEAT_TOGGLE (R443): Each channel toggles its heartbeat line every 50 µs. -/
  | heartbeatToggle (chan : SafeChan)
  /-- HEARTBEAT_LOSS (R444): No heartbeat toggle for 200 µs raises the heartbeat-loss F2 and locks out. -/
  | heartbeatLoss (chan : SafeChan)
  /-- SAFETY_START_COMPLETE (R467): Both channels finish self-tests and watermark and seal checks, and their set CRCs agree. -/
  | safetyStartComplete (word : BitVec 8) (procOk dykeOk romOk : Bool)
  /-- ROM_CRC_CHECK (R468): Every 10 s the processor recomputes its ROM CRC, and a failure raises the Safety-ROM F3. -/
  | romCrcCheck (ok : Bool)
  /-- CROSS_MISMATCH (R474): A switch held on while the other channel's OFF line has been set for 2 ms raises an F2. -/
  | crossMismatch (chan : SafeChan) (output : Nat)
  /-- VDYK_RANGE (R474): VDYK outside 3.0 V to 3.6 V for 20 µs raises the VDYK-range F2. -/
  | vdykRange
  /-- SAFE_SUPPLY (R474): The PD_SAFE supply out of range or the PLL unlocked raises the Safe-supply F2. -/
  | safeSupply
  /-- SAFETY_RESET (R471): Both channels report the outcome of a deliberate reset in a SAFETY_RESET event. -/
  | safetyReset (procMs dykeMs : Nat) (procCause dykeCause : Bool)
  /-- PWM_PERIOD_START (R482): A PWM period begins for bridge outputs, with duties switched centre-aligned. -/
  | pwmPeriodStart
  /-- INTERLOCK_RELEASE (R483): A waiting turn-on proceeds once the other switch's gate is below 1.0 V. -/
  | interlockRelease (output : Nat) (high : Bool)
  /-- GATE_STUCK (R484): A gate not below 1.0 V within 10 µs of turn-off raises the gate-stuck F2. -/
  | gateStuck (output : Nat) (high : Bool)
  /-- SHORT_DETECT (R493): A drain-source voltage above threshold for 100 ns after blanking is a short, and both switches turn off. -/
  | shortDetect (output : Nat) (high : Bool) (vbrg : BitVec 16)
  /-- SHUNT_SHORT_DETECT (R494): The shunt comparator above SHUNT_TH detects a short. -/
  | shuntShortDetect (output : Nat) (vbrg : BitVec 16)
  /-- SDO_SHORT (R496): 10 µs after the first detection, the detections form one SDO_SHORT event with the SDO-short F2. -/
  | sdoShort
  /-- SUPPLY_MONITOR_TRIP (R486): VBRG or the charge pump out of range turns every switch off and raises an F2. -/
  | supplyMonitorTrip (kind : Nat) (reading : BitVec 16)
  /-- SUPPLY_CONDITION_END (R486): VBRG and VCP back in range for 1 ms ends the monitor condition. -/
  | supplyConditionEnd
  /-- GATE_UNDER (R487): A gate-source voltage below 7.0 V for 1 µs turns the switch off and raises the gate-under F2. -/
  | gateUnder (output : Nat) (high : Bool)
  /-- DRIVER_SUPPLY_READY (R488): 2 ms after SDO_SUPPLY becomes 1 the charge pump is up and switches may turn on. -/
  | driverSupplyReady
  /-- SWITCHING_EVENT_END (R491): A switching event ends and adaptive gate strength adjusts. -/
  | switchingEventEnd (output : Nat) (high turnOn : Bool) (time : Option Nat)
  /-- GATE_LIMIT (R491): A strength at 0 or 15 for 16 events raises the gate-limit F0. -/
  | gateLimit (output : Nat) (high turnOn : Bool)
  /-- OFF_CHECK_PROVEN (R497): A switch meets both voltage conditions for 1 µs and is proven off. -/
  | offCheckProven (output : Nat) (high : Bool)
  /-- HANDLING_TIMER_EXPIRY (R510): An unhandled F1 timer expires and raises an F2 of its scope. -/
  | handlingTimerExpiry (instNo : BitVec 32)
  /-- F3_DETECT (R515): An F3 sets the lane's F3 line, turns every output off and removes the lane. -/
  | f3Detect (code : Nat)
  /-- COLLECTOR_COMPARE (R518): The 1 µs comparison of the collector's complementary registers finds a difference. -/
  | collectorCompare
  /-- COLLECTOR_LINE (R518): A line pair not complementary for 2 µs is treated as set, raising the collector-line F3. -/
  | collectorLine
  /-- HOST_WATCHDOG_EXPIRY (R521): The watchdog register not written for HOST_WDT raises the host-watchdog F1. -/
  | hostWatchdogExpiry
  /-- SUPPLY_OUT_OF_RANGE (R631): A supply monitor finds a supply outside its range or near a limit. -/
  | supplyOutOfRange (supply : Nat) (near : Bool)
  /-- TEMPERATURE_THRESHOLD (R525): A temperature sensor crosses a threshold of Table 13.15. -/
  | temperatureThreshold (sensor : Nat) (celsius : Int)
  /-- PLL_LOCK_LOSS (R525): A PLL loses lock, raising the PLL-lock F3. -/
  | pllLockLoss
  /-- REFERENCE_CLOCK_LOSS (R525): The 25 MHz reference misses 8 edges, raising an F3. -/
  | referenceClockLoss
  /-- AON_CLOCK_STOP (R525): The 32.768 kHz oscillator stops, raising an F0. -/
  | aonClockStop
  /-- SRAM_ECC_ERROR (R525): Context, acquisition or network memory corrects or fails on an ECC error. -/
  | sramEccError (corrected : Bool)
  /-- STEWARD_ECC_ERROR (R525): Steward memory corrects or fails on an ECC error. -/
  | stewardEccError (corrected : Bool)
  /-- STEWARD_LOCKSTEP (R525): The two steward cores differ, raising an F3. -/
  | stewardLockstep
  /-- STEWARD_DEADLINE (R525): No seal, vote or distribution by the end of the assembly interval raises an F3. -/
  | stewardDeadline
  /-- PCIE_LINK_DOWN (R525): The PCIe link out of L0 for 1 ms raises an F1. -/
  | pcieLinkDown
  /-- PCIE_UNCORRECTABLE (R525): The endpoint logs an uncorrectable error, raising an F1. -/
  | pcieUncorrectable
  /-- WAKE_QUALIFIED (R598): A qualified low on WAKE in STANDBY starts a wake with PWR_EN high. -/
  | wakeQualified
  /-- VDYK_IN_RANGE (R603): VDYK reaches range and the dyke starts from its own reset. -/
  | vdykInRange
  /-- SUPPLIES_IN_RANGE (R603): The core, SerDes, analog and I/O supplies are in range and the reference oscillator starts. -/
  | suppliesInRange
  /-- REFERENCE_VALID (R603): The reference is valid, so PLLs lock and the domains are powered in order. -/
  | referenceValid
  /-- BOOT_ROM_COMPLETE (R619): The boot ROM finishes header checks and image selection, or serves only firmware loading. -/
  | bootRomComplete (pass0 pass1 : Bool)
  /-- SETTINGS_RESTORE (R611): The steward restores the newer valid settings copy or factory defaults and enters network LISTEN. -/
  | settingsRestore (kernelsOk0 kernelsOk1 : Bool)
  /-- VDD_CORE_POR (R516): VDD_CORE falls below its power-on reset threshold, which resets the lane and clears an F3. -/
  | vddCorePor
  /-- VAON_POR (R632): VAON falls below its threshold, resetting PD_AON and holding PWR_EN low. -/
  | vaonPor
  /-- VDYK_POR (R632): VDYK falls below its threshold and the dyke resets. -/
  | vdykPor
  /-- RESET_N_ASSERT (R602): RESET_N low for 1 µs resets every domain except PD_AON and restarts the lane. -/
  | resetNAssert
  /-- PCIE_PERSTN_ASSERT (R639): PCIE_PERSTN low resets only the PCIe endpoint. -/
  | pciePerstnAssert
  /-- STANDBY_ENTRY (R599): 1 ms after answering STANDBY the lane drives PWR_EN low and enters standby. -/
  | standbyEntry
  /-- SETTINGS_SAVE_COMPLETE (R609): A save finishes writing and reading back its target copy, or raises the Store-write F1. -/
  | settingsSaveComplete (ok : Bool)
  /-- FW_CHECK_COMPLETE (R620): The loaded slot's signature check ends, marking it VERIFIED or BAD. -/
  | fwCheckComplete (ok : Bool)
  /-- FW_LOAD_LAPSE (R590): A firmware load lapses 65,536 cycles after its last FW_WRITE. -/
  | fwLoadLapse
  /-- KERNEL_VERIFIED (R144): Verification of a closed kernel image ends, and its outcome is distributed as a command and recorded. -/
  | kernelVerified
  /-- KERNEL_LOAD_LAPSE (R143): An open kernel load lapses 65,536 cycles after its last KERNEL_WRITE. -/
  | kernelLoadLapse
  /-- MSPI_WRITE (R527): The MSPI WRITE instruction writes whole words to BAR0. -/
  | mspiWrite (addr : BitVec 24) (data : List Byte)
  /-- MSPI_READ (R527): The MSPI READ instruction reads bytes from BAR0 or BAR2. -/
  | mspiRead (addr : BitVec 24) (length : Nat)
  /-- MSPI_STATUS (R527): The MSPI STATUS instruction returns IRQ and ERR and clears ERR. -/
  | mspiStatus
  /-- DOORBELL (R541): A DOORBELL write submits the command of an IDLE mailbox, and the lane checks it. -/
  | doorbell (box : Nat)
  /-- RELEASE (R541): A RELEASE write returns a DONE mailbox to IDLE. -/
  | release (box : Nat)
  /-- W1C_WRITE (R10): A write of 1 clears W1C status and interrupt bits. -/
  | w1cWrite (offset : Nat) (value : BitVec 32)
  /-- EVT_RD_WRITE (R552): A write of EVT_RD is passed to the voice lane as a lane report to advance R. -/
  | evtRdWrite (value : BitVec 32)
  /-- SNAP_HOLD_WRITE (R536): A write of SNAP_HOLD requests a held snapshot at the next switch. -/
  | snapHoldWrite (value : BitVec 32)
  /-- WDT_WRITE (R521): A write of WDT restarts the host watchdog. -/
  | wdtWrite (value : BitVec 32)
  /-- CAPTURE_POP (R532): A read of capture word 3 removes the oldest capture from the FIFO. -/
  | capturePop (input : Nat)
  /-- COUNT_LO_READ (R530): A read of COUNT_LO latches COUNT_HI. -/
  | countLoRead
  /-- REGISTER_WRITE (R529): A write to a register without behaviour of its own sets its value or is ignored. -/
  | registerWrite (offset : Nat) (data : List Byte)
  /-- IDENTIFY (R571): Returns part, revisions, lane address, role and configuration. -/
  | identify (ph : Phase) (req : Req)
  /-- FIELD_WRITE (R569): Writes up to 15 configuration fields under their classes. -/
  | fieldWrite (ph : Phase) (req : Req)
  /-- FIELD_READ (R570): Returns the active and staged values of up to 15 fields. -/
  | fieldRead (ph : Phase) (req : Req)
  /-- COMMIT (R36): Applies the staging copy of the axis map or acquisition set-up after its checks and admission. -/
  | commit (ph : Phase) (req : Req)
  /-- DISCARD (R38): Replaces a block's staging copy with its active copy. -/
  | discard (ph : Phase) (req : Req)
  /-- CLUSTER_START (R262): Takes a lane in CONFIG to network LISTEN. -/
  | clusterStart (ph : Phase) (req : Req)
  /-- CLUSTER_STOP (R262): Stops the cluster in every lane at the end of its effective cycle. -/
  | clusterStop (ph : Phase) (req : Req)
  /-- FAULT_ACK (R509): Handles an F1 instance, or all running F1s, before its timer expires. -/
  | faultAck (ph : Phase) (req : Req)
  /-- FAULT_CLEAR (R514): Ends a system F2 when no source is active and no lane is locked out. -/
  | faultClear (ph : Phase) (req : Req)
  /-- FAULT_LIST (R572): Returns F1s under handling and active F2 sources of the owning lane. -/
  | faultList (ph : Phase) (req : Req)
  /-- FAULT_RAISE (R520): Raises the host-test source as an F0 or F1 of axis or system scope. -/
  | faultRaise (ph : Phase) (req : Req)
  /-- FAULT_INJECT (R519): Always refused with DENIED. -/
  | faultInject (ph : Phase) (req : Req)
  /-- AXIS_ON (R64): Takes an axis from OFF to READY and clears its estimate and outputs. -/
  | axisOn (ph : Phase) (req : Req)
  /-- AXIS_OFF (R57): Takes an axis from READY to OFF. -/
  | axisOff (ph : Phase) (req : Req)
  /-- AXIS_ENABLE (R57): Takes an axis from READY or COAST to HOLD. -/
  | axisEnable (ph : Phase) (req : Req)
  /-- AXIS_RUN (R57): Takes an axis from HOLD or COAST to RUN. -/
  | axisRun (ph : Phase) (req : Req)
  /-- AXIS_STOP (R59): Stops an axis in RUN at the stop rate; never refused with STATE. -/
  | axisStop (ph : Phase) (req : Req)
  /-- QUICK_STOP (R59): Ramps an axis to standstill at the quick-stop rate. -/
  | quickStop (ph : Phase) (req : Req)
  /-- AXIS_COAST (R59): Takes an axis with outputs on into COAST. -/
  | axisCoast (ph : Phase) (req : Req)
  /-- AXIS_DISABLE (R57): Takes an axis from HOLD or COAST to READY. -/
  | axisDisable (ph : Phase) (req : Req)
  /-- AXIS_RESET (R57): Takes a FAULTED axis to READY when no F2 source is active. -/
  | axisReset (ph : Phase) (req : Req)
  /-- MAP_AXIS (R574): Writes an axis entry into the staging copy of the axis map. -/
  | mapAxis (ph : Phase) (req : Req)
  /-- MAP_NODE (R574): Writes a node descriptor into the staging copy. -/
  | mapNode (ph : Phase) (req : Req)
  /-- MAP_REMOVE (R574): Removes an axis or node from the staging copy. -/
  | mapRemove (ph : Phase) (req : Req)
  /-- COEFF_WRITE (R91): Queues 1 to 30 coefficient elements for an axis or coupling group. -/
  | coeffWrite (ph : Phase) (req : Req)
  /-- COEFF_READ (R98): Returns coefficient values in force with the generation counter. -/
  | coeffRead (ph : Phase) (req : Req)
  /-- KERNEL_OPEN (R142): Opens a custom kernel load with its declared length. -/
  | kernelOpen (ph : Phase) (req : Req)
  /-- KERNEL_WRITE (R142): Writes a part of the open kernel image. -/
  | kernelWrite (ph : Phase) (req : Req)
  /-- KERNEL_CLOSE (R142): Checks the image CRC and starts verification. -/
  | kernelClose (ph : Phase) (req : Req)
  /-- KERNEL_REMOVE (R145): Removes a custom kernel that no map names. -/
  | kernelRemove (ph : Phase) (req : Req)
  /-- KERNEL_INFO (R573): Returns a kernel's verified figures and use. -/
  | kernelInfo (ph : Phase) (req : Req)
  /-- PROFILE_MOVE (R158): Starts a least-duration move to an absolute or relative target. -/
  | profileMove (ph : Phase) (req : Req)
  /-- PROFILE_VELOCITY (R160): Starts a plan to a constant velocity. -/
  | profileVelocity (ph : Phase) (req : Req)
  /-- TABLE_APPEND (R165): Appends 1 to 15 points to an axis's segment table. -/
  | tableAppend (ph : Phase) (req : Req)
  /-- TABLE_START (R167): Makes the segment table the motion in force. -/
  | tableStart (ph : Phase) (req : Req)
  /-- TABLE_CLEAR (R170): Discards held points, or ends a running table with REST. -/
  | tableClear (ph : Phase) (req : Req)
  /-- GROUP_MOVE (R179): Queues or aborts a coordinated straight-line move of a group. -/
  | groupMove (ph : Phase) (req : Req)
  /-- REF_SET (R171): Sets reference targets of a SEGMENT or AUX axis. -/
  | refSet (ph : Phase) (req : Req)
  /-- FEEDBACK_STATUS (R576): Returns the decoder state of an axis. -/
  | feedbackStatus (ph : Phase) (req : Req)
  /-- BRANCH_CTRL (R578): Closes or opens a branch or positions at a sluice. -/
  | branchCtrl (ph : Phase) (req : Req)
  /-- NODE_PARAM_READ (R579): Sends a NODE_READ service to a node. -/
  | nodeParamRead (ph : Phase) (req : Req)
  /-- NODE_PARAM_WRITE (R579): Sends a NODE_WRITE service to a node. -/
  | nodeParamWrite (ph : Phase) (req : Req)
  /-- NODE_RESULT (R579): Returns the outcome of a node parameter request. -/
  | nodeResult (ph : Phase) (req : Req)
  /-- NODE_REPORT_READ (R580): Returns the report area of a node's last agreed UPLINK. -/
  | nodeReportRead (ph : Phase) (req : Req)
  /-- NODE_EVENTS_READ (R581): Returns records from the ring of node events. -/
  | nodeEventsRead (ph : Phase) (req : Req)
  /-- VOICE_MOVE (R355): Moves voice to the named voting lane with the next epoch. -/
  | voiceMove (ph : Phase) (req : Req)
  /-- SPARE_REFRESH (R361): Wakes a dormant spare for a refresh. -/
  | spareRefresh (ph : Phase) (req : Req)
  /-- SPARE_TAKEOVER (R583): Wakes the spare for take-over and optionally removes a lane. -/
  | spareTakeover (ph : Phase) (req : Req)
  /-- LANE_REJOIN (R372): Couches a REMOVED or ISOLATED lane back into the voting set. -/
  | laneRejoin (ph : Phase) (req : Req)
  /-- TIME_READ (R584): Returns PHC, cluster and mapped time latched at one instant. -/
  | timeRead (ph : Phase) (req : Req)
  /-- ETH_SEND (R585): Fills a transmit frame and sends it once complete. -/
  | ethSend (ph : Phase) (req : Req)
  /-- ETH_RECV (R585): Reads the oldest received Ethernet frame. -/
  | ethRecv (ph : Phase) (req : Req)
  /-- ACQ_ARM (R423): Arms acquisition into FILLING at segment 0. -/
  | acqArm (ph : Phase) (req : Req)
  /-- ACQ_STOP (R429): Stops acquisition and returns to IDLE. -/
  | acqStop (ph : Phase) (req : Req)
  /-- ACQ_FORCE (R418): Makes its effective cycle a trigger cycle. -/
  | acqForce (ph : Phase) (req : Req)
  /-- INJ_START (R433): Starts a test-signal injection on an axis. -/
  | injStart (ph : Phase) (req : Req)
  /-- INJ_STOP (R433): Ends an axis's injection. -/
  | injStop (ph : Phase) (req : Req)
  /-- SDO_RELEASE (R453): Sets the release requests of safe outputs. -/
  | sdoRelease (ph : Phase) (req : Req)
  /-- SDO_APPLY (R453): Clears the release requests of safe outputs. -/
  | sdoApply (ph : Phase) (req : Req)
  /-- SAFETY_ACK (R470): Completes the deliberate reset of a lock-out after the SAFE_RESET hold. -/
  | safetyAck (ph : Phase) (req : Req)
  /-- WATERMARK_READ (R587): Returns bytes of the watermark. -/
  | watermarkRead (ph : Phase) (req : Req)
  /-- WATERMARK_PROGRAM (R466): Blows fuses in the maker's watermark fields. -/
  | watermarkProgram (ph : Phase) (req : Req)
  /-- SETTINGS_SAVE (R589): Writes the active configuration into the older settings copy. -/
  | settingsSave (ph : Phase) (req : Req)
  /-- STORE_STATUS (R588): Returns peat store progress and results. -/
  | storeStatus (ph : Phase) (req : Req)
  /-- FW_OPEN (R590): Opens a firmware load into the slot that is not running. -/
  | fwOpen (ph : Phase) (req : Req)
  /-- FW_WRITE (R590): Writes a part of the firmware image. -/
  | fwWrite (ph : Phase) (req : Req)
  /-- FW_CLOSE (R620): Checks the image CRC and starts the signature check. -/
  | fwClose (ph : Phase) (req : Req)
  /-- STANDBY (R590): Commands the lane into standby while the cluster is stopped. -/
  | standby (ph : Phase) (req : Req)
  /-- MNOP (R119): MAC slot does nothing. -/
  | mnop (engine : Fin 16)
  /-- MUL4 (R124): Four-lane multiply of a broadcast register by four memory words into the accumulators. -/
  | mul4 (engine : Fin 16) (dx : Fin 32) (aj : Fin 8) (pm : Bool) (sci : Fin 32) (pred : Fin 4)
  /-- MAC4 (R124): Four-lane multiply-accumulate. -/
  | mac4 (engine : Fin 16) (dx : Fin 32) (aj : Fin 8) (pm : Bool) (sci : Fin 32) (pred : Fin 4)
  /-- MSU4 (R124): Four-lane multiply-subtract. -/
  | msu4 (engine : Fin 16) (dx : Fin 32) (aj : Fin 8) (pm : Bool) (sci : Fin 32) (pred : Fin 4)
  /-- MUL1 (R124): Single-lane multiply from memory. -/
  | mul1 (engine : Fin 16) (dx : Fin 32) (aj : Fin 8) (pm : Bool) (acc : Fin 4) (sci : Fin 32) (pred : Fin 4)
  /-- MAC1 (R124): Single-lane multiply-accumulate from memory. -/
  | mac1 (engine : Fin 16) (dx : Fin 32) (aj : Fin 8) (pm : Bool) (acc : Fin 4) (sci : Fin 32) (pred : Fin 4)
  /-- MSU1 (R124): Single-lane multiply-subtract from memory. -/
  | msu1 (engine : Fin 16) (dx : Fin 32) (aj : Fin 8) (pm : Bool) (acc : Fin 4) (sci : Fin 32) (pred : Fin 4)
  /-- MULR (R124): Register-register multiply into an accumulator. -/
  | mulr (engine : Fin 16) (dx dy : Fin 32) (acc : Fin 4) (sci : Fin 32) (pred : Fin 4)
  /-- MACR (R124): Register-register multiply-accumulate. -/
  | macr (engine : Fin 16) (dx dy : Fin 32) (acc : Fin 4) (sci : Fin 32) (pred : Fin 4)
  /-- MSUR (R124): Register-register multiply-subtract. -/
  | msur (engine : Fin 16) (dx dy : Fin 32) (acc : Fin 4) (sci : Fin 32) (pred : Fin 4)
  /-- ACCL (R124): Loads an accumulator from a shifted register. -/
  | accl (engine : Fin 16) (dx : Fin 32) (acc : Fin 4) (sci : Fin 32) (pred : Fin 4)
  /-- ACCA (R124): Adds a shifted register to an accumulator. -/
  | acca (engine : Fin 16) (dx : Fin 32) (acc : Fin 4) (sci : Fin 32) (pred : Fin 4)
  /-- CLR4 (R119): Clears all four accumulators. -/
  | clr4 (engine : Fin 16)
  /-- VNOP (R119): MOVE slot does nothing. -/
  | vnop (engine : Fin 16)
  /-- MOVS (R125): Moves an accumulator to a register with rounding, saturation or normalisation. -/
  | movs (engine : Fin 16) (dd : Fin 32) (acc : Fin 4) (mode : MovsMode) (pred : Fin 4)
  /-- LD (R119): Loads a data word with optional post-modify. -/
  | ld (engine : Fin 16) (dd : Fin 32) (aj : Fin 8) (pm : Bool) (off : Fin 64) (pred : Fin 4)
  /-- ST (R119): Stores a data word with optional post-modify. -/
  | st (engine : Fin 16) (dd : Fin 32) (aj : Fin 8) (pm : Bool) (off : Fin 64) (pred : Fin 4)
  /-- MOV (R119): Copies a register. -/
  | mov (engine : Fin 16) (dd ds : Fin 32) (pred : Fin 4)
  /-- LDI (R119): Loads a sign-extended 12-bit immediate. -/
  | ldi (engine : Fin 16) (dd : Fin 32) (imm : BitVec 12)
  /-- ADD (R125): Saturating add. -/
  | add (engine : Fin 16) (dd ds dt : Fin 32) (pred : Fin 4)
  /-- SUB (R125): Saturating subtract. -/
  | sub (engine : Fin 16) (dd ds dt : Fin 32) (pred : Fin 4)
  /-- ADDW (R119): Wrapping add. -/
  | addw (engine : Fin 16) (dd ds dt : Fin 32) (pred : Fin 4)
  /-- SUBW (R119): Wrapping subtract. -/
  | subw (engine : Fin 16) (dd ds dt : Fin 32) (pred : Fin 4)
  /-- MIN (R119): Signed minimum. -/
  | min (engine : Fin 16) (dd ds dt : Fin 32) (pred : Fin 4)
  /-- MAX (R119): Signed maximum. -/
  | max (engine : Fin 16) (dd ds dt : Fin 32) (pred : Fin 4)
  /-- SAT (R125): Saturates a register to a signed width. -/
  | sat (engine : Fin 16) (dd ds : Fin 32) (count : Fin 32) (pred : Fin 4)
  /-- CLAMP (R119): Clamps a register between a register pair. -/
  | clamp (engine : Fin 16) (dd ds t : Fin 32) (pred : Fin 4)
  /-- SINCOS (R127): Table-interpolated sine and cosine of an angle. -/
  | sincos (engine : Fin 16) (dd ds : Fin 32) (pred : Fin 4)
  /-- RCP (R128): Reciprocal with normalisation exponent. -/
  | rcp (engine : Fin 16) (dd ds : Fin 32) (pred : Fin 4)
  /-- RSQ (R128): Square root. -/
  | rsq (engine : Fin 16) (dd ds : Fin 32) (pred : Fin 4)
  /-- IMUL (R119): Low 32 bits of an integer product. -/
  | imul (engine : Fin 16) (dd ds dt : Fin 32) (pred : Fin 4)
  /-- ASR (R119): Arithmetic shift right. -/
  | asr (engine : Fin 16) (dd ds : Fin 32) (count : Fin 32) (pred : Fin 4)
  /-- SHL (R125): Saturating shift left. -/
  | shl (engine : Fin 16) (dd ds : Fin 32) (count : Fin 32) (pred : Fin 4)
  /-- CMP (R119): Compares registers and sets P2 or P3. -/
  | cmp (engine : Fin 16) (cond : CmpCond) (p3 : Bool) (ds dt : Fin 32) (pred : Fin 4)
  /-- XRD (R119): Reads NX, SF or the predicates into a register. -/
  | xrd (engine : Fin 16) (dd : Fin 32) (src : XrdSrc) (pred : Fin 4)
  /-- SFCLR (R119): Clears the sticky saturation flag. -/
  | sfclr (engine : Fin 16)
  /-- ANOP (R119): ADDRESS slot does nothing. -/
  | anop (engine : Fin 16)
  /-- ASETL (R119): Sets an address register into local data. -/
  | asetl (engine : Fin 16) (j : Fin 8) (op : BitVec 11)
  /-- ASETC (R119): Sets an address register into the context window. -/
  | asetc (engine : Fin 16) (j : Fin 8) (op : BitVec 11)
  /-- ASETI (R119): Sets an address register into the input, output or coupling areas. -/
  | aseti (engine : Fin 16) (j : Fin 8) (op : BitVec 11)
  /-- AADD (R119): Adds a signed immediate to an address register. -/
  | aadd (engine : Fin 16) (j : Fin 8) (op : BitVec 11)
  /-- MSET (R119): Sets a modify register. -/
  | mset (engine : Fin 16) (j : Fin 8) (op : BitVec 11)
  /-- AMOD (R119): Adds a modify register to an address register. -/
  | amod (engine : Fin 16) (j : Fin 8)
  /-- LOOP (R123): Repeats the following bundles a count of times without overhead. -/
  | loop (engine : Fin 16) (count : Fin 256) (length : Fin 64)
  /-- END (R107): Completes the kernel run. -/
  | end_ (engine : Fin 16)
  /-- PCIE_PERSTN_RELEASE (R603): PCIE_PERSTN rises and the PCIe endpoint leaves reset and starts link training. -/
  | pciePerstnRelease
  /-- PCIE_LINK_UP (R525): The PCIe link returns to L0, which ends the kind L PCIe-link-down condition and lets DMA resume. -/
  | pcieLinkUp
  /-- SGMII_LINK_CHANGE (R407): The SGMII link goes up or down, which sets LINK_UP and starts or ends the Ethernet-down condition. -/
  | sgmiiLinkChange (up speed1000 : Bool)
  /-- PTP_INTERVAL_EXPIRY (R378): A PTP message interval runs out, and the time unit sends Sync, Announce, Delay_Req or Pdelay_Req. -/
  | ptpIntervalExpiry (kind : PtpKind) (stamp : Int)
  /-- ETH_TRANSMIT_COMPLETE (R585): A host Ethernet frame has been sent, and the transmit buffer is free for ETH_SEND again. -/
  | ethTransmitComplete
  /-- LANE_CHAIN_HEAD (R318): A chip whose LCH_IN has been low for 20 µs without a break takes itself as head and latches address A. -/
  | laneChainHead
  /-- JOIN_RECEIVED (R370): A voting lane receives the JOIN message of a catching-up lane, and that lane's next VOTE counts as a trial. -/
  | joinReceived (lane : Lane)
  /-- TEST_START_AFTER_ON (R458): A test that fell due while the output was off starts once both switches have been on for 10 ms. -/
  | testStartAfterOn (output : Nat)
  /-- VAON_POWER_ON (R592): VAON rises above its power-on reset threshold; PD_AON starts in STANDBY with PWR_EN low and its oscillator running. -/
  | vaonPowerOn
  /-- AON_CLOCK_RESTART (R504): The 32.768 kHz oscillator runs again, which ends the kind L AON-clock condition. -/
  | aonClockRestart
  /-- SUPPLY_RETURN_TO_RANGE (R631): A monitored supply returns inside its operating range, which ends kind L supply conditions such as the IO-supply F2. -/
  | supplyReturnToRange (supply : Nat)
  /-- LOCAL_FEEDBACK_EDGE (R220): A filtered level change, index edge or loss of signal occurs on a local channel receiver, and the hardware counter, latch or signal state is updated. -/
  | localFeedbackEdge (channel : Nat) (edge : LocalEdge) (at_ : Nat)
  /-- FORWARD_REFUSAL_RECEIVED (R545): A forwarding lane receives over the weir the voice lane's refusal of a forwarded command and writes it as the final response. -/
  | forwardRefusalReceived (box : Nat) (tag : BitVec 32) (status : BitVec 8) (aux : Nat) (rsp : List Byte) (effective : BitVec 32)
deriving DecidableEq, Repr

end Sys2Proof
end

