-- ==== Sys2Proof/Config.lean ====
section
/-!
DEFINITION. The free values: what the manual leaves open and the machine goes on from. Each is a constant without a body, so
no proof can see a value of it; the notes/assumptions row named beside it says which rule leaves it open.
-/
namespace Sys2Proof.Machine.Config

/-- Deviation in counts of sample `n` of plan `id` from the exact trajectory: R150 computes in binary64 in an order of
operations that the manual does not give (log entry 6). -/
opaque planPos (id n : Nat) : Rat

/-- The same for the velocity of a sample (log entry 6). -/
opaque planVel (id n : Nat) : Rat

/-- The same for the acceleration of a sample (log entry 6). -/
opaque planAcc (id n : Nat) : Rat

/-- Samples of a plan with a jerk bound (R159): the least-duration trajectory, whose form the manual leaves to the generator
(log entry 6). -/
opaque jerkLen (id : Nat) : Nat

/-- Displacement from the start of a plan with a jerk bound at sample `n`, in counts (log entry 6). -/
opaque jerkPos (id n : Nat) : Rat

/-- Velocity of a plan with a jerk bound at sample `n` (log entry 6). -/
opaque jerkVel (id n : Nat) : Rat

/-- Acceleration of a plan with a jerk bound at sample `n` (log entry 6). -/
opaque jerkAcc (id n : Nat) : Rat

/-- Displacement to the rest point under a jerk bound, from velocity, acceleration, DEC_MAX and JERK_MAX (log entry 6). -/
opaque jerkRest (v a dec jerk : Rat) : Rat

/-- Deviation of a word that a standard kernel computes from the exactly computed and rounded value, in units of the last
place: the manual gives the steps of Table 2.4 and no order of operations within a kernel (log entry 5). -/
opaque kernelDev (draw index : Nat) : Int

/-- Deviation of the interpolated sine of an angle from the sine, in units of the last place (R127 bounds it and states neither
the table's words nor the rounding) (log entry 5). -/
opaque sinDev (angle : BitVec 32) : Int

/-- Low bits of RCP within its stated bound (R128), by operand (log entry 5). -/
opaque rcpDev (d : BitVec 32) : Int

/-- Low bits of RSQ within its stated bound (R128), by operand (log entry 5). -/
opaque rsqDev (d : BitVec 32) : Int

/-- Rounding of MECH_ANGLE to Q0.32 turns (R216 states none): 0 for down, anything else for up (log entry 5). -/
opaque angleDev (mech : BitVec 48) (cpr : Nat) : Nat

/-- CLAMP with its lower limit above its upper one (Table 3.9), by operand and limits (log entry 15). -/
opaque clampCross (x lo hi : BitVec 32) : BitVec 32

/-- Deviation of the phase from the nearest 2^−20 of a turn, in that unit and within one of it (R206 computes it to
2^−20 turns and states no rounding), by sine and cosine (log entry 5). -/
opaque atanDev (s c : Int) : Int

/-- Rounding of a phase of 2^−20 turns to 2^−16 counts under FB_SHIFT below 4 (R206): 0 for down, anything else for up (log
entry 5). -/
opaque phaseDev (phi shift : Nat) : Nat

/-- Rounding of ANGLE_STEP to Q1.31 turns (R216 states none): 0 for down, anything else for up (log entry 5). -/
opaque stepDev (step : Int) (cpr : Nat) : Nat

/-- SPEED in EDGE mode where the time between the two edges is not positive, by change and time (R214 divides by it) (log
entry 5). -/
opaque speedDev (change time : Int) : Int

/-- A digest or check word over content whose byte layout the manual does not give, by the content in the form the model
writes it (log entry 14). -/
opaque openDigest (content : List (BitVec 8)) : BitVec 64

/-- A byte of a message whose layout the manual does not give, by draw and index (log entry 14). -/
opaque openByte (draw i : Nat) : BitVec 8

/-- A binary sequence value or other open word, by draw (log entry 14). -/
opaque openWord (draw : Nat) : BitVec 32

/-- Context word at which a standard kernel holds block `b` of Table 2.7; 9 names its parameter record (R137, R138, log entry 16). -/
opaque stdBase (kernel b : Nat) : Nat

/-- CRC of the image of a standard kernel, which KERNEL_INFO reports (R141) (log entry 16). -/
opaque stdCrc (kernel : Nat) : BitVec 32

/-- Retry-after of a BUSY whose rule gives no number of basic cycles, by the cycle of the refusal (log entry 21). -/
opaque retryAfter (cycle : Nat) : Nat

/-- CRC-64 of a couch image, whose byte layout the manual does not give, by its parts (log entry 14). -/
opaque imageCrc (parts : List CouchPart) : BitVec 64

end Sys2Proof.Machine.Config
end

