-- ==== Sys2Proof/Machine/State.lean ====
section
/-!
DEFINITION. The state of the CN160 (one lane), the reasons a step can stop, and the state after reset.
The records of its fields stand in Sys2Proof/Types.lean; INVENTORY.md names the rule and the reset value of every field.
-/
namespace Sys2Proof.Machine

/-- Reasons a step stops with a fault.
`engineAddress` is raised by an engine slot operation (AXIS_RUN_END while it interprets a program, MUL4 and its kin, LD, ST)
whose word address lies outside the regions of Table 3.2, or which the region does not allow (R103, R111).
R103 has such an access refused at verification, so the manual gives it no effect; stopping there is safe. -/
inductive Fault where
  | engineAddress (word : Nat)
deriving DecidableEq, Repr

/-- Reasons a step is refused. `notModelled` is raised by an arm of exec whose meaning has not been written yet; it is safe. -/
inductive Refusal where
  | notModelled (mnemonic : String)
deriving DecidableEq, Repr

/-- The CN160: one lane with everything the manual gives it, and the queue of commands that wait. -/
structure State where
  /-- Time base. -/
  clock : Clock := {}
  /-- Network state. -/
  net : Net := {}
  /-- Branch ports B0 to B7 with their sluices (the star of this lane). -/
  branches : List Branch := List.replicate 8 {}
  /-- Links of T0 (0 to 7) and T1 (8 to 15). -/
  trunks : List Link := List.replicate 16 {}
  /-- Relay links of W0. -/
  relays : List Link := List.replicate 8 {}
  /-- Data links L0 to L3 of W0 to W2 (4 × port + link). -/
  weirs : List Link := List.replicate 12 {}
  /-- DROP_SEEN of T0, T1, W0, W1 and W2. -/
  trunkDrop : List Bool := List.replicate 5 false
  /-- Nodes of the map in force. -/
  nodes : List NodeRt := []
  /-- Lane manager and weir. -/
  lanes : Lanes := {}
  /-- Axes of the map in force, ascending number. -/
  axes : List Axis := []
  /-- Coupling table and weights. -/
  coupling : Coupling := {}
  /-- Loop engines E0 to E15. -/
  engines : List Engine := List.replicate 16 {}
  /-- Coordination groups LG0 to LG15. -/
  groups : List Group := List.replicate 16 {}
  /-- Local channels FB0 to FB7. -/
  locals : List LocalChan := List.replicate 8 {}
  /-- Custom kernels. -/
  kernels : Kernels := {}
  /-- Command order. -/
  order : Order := {}
  /-- Configuration fields and axis map. -/
  cfg : Fields := {}
  /-- Event records and rings. -/
  events : Events := {}
  /-- Host port. -/
  host : HostPort := {}
  /-- Node requests and events. -/
  services : NodeServices := {}
  /-- Time unit. -/
  time : TimeUnit := {}
  /-- Acquisition unit. -/
  acq : Acq := {}
  /-- Safety channels. -/
  safety : Safety := {}
  /-- Gate drivers. -/
  drivers : Drivers := {}
  /-- Fault collector. -/
  faults : Collector := {}
  /-- Power, start-up and peat store. -/
  power : Power := {}
  /-- What left the chip in this basic cycle. -/
  tx : List Tx := []
  /-- Counter of the free values drawn. -/
  free : Nat := 0
  /-- Commands waiting. -/
  pending : List Instr := []
deriving DecidableEq, Repr

/-- The chip before VAON power-on start-up: STANDBY, every register at its reset value (INVENTORY.md), no command waiting. -/
def State.reset : State := {}

end Sys2Proof.Machine
end

