-- ==== Sys2Proof/Machine/Ops.lean ====
section
/-!
DEFINITION. The named operations that the meanings share: byte order, tables kept by key, the byte memories in their one
canonical form, the CRCs, binary32, and small updates of State.
-/
namespace Sys2Proof.Machine

/-! ### Bytes (R5 to R7) -/

/-- Little-endian value of a byte list (R6). -/
def leNat : List Byte → Nat
  | [] => 0
  | b :: bs => b.toNat + 256 * leNat bs

/-- Little-endian field of `n` bytes at offset `o`; a byte beyond the list reads 0 (R6, R561). -/
def le (bs : List Byte) (o n : Nat) : Nat := leNat ((bs.drop o).take n)

/-- `n` bytes of a value, least significant first (R6). -/
def toLe : Nat → Nat → List Byte
  | 0, _ => []
  | n + 1, v => BitVec.ofNat 8 v :: toLe n (v / 256)

/-- Big-endian field of `n` bytes at offset `o` (R7). -/
def be (bs : List Byte) (o n : Nat) : Nat := leNat ((((bs.drop o).take n) ++ List.replicate (n - (bs.length - o)) 0).reverse)

/-- `n` bytes of a value, most significant first (R7). -/
def toBe (n v : Nat) : List Byte := (toLe n v).reverse

/-- Byte at offset `o`, 0 beyond the list. -/
def byteAt (bs : List Byte) (o : Nat) : Nat := (bs.getD o 0).toNat

/-- Bits [m:n] of a number (R5). -/
def bits (v m n : Nat) : Nat := v / 2 ^ n % 2 ^ (m + 1 - n)

/-- Bit `n` of a number (R5). -/
def bit (v n : Nat) : Bool := v / 2 ^ n % 2 == 1

/-- 1 for true. -/
def b2n (b : Bool) : Nat := if b then 1 else 0

/-- The two's complement value of the low `w` bits of `v`. -/
def toSigned (w v : Nat) : Int :=
  let u := v % 2 ^ w
  if u < 2 ^ (w - 1) then (u : Int) else (u : Int) - 2 ^ w

/-- The low `w` bits of an integer, as a number. -/
def ofSigned (w : Nat) (i : Int) : Nat := (i % 2 ^ w).toNat

/-- A list cut to or filled up with 0 to `n` bytes. -/
def padTo (n : Nat) (bs : List Byte) : List Byte := bs.take n ++ List.replicate (n - bs.length) 0

/-- `v` written over `bs` at offset `o`. -/
def patch (bs : List Byte) (o : Nat) (v : List Byte) : List Byte :=
  padTo o bs ++ v ++ bs.drop (o + v.length)

/-- An integer held within [lo, hi]. -/
def clampI (lo hi x : Int) : Int := max lo (min hi x)

/-- A number held at `hi`. -/
def heldAt (hi x : Nat) : Nat := min hi x

/-! ### Tables by key -/

/-- The value under a key. -/
def kvGet {α β : Type} [DecidableEq α] (l : List (α × β)) (k : α) : Option β :=
  match l with
  | [] => none
  | (a, b) :: r => if a = k then some b else kvGet r k

/-- The table without a key. -/
def kvDel {α β : Type} [DecidableEq α] (l : List (α × β)) (k : α) : List (α × β) := l.filter (fun p => p.1 ≠ k)

/-- The table with a value put under a key. -/
def kvSet {α β : Type} [DecidableEq α] (l : List (α × β)) (k : α) (v : β) : List (α × β) := kvDel l k ++ [(k, v)]

/-- A list with its `n`-th entry changed; unchanged where there is none. -/
def modAt {α : Type} (l : List α) (n : Nat) (f : α → α) : List α :=
  match l, n with
  | [], _ => []
  | a :: r, 0 => f a :: r
  | a :: r, n + 1 => a :: modAt r n f

/-- A list with its `n`-th entry replaced. -/
def setAt {α : Type} (l : List α) (n : Nat) (a : α) : List α := modAt l n (fun _ => a)

/-- The least element of a list by a key, the first on ties. -/
def argMin {α : Type} (f : α → Nat) : List α → Option α
  | [] => none
  | a :: r => match argMin f r with
    | none => some a
    | some b => if f a ≤ f b then some a else some b

/-- Stable insertion by a key. -/
def insertBy {α : Type} (f : α → Nat) (a : α) : List α → List α
  | [] => [a]
  | b :: r => if f a ≤ f b then a :: b :: r else b :: insertBy f a r

/-- Stable sort by a key. -/
def sortBy {α : Type} (f : α → Nat) : List α → List α
  | [] => []
  | a :: r => insertBy f a (sortBy f r)

/-- A list without later repeats. -/
def dedup' {α : Type} [DecidableEq α] : List α → List α
  | [] => []
  | a :: r => if a ∈ r then dedup' r else a :: dedup' r

/-! ### Memories kept sparse, in one canonical form

A memory is a list of (address, content) pairs, addresses strictly rising, no content equal to what an unlisted address
reads as. The acquisition memory and the MSI-X area are such lists of bytes (log entry 10), the engine's local data, the
context, input and output areas such lists of words. -/

/-- What an address reads as. -/
def cellGet {β : Type} (d : β) : List (Nat × β) → Nat → β
  | [], _ => d
  | (a, b) :: r, k => if a = k then b else cellGet d r k

/-- The memory with `v` written at `k`, its form kept. -/
def cellSet {β : Type} [DecidableEq β] (d : β) : List (Nat × β) → Nat → β → List (Nat × β)
  | [], k, v => if v = d then [] else [(k, v)]
  | (a, b) :: r, k, v =>
    if k < a then (if v = d then (a, b) :: r else (k, v) :: (a, b) :: r)
    else if k = a then (if v = d then r else (k, v) :: r)
    else (a, b) :: cellSet d r k v

/-- Addresses strictly rising from above `lo`, no content equal to `d`. -/
def cellsFrom {β : Type} [DecidableEq β] (d : β) : Nat → List (Nat × β) → Bool
  | _, [] => true
  | lo, (a, b) :: r => decide (lo ≤ a) && decide (b ≠ d) && cellsFrom d (a + 1) r

/-- The canonical form. -/
def Memory.wf (m : List Host.Cell) : Bool := cellsFrom (0 : Byte) 0 m

/-- A byte of a byte memory; one that nothing has written reads 0 (log entry 10). -/
def memRead (m : List Host.Cell) (a : Nat) : Byte := cellGet 0 m a

/-- A byte memory with one byte written. -/
def memWrite (m : List Host.Cell) (a : Nat) (b : Byte) : List Host.Cell := cellSet 0 m a b

/-- `n` bytes from an address. -/
def memReadN (m : List Host.Cell) (a : Nat) : Nat → List Byte
  | 0 => []
  | n + 1 => memRead m a :: memReadN m (a + 1) n

/-- Bytes written from an address upward. -/
def memWriteN (m : List Host.Cell) (a : Nat) : List Byte → List Host.Cell
  | [] => m
  | b :: r => memWriteN (memWrite m a b) (a + 1) r

/-- Words of a sparse word store from an address. -/
def wordsN {β : Type} (d : β) (m : List (Nat × β)) (a : Nat) : Nat → List β
  | 0 => []
  | n + 1 => cellGet d m a :: wordsN d m (a + 1) n

/-! ### CRCs -/

/-- The bits of a byte, most significant first. -/
def msbBits (b : Byte) : List Bool := (List.range 8).map (fun i => b.getLsbD (7 - i))

/-- The bits of a byte, least significant first. -/
def lsbBits (b : Byte) : List Bool := (List.range 8).map (fun i => b.getLsbD i)

/-- One bit into a CRC register of width `w` that shifts left. -/
def crcBit {w : Nat} (poly : BitVec w) (c : BitVec w) (b : Bool) : BitVec w :=
  if c.msb != b then (c <<< 1) ^^^ poly else c <<< 1

/-- CRC-8 of R239: polynomial 0x2F, initial value and final exclusive-OR 0xFF, no reflection. -/
def crc8 (bs : List Byte) : Nat :=
  (((bs.flatMap msbBits).foldl (crcBit (0x2F#8)) 0xFF#8) ^^^ 0xFF#8).toNat

/-- The bits of a word in reverse order. -/
def revBits {w : Nat} (v : BitVec w) : BitVec w := v.reverse

/-- CRC-32 of R240: IEEE 802.3 polynomial, initial value and final exclusive-OR 0xFFFF_FFFF, reflected in and out. -/
def crc32 (bs : List Byte) : Nat :=
  (revBits ((bs.flatMap lsbBits).foldl (crcBit (0x04C11DB7#32)) 0xFFFFFFFF#32) ^^^ 0xFFFFFFFF#32).toNat

/-- CRC-64 of Table 8.4: ECMA-182 polynomial, initial value 0, no reflection, no final exclusive-OR. -/
def crc64 (bs : List Byte) : BitVec 64 :=
  (bs.flatMap msbBits).foldl (crcBit (0x42F0E1EBA9EA3693#64)) 0

/-! ### Rounding and binary32 -/

/-- A rational rounded to the nearest integer, ties to even (R83, R86). -/
def roundEven (q : Rat) : Int :=
  let f := q.floor
  let r := q - f
  if r < 1 / 2 then f else if 1 / 2 < r then f + 1 else if f % 2 = 0 then f else f + 1

/-- 2 to an integer power. -/
def pow2 (e : Int) : Rat := if 0 ≤ e then ((2 ^ e.toNat : Nat) : Rat) else 1 / ((2 ^ (-e).toNat : Nat) : Rat)

/-- The value of a binary32 word; none for a NaN or an infinity (R85). -/
def f32 (v : Nat) : Option Rat :=
  let e := bits v 30 23
  let m := bits v 22 0
  let mag : Rat := if e = 0 then (m : Rat) * pow2 (-149) else ((m + 2 ^ 23 : Nat) : Rat) * pow2 ((e : Int) - 150)
  if e = 255 then none else some (if bit v 31 then -mag else mag)

/-- The value of a binary32 word that is finite, 0 otherwise. -/
def f32D (v : Nat) : Rat := (f32 v).getD 0

/-- The exponent `e` with 2^(e−1) ≤ x < 2^e for a positive rational, searched within `fuel` steps from `e`. -/
def exponentUp (x : Rat) : Nat → Int → Int
  | 0, e => e
  | n + 1, e => if x < pow2 e then (if x < pow2 (e - 1) then exponentUp x n (e - 1) else e) else exponentUp x n (e + 1)

/-- A rational as binary32, rounded to nearest with ties to even (R98). -/
def toF32 (x : Rat) : BitVec 32 :=
  if x = 0 then 0
  else
    let a := if x < 0 then -x else x
    let s : Nat := if x < 0 then 2 ^ 31 else 0
    let e := max (exponentUp a 320 0) (-125)
    let m := (roundEven (a * pow2 (24 - e))).toNat
    let r := if m = 2 ^ 24 then 2 ^ 23 * 2 else m
    let body := if r < 2 ^ 23 then r else ((e + 125).toNat) * 2 ^ 23 + r
    BitVec.ofNat 32 (s + min body 0x7F800000)

/-- A rational held in Q1.31 at exponent `e`: rounded to nearest even, saturated (R86). -/
def toQ31 (e : Int) (x : Rat) : Int := clampI (-(2 ^ 31)) (2 ^ 31 - 1) (roundEven (x * pow2 (31 - e)))

/-- The value of a Q1.31 word at exponent `e` (R86). -/
def q31 (e : Int) (w : BitVec 32) : Rat := (w.toInt : Rat) * pow2 (e - 31)

/-- The word of an integer. -/
def w32 (i : Int) : BitVec 32 := BitVec.ofInt 32 i

/-- Absolute value. -/
def absR (q : Rat) : Rat := if q < 0 then -q else q

/-- The least and the greatest of two rationals. -/
def minR (a b : Rat) : Rat := if a ≤ b then a else b

def maxR (a b : Rat) : Rat := if a ≤ b then b else a

/-- A rational held within [lo, hi]. -/
def clampR (lo hi x : Rat) : Rat := maxR lo (minR hi x)

/-- ceil(a / b) of naturals. -/
def ceilDiv (a b : Nat) : Nat := (a + b - 1) / b

/-! ### Lanes, channels, codes -/

/-- Lane address (R318). -/
def Lane.num : Lane → Nat
  | .a => 0 | .b => 1 | .c => 2 | .s => 3

/-- The lane of an address. -/
def laneOf (n : Nat) : Lane := match n % 4 with
  | 0 => .a | 1 => .b | 2 => .c | _ => .s

/-- A mask of lanes, bit n for lane n. -/
def laneMask (ls : List Lane) : Nat := ([Lane.a, .b, .c, .s].map (fun l => if l ∈ ls then 2 ^ Lane.num l else 0)).sum

/-- The lanes of a mask. -/
def lanesOfMask (m : Nat) : List Lane := [Lane.a, .b, .c, .s].filter (fun l => bit m (Lane.num l))

/-- Lane list in address order without repeats. -/
def laneSort (ls : List Lane) : List Lane := [Lane.a, .b, .c, .s].filter (fun l => decide (l ∈ ls))

/-- The lowest address of a set of lanes. -/
def lowest (ls : List Lane) : Option Lane := (laneSort ls).head?

/-- Channel number, X 0 and Y 1 (Table 15.1). -/
def chNum : Channel → Nat
  | .x => 0 | .y => 1

/-- Axis type code (Table 3.16). -/
def AxisTypeCode : AxisType → Nat
  | .segment => 0 | .servo => 1 | .stepper => 2 | .aux => 3

/-- The axis type of a code. -/
def axisTypeOf (n : Nat) : Option AxisType := match n with
  | 0 => some .segment | 1 => some .servo | 2 => some .stepper | 3 => some .aux | _ => none

/-- Axis state code (Table 3.3, Table 14.18). -/
def axisStCode : AxisSt → Nat
  | .off => 0 | .ready => 1 | .coast => 2 | .hold => 3 | .run => 4 | .stopRamp => 5 | .faulted => 6

/-- Output mode code (Table 6.5). -/
def modeCode : OutMode → Nat
  | .off => 0 | .enabled => 1 | .shortLow => 2

/-- Role code (Table 8.16); DORMANT has none there and reads as UNASSIGNED (log entry 13). -/
def roleCode : Role → Nat
  | .unassigned => 0 | .voting => 1 | .joining => 2 | .removed => 3 | .isolated => 4 | .refresh => 5 | .dormant => 0

/-- Link state code (Table 7.5). -/
def linkCode : LinkState → Nat
  | .off => 0 | .down => 1 | .align => 2 | .up => 3

/-- Fault class number. -/
def FClass.num : FClass → Nat
  | .f0 => 0 | .f1 => 1 | .f2 => 2 | .f3 => 3

/-- The law and its limits are computed in this state (Table 2.2). -/
def AxisSt.computes : AxisSt → Bool
  | .hold => true | .run => true | .stopRamp => true | _ => false

/-! ### Parts of State -/

/-- The axis of the map in force with a number. -/
def State.axis? (s : State) (n : Nat) : Option Axis := s.axes.find? (fun a => a.entry.axis == n)

/-- One axis changed. -/
def State.updAxis (s : State) (n : Nat) (f : Axis → Axis) : State :=
  { s with axes := s.axes.map (fun a => if a.entry.axis = n then f a else a) }

/-- The run-time record of a node. -/
def State.node? (s : State) (n : Nat) : Option NodeRt := s.nodes.find? (fun r => r.node == n)

/-- One node record changed. -/
def State.updNode (s : State) (n : Nat) (f : NodeRt → NodeRt) : State :=
  { s with nodes := s.nodes.map (fun r => if r.node = n then f r else r) }

/-- A node's number b × 8 + p (R331). -/
def nodeIndex (e : NodeEntry) : Nat := e.branch * 8 + e.pos

/-- One branch port changed. -/
def State.updBranch (s : State) (b : Nat) (f : Branch → Branch) : State := { s with branches := modAt s.branches b f }

/-- One chain position of a branch port changed. -/
def State.updPos (s : State) (b p : Nat) (f : Position → Position) : State :=
  s.updBranch b (fun r => { r with poss := modAt r.poss p f })

/-- One engine changed. -/
def State.updEngine (s : State) (e : Nat) (f : Engine → Engine) : State := { s with engines := modAt s.engines e f }

/-- One safe drive output changed. -/
def State.updSdo (s : State) (n : Nat) (f : Sdo → Sdo) : State :=
  { s with drivers := { s.drivers with outs := modAt s.drivers.outs n f } }

/-- Something leaves the chip (log entry 3). -/
def State.send (s : State) (t : Tx) : State := { s with tx := s.tx ++ [t] }

/-- The lane that this chip is; A where no address is latched (IDENTIFY tells the two apart). -/
def State.lane (s : State) : Lane := s.lanes.addr.getD .a

/-- This lane is in VOTING (R329). -/
def State.voting (s : State) : Bool := s.lanes.role == .voting

/-- This lane holds voice. -/
def State.isVoice (s : State) : Bool := s.voting && s.lanes.voice == some s.lane

/-- The cluster is stopped at this lane: its network state is CONFIG (R262). -/
def State.stopped (s : State) : Bool := s.net.st == .config

/-- A free value's number: the counter is read and advanced (log entry 4). -/
def State.draw (s : State) : Nat × State := (s.free, { s with free := s.free + 1 })

/-! ### Interrupts (R533) -/

/-- Cause v: its IRQ_STATUS bit is set, and vector v is sent while it is enabled and the link can carry it. -/
def State.irq (s : State) (v : Nat) : State :=
  let h := { s.host with irqStatus := s.host.irqStatus ||| BitVec.ofNat 8 (2 ^ v) }
  let s := { s with host := h }
  if h.irqEnable.getLsbD v && h.linkUp then s.send (.msix v) else s

/-- A W1C bit of a status word became 1: vector 7 (Table 14.7). -/
def State.irq7 (s : State) (was : Bool) : State := if was then s else s.irq 7

end Sys2Proof.Machine
end

