-- ==== Sys2Proof/Machine/FieldTable.lean ====
section
/-!
DEFINITION. The configuration fields: class, owner, encoding, range and default of every field of Tables 1.2, 2.8, 2.9, 4.5,
4.7, 5.8, 5.9, 6.14, 7.4, 8.15, 9.6, 10.7, 10.8, 11.7, 12.3, 13.2, 14.16 and 16.10, named by TABLE, ROW and ELEM (R567).
-/
namespace Sys2Proof.Machine

/-- Field classes (Table 1.7); a length of Table 1.2 that is no field can only be read (R13). -/
inductive FieldClass where
  | live | staged | locked | readOnly
deriving DecidableEq, Repr

/-- The object that holds a field (its TARGET, R569). -/
inductive Holder where
  | axis | node | localChan | couplingGroup | coordGroup | acqSetup | channel | cluster
deriving DecidableEq, Repr

/-- What UNIT names for a field (R567). -/
inductive UnitOf where
  | noUnit | output | capture | chanPort | anyPort | farPort | localChan
deriving DecidableEq, Repr

/-- How VALUE is encoded and which values are in range (Table 15.3). -/
inductive Enc where
  /-- binary32 within [lo, hi]; `none` is no bound. -/
  | real (lo hi : Option Rat)
  /-- binary32 above 0, or at least 0. -/
  | above (zeroToo : Bool)
  /-- binary32 that takes the nearest of the steps lo·u to hi·u. -/
  | stepped (u : Rat) (lo hi : Int)
  /-- Time in ns within [lo, hi], a whole number of steps. -/
  | time (lo hi step : Int)
  /-- Signed integer within [lo, hi]. -/
  | num (lo hi : Int)
  /-- Signed integer within [lo, hi], or the value of NONE and AUTO. -/
  | numOr (lo hi : Int)
  /-- Place in a list of n. -/
  | list (n : Nat)
  /-- The low `w` bits. -/
  | code (w : Nat)
  /-- Address that is a multiple of `m`, `w` bits wide. -/
  | addr (m w : Nat)
  /-- Power of 2 within [lo, hi]. -/
  | power (lo hi : Nat)
  /-- 0, or a time in ns. -/
  | offOrTime (lo hi step : Int)
  /-- PWM frequency in Hz whose period is rounded to whole 10 ns (R482). -/
  | pwm
  /-- VLAN tag or NONE. -/
  | vlan
  /-- The six states of a HALL_MAP. -/
  | hall
  /-- Members of a coordination group. -/
  | members
  /-- Any 64 bits. -/
  | any
deriving DecidableEq, Repr

/-- A field. -/
structure FieldDef where
  cls : FieldClass
  holder : Holder
  enc : Enc
  dflt : Nat
  unit : UnitOf := .noUnit
  perLane : Bool := false
deriving DecidableEq, Repr

/-- VALUE of NONE and AUTO (Table 15.3). -/
def noneValue : Nat := 0x8000000000000000

/-- binary32 of a rational, as a VALUE. -/
def fval (q : Rat) : Nat := (toF32 q).toNat

/-- VALUE of a signed number. -/
def ival (i : Int) : Nat := ofSigned 64 i

def fieldLayout (row : Nat) : Option FieldDef :=
  match row with
  | 0 => some ⟨.locked, .cluster, .num 200 2000, 400, .noUnit, false⟩
  | 1 => some ⟨.readOnly, .cluster, .num 8 8, 8, .noUnit, false⟩
  | 2 => some ⟨.locked, .cluster, .num 8 1000, 64, .noUnit, false⟩
  | 3 => some ⟨.readOnly, .cluster, .num 0 16, 16, .noUnit, false⟩
  | 4 => some ⟨.readOnly, .cluster, .num 20 2000, 140, .noUnit, false⟩
  | 5 => some ⟨.readOnly, .cluster, .num 12 12, 12, .noUnit, false⟩
  | 6 => some ⟨.locked, .cluster, .num 8 1000, 64, .noUnit, false⟩
  | 7 => some ⟨.locked, .cluster, .num 24 1000, 72, .noUnit, false⟩
  | 8 => some ⟨.locked, .cluster, .num 8 200, 24, .noUnit, false⟩
  | _ => none

/-- Table 2.8. Defaults that depend on the axis are given by `fieldDefault`. -/
def fieldLaw (row elem : Nat) : Option FieldDef :=
  let ax (c : FieldClass) (e : Enc) (d n : Nat) : Option FieldDef := if elem < n then some ⟨c, .axis, e, d, .noUnit, false⟩ else none
  match row with
  | 0 => ax .locked (.num 1 8) 0 3
  | 1 => ax .locked (.code 8) 0 6
  | 2 => ax .live (.real none none) (fval 1) 6
  | 3 => ax .live (.real none none) 0 6
  | 4 => ax .locked (.numOr (-32) 31) noneValue 8
  | 5 => ax .locked (.num 0 8) 1 8
  | 6 => ax .locked (.num (-32) 31) 0 17
  | 7 => ax .locked (.numOr 0 7) noneValue 1
  | 8 => ax .locked (.num 1 128) 1 1
  | 9 => ax .locked (.num 1 (2 ^ 31)) 65536 1
  | 10 => ax .locked (.num 0 159) 0 1
  | 11 => ax .live (.real (some 0) (some 1)) 0 1
  | 12 => ax .live (.real (some 0) (some 2)) (fval (3 / 2)) 1
  | 13 => ax .locked (.list 4) 0 1
  | 14 => ax .locked (.list 2) 0 1
  | 15 => ax .live (.real (some (1 / 2)) (some 1)) (fval (95 / 100)) 1
  | 16 => ax .live (.real none none) (if elem < 3 then 0x80000000 else 0) 6
  | 17 => ax .live (.real (some 1) (some 4000)) (fval 24) 1
  | 18 => ax .live (.num 1 (2 ^ 30)) (2 ^ 20) 1
  | 19 => ax .live (.num 1 255) 8 1
  | 20 => ax .live (.num 1 16) 4 1
  | 21 => ax .live (.code 8) 0 1
  | 22 => ax .live (.list 2) 0 1
  | 23 => ax .locked (.numOr 0 15) noneValue 1
  | 24 => ax .locked (.num 0 31) 0 1
  | 25 => ax .locked (.num 0 5) 1 1
  | _ => none

/-- Table 2.9. -/
def fieldCoupling (row : Nat) : Option FieldDef :=
  match row with
  | 0 => some ⟨.locked, .couplingGroup, .num 2 32, 2, .noUnit, false⟩
  | 1 => some ⟨.locked, .couplingGroup, .num 0 8, 0, .noUnit, false⟩
  | 2 => some ⟨.locked, .couplingGroup, .numOr (-32) 31, noneValue, .noUnit, false⟩
  | 3 => some ⟨.locked, .couplingGroup, .num 0 8, 1, .noUnit, false⟩
  | _ => none

/-- Table 4.5. -/
def fieldProfile (row elem : Nat) : Option FieldDef :=
  let ax (c : FieldClass) (e : Enc) (d n : Nat) : Option FieldDef := if elem < n then some ⟨c, .axis, e, d, .noUnit, false⟩ else none
  match row with
  | 0 => ax .live (.above false) (fval 65536) 1
  | 1 => ax .live (.above false) (fval 655360) 1
  | 2 => ax .live (.above false) (fval 655360) 1
  | 3 => ax .live (.above true) 0 1
  | 4 => ax .live (.above false) (fval 655360) 1
  | 5 => ax .live (.above false) (fval 6553600) 1
  | 6 => ax .live (.above true) 0 1
  | 7 => ax .live (.real none none) 0 1
  | 8 => ax .locked (.num (-32) 31) 0 4
  | 9 => ax .locked (.power 256 65536) 256 1
  | 10 => ax .live (.above true) 0 8
  | _ => none

/-- Table 4.7. -/
def fieldGroup (row : Nat) : Option FieldDef :=
  match row with
  | 0 => some ⟨.locked, .coordGroup, .members, 0xFFFFFFFFFFFFFFFF, .noUnit, false⟩
  | 1 => some ⟨.live, .coordGroup, .above false, fval 65536, .noUnit, false⟩
  | 2 => some ⟨.live, .coordGroup, .above false, fval 655360, .noUnit, false⟩
  | 3 => some ⟨.live, .coordGroup, .above false, fval 655360, .noUnit, false⟩
  | 4 => some ⟨.live, .coordGroup, .above true, 0, .noUnit, false⟩
  | _ => none

/-- Table 5.8. -/
def fieldFeedbackMap (row : Nat) : Option FieldDef :=
  match row with
  | 0 => some ⟨.staged, .axis, .list 9, 0, .noUnit, false⟩
  | 1 => some ⟨.staged, .axis, .list 5, 0, .noUnit, false⟩
  | 2 => some ⟨.staged, .axis, .num 0 8, 0, .noUnit, false⟩
  | 3 => some ⟨.staged, .node, .real (some 1) (some 4000), fval 1000, .noUnit, false⟩
  | 4 => some ⟨.staged, .localChan, .list 5, 0, .localChan, false⟩
  | 5 => some ⟨.staged, .localChan, .num 0 4, 0, .localChan, false⟩
  | 6 => some ⟨.staged, .localChan, .num 0 15, 3, .localChan, false⟩
  | 7 => some ⟨.staged, .localChan, .stepped 100000 1 100, fval 1000000, .localChan, false⟩
  | 8 => some ⟨.staged, .localChan, .time 0 1000 5, 0, .localChan, false⟩
  | 9 => some ⟨.staged, .localChan, .time 1000 100000 1, 20000, .localChan, false⟩
  | _ => none

/-- Table 5.9. -/
def fieldFeedback (row : Nat) : Option FieldDef :=
  let ax (c : FieldClass) (e : Enc) (d : Nat) : Option FieldDef := some ⟨c, .axis, e, d, .noUnit, false⟩
  match row with
  | 0 => ax .locked (.num 0 16) 0
  | 1 => ax .locked (.list 2) 0
  | 2 => ax .locked (.num 0 6) 3
  | 3 => ax .locked .hall 0x2CC99
  | 4 => ax .locked (.num 8 32) 25
  | 5 => ax .locked (.num 8 32) 25
  | 6 => ax .locked (.num 0 24) 0
  | 7 => ax .locked (.list 2) 1
  | 8 => ax .locked (.numOr 0 31) noneValue
  | 9 => ax .locked (.list 2) 1
  | 10 => ax .locked (.list 3) 0
  | 11 => ax .live (.num 1 (2 ^ 30)) (2 ^ 20)
  | 12 => ax .live (.num 1 255) 3
  | 13 => ax .live (.real (some (5 / 100)) (some (95 / 100))) (fval (1 / 4))
  | 14 => ax .live (.real none (some 1)) (fval (95 / 100))
  | 15 => ax .live (.num 1 255) 3
  | 16 => ax .live (.num 1 255) 4
  | 17 => ax .locked (.list 2) 0
  | 18 => ax .locked (.numOr 0 3) noneValue
  | 19 => ax .locked (.num 4 (2 ^ 30)) 65536
  | 20 => ax .live (.num 0 (2 ^ 16)) 4
  | 21 => ax .live (.list 3) 0
  | 22 => ax .live (.num 1 15) 3
  | 23 => ax .live (.num 0 (2 ^ 20)) 16
  | 24 => ax .live (.list 2) 1
  | 25 => ax .locked (.list 2) 0
  | 26 => ax .live (.num 1 16) 4
  | 27 => ax .live (.time 100000 1000000000 1) 50000000
  | _ => none

/-- Table 6.14. -/
def fieldNetwork (row elem : Nat) : Option FieldDef :=
  let nd (c : FieldClass) (e : Enc) (d n : Nat) : Option FieldDef := if elem < n then some ⟨c, .node, e, d, .noUnit, false⟩ else none
  match row with
  | 0 => some ⟨.locked, .cluster, .time 50 400 1, 100, .noUnit, false⟩
  | 1 => some ⟨.live, .cluster, .list 2, 0, .noUnit, false⟩
  | 2 => nd .staged (.num 0 16) 0 1
  | 3 => nd .staged (.num 0 64) 8 1
  | 4 => nd .staged (.list 2) 0 1
  | 5 => nd .staged (.num 2 16) 4 1
  | 6 => nd .staged (.list 2) 0 1
  | 7 => nd .staged (.num 0 65535) 4 2
  | 8 => nd .live .any 0 32
  | _ => none

/-- Table 7.4. Fields of trunk, relay and weir ports belong to the cluster, those of branch ports to a channel (R315). -/
def fieldStar (row elem target : Nat) : Option FieldDef :=
  let ch := decide (target / 4096 = 9)
  match row with
  | 0 => if elem < 8 then some ⟨.locked, .channel, .list 2, 1, .chanPort, false⟩ else none
  | 1 => if elem < 2 then some ⟨.locked, .cluster, .list 2, 0, .farPort, true⟩ else none
  | 2 => some (if ch then ⟨.locked, .channel, .num 0 15, 10, .chanPort, false⟩ else ⟨.locked, .cluster, .num 0 15, 10, .farPort, true⟩)
  | 3 => some (if ch then ⟨.locked, .channel, .numOr 0 7, noneValue, .chanPort, false⟩ else ⟨.locked, .cluster, .numOr 0 7, noneValue, .farPort, true⟩)
  | 4 => some ⟨.live, .channel, .num 1 64, 8, .noUnit, false⟩
  | 5 => some ⟨.live, .channel, .list 2, 1, .noUnit, false⟩
  | 6 => some ⟨.live, .channel, .num 2 64, 8, .noUnit, false⟩
  | 7 => some ⟨.live, .channel, .num 64 4096, 256, .noUnit, false⟩
  | _ => none

/-- Table 8.15. -/
def fieldLanes (row : Nat) : Option FieldDef :=
  match row with
  | 0 => some ⟨.locked, .cluster, .list 4, 0, .noUnit, false⟩
  | 1 => some ⟨.live, .cluster, .list 2, 1, .noUnit, false⟩
  | 2 => some ⟨.live, .cluster, .time 3600000000000 604800000000000 3600000000000, 86400000000000, .noUnit, false⟩
  | _ => none

/-- Table 9.6. -/
def fieldTime (row elem : Nat) : Option FieldDef :=
  let cl (e : Enc) (d : Nat) : Option FieldDef := if elem = 0 then some ⟨.live, .cluster, e, d, .noUnit, false⟩ else none
  let ln (e : Enc) (d : Nat) : Option FieldDef := if elem = 0 then some ⟨.live, .cluster, e, d, .noUnit, true⟩ else none
  let un (u : UnitOf) (e : Enc) (d : Nat) : Option FieldDef := if elem = 0 then some ⟨.live, .cluster, e, d, u, true⟩ else none
  let pick (l : List (Enc × Nat)) : Option FieldDef := (l[elem]?).map (fun p => ⟨.live, .cluster, p.1, p.2, .noUnit, false⟩)
  match row with
  | 0 => ln (.list 2) 0
  | 1 => ln (.list 3) 2
  | 2 => ln (.addr 1 48) 0
  | 3 => ln (.addr 1 32) 0
  | 4 => cl .vlan noneValue
  | 5 => if elem < 2 then some ⟨.live, .cluster, .time 0 1000 1, 0, .noUnit, true⟩ else none
  | 6 => ln (.time (-1000) 1000 1) 0
  | 7 => if elem = 0 then some ⟨.locked, .cluster, .time (-100) 100 1, 0, .anyPort, true⟩ else none
  | 8 => cl (.list 3) 2
  | 9 => cl (.list 3) 0
  | 10 => cl (.list 2) 1
  | 11 => pick [(.num 0 127, 0), (.num 0 127, 1)]
  | 12 => pick [(.num 0 255, 248), (.num 0 255, 248)]
  | 13 => pick [(.num (-7) 4, ival (-3)), (.num (-3) 4, 0), (.num (-7) 4, 0)]
  | 14 => cl (.list 5) 0
  | 15 => pick [(.real (some 0) (some 2), fval (7 / 10)), (.real (some 0) (some 2), fval (3 / 10))]
  | 16 => cl (.time 1000 1000000000 1) 100000
  | 17 => cl (.time 10 100000 1) 100
  | 18 => cl (.time 0 3600000000000 1) 60000000000
  | 19 => cl (.time 1000000000 100000000000 1) 10000000000
  | 20 => cl (.time 10000 1000000000 1) 1000000
  | 21 => cl (.list 2) 0
  | 22 => cl (.time 10000000000 1000000000000 1) 100000000000
  | 23 => if elem < 2 then some ⟨.live, .cluster, if elem = 0 then .list 3 else .list 2, 0, .output, true⟩ else none
  | 24 => un .output .any 0
  | 25 => un .output (.time 1000 4294967295 1) 1000000000
  | 26 => un .output (.time 8 4294967287 1) 100000
  | 27 => un .output (.list 2) 0
  | 28 => un .capture (.list 3) 0
  | 29 => un .capture (.num 0 255) 2
  | 30 => un .capture (.list 2) 0
  | _ => none

/-- Table 10.7. -/
def fieldAcq (row elem : Nat) : Option FieldDef :=
  let f (c : FieldClass) (e : Enc) (d n : Nat) : Option FieldDef := if elem < n then some ⟨c, .acqSetup, e, d, .noUnit, false⟩ else none
  match row with
  | 0 => f .locked (.code 4) 0xF 1
  | 1 => f .locked (.num 1 64) 8 1
  | 2 => f .locked (.code 32) 0 64
  | 3 => f .locked (.num 1 65536) 1 1
  | 4 => f .locked (.num 1 64) 1 1
  | 5 => f .locked (.num 0 (2 ^ 31)) 1000 1
  | 6 => f .locked (.num 0 (2 ^ 31)) 1000 1
  | 7 => f .live (.list 2) 0 1
  | 8 => f .live (.num 0 65535) 0 1
  | 9 => f .staged (.code 21) 0 2
  | 10 => f .staged (.list 2) 0 1
  | 11 => f .staged (.list 4) 2 1
  | 12 => f .staged (.num 0 63) 0 4
  | 13 => f .staged (.list 4) 2 4
  | 14 => f .staged (.num (-(2 ^ 31)) (2 ^ 31 - 1)) 0 4
  | 15 => f .staged (.num 0 (2 ^ 31 - 1)) 0 4
  | 16 => if elem < 16 then some ⟨.live, .acqSetup, .num 0 255, 2, .noUnit, true⟩ else none
  | _ => none

/-- Table 10.8. -/
def fieldInj (row elem : Nat) : Option FieldDef :=
  let f (e : Enc) (d n : Nat) : Option FieldDef := if elem < n then some ⟨.live, .axis, e, d, .noUnit, false⟩ else none
  match row with
  | 0 => f (.list 4) 0 1
  | 1 => f (.list 4) 0 1
  | 2 => f (.real none none) 0 1
  | 3 => f (.real (some 0) none) 0 2
  | 4 => f (.list 5) 2 1
  | 5 => f (.num 1 256) 1 1
  | 6 => f (.num 0 (2 ^ 32 - 1)) 0 1
  | _ => none

/-- Table 11.7. -/
def fieldSafety (row elem : Nat) : Option FieldDef :=
  match row with
  | 0 => if elem < 8 then some ⟨.live, .cluster, .list 3, 0, .noUnit, false⟩ else none
  | 1 => if elem = 0 then some ⟨.live, .axis, .code 8, 0xFF, .noUnit, false⟩ else none
  | _ => none

/-- Table 12.3. -/
def fieldOutput (row elem : Nat) : Option FieldDef :=
  let out (c : FieldClass) (e : Enc) (d n : Nat) : Option FieldDef := if elem < n then some ⟨c, .cluster, e, d, .output, true⟩ else none
  match row with
  | 0 => if elem = 0 then some ⟨.live, .cluster, .list 2, 0, .noUnit, true⟩ else none
  | 1 => out .locked (.list 2) 0 1
  | 2 => out .live (.list 2) 0 1
  | 3 => out .live (.real (some 0) (some 1)) 0 1
  | 4 => if elem = 0 then some ⟨.locked, .cluster, .pwm, fval 20000, .noUnit, true⟩ else none
  | 5 => out .live (.time 100 1000 10) 300 1
  | 6 => out .live (.num 0 15) 7 1
  | 7 => out .live (.list 2) 1 1
  | 8 => out .live (.num 0 31) 14 2
  | 9 => out .live (.time 250 4000 250) 1000 1
  | 10 => out .locked (.list 3) 0 1
  | 11 => out .live (.stepped (1 / 40) 1 16) (fval (1 / 5)) 1
  | _ => none

/-- Table 13.2. -/
def fieldFault (row : Nat) : Option FieldDef :=
  match row with
  | 0 => some ⟨.live, .cluster, .time 100000 20000000 100000, 2000000, .noUnit, false⟩
  | 1 => some ⟨.live, .cluster, .offOrTime 1000000 1000000000 1000000, 0, .noUnit, false⟩
  | _ => none

/-- Table 14.16. -/
def fieldHost (row : Nat) : Option FieldDef :=
  let f (e : Enc) (d : Nat) : Option FieldDef := some ⟨.live, .cluster, e, d, .noUnit, false⟩
  match row with
  | 0 => f (.addr 64 64) 0
  | 1 => f (.power 64 65536) 1024
  | 2 => f (.addr 8 64) 0
  | 3 => f (.num 0 1000) 0
  | 4 => f (.addr 64 64) 0
  | 5 => f (.num 2 1024) 16
  | 6 => f (.num 0 159) 0
  | 7 => f (.num 1 160) 160
  | 8 => f (.num 1 65536) 50
  | 9 => f (.addr 8 64) 0
  | _ => none

/-- The field that a reference names on an object (R567); every row without arrays has ELEM 0 alone. -/
def fieldDef (target table row elem : Nat) : Option FieldDef :=
  let one (d : Option FieldDef) : Option FieldDef := if elem = 0 then d else none
  match table with
  | 0x0102 => one (fieldLayout row)
  | 0x0208 => fieldLaw row elem
  | 0x0209 => one (fieldCoupling row)
  | 0x0405 => fieldProfile row elem
  | 0x0407 => one (fieldGroup row)
  | 0x0508 => one (fieldFeedbackMap row)
  | 0x0509 => one (fieldFeedback row)
  | 0x060E => fieldNetwork row elem
  | 0x0704 => if row ≤ 1 then fieldStar row elem target else one (fieldStar row elem target)
  | 0x080F => one (fieldLanes row)
  | 0x0906 => fieldTime row elem
  | 0x0A07 => fieldAcq row elem
  | 0x0A08 => fieldInj row elem
  | 0x0B07 => fieldSafety row elem
  | 0x0C03 => fieldOutput row elem
  | 0x0D02 => one (fieldFault row)
  | 0x0E10 => one (fieldHost row)
  | 0x100A => if row = 0 then one (some ⟨.locked, .cluster, .code 4, 0xF, .noUnit, false⟩) else none
  | _ => none

/-! ### Objects (Table 15.1) -/

/-- TARGET of an axis. -/
def tgtAxis (a : Nat) : Nat := a
/-- TARGET of a node, branch and chain position (kind 0x1). -/
def tgtNode (b p : Nat) : Nat := 0x1000 + b * 256 + p
/-- TARGET of a coordination group. -/
def tgtGroup (g : Nat) : Nat := 0x5000 + g
/-- TARGET of a coupling group. -/
def tgtCg (g : Nat) : Nat := 0x7000 + g
/-- TARGET of the acquisition set-up. -/
def tgtAcq : Nat := 0x8000
/-- TARGET of a channel. -/
def tgtChan (c : Channel) : Nat := 0x9000 + chNum c
/-- TARGET of the cluster. -/
def tgtCluster : Nat := 0xA000
/-- TARGET of a local channel. -/
def tgtLocal (n : Nat) : Nat := 0xC000 + n
/-- TARGET of the axis map. -/
def tgtMap : Nat := 0xD000

/-- TARGET of a node entry. -/
def nodeTgt (e : NodeEntry) : Nat := tgtNode e.branch e.pos

/-- TARGET names an object of this kind, within the numbers of Table 15.1 (R562). -/
def Holder.names (h : Holder) (t : Nat) : Bool :=
  let n := t % 4096
  match h with
  | .axis => t / 4096 == 0 && decide (n < 160)
  | .node => t / 4096 == 1 && decide (n / 256 < 8) && decide (n % 256 < 8)
  | .localChan => t / 4096 == 12 && decide (n < 8)
  | .couplingGroup => t / 4096 == 7 && decide (n < 16)
  | .coordGroup => t / 4096 == 5 && decide (n < 16)
  | .acqSetup => t == tgtAcq
  | .channel => t / 4096 == 9 && decide (n < 2)
  | .cluster => t == tgtCluster

/-! ### Lookups in an axis map -/

/-- An axis of a map. -/
def AxisMap.axis? (m : AxisMap) (a : Nat) : Option AxisEntry := m.axes.find? (fun e => e.axis == a)

/-- A node of a map, by its TARGET. -/
def AxisMap.node? (m : AxisMap) (t : Nat) : Option NodeEntry := m.nodes.find? (fun e => nodeTgt e == t)

/-- The node of a map with the number b × 8 + p. -/
def AxisMap.nodeIdx? (m : AxisMap) (i : Nat) : Option NodeEntry := m.nodes.find? (fun e => nodeIndex e == i)

/-- The axes of a node, in descriptor (part) order; AxisEntry.node holds b × 8 + p. -/
def AxisMap.axesOf (m : AxisMap) (i : Nat) : List AxisEntry := sortBy (·.part) (m.axes.filter (fun e => e.node == i))

/-- The configuration in force: 0 SIMPLEX, 1 DUPLEX, 2 TRIPLEX, 3 TRIPLEX_SPARE (Table 8.15). -/
def Fields.configuration (f : Fields) : Nat :=
  ((kvGet f.active { target := tgtCluster, table := 0x080F, row := 0, elem := 0, unit := 0xFF, lane := 0xFF }).getD 0).toNat

/-- The default of a field, where it depends on the object (R574, Tables 2.8, 4.6, 5.8, 6.14, 7.4, 9.6). -/
def fieldDefault (f : Fields) (m : AxisMap) (wm : List (Nat × Byte)) (d : FieldDef) (k : FieldKey) : Nat :=
  let ty := ((m.axis? k.target).map (·.ty)).getD .servo
  match k.table, k.row with
  | 0x0208, 0 => match ty, k.elem with
    | .segment, 0 => 8 | .segment, 1 => 6 | .segment, _ => 3
    | .servo, 0 => 8 | .servo, 1 => 6 | .servo, _ => 3
    | .stepper, 0 => 6 | .stepper, 1 => 4 | .stepper, _ => 2
    | .aux, 0 => 4 | .aux, 1 => 2 | .aux, _ => 1
  | 0x0208, 10 => k.target
  | 0x0208, 13 => match ty with | .segment => 0 | .servo => 0 | .stepper => 2 | .aux => 2
  | 0x0405, 8 => match ty, k.elem with
    | .servo, 0 => 24 | .servo, 1 => 31 | .servo, 2 => 10
    | .stepper, 0 => 24 | .stepper, 1 => 31
    | .segment, 0 => 12 | .segment, 1 => 12
    | .aux, 0 => 12 | .aux, 1 => 16
    | _, _ => 0
  | 0x0508, 2 => match ty with | .segment => 3 | .servo => 3 | .stepper => 2 | .aux => 0
  | 0x060E, 5 =>
    let i := (k.target % 4096 / 256) * 8 + k.target % 8
    let dv := ((m.axesOf i).head?.map (·.divisor)).getD 1
    max 4 (2 * dv - 1)
  | 0x060E, 7 => match m.node? k.target with
    | some e => if k.elem = 0 then e.pUp else e.pDown
    | none => d.dflt
  | 0x0704, 0 => if k.target = tgtChan .y && f.configuration == 0 then 0 else 1
  | 0x0704, 1 =>
    let c := f.configuration
    let ab := decide (k.lane < 2)
    if ab then (if k.elem = 0 then b2n (decide (2 ≤ c)) else b2n (decide (3 ≤ c)))
    else if k.lane = 2 then b2n (decide (2 ≤ c)) else b2n (decide (3 ≤ c))
  | 0x0906, 2 => (leNat (wordsN (0 : Byte) wm 8 6) + k.lane) % 2 ^ 48
  | _, _ => d.dflt

/-- The value of a field within a set of values, or its default. -/
def lookField (f : Fields) (m : AxisMap) (wm : List (Nat × Byte)) (vals : List (FieldKey × BitVec 64)) (k : FieldKey) : Nat :=
  match kvGet vals k with
  | some v => v.toNat
  | none => match fieldDef k.target k.table k.row k.elem with
    | some d => fieldDefault f m wm d k
    | none => 0

/-- The value of a field in force. -/
def State.fld (s : State) (target table row elem : Nat) (unit : Nat := 0xFF) (lane : Nat := 0xFF) : Nat :=
  lookField s.cfg s.cfg.map s.safety.watermark s.cfg.active
    { target := target, table := table, row := row, elem := elem, unit := unit, lane := lane }

/-- The same as a signed number. -/
def State.fldI (s : State) (target table row elem : Nat) (unit : Nat := 0xFF) (lane : Nat := 0xFF) : Int :=
  toSigned 64 (s.fld target table row elem unit lane)

/-- The same as a binary32 quantity. -/
def State.fldR (s : State) (target table row elem : Nat) (unit : Nat := 0xFF) (lane : Nat := 0xFF) : Rat :=
  f32D (s.fld target table row elem unit lane)

/-- The number of a field that can be NONE or AUTO. -/
def State.fldO (s : State) (target table row elem : Nat) (unit : Nat := 0xFF) (lane : Nat := 0xFF) : Option Int :=
  let v := s.fld target table row elem unit lane
  if v = noneValue then none else some (toSigned 64 v)

/-! ### Ranges (R568) -/

/-- The value that a VALUE stands for under an encoding, as it is kept; none where it is out of range. -/
def Enc.take (e : Enc) (v : Nat) : Option Nat :=
  let i := toSigned 64 v
  let isF := decide (v < 2 ^ 32)
  match e with
  | .real lo hi => match isF, f32 v with
    | true, some q => if (match lo with | some l => decide (l ≤ q) | none => true) && (match hi with | some h => decide (q ≤ h) | none => true) then some v else none
    | _, _ => none
  | .above z => match isF, f32 v with
    | true, some q => if (if z then decide (0 ≤ q) else decide (0 < q)) then some v else none
    | _, _ => none
  | .stepped u lo hi => match isF, f32 v with
    | true, some q =>
      let n := roundEven (q / u)
      if lo ≤ n && n ≤ hi then some (fval (n * u)) else none
    | _, _ => none
  | .time lo hi st => if lo ≤ i && i ≤ hi && decide (i % st = 0) then some v else none
  | .num lo hi => if lo ≤ i && i ≤ hi then some v else none
  | .numOr lo hi => if v = noneValue || (lo ≤ i && i ≤ hi) then some v else none
  | .list n => if v < n then some v else none
  | .code w => if v < 2 ^ w then some v else none
  | .addr m w => if v < 2 ^ w && decide (v % m = 0) then some v else none
  | .power lo hi => if lo ≤ v && v ≤ hi && decide (2 ^ Nat.log2 v = v) then some v else none
  | .offOrTime lo hi st => if v = 0 || (lo ≤ i && i ≤ hi && decide (i % st = 0)) then some v else none
  | .pwm => match isF, f32 v with
    | true, some q => if 1000 ≤ q && q ≤ 100000 then some v else none
    | _, _ => none
  | .vlan => if v = noneValue || (v < 2 ^ 15 && 1 ≤ v % 4096 && v % 4096 ≤ 4094) then some v else none
  | .hall =>
    let l := (List.range 6).map (fun s => v / 8 ^ s % 8)
    if v < 2 ^ 18 && decide (l.Nodup) then some v else none
  | .members =>
    let l := toLe 8 v
    let n := (l.takeWhile (fun b => b ≠ 0xFF)).length
    if (l.drop n).all (· = 0xFF) && (n = 0 || (2 ≤ n && n ≤ 8)) && (l.take n).all (fun b => decide (b.toNat < 160)) && decide ((l.take n).Nodup) then some v else none
  | .any => some v

/-- UNIT as it stands in a key; none where UNIT is not one the field takes (R567, R315). -/
def UnitOf.canon (u : UnitOf) (target table row elem unit : Nat) : Option Nat :=
  match u with
  | .noUnit => if unit = 0xFF then some 0xFF else none
  | .output => if unit < 4 then some unit else none
  | .capture => if unit < 4 then some unit else none
  | .localChan => if unit = 0xFF || unit = target % 4096 then some 0xFF else none
  | .chanPort => if table = 0x0704 && row = 0 then (if unit = 0xFF || unit = elem then some 0xFF else none)
      else if unit < 8 then some unit else none
  | .farPort => if row = 1 then (if unit = 0xFF || unit = 0x10 + 0x10 * elem then some 0xFF else none)
      else if (0x10 ≤ unit && unit ≤ 0x17) || (0x20 ≤ unit && unit ≤ 0x27) || (0x30 ≤ unit && unit ≤ 0x37) || (0x40 ≤ unit && unit ≤ 0x4B) then some unit else none
  | .anyPort => if unit < 8 || (0x10 ≤ unit && unit ≤ 0x17) || (0x20 ≤ unit && unit ≤ 0x27) || (0x30 ≤ unit && unit ≤ 0x37) || (0x40 ≤ unit && unit ≤ 0x4B) then some unit else none

end Sys2Proof.Machine
end

