-- ==== Sys2Proof/Machine/Cycle.lean ====
section
/-!
DEFINITION. The cycle layout in force, due cycles and mapped time.
-/
namespace Sys2Proof.Machine

/-- CONFIGURATION in force (Table 8.15). -/
def State.config (s : State) : Nat := s.cfg.configuration

/-- Simplex (R16). -/
def State.simplex (s : State) : Bool := s.config == 0

/-- Basic cycle T in MT. -/
def State.tMt (s : State) : Nat := s.fld tgtCluster 0x0102 0 0
/-- Uplink U in MT. -/
def State.uMt (s : State) : Nat := s.fld tgtCluster 0x0102 2 0
/-- Downlink D in MT. -/
def State.dMt (s : State) : Nat := s.fld tgtCluster 0x0102 6 0
/-- Arbitrating window in MT. -/
def State.arbMt (s : State) : Nat := s.fld tgtCluster 0x0102 7 0
/-- Network idle time in MT. -/
def State.idleMt (s : State) : Nat := s.fld tgtCluster 0x0102 8 0
/-- Consensus interval in MT (R13, R16). -/
def State.consMt (s : State) : Nat := if s.simplex then 0 else 16
/-- Compute window in MT (R14). -/
def State.compMt (s : State) : Nat := s.tMt - 8 - s.uMt - s.consMt - 12 - s.dMt - s.arbMt - s.idleMt
/-- Engine cycle budget W (R15). -/
def State.budget (s : State) : Nat := 20 * s.compMt
/-- Start of the network idle time, MT from cycle start. -/
def State.idleStart (s : State) : Nat := s.tMt - s.idleMt
/-- Start of the downlink interval, MT from cycle start. -/
def State.downStart (s : State) : Nat := 8 + s.uMt + s.consMt + s.compMt + 12
/-- Half-width a of the acceptance window, ns. -/
def State.accWin (s : State) : Nat := s.fld tgtCluster 0x060E 0 0
/-- Length of a basic cycle in ns. -/
def State.tNs (s : State) : Nat := s.tMt * 50

/-- Guard g in MT of an acceptance window of half-width a (R40). -/
def guardOf (a : Nat) : Nat := ceilDiv (2 * a) 50

/-- Slot length s(p) in MT (R40). -/
def slotLen (a p : Nat) : Nat := ceilDiv ((p + 14) * 4) 50 + guardOf a

/-- j of the basic cycle in its matrix cycle. -/
def State.j (s : State) : Nat := s.clock.cycle % 64

/-- Matrix count modulo 256. -/
def State.matrix (s : State) : Nat := s.clock.cycle / 64 % 256

/-- Due in a cycle under divisor and phase (R23, R41). -/
def dueIn (d phi cycle : Nat) : Bool := cycle % d == phi

/-- An axis is due in the present cycle (R23). -/
def State.due (s : State) (a : Axis) : Bool := dueIn a.entry.divisor a.place.phase s.clock.cycle

/-- The first due cycle of an axis at or after a cycle. -/
def firstDue (d phi c : Nat) : Nat := c + (phi + d - c % d) % d

/-- Mapped time of the instant `o` ns after the start of cycle `c` (R391). -/
def State.mapped (s : State) (c : Nat) (o : Int) : BitVec 64 :=
  let m := s.time.map
  let d : Int := ((c : Int) - m.baseCount) * (s.tMt : Int) * 50 + o
  BitVec.ofInt 64 ((m.vtBase.toNat : Int) + d + (d * m.ratio) / 2 ^ 40)

/-- PHC time of a counter reading: the reading with the servo's steps added. -/
def State.phc (s : State) (clk : Int) : Int := clk + s.time.phcAdj

/-- The place of a node in the map in force. -/
def State.place? (s : State) (i : Nat) : Option NodePlace := s.cfg.nodes.find? (fun p => p.node == i)

/-- A node is active in the present cycle (R41). -/
def State.nodeActive (s : State) (i : Nat) : Bool :=
  match s.place? i with
  | some p => dueIn p.divisor p.phase s.clock.cycle
  | none => false

/-- This lane hosts the channel: lane A hosts X; lane B hosts Y from Duplex (Table 0.1). -/
def State.hosts (s : State) (c : Channel) : Bool :=
  match c, s.lanes.addr with
  | .x, some .a => true
  | .y, some .b => !s.simplex
  | _, _ => false

/-- The channel that this lane hosts. -/
def State.hosted (s : State) : Option Channel := if s.hosts .x then some .x else if s.hosts .y then some .y else none

/-- Lanes of the configuration in force (Table 0.1). -/
def State.lanesOfConfig (s : State) : List Lane :=
  match s.config with
  | 0 => [.a] | 1 => [.a, .b] | 2 => [.a, .b, .c] | _ => [.a, .b, .c, .s]

/-- The weir port that leads to a lane (Table 8.2). -/
def weirPort (me other : Lane) : Option Nat :=
  let others := [Lane.a, .b, .c, .s].filter (fun l => l ≠ me)
  (others.findIdx? (fun l => l == other))

/-- The lane that a weir port leads to (Table 8.2). -/
def weirLane (me : Lane) (port : Nat) : Option Lane := ([Lane.a, .b, .c, .s].filter (fun l => l ≠ me))[port]?

/-- A majority of the voting set is among `ls` (R351). -/
def State.majority (s : State) (ls : List Lane) : Bool :=
  decide (2 * ((laneSort ls).filter (fun l => decide (l ∈ s.lanes.vset))).length > s.lanes.vset.length)

end Sys2Proof.Machine
end

