-- ==== Sys2Proof/Machine/Report.lean ====
section
/-!
DEFINITION. Event records (R547 to R550) and fault records (R524) as they are formed and reach the on-chip ring.
-/
namespace Sys2Proof.Machine

/-- Interrupt causes 3 to 6 of a record (Table 14.7). -/
def recordVector (r : EvRec) : Option Nat :=
  let k := r.kind.toNat
  let code := k % 4096
  if bit k 14 && decide (1 ≤ bits k 13 12) then some 3
  else if code = 0x5C0 || code = 0x5C3 || code = 0x5C4 then some 4
  else if code = 0x500 || code = 0x501 then some 5
  else if code = 0x580 || code = 0x581 then some 6
  else none

/-- A record written into the on-chip ring of 256 (R550), with the interrupt cause it sets in the voice lane. -/
def State.ringWrite (s : State) (r : EvRec) : State :=
  let e := s.events
  let s' := { s with events := { e with ring := (r :: e.ring).take 256, localWr := e.localWr + 1 } }
  if s.isVoice then (match recordVector r with | some v => s'.irq v | none => s') else s'

/-- This lane computes (Table 8.6): it votes, or joins and has reached the live cycle, and its cluster runs. -/
def State.computing (s : State) : Bool := (s.voting || (s.lanes.role == .joining && s.lanes.couch.live)) && !s.stopped

/-- This lane's records belong to the common sequence (R352, R370, R517, R550). -/
def State.common (s : State) : Bool := s.computing

/-- A record is formed: kept for the snapshot switch of its cycle in a voting lane; written to the lane's own on-chip ring
with the lane's own sequence otherwise (R517, R550). -/
def State.record (s : State) (r : EvRec) : State :=
  if s.common then { s with events := { s.events with fresh := s.events.fresh ++ [r] } }
  else
    let s' := s.ringWrite { r with seq := s.events.ownSeq }
    { s' with events := { s'.events with ownSeq := s'.events.ownSeq + 1 } }

/-- The body of a record of the present cycle (Table 14.14). -/
def State.mkRec (s : State) (source axis kind : Nat) (payload : List Byte) : EvRec :=
  { count := BitVec.ofNat 32 s.clock.cycle, time := s.mapped s.clock.cycle 0, source := BitVec.ofNat 8 source,
    axis := BitVec.ofNat 8 axis, kind := BitVec.ofNat 16 kind, payload := padTo 12 payload }

/-- SOURCE of a record formed from the command order or the computation: the voting set, or this lane alone (R548). -/
def State.sourceAll (s : State) : Nat := if s.common then laneMask s.lanes.vset else laneMask [s.lane]

/-- SOURCE for a lane report names the reporting lane (R548). -/
def State.sourceOf (s : State) (l : Option Lane) : Nat := match l with | some l => laneMask [l] | none => s.sourceAll

/-- An event is recorded (Table 14.15). -/
def State.event (s : State) (code axis : Nat) (payload : List Byte) (lane : Option Lane := none) : State :=
  s.record (s.mkRec (s.sourceOf lane) axis code payload)

/-- An event whose record carries a captured instant (R392, R404). -/
def State.eventAt (s : State) (code : Nat) (time : BitVec 64) (payload : List Byte) (lane : Option Lane := none) : State :=
  s.record { s.mkRec (s.sourceOf lane) 0xFF code payload with time := time }

/-- A full count from its low 32 bits, of a cycle not after the present one. -/
def State.countOf (s : State) (low : Nat) : Nat := s.clock.cycle - (s.clock.cycle + 2 ^ 32 - low) % 2 ^ 32

/-- The events named by a body. A CAPTURE carries the mapped time of its instant
(R404), ACQ_TRIGGERED its TRIG_TIME (R441). -/
def State.eventBody (s : State) (e : EvBody) (lane : Option Lane := none) : State :=
  if e.code = 0x580 then s.eventAt e.code (s.mapped (s.countOf (le e.payload 4 4)) (toSigned 32 (le e.payload 8 4) / 128)) e.payload lane
  else if e.code = 0x543 then s.eventAt e.code (s.mapped (s.countOf (le e.payload 2 4)) (le e.payload 6 4 : Nat)) e.payload lane
  else s.event e.code e.axis e.payload lane

/-! ### Fault records -/

/-- Kinds of fault record (Table 13.4). -/
def frRaised : Nat := 1
def frEscalated : Nat := 2
def frHandled : Nat := 3
def frEnded : Nat := 4
def frCleared : Nat := 5
def frQueueLost : Nat := 6
def frHistory : Nat := 7

/-- LOCATION of Table 13.4. -/
def Loc.word (l : Loc) : Nat := l.kind * 4096 + l.num % 4096

/-- Locations of Table 13.4. -/
def locNone : Loc := {}
def locAxis (a : Nat) : Loc := { kind := 0, num := a, axis := some a }
def locNode (ch : Nat) (b p : Nat) : Loc := { kind := 1, num := ch * 2048 + b * 256 + p }
def locPort (code : Nat) : Loc := { kind := 2, num := code }
def locInput (n : Nat) : Loc := { kind := 3, num := n }
def locSdo (n : Nat) : Loc := { kind := 4, num := n }
def locGroup (g : Nat) : Loc := { kind := 5, num := g }
def locLane (l : Lane) : Loc := { kind := 6, num := Lane.num l }

/-- A fault record (R524): code, class, axis and the payload of Table 13.4; a class from F1 up counts for the FAULT
condition of acquisition (Table 10.4). -/
def State.faultRecord (s : State) (kind code cls : Nat) (loc : Loc) (lane : Option Lane) (inst : Nat) (cycles raise : Nat) : State :=
  let p := [BitVec.ofNat 8 kind, BitVec.ofNat 8 ((lane.map Lane.num).getD 0xFF)] ++ toLe 2 (Loc.word loc) ++ toLe 4 inst
    ++ toLe 2 cycles ++ toLe 2 raise
  let s' := s.record (s.mkRec (s.sourceOf lane) (loc.axis.getD 0xFF) (code + cls * 4096 + 2 ^ 14) p)
  { s' with acq := { s'.acq with faultNow := max s'.acq.faultNow (cls + 1) } }

/-! ### Faults on their way to the collector (R506) -/

/-- Class, kind L, and scope of a fault code (Tables 13.5 to 13.16): scope 0 AXIS, 1 NODE, 2 PORT, 3 SYSTEM, 4 LANE. -/
structure FaultInfo where
  cls : FClass
  kindL : Bool
  scope : Nat
deriving DecidableEq, Repr

/-- The source table (R525); 0x13F takes its class from FAULT_RAISE. -/
def faultInfo (code : Nat) : Option FaultInfo :=
  let f (c : FClass) (l : Bool) (sc : Nat) : Option FaultInfo := some ⟨c, l, sc⟩
  match code with
  | 0x100 => f .f3 false 4 | 0x101 => f .f0 false 3 | 0x102 => f .f3 false 4 | 0x103 => f .f3 false 4
  | 0x104 => f .f1 true 3 | 0x105 => f .f1 false 3 | 0x106 => f .f0 false 3 | 0x107 => f .f0 false 3
  | 0x108 => f .f1 true 3 | 0x13F => f .f1 false 3
  | 0x140 => f .f1 false 0 | 0x141 => f .f1 true 0 | 0x142 => f .f2 false 0 | 0x143 => f .f0 false 0
  | 0x144 => f .f1 true 0 | 0x145 => f .f0 true 0 | 0x146 => f .f0 false 0 | 0x147 => f .f0 false 3
  | 0x148 => f .f2 false 0
  | 0x180 => f .f0 false 0 | 0x181 => f .f1 false 0 | 0x182 => f .f0 false 3
  | 0x1C0 => f .f1 true 0 | 0x1C1 => f .f1 true 0 | 0x1C2 => f .f1 true 0 | 0x1C3 => f .f2 false 0 | 0x1C4 => f .f1 true 0
  | 0x200 => f .f1 false 3 | 0x201 => f .f1 true 3 | 0x202 => f .f1 true 3 | 0x203 => f .f2 false 1 | 0x204 => f .f1 false 3
  | 0x205 => f .f0 false 1 | 0x206 => f .f0 false 2 | 0x207 => f .f0 false 1 | 0x208 => f .f1 true 1 | 0x209 => f .f1 true 2
  | 0x20A => f .f1 true 2 | 0x20B => f .f0 false 3 | 0x20C => f .f0 false 1
  | 0x240 => f .f1 false 3 | 0x241 => f .f1 false 3 | 0x242 => f .f1 false 3 | 0x243 => f .f1 false 3 | 0x244 => f .f2 false 0
  | 0x245 => f .f2 false 3 | 0x246 => f .f1 true 3 | 0x247 => f .f1 true 3 | 0x248 => f .f1 true 3 | 0x249 => f .f3 true 4
  | 0x24A => f .f0 false 3 | 0x24B => f .f1 true 3 | 0x24C => f .f1 false 3 | 0x24D => f .f1 false 3
  | 0x280 => f .f1 true 3 | 0x281 => f .f0 false 3 | 0x282 => f .f1 false 3 | 0x283 => f .f0 false 3 | 0x284 => f .f0 true 3
  | 0x285 => f .f1 true 3 | 0x286 => f .f0 false 3 | 0x287 => f .f0 false 3 | 0x288 => f .f1 true 3
  | 0x2C0 => f .f0 false 0
  | 0x300 => f .f2 true 3 | 0x301 => f .f2 true 3 | 0x302 => f .f2 true 3 | 0x303 => f .f2 true 3 | 0x304 => f .f2 true 3
  | 0x305 => f .f2 true 3 | 0x306 => f .f2 true 3 | 0x307 => f .f2 true 3
  | 0x320 => f .f3 true 4 | 0x321 => f .f3 true 4 | 0x322 => f .f3 false 4 | 0x323 => f .f3 false 4 | 0x324 => f .f3 false 4
  | 0x330 => f .f0 false 3
  | 0x340 => f .f2 false 3 | 0x341 => f .f2 false 3 | 0x342 => f .f2 false 3 | 0x343 => f .f2 true 3 | 0x344 => f .f2 true 3
  | 0x345 => f .f2 true 3 | 0x346 => f .f0 false 3
  | 0x380 => f .f3 true 4 | 0x381 => f .f0 true 3 | 0x382 => f .f2 true 3 | 0x383 => f .f3 true 4 | 0x384 => f .f3 true 4
  | 0x385 => f .f3 true 4 | 0x386 => f .f0 true 3 | 0x387 => f .f0 true 3 | 0x388 => f .f1 true 3 | 0x389 => f .f2 true 3
  | 0x38A => f .f0 false 3 | 0x38B => f .f2 false 3 | 0x38C => f .f0 false 3 | 0x38D => f .f0 false 3 | 0x38E => f .f1 false 3
  | 0x38F => f .f3 false 4 | 0x390 => f .f1 false 3
  | 0x3C0 => f .f3 false 4 | 0x3C1 => f .f3 false 4
  | _ => none

/-- A fault of a code at a location, of the class of the source table. -/
def mkFault (code : Nat) (loc : Loc := {}) (lane : Option Lane := none) (event : Option EvBody := none) : FaultRep :=
  { code := code, cls := ((faultInfo code).map (·.cls)).getD .f0, loc := loc, lane := lane, event := event }

/-- Scope number of a fault; the host-test source has the scope of its location (R520). -/
def FaultRep.scope (r : FaultRep) : Nat :=
  if r.code = 0x13F then (if r.loc.axis.isSome then 0 else 3) else ((faultInfo r.code).map (·.scope)).getD 3

/-- The source is of kind L (R504). -/
def FaultRep.kindL (r : FaultRep) : Bool := ((faultInfo r.code).map (·.kindL)).getD false

/-- A source is active in the collector (R504). -/
def State.isActive (s : State) (code : Nat) (loc : Loc) : Bool := s.faults.active.any (fun a => a.code == code && a.loc == loc)

/-- A fault that one lane alone detects becomes a lane report (R349, R506). -/
def State.report (s : State) (r : FaultRep) : State :=
  { s with faults := { s.faults with reports := s.faults.reports ++ [{ r with lane := some s.lane }] } }

/-- The same for a kind L source whose condition stands already: no new fault until it has ended (R504). -/
def State.reportL (s : State) (r : FaultRep) : State :=
  if s.isActive r.code r.loc || s.faults.reports.any (fun q => q.code == r.code && q.loc == r.loc) then s else s.report r

/-- A body that is no fault enters the command order as a lane report (R349). -/
def State.reportBody (s : State) (b : Body) : State :=
  { s with order := { s.order with held := s.order.held ++ [{ req := {}, lane := s.lane, body := some b }] } }

/-- A lane report that is an event. -/
def State.reportEvent (s : State) (e : EvBody) : State := s.reportBody (.event e)

/-- The condition of a kind L source of this lane ended (R504, R509): a report withdrawn that had not left, or passed on. -/
def State.reportEnd (s : State) (code : Nat) (loc : Loc) : State :=
  if s.faults.reports.any (fun q => q.code == code && q.loc == loc) || s.isActive code loc
    || s.order.held.any (fun h => match h.body with | some (.fault q) => q.code == code && q.loc == loc | _ => false)
    || s.order.accepted.any (fun a => match a.body with | .fault q => q.code == code && q.loc == loc | _ => false)
  then s.reportBody (.sourceEnded code loc) else s

end Sys2Proof.Machine
end

