-- ==== Sys2Proof/Machine/Motion.lean ====
section
/-!
DEFINITION. The profile generator's planner (R157 to R163), microstep bands (R172 to R174), and what a change of the axis
state or of the motion in force does to it (R154, R170, R185).
-/
namespace Sys2Proof.Machine

/-! ### Positions (R150, R157) -/

/-- A 32.16 position in counts. -/
def posR (p : BitVec 48) : Rat := (p.toInt : Rat) / 65536

/-- The displacement T − p0 in counts, reduced into −2^31 to 2^31 − 2^−16 (R157). -/
def displacement (t p0 : BitVec 48) : Rat := posR (t - p0)

/-- A position moved by a displacement in counts and rounded to 32.16 (R150). -/
def moveBy (p0 : BitVec 48) (d : Rat) : BitVec 48 := p0 + BitVec.ofInt 48 (roundEven (d * 65536))

/-- Square root of a non-negative rational; exact where the root is rational with the given denominator, otherwise cut at
2^−40 of it (log entry 6). -/
def sqrtR (x : Rat) : Rat :=
  if x ≤ 0 then 0 else (Nat.sqrt (x.num.toNat * x.den * 4 ^ 40) : Rat) / ((x.den * 2 ^ 40 : Nat) : Rat)

/-! ### Plans without a jerk bound (R159, R160, R163) -/

/-- Stretches (duration, acceleration) that bring velocity v to w, braking at `dec` and speeding up at `acc`. -/
def velSegs (v w acc dec : Rat) : List (Rat × Rat) :=
  let sgn : Rat := if w < v then -1 else 1
  if v = w then []
  else if v * w < 0 then [(absR v / dec, sgn * dec), (absR w / acc, sgn * acc)]
  else if absR v < absR w then [((absR w - absR v) / acc, sgn * acc)]
  else [((absR v - absR w) / dec, sgn * dec)]

/-- Stretches from speed `v` ≥ 0 over a distance `d` at least as long as the stopping distance, to rest. -/
def runSegs (v d vmax acc dec : Rat) : List (Rat × Rat) :=
  if vmax < v then
    let t1 := (v - vmax) / dec
    let d1 := (v * v - vmax * vmax) / (2 * dec)
    let dc := d - d1 - vmax * vmax / (2 * dec)
    [(t1, -dec), (dc / vmax, 0), (vmax / dec, -dec)]
  else
    let dAcc := (vmax * vmax - v * v) / (2 * acc)
    let dBrk := vmax * vmax / (2 * dec)
    if dAcc + dBrk ≤ d then [((vmax - v) / acc, acc), ((d - dAcc - dBrk) / vmax, 0), (vmax / dec, -dec)]
    else
      let vp := maxR v (sqrtR ((2 * d * acc * dec + v * v * dec) / (acc + dec)))
      [((vp - v) / acc, acc), (vp / dec, -dec)]

/-- Stretches of a MOVE over the displacement `d` (R159). -/
def moveSegs (d v vmax acc dec : Rat) : List (Rat × Rat) :=
  let sd := v * absR v / (2 * dec)
  let rest := d - sd
  let flip (k : Rat) (l : List (Rat × Rat)) : List (Rat × Rat) := l.map (fun p => (p.1, k * p.2))
  if rest = 0 then velSegs v 0 acc dec
  else
    let k : Rat := if rest < 0 then -1 else 1
    if v * k < 0 then velSegs v 0 acc dec ++ flip k (runSegs 0 (absR rest) vmax acc dec)
    else flip k (runSegs (absR v) (absR d) vmax acc dec)

/-- Total duration of stretches. -/
def segsTime (l : List (Rat × Rat)) : Rat := (l.map (·.1)).sum

/-- Displacement, velocity and acceleration at a time from the start, constant velocity after the end. -/
def segsAt : List (Rat × Rat) → Rat → Rat → Rat → Rat × Rat × Rat
  | [], x, v, t => (x + v * t, v, 0)
  | (d, a) :: r, x, v, t =>
    if t ≤ d then (x + v * t + a * t * t / 2, v + a * t, a)
    else segsAt r (x + v * d + a * d * d / 2) (v + a * d) (t - d)

/-- A plan as the generator forms it (R161), under a number of its own for the free deviations. -/
def mkPlan (id : Nat) (kind : PlanKind) (p0 : BitVec 48) (v0 a0 ts vmax acc dec jerk : Rat) : Plan :=
  let segs := match kind with
    | .toRest d => moveSegs d v0 vmax acc dec
    | .toVelocity w => velSegs v0 w acc dec
    | .stop => velSegs v0 0 acc dec
  let trivial := match kind with
    | .toRest d => decide (d = 0 ∧ v0 = 0 ∧ a0 = 0)
    | .toVelocity w => decide (v0 = w ∧ a0 = 0)
    | .stop => decide (v0 = 0 ∧ a0 = 0)
  let j := decide (0 < jerk) && !trivial
  { kind := kind, segs := if j then [] else segs, p0 := p0, v0 := v0, a0 := a0, total := segsTime segs, n := 0, ts := ts,
    jerk := j, id := id }

/-- Samples from the start to the first at or after the end of a plan, at least 1 (R162). -/
def Plan.samples (p : Plan) : Nat :=
  if p.jerk then max 1 (Config.jerkLen p.id)
  else max 1 ((p.total / p.ts).ceil.toNat)

/-- Sample `n` of a plan: position, velocity, acceleration, and whether it lies at or after the end (R162, R163). -/
def Plan.sample (p : Plan) (n : Nat) : BitVec 48 × Rat × Rat × Bool :=
  let last := p.samples
  let done := decide (last ≤ n)
  let t := (n : Rat) * p.ts
  let free := if p.jerk then (Config.jerkPos p.id n, Config.jerkVel p.id n, Config.jerkAcc p.id n)
    else
      let (x, v, a) := segsAt p.segs 0 p.v0 t
      if p.segs.isEmpty then (x, v, a) else (x + Config.planPos p.id n, v + Config.planVel p.id n, a + Config.planAcc p.id n)
  match p.kind, done with
  | .toRest d, true => (moveBy p.p0 d, 0, 0, true)
  | .stop, true =>
    let (x, _, _) := segsAt p.segs 0 p.v0 p.total
    let x' := if p.jerk then Config.jerkPos p.id last else if p.segs.isEmpty then 0 else x + Config.planPos p.id last
    (moveBy p.p0 x', 0, 0, true)
  | .toVelocity w, true => (moveBy p.p0 free.1, w, 0, true)
  | _, false => (moveBy p.p0 free.1, free.2.1, free.2.2, false)

/-! ### Profile fields -/

/-- Servo period of an axis in seconds (R66). -/
def State.ts (s : State) (a : Axis) : Rat := (a.entry.divisor * s.tNs : Nat) / 1000000000

/-- A profile field of Table 4.5. -/
def State.prof (s : State) (n row : Nat) : Rat := s.fldR (tgtAxis n) 0x0405 row 0

/-- EXP_REF[i]. -/
def State.expRef (s : State) (n i : Nat) : Int := s.fldI (tgtAxis n) 0x0405 8 i

/-- VEL_MAX, ACC_MAX, DEC_MAX, JERK_MAX, STOP_DEC and QUICK_DEC of an axis. -/
def State.velMax (s : State) (n : Nat) : Rat := s.prof n 0
def State.accMax (s : State) (n : Nat) : Rat := s.prof n 1
def State.decMax (s : State) (n : Nat) : Rat := s.prof n 2
def State.jerkMax (s : State) (n : Nat) : Rat := s.prof n 3
def State.stopDec (s : State) (n : Nat) : Rat := s.prof n 4
def State.quickDec (s : State) (n : Nat) : Rat := s.prof n 5

/-- The profile generator of an axis. -/
def State.mot (s : State) (n : Nat) : MotionRt := ((s.axis? n).map (·.mot)).getD {}

/-- It changed. -/
def State.updMot (s : State) (n : Nat) (f : MotionRt → MotionRt) : State := s.updAxis n (fun a => { a with mot := f a.mot })

/-! ### Microstep bands (R172, R173) -/

/-- STEP_COUNTS. -/
def State.stepCounts (s : State) (n : Nat) : Nat := s.fld (tgtAxis n) 0x0405 9 0

/-- Full-step number f of a position (R172). -/
def fullStep (p : BitVec 48) (sc : Nat) : Nat := p.toNat / 65536 / sc

/-- The angle of a set-point in a band, in turns (R172). -/
def stepAngle (p : BitVec 48) (sc b : Nat) : Rat :=
  let c := p.toNat / 65536
  let res := 256 / 2 ^ b
  let mu := c % sc * res / sc
  let x : Rat := ((c / sc : Nat) + (mu : Rat) / res) / 4
  x - x.floor

/-- The enabled bands with their entry speeds, rising (R173). -/
def State.bands (s : State) (n : Nat) : List (Nat × Rat) :=
  ((List.range 8).map (fun i => (i + 1, s.fldR (tgtAxis n) 0x0405 10 i))).takeWhile (fun p => p.2 ≠ 0)

/-- The band chosen at a full-step boundary (R173). -/
def bandAt (bands : List (Nat × Rat)) (band : Nat) (v : Rat) : Nat :=
  let top (l : List (Nat × Rat)) : Nat := (l.map (·.1)).foldl max 0
  let up := top (bands.filter (fun p => p.2 ≤ v))
  if band < up then up
  else match bands.find? (fun p => p.1 == band) with
    | some (_, lim) =>
      if v < 7 / 8 * lim then top (bands.filter (fun p => decide (p.1 < band) && decide (7 / 8 * p.2 ≤ v))) else band
    | none => if band = 0 then 0 else top (bands.filter (fun p => decide (p.1 < band) && decide (7 / 8 * p.2 ≤ v)))

/-! ### Events of the generator (Table 15.15) -/

/-- A position as Table 15.15 carries it: integer counts, then the fraction. -/
def posBytes (p : BitVec 48) : List Byte := toLe 4 (p.toNat / 65536) ++ toLe 2 (p.toNat % 65536)

/-- PROFILE_VOID (R591): reason 1 STATE, 2 DISTANCE, 3 EMPTY. -/
def State.profileVoid (s : State) (n : Nat) (tag : BitVec 32) (opcode reason : Nat) : State :=
  s.event 0x440 n (toLe 4 tag.toNat ++ toLe 2 opcode ++ [BitVec.ofNat 8 reason])

/-- The held points of an axis are discarded (R170). -/
def State.discardPoints (s : State) (n : Nat) : State :=
  let c := (s.mot n).points.length
  let s' := s.updMot n (fun m => { m with points := [], seg := none })
  if c = 0 then s' else s'.event 0x444 n (toLe 2 c)

/-! ### Changes of the motion in force (R154) -/

/-- The rest point of REST from the present trajectory state at DEC_MAX and JERK_MAX (Table 4.2). -/
def State.restPoint (s : State) (n : Nat) : BitVec 48 :=
  let m := s.mot n
  let d := s.decMax n
  let j := s.jerkMax n
  if m.vel = 0 ∧ (j = 0 ∨ m.acc = 0) then m.o
  else if j = 0 then moveBy m.o (m.vel * absR m.vel / (2 * d))
  else moveBy m.o (Config.jerkRest m.vel m.acc d j)

/-- The motion in force becomes REST: a MOVE to the rest point (Table 4.2). -/
def State.toRest (s : State) (n : Nat) : State :=
  let t := s.restPoint n
  s.updMot n (fun m => { m with motion := some (.move t), replan := true, moveDone := false, seg := none })

/-- A member broke the line of a running group move (R185): by leaving RUN, or by a motion command of its own. -/
def State.breakGroup (s : State) (n g : Nat) : State :=
  { s with groups := modAt s.groups g (fun r =>
      match r.run with
      | some x => { r with run := some { x with broken := if n ∈ x.broken then x.broken else x.broken ++ [n] } }
      | none => r) }

/-- The motion in force of an axis ends for another motion command or for leaving RUN (R168, R170, R185). -/
def State.endMotion (s : State) (n : Nat) : State :=
  match (s.mot n).motion with
  | some .table => s.discardPoints n
  | some (.group g) => s.breakGroup n g
  | _ => s

/-- A pending relative move is resolved against the motion in force (R158): the new target, or none where the displacement
reaches 2^31 counts. -/
def MotionRt.relative (m : MotionRt) (d : Int) : Option (BitVec 48) :=
  let base := match m.motion with | some (.move t) => t | _ => m.o
  let disp : Int := (base - m.o).toInt + d
  if 2 ^ 47 ≤ disp ∨ disp ≤ -(2 ^ 47) then none else some (base + BitVec.ofInt 48 d)

/-- A motion comes into force (R154, R161). -/
def State.force (s : State) (n : Nat) (x : Motion) (rel : Option (Int × BitVec 32)) : State :=
  match rel with
  | some (d, tag) => match (s.mot n).relative d with
    | some t => s.updMot n (fun m => { m with motion := some (.move t), replan := true, moveDone := false })
    | none => s.profileVoid n tag 0x0200 2
  | none => s.updMot n (fun m => { m with motion := some x, replan := true, moveDone := false, seg := none })

/-- A motion command takes effect on an axis (R154, R155, R170). -/
def State.motionEffect (s : State) (n : Nat) (st : AxisSt) (x : Motion) (rel : Option (Int × BitVec 32)) (tag : BitVec 32)
    (opcode : Nat) : State :=
  match st with
  | .run => match rel with
    | some (d, _) => if ((s.mot n).relative d).isNone then s.profileVoid n tag opcode 2 else (s.endMotion n).force n x rel
    | none => (s.endMotion n).force n x rel
  | .hold => s.updMot n (fun m => { m with pend := some x, pendRel := rel })
  | .coast => s.updMot n (fun m => { m with pend := some x, pendRel := rel })
  | .stopRamp => s.updMot n (fun m => { m with pend := some x, pendRel := rel })
  | _ => s.profileVoid n tag opcode 1

/-- The references of a SEGMENT or AUX axis. -/
def MotionRt.ref (m : MotionRt) (i : Nat) : Rat := m.refs.getD i 0

/-- The type's motion kind: SERVO and STEPPER axes run position motions, SEGMENT and AUX axes references (Table 4.2). -/
def AxisType.positional : AxisType → Bool
  | .servo => true | .stepper => true | _ => false

/-- What a change of the axis state does to the profile generator (R154, R161, R170, R171), before the state changes. -/
def State.motionHook (s : State) (n : Nat) (ty : AxisType) (from_ to_ : AxisSt) (quick : Bool) : State :=
  let s := if from_ = .run ∧ to_ ≠ .run then
      match (s.mot n).motion with
      | some .table => (s.endMotion n).toRest n
      | some (.group _) => (s.endMotion n).toRest n
      | _ => s
    else s
  match to_ with
  | .stopRamp => s.updMot n (fun m => { m with pend := none, pendRel := none, replan := true, quick := quick, standstill := false })
  | .hold => s.updMot n (fun m =>
      { m with enterHold := true, replan := false, plan := none, moveDone := false, vel := 0, acc := 0,
               motion := some (match ty with
                 | .segment => .reference 0 0
                 | .aux => .reference (m.ref 0) 0
                 | _ => .move m.o),
               refs := match ty with | .aux => [m.ref 0] | _ => [] })
  | .run =>
    let m := s.mot n
    let s := s.updMot n (fun m => { m with replan := true, pend := none, pendRel := none })
    (match m.pend with
     | some x => s.force n x m.pendRel
     | none => s)
  | .coast => s.updMot n (fun m => { m with replan := true, plan := none, refs := [] })
  | .ready =>
    if from_ = .off then
      s.updMot n (fun m =>
        { m with pend := none, pendRel := none, plan := none, replan := false, moveDone := false,
                 points := [], pointSeq := 0, seg := none, band := 0, refs := [], first := true, standstill := false, vel := 0, acc := 0,
                 motion := some (if ty.positional then .move m.o else .reference 0 0) })
    else (s.discardPoints n).updMot n (fun m => { m with pend := none, pendRel := none, plan := none, refs := [] })
  | .faulted => (s.discardPoints n).updMot n (fun m => { m with pend := none, pendRel := none, plan := none, refs := [] })
  | .off => s.discardPoints n

end Sys2Proof.Machine
end

