-- ==== Sys2Proof/Machine/Axes.lean ====
section
/-!
DEFINITION. The axis states and their transitions (Table 2.3, R57 to R65), and what entering a state does to the law, the
coefficients and the coupling table.
-/
namespace Sys2Proof.Machine

/-- COUPLING_GROUP of an axis, none for NONE. -/
def State.cplGroup (s : State) (n : Nat) : Option Nat := (s.fldO (tgtAxis n) 0x0208 23 0).map Int.toNat

/-- RING_POS of an axis. -/
def State.ringPos (s : State) (n : Nat) : Nat := s.fld (tgtAxis n) 0x0208 24 0

/-- The members of a coupling group in the map in force. -/
def State.cplMembers (s : State) (g : Nat) : List Axis :=
  s.axes.filter (fun a => a.entry.ty == .segment && s.cplGroup a.entry.axis == some g)

/-- The entry of a ring position as it is read: 0 where the position has no member or its member is in OFF (R78). -/
def State.cplEntry (s : State) (g q : Nat) : BitVec 32 :=
  if (s.cplMembers g).any (fun a => s.ringPos a.entry.axis == q && a.st != .off) then (kvGet s.coupling.rd (g, q)).getD 0 else 0

/-- The coupling-table entry of an axis is set to 0 (R64). -/
def State.zeroCoupling (s : State) (n : Nat) : State :=
  match s.cplGroup n with
  | some g => { s with coupling := { s.coupling with rd := kvDel s.coupling.rd (g, s.ringPos n), wr := kvDel s.coupling.wr (g, s.ringPos n) } }
  | none => s

/-- The states that a mask selects set to 0 (R64). -/
def zeroMasked (mask : Nat) (x : List (BitVec 32)) : List (BitVec 32) :=
  (List.range x.length).map (fun i => if bit mask i then 0 else x.getD i 0)

/-- The AUTO exponents of an axis become unfixed when it enters OFF, and those of its coupling group when no member is left in
another state (R88, R101). -/
def State.unfixAt (s : State) (n : Nat) : State :=
  let s := s.updAxis n (fun a => { a with coef := { a.coef with fixed := [] } })
  match s.cplGroup n with
  | some g =>
    if (s.cplMembers g).all (fun a => a.st == .off) then
      { s with coupling := { s.coupling with coef := s.coupling.coef.map (fun p => if p.1 = g then (p.1, { p.2 with fixed := [] }) else p) } }
    else s
  | none => s

/-- An axis enters a state (R57, R64, R88, R154). -/
def State.enter (s : State) (n : Nat) (to_ : AxisSt) (quick : Bool := false) : State :=
  match s.axis? n with
  | none => s
  | some a =>
    let from_ := a.st
    let s := s.motionHook n a.entry.ty from_ to_ quick
    let s := s.updAxis n (fun x => { x with st := to_ })
    match from_, to_ with
    | .off, .ready =>
      let s := s.updAxis n (fun x =>
        { x with law := { x.law with xhat := [], u := [], uApp := [], duty := [] }, snap := { x.snap with acq := [] }, coef := { x.coef with gen := 0 },
                 mot := if x.dec.posValid then { x.mot with o := x.dec.pos, oPrev := x.dec.pos } else x.mot })
      let s := s.updMot n (fun m => { m with motion := match m.motion with | some (.move _) => some (.move m.o) | x => x })
      s.zeroCoupling n
    | .ready, .off => s.unfixAt n
    | .ready, .hold | .coast, .hold =>
      let mask := s.fld (tgtAxis n) 0x0208 21 0
      s.updAxis n (fun x => { x with law := { x.law with xhat := zeroMasked mask x.law.xhat } })
    | _, _ => s

/-! ### Sources of an axis (R505, R514) -/

/-- A fault at a location concerns an axis (R505): by its scope, its axis, its node, its branch, or every axis. -/
def State.concerns (s : State) (code : Nat) (loc : Loc) (n : Nat) : Bool :=
  let node := (s.axis? n).map (fun a => a.entry.node)
  match ({ code := code, loc := loc } : FaultRep).scope with
  | 0 => loc.axis == some n
  | 1 => node == some (loc.num % 2048 / 256 * 8 + loc.num % 8)
  | 2 => if loc.num < 8 then (match node with | some i => i / 8 == loc.num | none => false) else true
  | 3 => true
  | _ => false

/-- An F2 source of the axis is active (R514). -/
def State.f2Active (s : State) (n : Nat) : Bool :=
  s.faults.active.any (fun a => a.cls == .f2 && s.concerns a.code a.loc n)

/-- A SYSTEM F2 source is active (R514); a PORT source of a trunk, relay or weir link counts as one (R505). -/
def State.systemF2Active (s : State) : Bool :=
  s.faults.active.any (fun a => a.cls == .f2
    && (match ({ code := a.code, loc := a.loc } : FaultRep).scope with | 3 => true | 2 => decide (8 ≤ a.loc.num) | _ => false))

/-- An F2 or F3 makes an axis FAULTED (R57, R62): any state but OFF and FAULTED; an F3 takes every state. -/
def State.faultAxis (s : State) (n : Nat) : State :=
  match s.axis? n with
  | some a => if a.st = .off ∨ a.st = .faulted then s else s.enter n .faulted
  | none => s

/-! ### Commands of Table 2.3 -/

/-- The transition that a command of Table 2.3 has from a state; `src`: an F2 source of the axis is active. -/
def transition (opcode : Nat) (st : AxisSt) (src : Bool) : Option AxisSt :=
  match opcode, st with
  | 0x0100, .off => some .ready
  | 0x0101, .ready => some .off
  | 0x0102, .ready => some .hold
  | 0x0102, .coast => some .hold
  | 0x0103, .hold => some .run
  | 0x0103, .coast => some .run
  | 0x0104, .run => some .stopRamp
  | 0x0105, .hold => some .stopRamp
  | 0x0105, .run => some .stopRamp
  | 0x0105, .stopRamp => some .stopRamp
  | 0x0106, .hold => some .coast
  | 0x0106, .run => some .coast
  | 0x0106, .stopRamp => some .coast
  | 0x0107, .hold => some .ready
  | 0x0107, .coast => some .ready
  | 0x0108, .faulted => if src then none else some .ready
  | _, _ => none

/-- AXIS_STOP, QUICK_STOP and AXIS_COAST are never refused and never void (R59). -/
def neverVoid (opcode : Nat) : Bool := opcode == 0x0104 || opcode == 0x0105 || opcode == 0x0106

/-- AXIS_CMD_VOID (R61, R591). -/
def State.axisVoid (s : State) (n : Nat) (tag : BitVec 32) (opcode stCode : Nat) : State :=
  s.event 0x401 n (toLe 4 tag.toNat ++ toLe 2 opcode ++ [BitVec.ofNat 8 stCode])

/-- A command of Table 2.3 takes effect on an axis (R57, R59 to R61). After an F3 no axis leaves FAULTED. -/
def State.axisCommand (s : State) (opcode n : Nat) (tag : BitVec 32) : State :=
  match s.axis? n with
  | none => if neverVoid opcode then s else s.axisVoid n tag opcode 0xF
  | some a =>
    match transition opcode a.st (s.f2Active n || s.faults.f3) with
    | some to_ => s.enter n to_ (opcode == 0x0105)
    | none => if neverVoid opcode then s else s.axisVoid n tag opcode (axisStCode a.st)

/-- The automatic transition of R65 and the marks of a new due period, before every command of the cycle. -/
def State.beginDue (s : State) (n : Nat) : State :=
  let s := s.updMot n (fun m => { m with first := false, enterHold := false })
  match s.axis? n with
  | some a => if a.st = .stopRamp ∧ a.mot.standstill then s.enter n .hold else s
  | none => s

end Sys2Proof.Machine
end

