-- ==== Sys2Proof/Machine/Switches.lean ====
section
/-!
DEFINITION. The parameter set in force (Table 11.6), when a channel holds its switches off (R450 to R453), and how the
switches of the safe drive outputs follow (R480 to R483, R488).
-/
namespace Sys2Proof.Machine

/-! ### The parameter set in force -/

/-- A byte of the parameter set in force; a set not yet taken reads 0. -/
def State.setByte (s : State) (o : Nat) : Nat := byteAt s.safety.setInForce o

/-- IN_FLAGS of SIn: ENABLE, MODE, RESTART. -/
def State.siEnabled (s : State) (n : Nat) : Bool := bit (s.setByte (4 + 8 * n)) 0
def State.siAntivalent (s : State) (n : Nat) : Bool := bit (s.setByte (4 + 8 * n)) 1
def State.siManual (s : State) (n : Nat) : Bool := bit (s.setByte (4 + 8 * n)) 2

/-- OFF_DELAY of SIn in ms. -/
def State.siOffDelay (s : State) (n : Nat) : Nat := le s.safety.setInForce (8 + 8 * n) 2

/-- OUT_MASK of SIn names output m. -/
def State.siHolds (s : State) (n m : Nat) : Bool := bit (s.setByte (0x0A + 8 * n)) m

/-- USE of SDOm is SAFE. -/
def State.sdoSafe (s : State) (m : Nat) : Bool := s.setByte (0x44 + 8 * m) == 1

/-- Seal bit 2 at start: test pulses run (R456). -/
def State.testsEnabled (s : State) : Bool := s.safety.sealStart.getLsbD 2

/-! ### Holding off (R450 to R452) -/

/-- The lane is locked out: a channel acts on the other's lock-out line as on its own (R443). -/
def State.lockedOut (s : State) : Bool := s.safety.proc.lockout || s.safety.dyke.lockout

/-- Both channels hold every switch off (R452). -/
def State.gateDisabled (s : State) : Bool := !s.safety.startDone || s.lockedOut || s.faults.sysF2 || s.faults.f3

/-- An input holds the output in a channel's copy. -/
def State.inputHolds (s : State) (c : Chan) (m : Nat) : Bool :=
  (List.range 8).any (fun n => s.siHolds n m && (match (c.ins.getD n {}).st with | .demand => true | .waitRestart => true | _ => false))

/-- OFF_P[m]: the processor's hold-off decision (R443, R450). -/
def State.offP (s : State) (m : Nat) : Bool :=
  s.gateDisabled || !(s.safety.release.getD m false) || s.inputHolds s.safety.proc m

/-- OFF_D[m]: the dyke's hold-off decision (R443, R451). -/
def State.offD (s : State) (m : Nat) : Bool := s.gateDisabled || s.inputHolds s.safety.dyke m

/-- The block is powered and nothing of chapter 12 holds the output off (R486 to R488, R496). -/
def State.driverFree (s : State) (m : Nat) : Bool :=
  s.drivers.supplyOn && s.drivers.vbrgOk && s.drivers.cpOk
    && (match s.drivers.outs[m]? with | some o => !o.shorted && !o.failed | none => false)

/-- The high-side switch of a safe output may be on (R450), and the low-side switch (R451). -/
def State.highAllowed (s : State) (m : Nat) : Bool :=
  !s.safety.proc.off.getD m true && !s.safety.dyke.off.getD m true && !s.safety.proc.dark.getD m false

def State.lowAllowed (s : State) (m : Nat) : Bool :=
  !s.safety.dyke.off.getD m true && !s.safety.proc.off.getD m true && !s.safety.dyke.dark.getD m false

/-- Release requests are cleared for every output (R453). -/
def State.clearReleases (s : State) : State := { s with safety := { s.safety with release := List.replicate 4 false } }

/-- SDO_MODE of output m of this lane is BRIDGE. -/
def State.sdoBridge (s : State) (m : Nat) : Bool := s.fld tgtCluster 0x0C03 1 0 m (Lane.num s.lane) == 1

/-- SDO_CMD of output m of this lane is ON. -/
def State.sdoOnCmd (s : State) (m : Nat) : Bool := s.fld tgtCluster 0x0C03 2 0 m (Lane.num s.lane) == 1

/-! ### Switching -/

/-- A switch turned on or off (R489, R492). A gate that was on measures below 1.0 V again only later (R483, R497). -/
def Switch.turn (sw : Switch) (on : Bool) : Switch :=
  if on then (if sw.cmd && sw.on then sw else { sw with cmd := true, on := true, waiting := false, proven := false, low := false, soft := false })
  else if sw.cmd || sw.on || sw.waiting then { sw with cmd := false, on := false, waiting := false }
  else sw

/-- The switches of an output as the conditions stand now; a bridge leg that may run is left to its PWM periods (R480, R481). -/
def State.settleOutput (s : State) (m : Nat) : State :=
  let free := s.driverFree m
  if s.sdoSafe m then
    let h := free && s.highAllowed m
    let l := free && s.lowAllowed m
    s.updSdo m (fun o => { o with hs := o.hs.turn h, ls := o.ls.turn l })
  else
    let run := free && !s.gateDisabled && s.voting && s.sdoOnCmd m
    if s.sdoBridge m then
      if run then s else s.updSdo m (fun o => { o with hs := o.hs.turn false, ls := o.ls.turn false })
    else s.updSdo m (fun o => { o with hs := o.hs.turn run, ls := o.ls.turn run })

/-- A test that ran on an output which went off for another cause yields (R459). -/
def State.supersede (s : State) (m : Nat) : State :=
  match s.safety.tests[m]? with
  | some t =>
    if t.phase ≠ 0 && (s.safety.proc.off.getD m true || s.safety.dyke.off.getD m true || !s.driverFree m) then
      let sw := if t.phase = 1 then 1 else 2
      let (k, s) := s.draw
      let s := { s with safety := { s.safety with
        tests := setAt s.safety.tests m { t with phase := 0, due := false }, supersededSeen := true,
        proc := { s.safety.proc with dark := setAt s.safety.proc.dark m false },
        dyke := { s.safety.dyke with dark := setAt s.safety.dyke.dark m false } } }
      s.reportEvent { code := 0x5C2, payload := [BitVec.ofNat 8 (Lane.num s.lane), BitVec.ofNat 8 m, BitVec.ofNat 8 sw, 2,
        Config.openByte k 0, Config.openByte k 1] }
    else s
  | none => s

/-- Cross lines and switches follow every change of what they depend on (R443, R450 to R453, R459). A system F2, an F3 or a
lock-out clears the release requests. -/
def State.settle (s : State) : State :=
  let s := if s.faults.sysF2 || s.faults.f3 || s.lockedOut || !s.voting then s.clearReleases else s
  let s := { s with safety := { s.safety with
    proc := { s.safety.proc with off := (List.range 4).map s.offP },
    dyke := { s.safety.dyke with off := (List.range 4).map s.offD } } }
  let s := (List.range 4).foldl State.supersede s
  (List.range 4).foldl State.settleOutput s

/-! ### Lock-out (R469) -/

/-- The inputs of a channel at safety start and at lock-out: every enabled one in DEMAND. -/
def demandAll (en : Nat → Bool) (c : Chan) : Chan :=
  { c with ins := (List.range 8).map (fun n =>
      let i := c.ins.getD n {}
      if en n then { i with st := .demand, delay := false } else { i with st := .clear, delay := false }) }

/-- A safety F2 or F3 locks the lane out: both channels follow, every SDO goes off, inputs go to DEMAND and the release
requests are cleared (R469); the F2 sets the system-F2 line of the detecting lane at once (R513). `by_` is bit 0 for the
processor, bit 1 for the dyke. -/
def State.lockOut (s : State) (code : Nat) (by_ : Nat) (f3 : Bool) : State :=
  let sf := s.safety
  let again := s.lockedOut && sf.lockoutCause.toNat == code
  let s := { s with safety := { sf with
    proc := { demandAll s.siEnabled sf.proc with lockout := true }, dyke := { demandAll s.siEnabled sf.dyke with lockout := true },
    lockoutId := if again then sf.lockoutId else sf.lockoutId + 1,
    lockoutBy := if again then sf.lockoutBy ||| BitVec.ofNat 2 by_ else BitVec.ofNat 2 by_,
    lockoutCause := BitVec.ofNat 12 code, lockoutF3 := (s.lockedOut && sf.lockoutF3) || f3,
    release := List.replicate 4 false, ackPending := none } }
  let s := if f3 then s else { s with faults := { s.faults with sysF2 := true } }
  s.settle

/-- A safety F2: the lock-out and its lane report, with the LOCKOUT event after the record (R469, R474, R475). A source that
is active already is no new fault (R504). -/
def State.safetyF2 (s : State) (code : Nat) (by_ : Nat) (loc : Loc) : State :=
  let s := s.lockOut code by_ false
  s.reportL { code := code, cls := .f2, loc := loc, event := some { code := 0x5C3, payload :=
    [BitVec.ofNat 8 (Lane.num s.lane), s.safety.lockoutId, BitVec.ofNat 8 s.safety.lockoutBy.toNat] ++ toLe 2 code } }

end Sys2Proof.Machine
end

