-- ==== Sys2Proof/Machine/Collector.lean ====
section
/-!
DEFINITION. The fault collector: taking a fault, handling timers, escalation, the notice queue, F2 reactions and the ends of
faults (R506 to R517).
-/
namespace Sys2Proof.Machine

/-- The next instance number (R507). -/
def nextInst (i : BitVec 32) : BitVec 32 := if i = 0xFFFFFFFE then 1 else i + 1

/-- N of R508. -/
def State.handlingCycles (s : State) : Nat := ceilDiv (s.fld tgtCluster 0x0D02 0 0) s.tNs

/-- The event a source's chapter names directly follows its record (R507). -/
def State.eventAfter (s : State) (r : FaultRep) : State :=
  match r.event with
  | some e => s.eventBody e r.lane
  | none => s

/-- Two faults share a handling scope (R511): the axis for scope AXIS, otherwise the source. -/
def sameHandling (a b : FaultRep) : Bool :=
  if a.scope = 0 ∧ b.scope = 0 then a.loc.axis == b.loc.axis
  else a.code == b.code && a.loc == b.loc

/-- An F2 that came through the command order reaches an axis in its first due cycle, as a command would (R60, R62). -/
def State.faultDue (s : State) (r : FaultRep) (n : Nat) : State :=
  match s.axis? n with
  | some a => if s.common && !s.due a then s.updAxis n (fun x => { x with waiting := x.waiting ++ [{ body := .fault r }] }) else s.faultAxis n
  | none => s

/-- An F2 acts (R513). -/
def State.actF2 (s : State) (r : FaultRep) : State :=
  let ns := (s.axes.map (·.entry.axis)).filter (fun n => s.concerns r.code r.loc n)
  let s := ns.foldl (fun s n => s.faultDue r n) s
  let sys := r.scope = 3 ∨ (r.scope = 2 ∧ 8 ≤ r.loc.num)
  let was := s.faults.f2Seen
  let s := { s with faults := { s.faults with f2Seen := true, sysF2 := s.faults.sysF2 || decide sys } }
  let s := s.irq7 was
  if sys then s.settle else s

/-- The source of a kind L fault becomes active, or takes the class to which its fault rose (R504, R514). -/
def State.activate (s : State) (r : FaultRep) (c : FClass) : State :=
  if r.kindL then
    { s with faults := { s.faults with
      active := s.faults.active.filter (fun a => !(a.code == r.code && a.loc == r.loc)) ++ [{ code := r.code, loc := r.loc, cls := c, inst := s.faults.inst }] } }
  else s

/-- The raised-class of a source that is active already (R511): an escalated F1 counts as an F2 source. -/
def State.raiseActive (s : State) (r : FaultRep) : State :=
  { s with faults := { s.faults with
    active := s.faults.active.map (fun a => if a.code == r.code && a.loc == r.loc then { a with cls := .f2 } else a) } }

/-- A fault takes effect in the collector: numbered, recorded, timed, queued or escalated (R507 to R512). It answers the F2s
that are to act. -/
def State.takeFault (s : State) (r : FaultRep) : State × List FaultRep :=
  if r.kindL && s.isActive r.code r.loc then (s, [])
  else
    let c := s.clock.cycle
    let i := nextInst s.faults.inst
    let was := s.faults.escSeen
    let s := { s with faults := { s.faults with inst := i } }
    match s.faults.timers.find? (fun t => sameHandling t.rep r), r.cls with
    | some t, .f1 | some t, .f2 | some t, .f3 =>
      let s := { s with faults := { s.faults with timers := s.faults.timers.filter (fun x => x.inst ≠ t.inst), escSeen := true } }
      let s := s.raiseActive t.rep
      let s := s.activate r .f2
      let s := s.faultRecord frEscalated t.rep.code 2 t.rep.loc t.rep.lane t.inst.toNat 0 t.start
      let s := s.faultRecord frEscalated r.code 2 r.loc r.lane i.toNat 0 c
      ((s.irq7 was).eventAfter r, [t.rep, r])
    | _, .f0 =>
      let s := s.activate r .f0
      if s.faults.timers.isEmpty then ((s.faultRecord frRaised r.code 0 r.loc r.lane i.toNat 0 c).eventAfter r, [])
      else if s.faults.queue.length < 32 then
        ({ s with faults := { s.faults with queue := s.faults.queue ++ [{ inst := i, rep := r, raised := c }] } }, [])
      else (({ s with faults := { s.faults with dropped := s.faults.dropped + 1, lostSeen := true } } : State).irq7 s.faults.lostSeen, [])
    | none, .f1 =>
      let n := s.handlingCycles
      let s := s.activate r .f1
      let s := s.faultRecord frRaised r.code 1 r.loc r.lane i.toNat n c
      (({ s with faults := { s.faults with timers := s.faults.timers ++ [{ inst := i, rep := r, start := c, expiry := c + n }] } } : State).eventAfter r, [])
    | none, k =>
      let s := s.activate r k
      ((s.faultRecord frRaised r.code k.num r.loc r.lane i.toNat 0 c).eventAfter r, if k = .f2 then [r] else [])

/-- A fault that takes effect outside the command order, in a lane that runs its collector on its own (R517): F2s act at once. -/
def State.takeNow (s : State) (r : FaultRep) : State :=
  let (s, l) := s.takeFault r
  l.foldl State.actF2 s

/-- A timer is stopped with a record of a kind (R509). -/
def State.stopTimer (s : State) (kind : Nat) (t : Timer) : State :=
  let s := { s with faults := { s.faults with timers := s.faults.timers.filter (fun x => x.inst ≠ t.inst) } }
  s.faultRecord kind t.rep.code 1 t.rep.loc t.rep.lane t.inst.toNat 0 t.start

/-- The condition of a kind L source has ended (R504, R509). -/
def State.endSource (s : State) (code : Nat) (loc : Loc) : State :=
  let s := { s with faults := { s.faults with active := s.faults.active.filter (fun a => !(a.code == code && a.loc == loc)) } }
  match s.faults.timers.find? (fun t => t.rep.code == code && t.rep.loc == loc) with
  | some t => s.stopTimer frEnded t
  | none => s

/-- FAULT_ACK: the instance named, or every running timer (R509). -/
def State.ack (s : State) (inst : Nat) : State :=
  (s.faults.timers.filter (fun t => inst == 0xFFFFFFFF || t.inst.toNat == inst)).foldl (fun s t => s.stopTimer frHandled t) s

/-- A timer of this cycle expires: an ESCALATED record and an F2 of its scope (R510). -/
def State.expire (s : State) (t : Timer) : State :=
  let was := s.faults.escSeen
  let s := { s with faults := { s.faults with timers := s.faults.timers.filter (fun x => x.inst ≠ t.inst), escSeen := true } }
  let s := s.raiseActive t.rep
  let s := s.faultRecord frEscalated t.rep.code 2 t.rep.loc t.rep.lane t.inst.toNat 0 t.start
  (s.irq7 was).actF2 t.rep

/-- Queued notices are released once no handling timer runs, then QUEUE_LOST (R512). -/
def State.releaseQueue (s : State) : State :=
  if s.faults.timers.isEmpty && (!s.faults.queue.isEmpty || s.faults.dropped ≠ 0) then
    let q := s.faults.queue
    let d := s.faults.dropped
    let s := { s with faults := { s.faults with queue := [], dropped := 0 } }
    let s := q.foldl (fun s n =>
      (s.faultRecord frRaised n.rep.code 0 n.rep.loc n.rep.lane n.inst.toNat (s.clock.cycle - n.raised) n.raised).eventAfter n.rep) s
    if d = 0 then s
    else s.record (s.mkRec s.sourceAll 0xFF (0x3C2 + 2 ^ 14)
      ([BitVec.ofNat 8 frQueueLost, 0xFF] ++ toLe 2 0 ++ toLe 4 0 ++ toLe 2 d ++ toLe 2 s.clock.cycle))
  else s

/-- The CLEARED record of FAULT_CLEAR (R514, R524). -/
def State.clearedRecord (s : State) : State :=
  s.record (s.mkRec s.sourceAll 0xFF (0x3C3 + 2 * 4096 + 2 ^ 14)
    ([BitVec.ofNat 8 frCleared, 0xFF] ++ toLe 2 0 ++ toLe 4 0 ++ toLe 2 0 ++ toLe 2 s.clock.cycle))

/-- A fault that the computation of this cycle detects on an axis (R62, R506): recorded at the window's close in axis and code
order; an F2, or an F1 that meets another one of its axis, makes the axis FAULTED within the cycle (R511). -/
def State.computed (s : State) (r : FaultRep) : State :=
  if r.kindL && (s.isActive r.code r.loc || s.faults.computed.any (fun q => q.code == r.code && q.loc == r.loc)) then s
  else
    let other := s.faults.timers.any (fun t => sameHandling t.rep r)
      || s.faults.computed.any (fun q => sameHandling q r && decide (1 ≤ q.cls.num))
    let s := { s with faults := { s.faults with computed := s.faults.computed ++ [r] } }
    match r.cls, r.loc.axis with
    | .f2, some n => s.faultAxis n
    | .f1, some n => if other then s.faultAxis n else s
    | _, _ => s

/-- The faults of the computation are taken, in axis order and within an axis by code (R507). -/
def State.takeComputed (s : State) : State :=
  let l := sortBy (fun (r : FaultRep) => r.loc.axis.getD 255 * 4096 + r.code) s.faults.computed
  l.foldl State.takeNow { s with faults := { s.faults with computed := [] } }

/-- The condition of a kind L source detected in the computation has ended. -/
def State.computedEnd (s : State) (code : Nat) (loc : Loc) : State := if s.isActive code loc then s.endSource code loc else s

/-- A lane that runs its collector on its own takes its own reports at once (R517); in VOTING they wait for the command order. -/
def State.collectOwn (s : State) : State :=
  if s.common then s
  else
    let l := s.faults.reports
    let s := { s with faults := { s.faults with reports := [] } }
    let bodies := s.order.held.filterMap (·.body)
    let s := { s with order := { s.order with held := s.order.held.filter (fun h => h.body.isNone) } }
    let s := l.foldl State.takeNow s
    bodies.foldl (fun s b => match b with
      | .event e => s.eventBody e (some s.lane)
      | .safetyDemand _ e => s.eventBody e (some s.lane)
      | .sourceEnded code loc => s.endSource code loc
      | .fault r => s.takeNow r
      | _ => s) s

end Sys2Proof.Machine
end

