-- ==== Sys2Proof/Machine/Feedback.lean ====
section
/-!
DEFINITION. Position and speed feedback (R186 to R225): decoding of position records, references, index checking, direction,
speed and angle, and the local channels.
-/
namespace Sys2Proof.Machine

/-! ### Phase (R206) -/

/-- atan(2^−i) in 2^−46 turns. -/
def atanTable : List Int :=
  [8796093022208, 5192636917629, 2743646738361, 1392717924215, 699061552022, 349871560257, 174978471690, 87494575221,
   43747955124, 21874061004, 10937040932, 5468521770, 2734261048, 1367130544, 683565275, 341782638, 170891319,
   85445659, 42722830, 21361415, 10680707, 5340354, 2670177, 1335088, 667544, 333772, 166886, 83443, 41722, 20861,
   10430, 5215, 2608, 1304, 652, 326, 163, 81, 41, 20]

/-- Vectoring: the angle of (x, y) with x > 0 and y ≥ 0, in 2^−46 turns, after the steps of the table from `i`. -/
def vectoring : List Int → Nat → Int → Int → Int → Int
  | [], _, _, _, z => z
  | t :: r, i, x, y, z =>
    if 0 ≤ y then vectoring r (i + 1) (x + y / 2 ^ i) (y - x / 2 ^ i) (z + t)
    else vectoring r (i + 1) (x - y / 2 ^ i) (y + x / 2 ^ i) (z - t)

/-- The quadrant qp of the phase of a sine and a cosine (R206). -/
def quadrantOf (s c : Int) : Nat :=
  if 0 < c ∧ 0 ≤ s then 0 else if c ≤ 0 ∧ 0 < s then 1 else if c < 0 ∧ s ≤ 0 then 2 else if s < 0 then 3 else 0

/-- The phase φ in 2^−20 turns (R206): nearest to the angle, with the free last unit, within its quadrant. -/
def phaseOf (s c : Int) : Nat :=
  let q := quadrantOf s c
  let (x, y) : Int × Int := match q with
    | 0 => (c, s) | 1 => (s, -c) | 2 => (-c, -s) | _ => (-s, c)
  let z := vectoring atanTable 0 (x * 2 ^ 40) (y * 2 ^ 40) 0
  let u := (z + 2 ^ 25) / 2 ^ 26 + clampI (-1) 1 (Config.atanDev s c)
  (clampI 0 (2 ^ 18 - 1) u).toNat + q * 2 ^ 18

/-- φ × 2^FB_SHIFT in 2^−16 counts (R206). -/
def phaseCounts (phi shift : Nat) : Int :=
  let n := phi * 2 ^ shift
  (n / 16 + (if n % 16 = 0 then 0 else min 1 (Config.phaseDev phi shift)) : Nat)

/-! ### Records -/

/-- A position record as the decoder takes it: its form (Table 5.2) and bytes (Table 5.4). FSTAT[7:6] of a local channel's
record carry the model's own marks: loss of signal, and a Hall state that is none of HALL_MAP. -/
structure PosRec where
  form : Nat := 0
  bytes : List Byte := []
deriving DecidableEq, Repr

/-- FSTAT (Tables 5.4 and 5.5). -/
def PosRec.fstat (r : PosRec) : Nat := byteAt r.bytes (match r.form with | 1 => 4 | 2 => 8 | 3 => 1 | _ => 4)

/-- The node vouches for the record and its sensor stands (R198). -/
def PosRec.good (r : PosRec) : Bool := bit r.fstat 0 && !bit r.fstat 4

/-- The signed 16-bit difference a − b of two counters (R203). -/
def diff16 (a b : Nat) : Int := toSigned 16 (a + 65536 - b % 65536)

/-- The value nearest `last` that is congruent to `x` modulo `m`, the lower one where two are equally near (R200). -/
def nearestCong (last x m : Int) : Int :=
  let r := (x - last) % m
  if 2 * r < m then last + r else last + r - m

/-- Binary value of a Gray-coded field (R209). -/
def grayDecode (w g : Nat) : Nat :=
  (List.range w).foldl (fun b i => b + (if ((List.range (w - i)).filter (fun k => bit g (i + k))).length % 2 = 1 then 2 ^ i else 0)) 0

/-- The fields of Table 5.9 of an axis, by row. -/
abbrev FbFields := Nat → Nat

/-- +1, or −1 with FB_INVERT set (R201). -/
def FbFields.sense (f : FbFields) : Int := if f 1 = 1 then -1 else 1

/-- 2^FB_SHIFT counts in 2^−16 counts (R201). -/
def FbFields.native (f : FbFields) : Int := 2 ^ (16 + f 0)

/-- Position field of a serial word (R209). -/
def serField (f : FbFields) (r : PosRec) : Nat :=
  let v := be r.bytes 0 4 / 2 ^ f 6 % 2 ^ f 5
  if f 7 = 1 then grayDecode (f 5) v else v

/-- The serial record passes its parity and error checks and FSTAT[5] (R209). -/
def serPass (f : FbFields) (r : PosRec) : Bool :=
  let w := be r.bytes 0 4
  let ones := ((List.range (f 4)).filter (bit w)).length
  let par := match f 10 with | 1 => ones % 2 == 0 | 2 => ones % 2 == 1 | _ => true
  let err := if f 8 = noneValue then true else b2n (bit w (f 8)) != f 9
  par && err && !bit r.fstat 5

/-- The sector of a Hall state under HALL_MAP (R208). -/
def hallSector (map state : Nat) : Option Nat := (List.range 6).find? (fun i => bits map (3 * i + 2) (3 * i) == state)

/-- SIN and COS of a SINCOS record (Table 5.4). -/
def recSin (r : PosRec) : Int := toSigned 16 (be r.bytes 2 2)
def recCos (r : PosRec) : Int := toSigned 16 (be r.bytes 4 2)

/-- The amplitude lies within AMP_MIN to AMP_MAX (R207). -/
def ampInside (lo hi : Rat) (r : PosRec) : Bool :=
  let a2 : Rat := ((recSin r * recSin r + recCos r * recCos r : Int) : Rat) / (2 ^ 30 : Nat)
  decide (lo * lo ≤ a2 ∧ a2 ≤ hi * hi)

/-- e of R206. -/
def sincosE (qp qn : Nat) : Int := (((qp : Int) - qn + 1) % 4) - 1

/-- The offset of the position from base within a SINCOS record, in 2^−16 counts in the sense of the node: the phase's place, or
the centre of the quadrant where the amplitude lies outside (R206, R207). -/
def sincosOffset (f : FbFields) (inside : Bool) (r : PosRec) : Int :=
  let q := f.native / 4
  if inside then
    let phi := phaseOf (recSin r) (recCos r)
    let qp := phi / 2 ^ 18
    (sincosE qp (be r.bytes 0 2 % 4) - qp) * q + phaseCounts phi (f 0)
  else q / 2

/-- e is 2: an illegal transition (R206). -/
def sincosIllegal (inside : Bool) (r : PosRec) : Bool :=
  inside && sincosE (phaseOf (recSin r) (recCos r) / 2 ^ 18) (be r.bytes 0 2 % 4) == 2

/-! ### Decoder -/

/-- Moved by a change in 2^−16 counts, with 32.16 wrap (R201). -/
def Decoder.move (d : Decoder) (c : Int) : Decoder := { d with pos := d.pos + BitVec.ofInt 48 c, step := d.step + c }

/-- Illegal transitions of this period (R203, R205). -/
def Decoder.illegal (d : Decoder) (cycle n : Nat) : Decoder :=
  if n = 0 then d
  else { d with illWin := d.illWin ++ [(cycle, n)], illTotal := d.illTotal + BitVec.ofNat 32 n, illFlag := true }

/-- The window count of R205. -/
def Decoder.illCount (d : Decoder) : Nat := (d.illWin.map (·.2)).sum

/-- ILLCNT against its base, and FSTAT[3] (R203, R204). -/
def Decoder.illRecord (d : Decoder) (cycle n : Nat) (r : PosRec) : Decoder :=
  let di := (n % 16 + 16 - d.illBase.toNat) % 16
  let d := d.illegal cycle di
  { d with illBase := BitVec.ofNat 4 n, illFlag := d.illFlag || bit r.fstat 3 }

/-- A record that is no reference (R203, R206 to R209): the change of position and of the bases, and whether the position is
valid by the record's own decoding. -/
def Decoder.track (d : Decoder) (f : FbFields) (inside : Bool) (cycle : Nat) (r : PosRec) : Decoder :=
  let k := f.sense
  match r.form with
  | 1 =>
    let dc := diff16 (be r.bytes 0 2) d.count.toNat
    let d := { d with count := BitVec.ofNat 16 (be r.bytes 0 2), posValid := true }
    (d.move (k * dc * f.native)).illRecord cycle (byteAt r.bytes 5) r
  | 2 =>
    let dq := diff16 (be r.bytes 0 2) d.count.toNat
    let d := { d with count := BitVec.ofNat 16 (be r.bytes 0 2), base := d.base + BitVec.ofInt 48 (k * dq * (f.native / 4)) }
    let d := d.illRecord cycle (byteAt r.bytes 9) r
    if sincosIllegal inside r then { d.illegal cycle 1 with posValid := true }
    else
      let p := d.base + BitVec.ofInt 48 (k * sincosOffset f inside r)
      { d.move (p - d.pos).toInt with posValid := inside }
  | 3 =>
    (match hallSector (f 3) (byteAt r.bytes 0 % 8) with
     | none => { d with posValid := false }
     | some sct =>
       let st := (sct + 6 - d.sector) % 6
       let d := { d with sector := sct, posValid := true, illFlag := d.illFlag || bit r.fstat 3 }
       if st = 0 then d
       else if st = 1 then d.move (k * f.native)
       else if st = 5 then d.move (-(k * f.native))
       else d.illegal cycle 1)
  | 4 =>
    let v := serField f r
    let dw := toSigned (f 5) (v + 2 ^ f 5 - d.field.toNat % 2 ^ f 5)
    if serPass f r && decide (dw.natAbs * 2 ^ f 0 ≤ f 11) then
      { d.move (k * dw * f.native) with field := BitVec.ofNat 32 v, posValid := true, serCount := 0 }
    else { d with posValid := false, serCount := d.serCount + 1 }
  | _ => { d with posValid := false }

/-- The record can serve as a reference record (R200, R208, R209). -/
def canReference (f : FbFields) (inside : Bool) (r : PosRec) : Bool :=
  match r.form with
  | 1 => true
  | 2 => !sincosIllegal inside r
  | 3 => (hallSector (f 3) (byteAt r.bytes 0 % 8)).isSome
  | 4 => serPass f r
  | _ => false

/-- A record that cannot serve: what it counts (R200, R209). -/
def Decoder.refused (d : Decoder) (cycle : Nat) (r : PosRec) : Decoder :=
  match r.form with
  | 2 => { d.illegal cycle 1 with posValid := false }
  | 4 => { d with posValid := false, serCount := d.serCount + 1 }
  | _ => { d with posValid := false }

/-- The new position of a reference record, in 2^−16 counts (R200). -/
def refPos (d : Decoder) (f : FbFields) (inside : Bool) (r : PosRec) : Int :=
  let last := d.pos.toInt
  match r.form with
  | 2 =>
    let x := if inside then phaseCounts (phaseOf (recSin r) (recCos r)) (f 0)
      else (be r.bytes 0 2 % 4 : Nat) * (f.native / 4) + f.native / 8
    nearestCong last (f.sense * x) f.native
  | 4 =>
    let v : Int := if f 1 = 1 then (-(serField f r : Int)) % 2 ^ f 5 else serField f r
    nearestCong last (v * f.native) (2 ^ (16 + min 32 (f 5 + f 0)))
  | _ => last

/-- A reference record (R199, R200, R210, R212): the new position and bases, the index reference and a deferred shift dropped,
the direction state carried along. -/
def Decoder.reference (d : Decoder) (f : FbFields) (inside : Bool) (reason : Nat) (r : PosRec) : Decoder :=
  let p := BitVec.ofInt 48 (refPos d f inside r)
  let jump := p - d.pos
  let d := { d with
    pos := p, posValid := false, step := jump.toInt, refNeeded := none, lastRef := reason, refNow := true,
    index := none, deferred := none,
    turning := d.turning + jump, extreme := d.extreme + jump }
  match r.form with
  | 1 => { d with count := BitVec.ofNat 16 (be r.bytes 0 2), illBase := BitVec.ofNat 4 (byteAt r.bytes 5) }
  | 2 => { d with count := BitVec.ofNat 16 (be r.bytes 0 2), illBase := BitVec.ofNat 4 (byteAt r.bytes 9),
                  base := p - BitVec.ofInt 48 (f.sense * sincosOffset f inside r) }
  | 3 => { d with sector := (hallSector (f 3) (byteAt r.bytes 0 % 8)).getD 0 }
  | 4 => { d with field := BitVec.ofNat 32 (serField f r), serCount := 0 }
  | _ => d

/-! ### Index checking (R210, R211) -/

/-- Integer counts of a position (R201). -/
def intCounts (p : BitVec 48) : BitVec 32 := BitVec.ofNat 32 (p.toNat / 65536)

/-- The position of the latch that a record reports, if it reports one (R210). -/
def latchOf (d : Decoder) (f : FbFields) (r : PosRec) : Option (BitVec 32) :=
  if f 17 = 1 && bit r.fstat 1 then
    match r.form with
    | 1 => some (intCounts (d.pos - BitVec.ofInt 48 (f.sense * diff16 (be r.bytes 0 2) (be r.bytes 2 2) * f.native)))
    | 2 => some (intCounts (d.base - BitVec.ofInt 48 (f.sense * diff16 (be r.bytes 0 2) (be r.bytes 6 2) * (f.native / 4))))
    | _ => none
  else none

/-- Division with ties away from zero (R210). -/
def roundAway (a b : Int) : Int := if 0 ≤ a then (2 * a + b) / (2 * b) else -((2 * (-a) + b) / (2 * b))

/-- A latch is checked (R210, R211); a mismatch is answered with X, O, the consecutive count and the action of Table 5.11. -/
def Decoder.checkIndex (d : Decoder) (f : FbFields) (enabled : Bool) (o : BitVec 32) :
    Decoder × Option (BitVec 32 × BitVec 32 × Nat × Nat) :=
  match d.index with
  | none => ({ d with index := some o }, none)
  | some l =>
    let dlt := (o - l).toInt
    let n := roundAway dlt (f 19)
    let x := l + BitVec.ofInt 32 (n * f 19)
    if (dlt - n * f 19).natAbs ≤ f 20 then ({ d with index := some o, misCount := 0 }, none)
    else
      let c := d.misCount + 1
      if f 22 ≤ c then
        ({ d with index := some o, misCount := 0, policyDue := some (x - o).toInt },
         some (x, o, c, match f 21 with | 1 => (if enabled then 2 else 1) | 2 => 3 | _ => 0))
      else ({ d with index := some o, misCount := c }, some (x, o, c, 0))

/-- The position, L and everything that hangs on them shifted by δ counts (R212). -/
def Decoder.shift (d : Decoder) (delta : Int) : Decoder :=
  let b := BitVec.ofInt 48 (delta * 65536)
  { d with pos := d.pos + b, base := d.base + b, index := d.index.map (· + BitVec.ofInt 32 delta),
           turning := d.turning + b, extreme := d.extreme + b, hist := d.hist.map (fun h => { h with pos := h.pos + b }) }

/-! ### Direction (R213) -/

/-- The direction state after a period; true where a new direction was established. -/
def Decoder.direct (d : Decoder) (hyst : Nat) : Decoder :=
  let h : Int := hyst * 65536
  let back (o : BitVec 48) : Int := (d.pos - o).toInt
  let set (k : Int) (t : BitVec 48) : Decoder := { d with dir := k, turning := t, extreme := d.pos, dirFlag := true }
  if d.dir = 0 then
    if h ≤ back d.turning ∧ 0 < back d.turning then set 1 d.turning
    else if h ≤ -back d.turning ∧ back d.turning < 0 then set (-1) d.turning
    else d
  else
    let m := d.dir * back d.extreme
    if 0 < m then { d with extreme := d.pos }
    else if m < 0 ∧ h ≤ -m then set (-d.dir) d.extreme
    else d

/-! ### Speed (R214) -/

/-- SPEED held within its ends (R214). -/
def heldSpeed (v : Int) : Int × Bool := (clampI (-(2 ^ 31) + 1) (2 ^ 31 - 1) v, decide (-(2 ^ 31) + 1 ≤ v ∧ v ≤ 2 ^ 31 - 1))

/-- A rational in seconds from nanoseconds. -/
def secs (ns : Int) : Rat := (ns : Rat) / 1000000000

/-- SPEED and its validity from the past positions, newest first (R214). `ts` is the servo period and `t` the cycle in ns. -/
def speedOf (f : FbFields) (zeroNs : Rat) (ts t : Nat) (last : Int) (hist : List Hist) : Int × Bool :=
  let N := f 26
  match hist[0]?, hist[N]? with
  | some a, some b =>
    let ok := a.valid && b.valid
    let dp := (a.pos - b.pos).toInt
    if f 25 = 0 then
      let (v, r) := heldSpeed (roundEven ((dp : Rat) / 65536 / secs (N * ts : Nat)))
      (v, ok && r && !((hist.take N).any (·.isRef)))
    else
      let since := a.edgeTime.toNat * 50
      if N * ts ≤ since then
        let v := if a.edgeTime = 0xFFFF ∨ zeroNs < (since : Rat) then 0
          else
            let top := roundEven ((2 ^ f 0 : Nat) / secs since)
            if last < 0 then -(min (-last) top) else min last top
        (v, ok)
      else
        let dt : Int := ((a.cycle : Int) - b.cycle) * t - since + b.edgeTime.toNat * 50
        if dt ≤ 0 then (clampI (-(2 ^ 31) + 1) (2 ^ 31 - 1) (Config.speedDev dp dt), ok)
        else
          let (v, r) := heldSpeed (roundEven ((dp : Rat) / 65536 / secs dt))
          (v, ok && r)
  | _, _ => (last, false)

/-! ### A due period of an axis -/

/-- The fields of Table 5.9 of an axis. -/
def State.fb (s : State) (n : Nat) : FbFields := fun row => s.fld (tgtAxis n) 0x0509 row 0

/-- The decoder of an axis changed. -/
def State.updDec (s : State) (n : Nat) (f : Decoder → Decoder) : State := s.updAxis n (fun a => { a with dec := f a.dec })

/-- FB_REFERENCE (Table 5.11). -/
def State.fbReference (s : State) (n : Nat) (old new : BitVec 48) (reason : Nat) : State :=
  s.event 0x481 n (toLe 4 (intCounts old).toNat ++ toLe 4 (intCounts new).toNat ++ [BitVec.ofNat 8 reason])

/-- The axes whose ANGLE_SOURCE is an axis (R216). -/
def State.angleOf (s : State) (n : Nat) : List Nat :=
  (s.axes.filter (fun a => (a.entry.ty == .segment || a.entry.ty == .servo) && s.fld (tgtAxis a.entry.axis) 0x0208 10 0 == n)).map (·.entry.axis)

/-- COUNTS_PER_REV in 2^−16 counts. -/
def State.revCounts (s : State) (n : Nat) : Int := (s.fld (tgtAxis n) 0x0208 9 0 : Int) * 65536

/-- A shift takes effect (R212). -/
def State.applyShift (s : State) (n : Nat) (delta : Int) : State :=
  match s.axis? n with
  | none => s
  | some a =>
    let old := a.dec.pos
    let s := s.updDec n (fun d => { d.shift delta with deferred := none })
    let s := (s.angleOf n).foldl (fun s m => s.updDec m (fun d =>
      { d with mech := BitVec.ofInt 48 (((d.mech.toNat : Int) + delta * 65536) % s.revCounts m) })) s
    s.fbReference n old ((s.axis? n).map (·.dec.pos) |>.getD old) 5

/-- INDEX_MISMATCH (Table 5.11). -/
def State.indexMismatch (s : State) (n : Nat) (m : BitVec 32 × BitVec 32 × Nat × Nat) : State :=
  s.event 0x480 n (toLe 4 m.1.toNat ++ toLe 4 m.2.1.toNat ++ [BitVec.ofNat 8 m.2.2.1, BitVec.ofNat 8 m.2.2.2])

/-- DIR_CHANGE, or its suppression (R213). -/
def State.dirChange (s : State) (n : Nat) (d : Decoder) : State :=
  let c := s.clock.cycle
  if !d.dirFlag || s.fld (tgtAxis n) 0x0509 24 0 == 0 then s
  else if (match d.dirLast with | some l => decide (c < l + 64) | none => false) then
    s.updDec n (fun d => { d with dirSupp := d.dirSupp + 1 })
  else
    let s := s.event 0x482 n (toLe 4 (intCounts d.turning).toNat ++ toLe 4 0 ++ [if 0 < d.dir then 1 else 0xFF, BitVec.ofNat 8 (min 255 d.dirSupp)])
    s.updDec n (fun d => { d with dirLast := some c, dirSupp := 0 })

/-- Sources of kind L whose condition the period has ended (R504). -/
def State.feedbackEnds (s : State) (n : Nat) : State :=
  match s.axis? n with
  | none => s
  | some a =>
    let d := a.dec
    let s := if d.ampCount = 0 ∧ d.lossCount = 0 then s.computedEnd 0x1C0 (locAxis n) else s
    let s := if d.illCount = 0 then (s.computedEnd 0x1C1 (locAxis n)).updDec n (fun d => { d with illRaised := false }) else s
    let s := if d.serCount = 0 then s.computedEnd 0x1C2 (locAxis n) else s
    if d.sensCount = 0 then s.computedEnd 0x1C4 (locAxis n) else s

/-- The reason for which the next agreed record is a reference record (R199). -/
def refReason (d : Decoder) (restart : Bool) : Option Nat :=
  if d.refNeeded = some 1 then some 1 else if restart then some 2 else if 8 < d.gap then some 3 else d.refNeeded

/-- A period whose record is there and good (R199 to R213). -/
def State.decodeRecord (s : State) (n : Nat) (d : Decoder) (restart : Bool) (r : PosRec) : State :=
  let f := s.fb n
  let c := s.clock.cycle
  let inside := r.form != 2 || ampInside (s.fldR (tgtAxis n) 0x0509 13 0) (s.fldR (tgtAxis n) 0x0509 14 0) r
  let lost := bit r.fstat 7
  let old := d.pos
  let reason := refReason d restart
  let d1 := match reason with
    | some x => if canReference f inside r then d.reference f inside x r else { d.refused c r with refNeeded := reason }
    | none => d.track f inside c r
  let d1 := { d1 with gap := 0, ampCount := if inside then 0 else d1.ampCount + 1, lossCount := if lost then d1.lossCount + 1 else 0 }
  let d1 := if lost || bit r.fstat 6 then { d1 with posValid := false } else d1
  let enabled := match s.axis? n with | some a => a.st.computes | none => false
  let (d2, mis) := match latchOf d1 f r with
    | some o => if reason.isSome && !d1.refNow then (d1, none) else d1.checkIndex f enabled o
    | none => (d1, none)
  let d3 := if d2.refNow || reason.isSome then d2 else d2.direct (f 23)
  let s := s.updDec n (fun _ => d3)
  let s := if d3.refNow then s.fbReference n old d3.pos (reason.getD 0) else s
  let s := match mis with | some m => s.indexMismatch n m | none => s
  s.dirChange n d3

/-- The period's history, speed and counters, and the ends of faults (R198, R205, R214). -/
def State.decodeEnd (s : State) (a : Axis) (edge : BitVec 16) : State :=
  let n := a.entry.axis
  let f := s.fb n
  let s := s.updDec n (fun d =>
    let h : List Hist := ({ pos := d.pos, valid := d.posValid, isRef := d.refNow, cycle := s.clock.cycle, edgeTime := edge } :: d.hist).take 17
    let (v, ok) := speedOf f (s.fldI (tgtAxis n) 0x0509 27 0 : Rat) (a.entry.divisor * s.tNs) s.tNs d.speed h
    { d with hist := h, speed := v, speedValid := ok && !d.refNow && d.posValid, since := if d.posValid then 0 else d.since + 1 })
  s.feedbackEnds n

/-- A due period of an axis (R186, R198): `block` is the axis part of the agreed frame, `r` the position record. -/
def State.decodeAxis (s : State) (a : Axis) (nstat : Option Nat) (part : List Byte) (r : Option PosRec) : State :=
  let n := a.entry.axis
  let raws := s.fld (tgtAxis n) 0x0508 2 0
  let d0 := { a.dec with
    posValid := false, speedValid := false, angleValid := false, illFlag := false, dirFlag := false, refNow := false, step := 0, policyDue := none,
    illWin := a.dec.illWin.filter (fun p => decide (s.clock.cycle < p.1 + 64)),
    avalid := if nstat.isSome then BitVec.ofNat 8 (byteAt part 0) else 0,
    raw := if nstat.isSome then (List.range raws).map (fun i => BitVec.ofNat 16 (be part (2 + 2 * i) 2)) else a.dec.raw }
  let edge := match r with
    | some x => if x.form = 1 then BitVec.ofNat 16 (be x.bytes 6 2) else if x.form = 3 then BitVec.ofNat 16 (be x.bytes 2 2) else 0xFFFF
    | none => 0xFFFF
  let s := match r with
    | none => s.updDec n (fun _ => { d0 with gap := if nstat.isSome && s.fld (tgtAxis n) 0x0508 1 0 == 0 then d0.gap else d0.gap + 1 })
    | some x =>
      let fail := bit x.fstat 4
      let d0 := { d0 with sensCount := if fail then d0.sensCount + 1 else 0 }
      if x.good then s.decodeRecord n d0 (match nstat with | some v => bit v 1 | none => false) x
      else s.updDec n (fun _ => { d0 with gap := d0.gap + 1 })
  s.decodeEnd a edge

/-- The angle of a due SEGMENT or SERVO axis (R216), after the positions of the cycle. -/
def State.formAngle (s : State) (n : Nat) : State :=
  match s.axis? n, s.axis? (s.fld (tgtAxis n) 0x0208 10 0) with
  | some _, some src =>
    let rev := s.revCounts n
    let cpr := rev / 65536
    let x := src.dec
    let num : Int := x.step * 2 ^ 15
    let q : Int := num / cpr + (if num % cpr = 0 then 0 else ((min 1 (Config.stepDev x.step cpr.toNat) : Nat) : Int))
    s.updDec n (fun d =>
      { d with mech := BitVec.ofInt 48 ((if x.refNow then (x.pos.toNat : Int) else (d.mech.toNat : Int) + x.step) % rev),
               angleStep := BitVec.ofInt 32 (clampI (-(2 ^ 31)) (2 ^ 31 - 1) q), angleValid := x.posValid })
  | _, _ => s.updDec n (fun d => { d with angleValid := false })

/-- The VALID word (R217). -/
def State.formValid (s : State) (n : Nat) (agreed vdc : Bool) : State :=
  s.updDec n (fun d => { d with valid := BitVec.ofNat 13 (d.avalid.toNat + 256 * b2n (d.posValid && agreed) + 512 * b2n d.speedValid
    + 1024 * b2n d.angleValid + 2048 * b2n vdc + 4096 * b2n agreed) })

/-! ### Local channels (R218 to R222) -/

/-- The axis that takes its samples from a local channel (R218). -/
def State.localUser (s : State) (ch : Nat) : Option Axis :=
  s.axes.find? (fun a => s.fld (tgtAxis a.entry.axis) 0x0508 0 0 == ch + 1)

/-- LC_MODE of a channel (Table 5.7). -/
def State.lcMode (s : State) (ch : Nat) : Nat := s.fld (tgtLocal ch) 0x0508 4 0

/-- Sampling instant of a channel in the present cycle, in MT from count 0 (R220). -/
def State.lcInstant (s : State) (ch : Nat) : Nat := s.clock.cycle * s.tMt + s.fld (tgtLocal ch) 0x0508 5 0

/-- Form of a channel's record: its mode's (Table 5.7); the sector count of HALL reads as a counter. -/
def lcForm (mode : Nat) : Nat := match mode with | 1 => 1 | 2 => 2 | 3 => 1 | 4 => 4 | _ => 0

/-- The record of a channel at its sampling instant (R219, Table 5.4). -/
def localRecord (mode instant hallMap : Nat) (c : LocalChan) : List Byte :=
  let hall := mode == 3 && (hallSector hallMap (4 * b2n c.z + 2 * b2n c.b + b2n c.a)).isNone
  let fstat := BitVec.ofNat 8 (1 + 2 * b2n c.seen + 4 * b2n c.multi + 8 * b2n c.illegal + 32 * b2n (mode == 4 && c.serErr)
    + 64 * b2n hall + 128 * b2n c.lost)
  match mode with
  | 1 | 3 => toBe 2 c.count.toNat ++ toBe 2 c.latch.toNat ++ [fstat, BitVec.ofNat 8 (c.ill.toNat + 16 * b2n c.b + 32 * b2n c.a)]
      ++ toBe 2 (min 0xFFFF (instant - c.edgeAt))
  | 2 => toBe 2 c.count.toNat ++ toBe 2 c.sin.toNat ++ toBe 2 c.cos.toNat ++ toBe 2 c.latch.toNat ++ [fstat, BitVec.ofNat 8 c.ill.toNat]
  | 4 => toBe 4 c.word.toNat ++ [fstat, 0]
  | _ => []

/-- One local channel changed. -/
def State.updLocal (s : State) (ch : Nat) (f : LocalChan → LocalChan) : State := { s with locals := modAt s.locals ch f }

/-- HALL_MAP of the axis that uses a channel, or its default. -/
def State.hallMap (s : State) (ch : Nat) : Nat := match s.localUser ch with | some a => s.fb a.entry.axis 3 | none => 0x2CC99

/-- The channel latches its record of this cycle, once (R220); its flags restart where a due axis takes it. -/
def State.latchLocal (s : State) (ch : Nat) : State :=
  match s.locals[ch]? with
  | none => s
  | some c =>
    if (match c.latched with | some (k, _) => k == s.clock.cycle | none => false) then s
    else
      let used := match s.localUser ch with | some a => s.due a | none => false
      let r := localRecord (s.lcMode ch) (s.lcInstant ch) (s.hallMap ch) c
      s.updLocal ch (fun c =>
        let c := { c with latched := some (s.clock.cycle, r) }
        if used then { c with seen := false, multi := false, illegal := false } else c)

/-- A transition of A or B (R193, R204): counted, or illegal where the other level changed in the same filter sample. `up` is the
change that A leading B upward makes; `at_` counts the 5 ns filter samples from count 0. -/
def LocalChan.transition (c : LocalChan) (change : Int) (at_ : Nat) : LocalChan :=
  match c.prev with
  | some (t, ch, e) =>
    if t = at_ ∧ ch ≠ 0 then
      { c with count := c.count - BitVec.ofInt 16 ch, edgeAt := e, ill := c.ill + 1, illegal := true, prev := some (at_, 0, e) }
    else { c with count := c.count + BitVec.ofInt 16 change, prev := some (at_, change, c.edgeAt), edgeAt := at_ / 10 }
  | none => { c with count := c.count + BitVec.ofInt 16 change, prev := some (at_, change, c.edgeAt), edgeAt := at_ / 10 }

/-- The sector count follows the Hall levels (R208, Table 5.7). -/
def LocalChan.hallStep (c : LocalChan) (map at_ : Nat) : LocalChan :=
  match hallSector map (4 * b2n c.z + 2 * b2n c.b + b2n c.a) with
  | none => c
  | some x =>
    let st := (x + 6 - c.sector) % 6
    let c := { c with sector := x }
    if st = 0 then c
    else if st = 1 then { c with count := c.count + 1, edgeAt := at_ / 10 }
    else if st = 5 then { c with count := c.count - 1, edgeAt := at_ / 10 }
    else { c with ill := c.ill + 1, illegal := true }

/-- An edge on a channel's receivers (R193 to R195, R220). In SINCOS, A is the comparator of the sine and B that of the cosine,
and QCOUNT counts up with the phase. `gate` is INDEX_GATE, none for NONE. -/
def LocalChan.edge (c : LocalChan) (mode map : Nat) (gate : Option Nat) (e : LocalEdge) (at_ : Nat) : LocalChan :=
  let k : Int := if mode = 2 then -1 else 1
  match e with
  | .a lv =>
    if lv = c.a then c
    else
      let c := { c with a := lv }
      if mode = 1 ∨ mode = 2 then c.transition (if lv != c.b then k else -k) at_
      else if mode = 3 then c.hallStep map at_ else c
  | .b lv =>
    if lv = c.b then c
    else
      let c := { c with b := lv }
      if mode = 1 ∨ mode = 2 then c.transition (if lv == c.a then k else -k) at_
      else if mode = 3 then c.hallStep map at_ else c
  | .z lv =>
    if lv = c.z then c
    else
      let c := { c with z := lv }
      if mode = 3 then c.hallStep map at_
      else if (mode = 1 ∨ mode = 2) && lv && (match gate with | some g => g == 2 * b2n c.a + b2n c.b | none => true) then
        { c with latch := c.count, seen := true, multi := c.seen }
      else c
  | .lost lv => { c with lost := lv }

/-- LOCAL_FEEDBACK_EDGE (R219, R220): a filtered change on a receiver, `at_` in 5 ns filter samples from count 0. -/
def execLocalFeedbackEdge (channel : Nat) (edge : LocalEdge) (at_ : Nat) (s : State) : Host.Outcome State Fault Refusal :=
  let s := if s.lcInstant channel * 10 ≤ at_ then s.latchLocal channel else s
  let gate := match s.localUser channel with
    | some a => (s.fldO (tgtAxis a.entry.axis) 0x0509 18 0).map Int.toNat
    | none => none
  .next (s.updLocal channel (fun c => c.edge (s.lcMode channel) (s.hallMap channel) gate edge at_))

/-- The conversions of a sampling instant (R220 to R222). -/
def State.takeSamples (s : State) (l : List LocalSample) : State :=
  l.foldl (fun s x => s.updLocal x.chan (fun c =>
    { c with sin := x.sin, cos := x.cos, word := x.word, serErr := !x.dataOk })) s

/-! ### The agreed input set -/

/-- The due axes of a node are decoded from its agreed frame, or from none (R197, R198). `pay` is the UPLINK payload. -/
def State.decodeNode (s : State) (i : Nat) (pay : Option (List Byte)) : State :=
  let nstat := pay.map (fun p => byteAt p 6)
  let vdc := match nstat with | some v => bit v 0 | none => false
  let as := sortBy (fun (a : Axis) => a.entry.part) (s.axes.filter (fun a => a.entry.node == i))
  let lens := as.map (fun a =>
    let form := s.fld (tgtAxis a.entry.axis) 0x0508 1 0
    (2 + 2 * s.fld (tgtAxis a.entry.axis) 0x0508 2 0, match form with | 1 => 8 | 2 => 10 | 3 => 4 | 4 => 6 | _ => 0, form))
  let s := (List.range as.length).foldl (fun s k =>
    match as[k]? with
    | none => s
    | some a =>
      let n := a.entry.axis
      let off := 8 + ((lens.take k).map (fun l => l.1 + l.2.1)).sum
      let (h, rl, form) := lens.getD k (0, 0, 0)
      let part := ((pay.getD []).drop off).take h
      let src := s.fld (tgtAxis n) 0x0508 0 0
      if !s.due a then s
      else if src = 0 then
        let fst := match form with | 1 => 4 | 2 => 8 | 3 => 1 | _ => 4
        let bytes := (((pay.getD []).drop (off + h)).take rl)
        let bytes := bytes.set fst ((bytes.getD fst 0) &&& 0x3F)
        let r : Option PosRec := if pay.isNone || form = 0 then none else some { form := form, bytes := bytes }
        s.decodeAxis a nstat part r
      else
        let s := s.latchLocal (src - 1)
        let r : Option PosRec := match s.locals[src - 1]? with
          | some c => let m := s.lcMode (src - 1); if m = 0 then none else some { form := lcForm m, bytes := (c.latched.map (·.2)).getD [] }
          | none => none
        s.decodeAxis a nstat part r) s
  s.updNode i (fun r => if vdc then { r with vdc := BitVec.ofNat 16 (match pay with | some p => be p 4 2 | none => 0), vdcValid := true }
    else { r with vdcValid := false })

/-- The angles and VALID words of the due axes, once every position of the cycle is decoded (R216, R217). -/
def State.decodeFinish (s : State) : State :=
  let due := s.axes.filter s.due
  let s := (due.filter (fun a => a.entry.ty == .segment || a.entry.ty == .servo)).foldl (fun s a => s.formAngle a.entry.axis) s
  due.foldl (fun s a =>
    let r := s.node? a.entry.node
    let ag := (match r with | some x => x.agreed | none => false) || s.fld (tgtAxis a.entry.axis) 0x0508 0 0 ≠ 0
    s.formValid a.entry.axis ag (match r with | some x => x.vdcValid && x.agreed | none => false)) s

/-- The input set is closed: nodes without an agreed frame are decoded as such, then angles and VALID words (R197, R198). -/
def State.closeInputs (s : State) : State :=
  if s.lanes.resolved then s
  else
    let miss := s.nodes.filter (fun r => !r.agreed && s.nodeActive r.node)
    let s := miss.foldl (fun s r => s.decodeNode r.node none) s
    let s := s.decodeFinish
    { s with lanes := { s.lanes with resolved := true } }

/-! ### Index policy and limits -/

/-- INDEX_POLICY_ACTION (R211, R212). -/
def execIndexPolicyAction (axis : Nat) (s : State) : Host.Outcome State Fault Refusal :=
  .next (match s.axis? axis with
    | none => s
    | some a => match a.dec.policyDue with
      | none => s
      | some delta =>
        let s := s.updDec axis (fun d => { d with policyDue := none })
        match s.fb axis 21 with
        | 1 => if a.st.computes then s.updDec axis (fun d => { d with deferred := some delta }) else s.applyShift axis delta
        | 2 => s.computed (mkFault 0x1C3 (locAxis axis))
        | _ => s)

/-- REALIGN_SHIFT_APPLY (R212): in a due period in OFF, READY, COAST or FAULTED. -/
def execRealignShiftApply (axis : Nat) (s : State) : Host.Outcome State Fault Refusal :=
  .next (match s.axis? axis with
    | none => s
    | some a => match a.dec.deferred with
      | some delta => if a.st.computes || !s.due a then s else s.applyShift axis delta
      | none => s)

/-- FEEDBACK_SIGNAL_LIMIT (R207, R220). -/
def execFeedbackSignalLimit (axis : Nat) (s : State) : Host.Outcome State Fault Refusal :=
  .next (match s.axis? axis with
    | some a => if s.fb axis 15 ≤ max a.dec.ampCount a.dec.lossCount then s.computed (mkFault 0x1C0 (locAxis axis)) else s
    | none => s)

/-- FEEDBACK_SERIAL_LIMIT (R209): the next record that passes becomes a reference record. -/
def execFeedbackSerialLimit (axis : Nat) (s : State) : Host.Outcome State Fault Refusal :=
  .next (match s.axis? axis with
    | some a =>
      if s.fb axis 12 ≤ a.dec.serCount then
        (s.computed (mkFault 0x1C2 (locAxis axis))).updDec axis (fun d => { d with refNeeded := d.refNeeded.or (some 4) })
      else s
    | none => s)

/-- FEEDBACK_TRANSITION_LIMIT (R205). -/
def execFeedbackTransitionLimit (axis : Nat) (s : State) : Host.Outcome State Fault Refusal :=
  .next (match s.axis? axis with
    | some a =>
      if s.fb axis 16 ≤ a.dec.illCount ∧ !a.dec.illRaised then
        (s.computed (mkFault 0x1C1 (locAxis axis))).updDec axis (fun d => { d with illRaised := true })
      else s
    | none => s)

/-- FEEDBACK_SENSOR_LIMIT (Table 5.10). -/
def execFeedbackSensorLimit (axis : Nat) (s : State) : Host.Outcome State Fault Refusal :=
  .next (match s.axis? axis with
    | some a => if s.fb axis 15 ≤ a.dec.sensCount then s.computed (mkFault 0x1C4 (locAxis axis)) else s
    | none => s)

/-! ### Lengths of a sample block (R188) -/

/-- Bytes of a position record (Table 5.2). -/
def recLen (form : Nat) : Nat := match form with | 1 => 8 | 2 => 10 | 3 => 4 | 4 => 6 | _ => 0

/-- Bytes of the axis part of a sample block (R188): RAW_COUNT words and the position record. -/
def State.partLen (v : State) (n : Nat) : Nat := 2 + 2 * v.fld (tgtAxis n) 0x0508 2 0 + recLen (v.fld (tgtAxis n) 0x0508 1 0)

/-- Bytes of a node's sample block (R188). -/
def State.blockLen (v : State) (i : Nat) : Nat := 4 + ((v.cfg.map.axesOf i).map (fun a => v.partLen a.axis)).sum

end Sys2Proof.Machine
end

