-- ==== Sys2Proof/Machine/Operands.lean ====
section
/-!
DEFINITION. The forms in which frames and messages reach and leave the chip: Septivel frames (Tables 6.1 to 6.9), weir messages
(Tables 8.3 and 8.4), and delays of ports and links (R384).
-/
namespace Sys2Proof.Machine

/-! ### Septivel frames (R238 to R241)
A frame is written as its 8 header bytes, its payload and its 4 CRC bytes; its delimiters are not written. -/

/-- Fields of a frame header (Table 6.2). -/
structure Hdr where
  ty : Nat := 0
  ch : Nat := 0
  branch : Nat := 0
  pos : Nat := 0
  lane : Nat := 0
  sync : Bool := false
  cycle : Nat := 0
  len : Nat := 0
  epoch : Nat := 0
  cold : Bool := false
  matrix : Nat := 0
deriving DecidableEq, Repr

/-- The 8 header bytes, HCRC included (R239). -/
def Hdr.bytes (h : Hdr) : List Byte :=
  let v := h.ty % 16 * 2 ^ 60 + h.ch % 2 * 2 ^ 59 + h.branch % 8 * 2 ^ 56 + h.pos % 8 * 2 ^ 53 + h.lane % 4 * 2 ^ 51
    + b2n h.sync * 2 ^ 50 + h.cycle % 64 * 2 ^ 44 + h.len % 512 * 2 ^ 35 + h.epoch % 65536 * 2 ^ 19 + b2n h.cold * 2 ^ 18
    + h.matrix % 256 * 2 ^ 8
  let b := (toBe 8 v).take 7
  b ++ [BitVec.ofNat 8 (crc8 b)]

/-- The header fields of 8 bytes (Table 6.2). -/
def Hdr.of (bs : List Byte) : Hdr :=
  let v := be bs 0 8
  { ty := bits v 63 60, ch := bits v 59 59, branch := bits v 58 56, pos := bits v 55 53, lane := bits v 52 51, sync := bit v 50,
    cycle := bits v 49 44, len := bits v 43 35, epoch := bits v 34 19, cold := bit v 18, matrix := bits v 15 8 }

/-- The header is complete and its HCRC holds (R239). -/
def hdrOk (bs : List Byte) : Bool := decide (8 ≤ bs.length) && crc8 (bs.take 7) == byteAt bs 7

/-- A frame with a payload (R238, R240). -/
def frame (h : Hdr) (pay : List Byte) : List Byte :=
  let b := { h with len := pay.length }.bytes ++ pay
  b ++ toBe 4 (crc32 b)

/-- The payload of a frame. -/
def payloadOf (bs : List Byte) : List Byte := (bs.drop 8).take (Hdr.of bs).len

/-- A frame that R241 does not discard; `codeOk`: every delimiter and code group is valid. -/
def frameOk (bs : List Byte) (codeOk : Bool) : Bool :=
  let h := Hdr.of bs
  codeOk && hdrOk bs && decide (1 ≤ h.ty ∧ h.ty ≤ 6) && decide (h.len ≤ 256) && decide (bs.length = 12 + h.len)
    && crc32 (bs.take (8 + h.len)) == be bs (8 + h.len) 4

/-- Duration of a frame in ns (R238). -/
def frameNs (len : Nat) : Nat := (len + 14) * 4

/-- Epoch `a` is older than `b` (R256). -/
def epochOlder (a b : BitVec 16) : Bool := decide (32768 ≤ (a - b).toNat)

/-- Epoch `a` is newer than `b` (R256). -/
def epochNewer (a b : BitVec 16) : Bool := decide (1 ≤ (a - b).toNat ∧ (a - b).toNat ≤ 32767)

/-! ### Schedule entries (R229 to R231) -/

/-- log2 of a divisor (R231). -/
def repOf (d : Nat) : Nat := Nat.log2 d

/-- A schedule entry word (Table 6.1). -/
def entryWord (down : Bool) (pos d phi start len : Nat) (sync : Bool) : BitVec 32 :=
  BitVec.ofNat 32 (b2n down * 2 ^ 30 + pos % 8 * 2 ^ 27 + repOf d * 2 ^ 24 + phi % 64 * 2 ^ 18 + start % 1024 * 2 ^ 8 + len % 64 * 2 ^ 2
    + b2n sync * 2)

/-- Fields of an entry. -/
def entWin (w : BitVec 32) : Nat := bits w.toNat 31 30
def entPos (w : BitVec 32) : Nat := bits w.toNat 29 27
def entRep (w : BitVec 32) : Nat := bits w.toNat 26 24
def entOffset (w : BitVec 32) : Nat := bits w.toNat 23 18
def entStart (w : BitVec 32) : Nat := bits w.toNat 17 8
def entLen (w : BitVec 32) : Nat := bits w.toNat 7 2

/-- The entry is active in basic cycle j (R230). -/
def entActive (w : BitVec 32) (j : Nat) : Bool := j % 2 ^ entRep w == entOffset w

/-- SYNC_NODE of a node. -/
def State.syncNode (s : State) (i : Nat) : Bool := s.fld (tgtNode (i / 8) (i % 8)) 0x060E 4 0 == 1

/-- The two entries of a node (R231). -/
def State.nodeEntries (s : State) (p : NodePlace) : List (BitVec 32) :=
  [entryWord false (p.node % 8) p.divisor p.phase p.upStart p.upLen (s.syncNode p.node),
   entryWord true (p.node % 8) p.divisor p.phase p.downStart p.downLen false]

/-- The schedule of a branch in the map in force (R229). -/
def State.branchEntries (s : State) (b : Nat) : List (BitVec 32) :=
  ((sortBy (fun (p : NodePlace) => p.node) s.cfg.nodes).filter (fun p => p.node / 8 == b)).flatMap s.nodeEntries

/-! ### Payloads -/

/-- The header of a frame that this lane sends in the present cycle. -/
def State.hdr (s : State) (ty ch branch pos : Nat) : Hdr :=
  { ty := ty, ch := ch, branch := branch, pos := pos, lane := Lane.num s.lane, cycle := s.j, matrix := s.matrix }

/-- LAYOUT_CRC (R245). -/
def State.layoutCrc (s : State) : Nat :=
  crc32 (([s.tMt, s.uMt, s.dMt, s.arbMt, s.idleMt, s.accWin].flatMap (toBe 2)) ++ [BitVec.ofNat 8 (s.config + 1)])

/-- LANE payload (Table 6.6). -/
def State.lanePayload (s : State) (steer : Int) : List Byte :=
  toBe 8 s.clock.cycle ++ [BitVec.ofNat 8 (Lane.num s.lane + 4 * b2n s.isVoice)] ++ toBe 4 s.layoutCrc ++ toBe 3 (ofSigned 24 steer)

/-- GRANT payload (Table 6.7). -/
def State.grantPayload (s : State) (defer : List Nat) (pos prio : Nat) : List Byte :=
  defer.map (BitVec.ofNat 8) ++ [BitVec.ofNat 8 pos, BitVec.ofNat 8 prio] ++ toBe 2 s.tMt ++ toBe 2 s.idleStart ++ [0, 0]

/-- Duty words of an axis part of a DOWNLINK (R83, R243). -/
def State.dutyWordsOf (s : State) (a : Axis) : Nat :=
  if s.fld (tgtAxis a.entry.axis) 0x0208 13 0 ≤ 1 then 3 else s.fld (tgtAxis a.entry.axis) 0x0208 0 2

/-- The mode sent for an axis: OFF axes are not computed and send OFF (R53, R112). -/
def sentMode (a : Axis) : OutMode := if a.st = .off then .off else a.law.mode

/-- DOWNLINK payload of a node (Table 6.5). -/
def State.downPayload (s : State) (e : NodeEntry) : List Byte :=
  let i := nodeIndex e
  let as := sortBy (fun (a : Axis) => a.entry.part) (s.axes.filter (fun a => a.entry.node == i))
  let parts := as.flatMap (fun a =>
    let m := sentMode a
    [BitVec.ofNat 8 (modeCode m), 0] ++ (List.range (s.dutyWordsOf a)).flatMap (fun k =>
      toBe 2 (if m = .enabled then (a.law.duty.getD k 0).toNat else 0)))
  let sid := match s.node? i with | some r => r.schedId | none => 0
  let len := s.fld (nodeTgt e) 0x060E 7 1
  let data := (List.range 32).flatMap (fun k => toLe 8 (s.fld (nodeTgt e) 0x060E 8 k))
  padTo len (toBe 2 (s.clock.cycle % 65536) ++ [sid, 0] ++ parts ++ data)

/-- SCHEDULE payload of a node on a channel, its PORT_DELAY included (Table 6.9). -/
def State.schedPayload (s : State) (r : NodeRt) (p : NodePlace) (delay : Nat) : List Byte :=
  let t := tgtNode (r.node / 8) (r.node % 8)
  let ents := s.nodeEntries p
  [1, r.schedSeq.getD r.seq, r.schedId, r.actMatrix] ++ toBe 2 s.tMt ++ toBe 2 s.downStart ++ toBe 2 (s.downStart + s.dMt) ++ toBe 2 s.idleStart
    ++ [BitVec.ofNat 8 (s.fld t 0x060E 2 0), BitVec.ofNat 8 (s.fld t 0x060E 5 0)] ++ toBe 2 delay
    ++ [BitVec.ofNat 8 (s.fld t 0x060E 6 0 + 2 * b2n (s.syncNode r.node)), BitVec.ofNat 8 ents.length, 0, 0]
    ++ ents.flatMap (fun w => toBe 4 w.toNat)

/-! ### Weir messages (R326)
A message is written as its 6-byte header, its payload and its CRC-32. -/

/-- A message that R326 does not discard, of a type, sent to this lane: its source lane, COUNT_LOW and payload. -/
def State.weirMsg (s : State) (ty : Nat) (bs : List Byte) : Option (Lane × Nat × List Byte) :=
  let len := be bs 2 2
  let route := byteAt bs 1
  if byteAt bs 0 = ty ∧ bs.length = 10 + len ∧ len ≤ 2048 ∧ crc32 (bs.take (6 + len)) = be bs (6 + len) 4
      ∧ (bit route 4 || bits route 3 2 == Lane.num s.lane) then
    some (laneOf (route % 4), be bs 4 2, (bs.drop 6).take len)
  else none

/-- The bytes of a message that this lane sends (Table 8.3). -/
def State.weirBytes (s : State) (ty : Nat) (dst : Option Lane) (pay : List Byte) : List Byte :=
  let route := Lane.num s.lane + (match dst with | some d => 4 * Lane.num d | none => 16)
  let b := [BitVec.ofNat 8 ty, BitVec.ofNat 8 route] ++ toBe 2 pay.length ++ toBe 2 (s.clock.cycle % 65536) ++ pay
  b ++ toBe 4 (crc32 b)

/-- A message to one lane or to every lane leaves the weir (R326, R327). -/
def State.weirSend (s : State) (ty : Nat) (dst : Option Lane) (pay : List Byte) : State := s.send (.weir ty dst (s.weirBytes ty dst pay))

/-! ### Ports and links (R280, Table 7.6, R384) -/

/-- The link of a port code: 0x10 and 0x20 trunks, 0x30 relays, 0x40 weir data links. -/
def State.link? (s : State) (c : Nat) : Option Link :=
  if 0x10 ≤ c ∧ c ≤ 0x17 then s.trunks[c - 0x10]? else if 0x20 ≤ c ∧ c ≤ 0x27 then s.trunks[c - 0x18]?
  else if 0x30 ≤ c ∧ c ≤ 0x37 then s.relays[c - 0x30]? else if 0x40 ≤ c ∧ c ≤ 0x4B then s.weirs[c - 0x40]? else none

/-- One link changed, by port code. -/
def State.updLink (s : State) (c : Nat) (f : Link → Link) : State :=
  if 0x10 ≤ c ∧ c ≤ 0x17 then { s with trunks := modAt s.trunks (c - 0x10) f }
  else if 0x20 ≤ c ∧ c ≤ 0x27 then { s with trunks := modAt s.trunks (c - 0x18) f }
  else if 0x30 ≤ c ∧ c ≤ 0x37 then { s with relays := modAt s.relays (c - 0x30) f }
  else if 0x40 ≤ c ∧ c ≤ 0x4B then { s with weirs := modAt s.weirs (c - 0x40) f } else s

/-- Link state of a port code. -/
def State.linkSt (s : State) (c : Nat) : LinkState :=
  if c < 8 then (s.branches.getD c {}).links else ((s.link? c).map (·.st)).getD .off

/-- ASYM of a port or link (R384): a branch port's belongs to the channel, every other to the lane. -/
def State.asym (s : State) (c : Nat) : Int :=
  if c < 8 then (match s.hosted with | some ch => s.fldI (tgtChan ch) 0x0906 7 0 c | none => 0)
  else s.fldI tgtCluster 0x0906 7 0 c (Lane.num s.lane)

/-- A half-integer rounded to the nearest integer, ties away from zero, from its double (R384). -/
def roundHalf (x : Int) : Int := if 0 ≤ x then (x + 1) / 2 else -((-x + 1) / 2)

/-- Outward and inward delay of a link from its round trip less turnaround (R384). -/
def State.outward (s : State) (c rt : Nat) : Int := roundHalf ((rt : Int) + s.asym c)
def State.inward (s : State) (c rt : Nat) : Int := roundHalf ((rt : Int) - s.asym c)

/-- Inward delay of a link as measured, 0 before a measurement. -/
def State.inwardOf (s : State) (c : Nat) : Int :=
  match (s.link? c).bind (·.delay) with | some rt => s.inward c rt | none => 0

end Sys2Proof.Machine
end

