-- ==== Sys2Proof/Machine/Roles.lean ====
section
/-!
DEFINITION. Lane roles, the voting set and the voice as they change (R328, R329, R341, R351 to R355).
-/
namespace Sys2Proof.Machine

/-- LANE_ROLE (Table 8.18). -/
def State.roleEvent (s : State) (l : Lane) (old new : Role) (reason : Nat) : State :=
  s.event 0x500 0xFF [BitVec.ofNat 8 (Lane.num l), BitVec.ofNat 8 (roleCode old), BitVec.ofNat 8 (roleCode new), BitVec.ofNat 8 reason]

/-- SPARE_WAKE is driven low for 100 µs when a lane leaves the voting set of a Triplex+spare controller whose spare sleeps or
refreshes (R364). -/
def State.wakeSpare (s : State) : State :=
  if s.config == 3 && s.lane != .s && (s.lanes.spareState == .dormant || s.lanes.spareState == .refresh) && !s.lanes.spareWake then
    { s with lanes := { s.lanes with spareWake := true, couchWait := true } }.send (.wakeLow 100)
  else s

/-- The same as SPARE_AUTO has it. -/
def State.wakeAuto (s : State) : State := if s.fld tgtCluster 0x080F 1 0 = 1 then s.wakeSpare else s

/-- A lane leaves the voting set with the next basic cycle (R329); LANE_ROLE is recorded now. -/
def State.decideLeave (s : State) (l : Lane) (new : Role) (reason : Nat) : State :=
  if l ∈ s.lanes.vset ∧ !(s.lanes.leaving.any (fun p => p.1 == l)) then
    { s.roleEvent l .voting new reason with lanes := { s.lanes with leaving := s.lanes.leaving ++ [(l, new)] } }.wakeAuto
  else s

/-- Voice passes to a lane with the next epoch (R351), and VOICE_CHANGED is recorded (Table 8.18). A lane that takes voice writes
the records and mirrors of the two previous cycles again (R356). -/
def State.passVoice (s : State) (to_ : Lane) (reason : Nat) : State :=
  let old := (s.lanes.voice.map Lane.num).getD 0xFF
  let e := s.lanes.epoch + 1
  let was := s.lanes.voiceSeen
  let s := { s with lanes := { s.lanes with voice := some to_, epoch := e, voiceSeen := true, voiceStop := false, voiceAt := s.clock.cycle },
                    events := { s.events with rewrite := s.events.rewrite || (to_ == s.lane && s.voting) } }
  (s.event 0x501 0xFF ([BitVec.ofNat 8 old, BitVec.ofNat 8 (Lane.num to_)] ++ toLe 2 e.toNat ++ [BitVec.ofNat 8 reason])).irq7 was

/-- This lane stands outside VOTING from now: its records are its own from sequence number 0 (R550), its release requests are
cleared (R453) and its outputs with USE NONE go off (R481). -/
def State.standDown (s : State) (new : Role) : State :=
  let me := s.lane
  let was := s.voting
  let s := { s with lanes := { s.lanes with
    role := new, vset := s.lanes.vset.filter (· ≠ me), voice := if s.lanes.voice = some me then none else s.lanes.voice } }
  if was then
    let s := { s with events := { s.events with ownSeq := 0 } }
    s.settle
  else s

/-- A lane that is to enter VOTING with the next basic cycle (R329, R370); LANE_ROLE is recorded now. -/
def State.decideJoin (s : State) (l : Lane) : State :=
  if l ∈ s.lanes.vset then s
  else { s.roleEvent l .joining .voting 7 with lanes := { s.lanes with leaving := s.lanes.leaving ++ [(l, .voting)] } }

/-- The decided changes of the voting set apply (R329). A voice lane that leaves gives voice up to the lowest address of the new
set (R351). -/
def State.applyLeaving (s : State) : State :=
  let l := s.lanes.leaving
  if l.isEmpty then s
  else
    let gone := (l.filter (fun p => p.2 != .voting)).map (·.1)
    let come := (l.filter (fun p => p.2 == .voting)).map (·.1)
    let s := { s with lanes := { s.lanes with
      leaving := [], vset := laneSort (s.lanes.vset.filter (fun x => decide (x ∉ gone)) ++ come),
      present := laneSort (s.lanes.present.filter (fun x => decide (x ∉ gone)) ++ come),
      absent := s.lanes.absent.filter (fun p => decide (p.1 ∉ gone)) } }
    match l.find? (fun p => p.1 == s.lane) with
    | some (_, .voting) => { s with lanes := { s.lanes with role := .voting, noMajority := 0 } }
    | some p => s.standDown p.2
    | none =>
      (match s.lanes.voice with
       | some v => if v ∈ gone then (match lowest s.lanes.vset with | some w => s.passVoice w 2 | none => s) else s
       | none => s)

/-- This lane leaves VOTING at once, alone: network SYNC left, or an F3 (R272, R515). -/
def State.leaveNow (s : State) (new : Role) (reason : Nat) : State :=
  if s.voting then (s.standDown new).roleEvent s.lane .voting new reason
  else { s with lanes := { s.lanes with role := new } }

/-- Another chip reports this chip's address (R322). -/
def State.dupAddr (s : State) : Bool := s.lanes.addr.any (fun l => s.lanes.ident.any (fun p => p.2 == l))

/-- The configuration allows this chip's address, and no other chip reports it (R321, R322). -/
def State.addrAllowed (s : State) : Bool := s.lanes.addr.any (fun l => decide (l ∈ s.lanesOfConfig)) && !s.dupAddr

/-- The couch source, and the refresh source: the lowest-address voting lane that is not the voice lane, or the voice lane when
it votes alone (R362, R365). -/
def State.couchSource (s : State) : Option Lane :=
  match lowest (s.lanes.vset.filter (fun l => s.lanes.voice ≠ some l)) with
  | some l => some l
  | none => lowest s.lanes.vset

/-- A lane report that lane S sends to a voting lane before it votes (R363, R369). -/
def State.sendReport (s : State) (b : Body) : State := s.send (.body ((s.couchSource).or s.lanes.refreshSrc) 0xFF b)

/-- COUCH_STATE (Table 8.18): lane, phase, checkpoint, size in KB, differing confirmations. -/
def State.couchBody (s : State) (l : Lane) (phase size : Nat) (diff : List Lane) : EvBody :=
  { code := 0x505, payload := [BitVec.ofNat 8 (Lane.num l), BitVec.ofNat 8 phase] ++ toLe 4 (s.lanes.couch.checkpoint.getD 0) ++ toLe 2 size
      ++ [BitVec.ofNat 8 (laneMask diff)] }

/-- COUCH_REQ to the couch source, with the CRCs of the kernels this lane holds (R365). -/
def State.couchReq (s : State) : State :=
  s.weirSend 0x0A s.lanes.couch.source (s.kernels.held.flatMap (fun k => toBe 4 (crc32 k.image)))

/-- The lane begins to be couched, and asks a source (R365, R372). -/
def State.beginCouch (s : State) (src : Option Lane) (tried : List Lane) : State :=
  ({ s with lanes := { s.lanes with role := .joining, couch := { active := true, source := src, joiner := some s.lane, tried := tried } } }).couchReq

/-- A couch is given up (R369): the image and the log are discarded, and another voting lane is asked; with fewer than two, the lane
stays in JOINING with the couch-blocked F1. -/
def State.recouch (s : State) : State :=
  let c := s.lanes.couch
  let s := s.sendReport (.event (s.couchBody s.lane 3 0 []))
  let s := s.sendReport (.fault { (mkFault 0x24A) with lane := some s.lane })
  if s.lanes.vset.length < 2 then
    let s := { s with lanes := { s.lanes with couch := { active := true, joiner := some s.lane } } }
    s.sendReport (.fault { (mkFault 0x24B) with lane := some s.lane })
  else
    let s := if c.source.isNone then s.sendReport (.sourceEnded 0x24B {}) else s
    s.beginCouch (lowest (s.lanes.vset.filter (fun l => c.source ≠ some l))) (c.source.toList ++ c.tried)

end Sys2Proof.Machine
end

