-- ==== Sys2Proof/Machine/Net.lean ====
section
/-!
DEFINITION. The lane's network state (Table 6.11): cold start, integration, synchronisation between the lanes, offset and rate
correction, and steering (R244, R262 to R277).
-/
namespace Sys2Proof.Machine

/-! ### Midpoint of deviations (R270) -/

/-- Insertion into an ascending list of rationals. -/
def insR (x : Rat) : List Rat → List Rat
  | [] => [x]
  | y :: r => if x ≤ y then x :: y :: r else y :: insR x r

/-- Ascending order. -/
def sortR : List Rat → List Rat
  | [] => []
  | x :: r => insR x (sortR r)

/-- Values discarded at each end (Table 6.13). -/
def discardK (m : Nat) : Nat := if m ≤ 3 then 0 else if m ≤ 7 then 1 else 2

/-- Half the sum of the lowest and the highest remaining value; 0 for one value (R270). -/
def midpoint (l : List Rat) : Rat :=
  let m := l.length
  let k := discardK m
  let r := ((sortR l).drop k).take (m - 2 * k)
  if m ≤ 1 then 0 else ((r.headD 0) + (r.getLastD 0)) / 2

/-- Rounding toward zero. -/
def truncR (q : Rat) : Int := if q < 0 then -((-q).floor) else q.floor

/-- The offset correction c from the deviations of the cycle, the lane's own 0 included (R270). -/
def State.offsetCorr (s : State) : Int :=
  midpoint (0 :: (s.clock.devs.map (fun d => (d.delta : Rat)))) |> truncR

/-! ### Steering (R277) -/

/-- ±20 ppm in units of 2^−16 ppm. -/
def steerMax : Int := 20 * 65536

/-- The largest move of s in a rate period: 1 ppm/s × 16 × T, in units of 2^−16 ppm. -/
def State.steerSlew (s : State) : Int := (65536 * 16 * s.tNs / 1000000000 : Nat)

/-- The steering value that the voice lane's next rate period takes: s moved towards its target, or towards 0 with STEER_ENABLE
clear (R277). -/
def State.steerOut (s : State) : Int :=
  let t := if s.fld tgtCluster 0x060E 1 0 = 1 then s.time.target else 0
  let d := clampI (-s.steerSlew) s.steerSlew (t - s.clock.steer)
  clampI (-steerMax) steerMax (s.clock.steer + d)

/-! ### LANE frames -/

/-- LANE_FRAME_SEND (R244): a lane in COLDSTART or SYNC, not in Simplex, on every weir port whose L0 is up. The value that the
voice lane sends in the eighth cycle of a rate period is the one that applies from the next (R277). -/
def execLaneFrameSend (s : State) : Host.Outcome State Fault Refusal :=
  .next (if s.simplex || !(s.net.st == .coldstart || s.net.st == .sync) then s
    else
      let st := if s.isVoice then s.steerOut else s.clock.steer
      let h := { s.hdr 3 0 0 0 with sync := true, epoch := s.lanes.epoch.toNat, cold := s.net.st == .coldstart }
      let f := frame h (s.lanePayload st)
      let s := (List.range 3).foldl (fun s n => if s.linkSt (0x40 + 4 * n) = .up then s.send (.frame (0x40 + 4 * n) f) else s) s
      if s.isVoice && s.clock.cycle % 16 == 7 then { s with clock := { s.clock with steerNext := some st } } else s)

/-- The lane enters INTEGRATE on a sender (R265): it takes over the frame's count. -/
def State.integrateOn (s : State) (l : Lane) (cold : Bool) (count : Nat) (epoch : BitVec 16) : State :=
  { s with
    net := { s.net with st := .integrate, intOn := some l, intFrom := count, intGood := 0, intBad := false, intCold := cold, cands := [] },
    clock := { s.clock with cycle := count, kappa := 0, csum := 0, running := true, devs := [] },
    lanes := { s.lanes with epoch := epoch, voice := if cold then some l else s.lanes.voice } }

/-- The star goes silent: E_branch is cleared at every port (R298). -/
def State.silence (s : State) : State :=
  let clear (b : Branch) : Branch := { b with eBranch := none }
  { s with branches := s.branches.map clear }

/-- COLDSTART_ABANDONED (Table 6.16), then INTEGRATE on the lane that caused it (R264). -/
def State.abandonColdstart (s : State) (l : Lane) (cold : Bool) (count : Nat) (epoch : BitVec 16) : State :=
  let s := s.silence
  (s.event 0x4C2 0xFF [BitVec.ofNat 8 (Lane.num s.lane), BitVec.ofNat 8 (Lane.num l)]).integrateOn l cold count epoch

/-- What the frame says of voice (R329, R351, R353), and of the voting set at a cold start. A lane follows the voice of the
newest epoch; between two voices of one epoch, the lower address. -/
def State.hearVoice (s : State) (l : Lane) (voice cold : Bool) (epoch : BitVec 16) : State :=
  let s := if voice then
      let s := { s with lanes := { s.lanes with claims := s.lanes.claims ++ [l] } }
      let newer := epochNewer epoch s.lanes.epoch
        || (epoch == s.lanes.epoch && (match s.lanes.voice with | some v => decide (Lane.num l < Lane.num v) | none => true))
      if newer || (!s.voting && !epochOlder epoch s.lanes.epoch) then
        { s with lanes := { s.lanes with voice := some l, epoch := epoch, voiceStop := false } } else s
    else s
  if s.voting && s.clock.cycle ≤ 4 && l ∈ s.lanesOfConfig && !cold then
    { s with lanes := { s.lanes with vset := laneSort (l :: s.lanes.vset), present := laneSort (l :: s.lanes.vset) } }
  else s

/-- A LANE frame of this cluster in each network state (R264, R265, R268, R269): `delta` its deviation, `inWin` whether that lies within
the acceptance window. -/
def State.takeLaneFrame (s : State) (h : Hdr) (p : List Byte) (delta : Int) (inWin : Bool) : State :=
  let l := laneOf h.lane
  let count := be p 0 8
  let e := BitVec.ofNat 16 h.epoch
  let voice := bit (byteAt p 8) 2
  match s.net.st with
  | .config => s
  | .listen => { s with net := { s.net with cands := s.net.cands ++ [{ lane := l, cold := h.cold, count := count, steer := toSigned 24 (be p 13 3) }] },
                        lanes := { s.lanes with epoch := e, voice := if voice then some l else s.lanes.voice } }
  | .integrate =>
    let s := s.hearVoice l voice h.cold e
    if s.net.intOn = some l then
      (if count = s.clock.cycle && inWin then
        { s with net := { s.net with intGood := s.net.intGood + 1, laneIn := s.net.laneIn ++ [l] } }
      else { s with net := { s.net with intBad := true } })
    else s
  | .coldstart =>
    if h.cold then
      (if h.lane < Lane.num s.lane then s.abandonColdstart l true count e else s)
    else if count ≠ s.clock.cycle || !inWin then s.abandonColdstart l false count e
    else
      { s with net := { s.net with laneIn := s.net.laneIn ++ [l] },
               clock := { s.clock with devs := s.clock.devs ++ [{ member := .lane l, delta := delta, isLane := true }] } }
  | .sync =>
    let s := s.hearVoice l voice h.cold e
    if inWin && count == s.clock.cycle then
      { s with net := { s.net with laneIn := s.net.laneIn ++ [l] },
               clock := { s.clock with devs := s.clock.devs ++ [{ member := .lane l, delta := delta, isLane := true }] } }
    else { s with net := { s.net with laneOut := s.net.laneOut ++ [l] } }

/-- LANE_FRAME_RECEIVED (R264, R265, R268, R269, R277): `arrival` is the start-of-frame delimiter, in ns from the start of this
lane's basic cycle. -/
def execLaneFrameReceived (port : Nat) (bytes : List Byte) (codeOk : Bool) (arrival : Int) (s : State) : Host.Outcome State Fault Refusal :=
  let h := Hdr.of bytes
  let p := payloadOf bytes
  let delta := arrival - (50 + s.inwardOf (0x40 + 4 * port))
  let steer := toSigned 24 (be p 13 3)
  .next (
    if s.simplex || !frameOk bytes codeOk || h.ty ≠ 3 || h.len ≠ 16 || port ∈ s.lanes.weirWrong then s
    else if be p 9 4 ≠ s.layoutCrc then { s with net := { s.net with foreignNow := true } }
    else
      let s := { s with net := { s.net with ownNow := true } }
      let s := if bit (byteAt p 8) 2 && be p 0 8 % 16 == 7 then { s with clock := { s.clock with steerNext := some steer } } else s
      s.takeLaneFrame h p delta (decide (delta.natAbs ≤ s.accWin)))

/-! ### Changes of network state -/

/-- SYNC_ENTERED (Table 6.16). -/
def State.syncEntered (s : State) (on : Nat) : State :=
  s.event 0x4C0 0xFF ([BitVec.ofNat 8 (Lane.num s.lane)] ++ toLe 8 s.clock.cycle ++ [BitVec.ofNat 8 on])

/-- The lane enters VOTING with a cold start of the cluster (Table 8.6); start-up faults it holds go out as lane reports (R605), and
after a restore every node's SCHEDULE is distributed (R612). -/
def State.beginVoting (s : State) (with_ : List Lane) : State :=
  let s := { s with lanes := { s.lanes with role := .voting, vset := laneSort (s.lane :: with_), present := laneSort (s.lane :: with_), absent := [], noMajority := 0 } }
  let held := s.power.pending
  let again (r : NodeRt) : NodeRt :=
    { r with schedId := r.schedId + 1, actMatrix := 1, schedPending := true, confirmed := false, schedSeq := none, active := false }
  let s := { s with power := { s.power with pending := [], fresh := false },
                    nodes := if s.power.fresh then s.nodes.map again else s.nodes }
  held.foldl State.report s.settle

/-- The role a lane takes at network SYNC (step 10 of Table 16.4): VOTING at a cold start, JOINING for lane S, REMOVED for a lane
that starts while the cluster is running (R365, R616). -/
def State.takeRole (s : State) (cold : Bool) : State :=
  match s.lanes.role with
  | .unassigned =>
    if !s.addrAllowed then s
    else if s.lane == .s then s.beginCouch s.couchSource []
    else if cold then s.beginVoting (s.net.laneIn ++ s.net.intOn.toList)
    else { s with lanes := { s.lanes with role := .removed } }.roleEvent s.lane .unassigned .removed 5
  | _ => s

/-- LISTEN_TIMEOUT (R263, R264, R273, R351, R396): the lane enters COLDSTART at count 0 with epoch 1. The lane that cold-starts
holds voice. -/
def execListenTimeout (s : State) : Host.Outcome State Fault Refusal :=
  .next (if s.net.st == .listen && s.lane != .s && s.lanes.addr.isSome && decide (8 + 4 * Lane.num s.lane ≤ s.net.listenCount) then
      { s with
        net := { s.net with st := .coldstart, coldCount := 0, cands := [], laneIn := [], laneOut := [], outvoted := 0, spareWokenThisStart := false },
        clock := { s.clock with cycle := 0, running := true, kappa := 0, kappaHeld := 0, csum := 0, corr := 0, devs := [], rateFirst := [],
                                rateLast := [], steer := 0, steerNext := none, steerHeld := 0 },
        lanes := { s.lanes with epoch := 1, voice := some s.lane },
        events := { s.events with seq := 0 },
        time := { s.time with map := {}, mapNext := none } }
    else s)

/-- COLDSTART_COMPLETE (R264). -/
def execColdstartComplete (s : State) : Host.Outcome State Fault Refusal :=
  .next (if s.net.st == .coldstart && decide (4 ≤ s.net.coldCount) then
      ({ s with net := { s.net with st := .sync } }.takeRole true).syncEntered 0xFF
    else s)

/-- INTEGRATE_COMPLETE (R265): SYNC after 2 good LANE frames, LISTEN when one failed. -/
def execIntegrateComplete (s : State) : Host.Outcome State Fault Refusal :=
  .next (if s.net.st != .integrate then s
    else if s.net.intBad then
      { s with net := { s.net with st := .listen, listenCount := 0, intOn := none, cands := [] }, clock := { s.clock with running := false } }
    else if 2 ≤ s.net.intGood then
      ({ s with net := { s.net with st := .sync } }.takeRole s.net.intCold).syncEntered ((s.net.intOn.map Lane.num).getD 0xFF)
    else s)

/-- LAYOUT_MISMATCH_REACHED (R266). -/
def execLayoutMismatchReached (s : State) : Host.Outcome State Fault Refusal :=
  .next (if s.net.st == .listen && decide (8 ≤ s.net.foreign) then (s.reportL (mkFault 0x201)).collectOwn else s)

/-- OUTVOTED_LIMIT (R272): the lane leaves its voting set, enters LISTEN and raises the sync-left F1. -/
def execOutvotedLimit (s : State) : Host.Outcome State Fault Refusal :=
  .next (if s.net.st == .sync && decide (3 ≤ s.net.outvoted) then
      let ev : EvBody := { code := 0x4C1, payload := [BitVec.ofNat 8 (Lane.num s.lane), BitVec.ofNat 8 s.net.gLast.1, BitVec.ofNat 8 s.net.gLast.2] }
      let s := s.leaveNow .removed 5
      let s := { s with net := { s.net with st := .listen, listenCount := 0, outvoted := 0, cands := [] },
                        clock := { s.clock with running := false } }.silence
      (s.report (mkFault 0x200 {} none (some ev))).collectOwn
    else s)

/-- RATE_LIMIT_REACHED (R275). -/
def execRateLimitReached (s : State) : Host.Outcome State Fault Refusal :=
  .next (if 4 ≤ s.clock.kappaHeld then s.reportL (mkFault 0x202) else s)

/-! ### The end of a cycle, as the next one begins -/

/-- g_in, g_out and outvoting in the cycle that ends (R272). -/
def State.judgeSync (s : State) : State :=
  let i := laneSort (s.lane :: s.net.laneIn)
  let o := laneSort s.net.laneOut
  let lowO := (lowest o).map Lane.num
  let lowI := (lowest i).map Lane.num
  let out := decide (i.length < o.length) || (i.length == o.length && (match lowO, lowI with | some a, some b => decide (a < b) | _, _ => false))
  { s with net := { s.net with outvoted := if out then s.net.outvoted + 1 else 0, gLast := (i.length, o.length) } }

/-- The deviations of the cycle that ends, kept for the rate of its period (R274). -/
def State.keepRate (s : State) : State :=
  let m := s.clock.devs.map (fun d => (d.member, d.delta))
  let c := s.clock.cycle % 16
  { s with clock := { s.clock with
    rateFirst := if c = 0 then m else s.clock.rateFirst, rateLast := if c = 15 then m else s.clock.rateLast, devs := [], corr := 0 } }

/-- The network state at the end of a cycle (R263 to R266, R272). -/
def State.netCycleEnd (s : State) : State :=
  let s := match s.net.st with
    | .listen =>
      let n := s.net
      let foreign := if n.foreignNow && !n.ownNow then n.foreign + 1 else 0
      let s := if n.foreign ≠ 0 ∧ foreign = 0 then (s.reportEnd 0x201 {}).collectOwn else s
      let s := { s with net := { s.net with foreign := foreign, listenCount := if n.ownNow || n.foreignNow then 0 else n.listenCount + 1 } }
      let pick := fun (cold : Bool) => argMin (fun (c : LaneCand) => Lane.num c.lane) (n.cands.filter (fun c => c.cold == cold))
      (match (pick false).or (pick true) with
       | some c => s.integrateOn c.lane c.cold c.count s.lanes.epoch
       | none => s)
    | .integrate =>
      if s.clock.cycle - s.net.intFrom = s.net.intGood then s else { s with net := { s.net with intBad := true } }
    | .coldstart => { s with net := { s.net with coldCount := s.net.coldCount + 1 } }
    | .sync => if s.simplex then s else s.judgeSync
    | .config => s
  let s := s.keepRate
  { s with net := { s.net with foreignNow := false, ownNow := false, laneIn := [], laneOut := [] } }

/-! ### CLUSTER_START, CLUSTER_STOP (R262) -/

/-- The cluster stops at this lane: network CONFIG, the star silent, no command order. -/
def State.stopCluster (s : State) : State :=
  { s with net := { s.net with st := .config, cands := [], listenCount := 0 }, clock := { s.clock with running := false } }.silence

/-- The lane enters LISTEN from CONFIG (R262). -/
def State.startCluster (s : State) : State :=
  { s with net := { s.net with st := .listen, listenCount := 0, cands := [], foreign := 0 },
           lanes := { s.lanes with role := if s.lanes.role = .voting then .unassigned else s.lanes.role, vset := [], voice := none } }

end Sys2Proof.Machine
end

