-- ==== Sys2Proof/Machine/Star.lean ====
section
/-!
DEFINITION. The star of this lane: sluices, uplink slot enforcement, downlink selection, the arbitrating window, babbling, and
link training with its probes (R280 to R317).
-/
namespace Sys2Proof.Machine

/-! ### The star -/

/-- An F3 whose source lies in PD_NET, in the Septivel clock domain or in their supply monitors (R286): core supply, SerDes
supply, PLL lock, reference clock. -/
def netF3 (code : Nat) : Bool := code == 0x380 || code == 0x383 || code == 0x384 || code == 0x385

/-- The channel whose star this lane's star is while it relays (R261, R284, R286). -/
def State.relaying (s : State) : Option Channel :=
  if (s.net.st == .coldstart || s.net.st == .sync) && !(s.faults.f3 && (netF3 s.faults.f3Code.toNat || s.faults.active.any (fun a => netF3 a.code))) then s.hosted else none

/-- This lane originates DOWNLINK and ACYC_DOWN frames (R286, R352, R353). -/
def State.speaks (s : State) : Bool := s.isVoice && !s.lanes.voiceStop && !s.faults.f3 && s.net.st == .sync

/-- TRUNK_ENABLE of T0 or T1 of this lane. -/
def State.trunkEnabled (s : State) (t : Nat) : Bool := s.fld tgtCluster 0x0704 1 t 0xFF (Lane.num s.lane) == 1

/-- A link is in use (R280, R281, R323, Table 7.1). -/
def State.linkEnabled (s : State) (c : Nat) : Bool :=
  if c < 8 then (match s.hosted with | some ch => s.fld (tgtChan ch) 0x0704 0 c == 1 | none => false)
  else if c < 0x20 then s.trunkEnabled 0
  else if c < 0x30 then s.trunkEnabled 1
  else if c < 0x40 then !s.simplex && (s.lane == .a || s.lane == .b)
  else (match weirLane s.lane ((c - 0x40) / 4) with | some l => decide (l ∈ s.lanesOfConfig) | none => false)

/-- Lane links of a branch of this lane's star that are up: 0x80 + b is the star's own lane (R281, R282). -/
def State.laneLinks (s : State) (b : Nat) : List Nat :=
  (0x80 + b) :: ([0x10 + b, 0x20 + b, 0x30 + b].filter (fun c => s.linkEnabled c && s.linkSt c == .up))

/-- The port on which this lane's frames reach the star of a channel (Table 7.1, R281). -/
def State.starPort (s : State) (ch : Channel) (b : Nat) : Nat :=
  if s.hosts ch then 0x80 + b
  else if s.lane == .a || s.lane == .b then 0x30 + b
  else match ch with | .x => 0x10 + b | .y => 0x20 + b

/-- The channels of the configuration in force. -/
def State.channels (s : State) : List Channel := if s.simplex then [.x] else [.x, .y]

/-- The schedule entries of the map in force enter the sluices (R236). -/
def State.loadScheds (s : State) : State :=
  { s with branches := (List.range 8).map (fun b => { s.branches.getD b {} with sched := s.branchEntries b }) }

/-- A position is closed, by its sluice or by the host (R294, R578). -/
def Position.shut (p : Position) : Bool := p.closed || p.hostClosed

/-- Nothing passes upward from the port (R306, R578). -/
def Branch.shut (b : Branch) : Bool := b.closed || b.hostClosed

/-- A position of a branch. -/
def State.pos (s : State) (b p : Nat) : Position := (s.branches.getD b {}).poss.getD p {}

/-- A frame, whole or cut, goes to every lane link of a branch with its stamp (R282, R283, R291). -/
def State.forwardUp (s : State) (b : Nat) (bytes : List Byte) (cut : Bool) (stamp : Int) : State :=
  (s.laneLinks b).foldl (fun s c => s.send (.up c bytes cut stamp)) s

/-! ### Violations (R292, R293) -/

/-- A violation of position p: kind 1 LATE, 2 ADDRESS, 3 OUTSIDE (R292, R293, Table 7.6). -/
def State.violate (s : State) (ch : Channel) (b p kind : Nat) (off : Int) : State :=
  let q := s.pos b p
  let was := (s.branches.getD b {}).lateSeen
  let s := (s.updBranch b (fun r => { r with lateSeen := true })).irq7 was
  let s := s.updPos b p (fun q => { q with viol := if q.violNow then q.viol else q.viol + 1, violNow := true, good := 0 })
  if q.viol = 0 ∧ !q.violNow then
    s.report (mkFault 0x207 (locNode (chNum ch) b p) none (some { code := 0x4C5, payload :=
      [BitVec.ofNat 8 (chNum ch), BitVec.ofNat 8 b, BitVec.ofNat 8 p, BitVec.ofNat 8 kind] ++ toLe 2 (ofSigned 16 off) }))
  else s

/-- Slot start of an uplink entry, ns from cycle start (R289). -/
def upStartNs (w : BitVec 32) : Int := 400 + 50 * entStart w

/-- UPLINK_FRAME_ARRIVAL (R282, R283, R289 to R295, R306): a frame at a branch port, with the instants of its delimiters in ns
from cycle start and the number of stray code groups heard since the last one. -/
def execUplinkFrameArrival (branch : Nat) (bytes : List Byte) (codeOk : Bool) (sof eof : Int) (stray : Nat) (s : State) :
    Host.Outcome State Fault Refusal :=
  .next (match s.relaying with
    | none => s
    | some ch =>
      let br := s.branches.getD branch {}
      let a : Int := s.accWin
      let h := Hdr.of bytes
      let good := hdrOk bytes
      let s := s.updBranch branch (fun r =>
        { r with babble := r.babble + stray + (if good then 0 else bytes.length + 2),
                 discards := if frameOk bytes codeOk then r.discards else r.discards ++ [s.clock.cycle] })
      let ents := br.sched.filter (fun w => entWin w == 0)
      let act := ents.filter (fun w => entActive w s.j)
      let open_ := act.find? (fun w => decide ((sof - upStartNs w).natAbs ≤ s.accWin))
      let inCut (w : BitVec 32) : Bool := decide (eof ≤ upStartNs w + 50 * entLen w - a)
      let fits (w : BitVec 32) : Bool := good && h.ty == 1 && h.ch == chNum ch && h.branch == branch && h.pos == entPos w
        && h.cycle == s.j && h.matrix == s.matrix
      let admitted := match open_ with | some w => fits w && inCut w && codeOk | none => false
      if admitted then
        let p := h.pos
        if (s.pos branch p).shut || br.shut then s.updPos branch p (fun q => { q with wouldNow := true })
        else
          let s := s.updPos branch p (fun q =>
            { q with goodNow := true, viol := if q.violNow then q.viol else 0, req := byteAt (payloadOf bytes) 2 % 8 })
          s.forwardUp branch bytes false sof
      else
        let s := if open_.isSome && !br.shut && !(s.pos branch h.pos).shut then s.forwardUp branch bytes true sof else s
        if good && h.branch == branch then
          let p := h.pos
          match act.find? (fun w => entPos w == p) with
          | some w =>
            let late := decide (s.accWin < (sof - upStartNs w).natAbs) || !inCut w
            s.violate ch branch p (if late then 1 else 2) (sof - upStartNs w)
          | none =>
            (match ents.find? (fun w => entPos w == p) with
             | some w => s.violate ch branch p 3 (sof - upStartNs w)
             | none =>
               let (k, s) := s.draw
               s.violate ch branch p 3 (Config.openWord k).toInt)
        else s)

/-- NODE_CLOSED (R293). -/
def execNodeClosed (branch pos : Nat) (s : State) : Host.Outcome State Fault Refusal :=
  .next (match s.relaying with
    | none => s
    | some ch =>
      let q := s.pos branch pos
      if 3 ≤ q.viol ∧ !q.closed then
        let s := s.updPos branch pos (fun q => { q with closed := true, good := 0, defer := 0 })
        s.reportL (mkFault 0x208 (locNode (chNum ch) branch pos) none
          (some { code := 0x4C6, payload := [BitVec.ofNat 8 (chNum ch), BitVec.ofNat 8 branch, BitVec.ofNat 8 pos] }))
      else s)

/-- The position opens: its node-closed source ends (Table 13.9). -/
def State.openPos (s : State) (ch : Channel) (b p : Nat) : State :=
  let was := (s.pos b p).closed
  let s := s.updPos b p (fun q => { q with closed := false, hostClosed := false, viol := 0, good := 0 })
  if was then
    (s.reportEnd 0x208 (locNode (chNum ch) b p)).reportEvent
      { code := 0x4C7, payload := [BitVec.ofNat 8 (chNum ch), BitVec.ofNat 8 b, BitVec.ofNat 8 p] }
  else s

/-- NODE_REOPENED (R294): after REOPEN_COUNT good active cycles, with AUTO_REOPEN set; a position closed by the host stays. -/
def execNodeReopened (branch pos : Nat) (s : State) : Host.Outcome State Fault Refusal :=
  .next (match s.relaying with
    | none => s
    | some ch =>
      let q := s.pos branch pos
      if q.closed && !q.hostClosed && s.fld (tgtChan ch) 0x0704 5 0 == 1 && decide (s.fld (tgtChan ch) 0x0704 4 0 ≤ q.good) then
        s.openPos ch branch pos
      else s)

/-- FRAME_ERROR_LIMIT (Table 6.15): counted afresh once raised. -/
def execFrameErrorLimit (branch : Nat) (s : State) : Host.Outcome State Fault Refusal :=
  .next (if 16 ≤ (s.branches.getD branch {}).discards.length then
      (s.updBranch branch (fun r => { r with discards := [] })).report (mkFault 0x206 (locPort branch))
    else s)

/-- BRANCH_CLOSED (R306). -/
def execBranchClosed (branch : Nat) (s : State) : Host.Outcome State Fault Refusal :=
  .next (match s.relaying with
    | none => s
    | some ch =>
      let b := s.branches.getD branch {}
      if !b.closed && decide (s.fld (tgtChan ch) 0x0704 6 0 ≤ b.babbleRun) then
        (s.updBranch branch (fun r => { r with closed := true, quietRun := 0 })).reportL (mkFault 0x209 (locPort branch) none
          (some { code := 0x4C8, payload := [BitVec.ofNat 8 (chNum ch), BitVec.ofNat 8 branch, 0xFF] ++ toLe 2 b.babbleRun }))
      else s)

/-- The closure of a branch by its sluice ends (R307, R578). -/
def State.openBranch (s : State) (ch : Channel) (b : Nat) : State :=
  let r := s.branches.getD b {}
  let s := s.updBranch b (fun r => { r with closed := false, quietRun := 0 })
  if r.closed then
    (s.reportEvent { code := 0x4C9, payload := [BitVec.ofNat 8 (chNum ch), BitVec.ofNat 8 b, 0xFF] ++ toLe 2 r.babbleRun }).reportEnd 0x209 (locPort b)
  else s

/-- BRANCH_REOPENED (R307). -/
def execBranchReopened (branch : Nat) (s : State) : Host.Outcome State Fault Refusal :=
  .next (match s.relaying with
    | none => s
    | some ch =>
      let b := s.branches.getD branch {}
      if b.closed && !b.hostClosed && s.fld (tgtChan ch) 0x0704 5 0 == 1 && decide (64 ≤ b.quietRun) then s.openBranch ch branch else s)

/-- LANE_LINK_DROP_LIMIT (R308): counted afresh once raised. -/
def execLaneLinkDropLimit (branch : Nat) (lane : Lane) (s : State) : Host.Outcome State Fault Refusal :=
  .next (if 16 ≤ ((s.branches.getD branch {}).drops.filter (fun d => d.1 == lane)).length then
      (s.updBranch branch (fun r => { r with drops := r.drops.filter (fun d => d.1 != lane) })).report (mkFault 0x20B (locLane lane))
    else s)

/-! ### Downlink (R296 to R298, R308) -/

/-- Place among T0, T1, W0, W1, W2 of the port over which a lane's link reaches this star (R280, R281); none for the star's own lane. -/
def linkPort (me l : Lane) : Option Nat := if l = me then none else match l with | .c => some 0 | .s => some 1 | _ => some 2

/-- DROP_SEEN of the port of a lane link (Table 7.5). -/
def State.linkDrop (s : State) (l : Lane) : State :=
  match linkPort s.lane l with
  | some i =>
    let was := s.trunkDrop.getD i false
    { s with trunkDrop := setAt s.trunkDrop i true }.irq7 was
  | none => s

/-- A frame of a lane link is dropped and counted (R308). -/
def State.dropFrame (s : State) (b : Nat) (l : Lane) : State :=
  let was := (s.branches.getD b {}).dropSeen
  ((s.updBranch b (fun r => { r with dropSeen := true, drops := r.drops ++ [(l, s.clock.cycle)] })).irq7 was).linkDrop l

/-- Guard in ns (R40, R296). -/
def State.guardNs (s : State) : Int := 50 * guardOf s.accWin

/-- Start of the downlink slot of an entry, ns from cycle start. -/
def State.downStartNs (s : State) (w : BitVec 32) : Int := 50 * (s.downStart + entStart w)

/-- A downward frame of this port whose epoch the port does not refuse (R297 to R299). -/
def State.downFits (s : State) (ty b : Nat) (bytes : List Byte) : Bool :=
  let h := Hdr.of bytes
  hdrOk bytes && h.ty == ty && h.branch == b && h.cycle == s.j && h.matrix == s.matrix
    && (match (s.branches.getD b {}).eBranch with | some e => !epochOlder (BitVec.ofNat 16 h.epoch) e | none => true)

/-- The DOWNLINK frame that this lane delivers to a node on a channel, if it does: voice, the node active in this cycle, and not
withheld (R243, R340, R352, R353). -/
def State.ownDown (s : State) (ch : Channel) (b p : Nat) : Option (List Byte) :=
  match s.cfg.map.nodes.find? (fun e => e.branch == b && e.pos == p) with
  | some e =>
    let i := nodeIndex e
    let held := s.axes.any (fun a => a.entry.node == i && decide (a.place.engine ∈ s.lanes.withheld))
    if s.speaks && s.nodeActive i && !held then
      some (frame { s.hdr 2 (chNum ch) b p with epoch := s.lanes.epoch.toNat } (s.downPayload e))
    else none
  | none => none

/-- The choice between candidates: the newest epoch, then the lowest LANE (R297). -/
def bestDown : List (Lane × List Byte) → Option (Lane × List Byte)
  | [] => none
  | x :: r => match bestDown r with
    | none => some x
    | some y =>
      let hx := Hdr.of x.2
      let hy := Hdr.of y.2
      let ex := BitVec.ofNat 16 hx.epoch
      let ey := BitVec.ofNat 16 hy.epoch
      if epochNewer ex ey || (!epochNewer ey ex && decide (hx.lane ≤ hy.lane)) then some x else some y

/-- DOWNLINK_SLOT (R230, R243, R282, R296 to R298, R308): the voice lane delivers the node's frame to the stars, and this lane's
star lets one candidate out at the slot start. `frames` are those of the other lane links with the arrival of their delimiters. -/
def execDownlinkSlot (branch pos : Nat) (frames : List (Lane × Int × List Byte)) (s : State) : Host.Outcome State Fault Refusal :=
  let s := (s.channels.filter (fun c => !s.hosts c)).foldl (fun s c =>
    match s.ownDown c branch pos with | some f => s.send (.frame (s.starPort c branch) f) | none => s) s
  .next (match s.relaying with
    | none => s
    | some ch =>
      let br := s.branches.getD branch {}
      match br.sched.find? (fun w => entWin w == 1 && entPos w == pos && entActive w s.j) with
      | none => frames.foldl (fun s f => s.dropFrame branch f.1) s
      | some w =>
        let due := s.downStartNs w - s.guardNs
        let own := match s.ownDown ch branch pos with | some f => [(s.lane, due, f)] | none => []
        let all := own ++ frames
        let ok (f : Lane × Int × List Byte) : Bool := decide ((f.2.1 - due).natAbs ≤ s.accWin) && s.downFits 2 branch f.2.2
          && (Hdr.of f.2.2).pos == pos
        let best := bestDown ((all.filter ok).map (fun f => (f.1, f.2.2)))
        let s := all.foldl (fun s f => if best = some (f.1, f.2.2) then s else s.dropFrame branch f.1) s
        match best with
        | some (_, f) =>
          (s.send (.down ch branch pos f)).updBranch branch (fun r => { r with eBranch := some (BitVec.ofNat 16 (Hdr.of f).epoch) })
        | none => s)

/-! ### Arbitrating window (R299, R300) -/

/-- Start and end of the arbitrating window, ns from cycle start. -/
def State.arbStartNs (s : State) : Int := 50 * (s.downStart + s.dMt)
def State.arbEndNs (s : State) : Int := 50 * s.idleStart

/-- ACYC_DOWN_FORWARD (R298, R299): `start` is the arrival of the delimiter at the sluice, ns from cycle start. -/
def execAcycDownForward (branch : Nat) (lane : Lane) (bytes : List Byte) (start : Int) (s : State) : Host.Outcome State Fault Refusal :=
  .next (match s.relaying with
    | none => s
    | some ch =>
      let br := s.branches.getD branch {}
      let h := Hdr.of bytes
      let waiting := (br.acycOut.filter (fun p => decide (start < p.1))).length
      let out := br.acycOut.foldl (fun m p => max m p.2) (start + s.guardNs)
      let end_ := out + frameNs h.len
      if s.downFits 5 branch bytes && decide (waiting < 2) && decide (s.arbStartNs ≤ out) && decide (end_ ≤ s.arbEndNs - s.accWin) then
        let s := (s.send (.down ch branch h.pos bytes)).updBranch branch (fun r =>
          { r with eBranch := some (BitVec.ofNat 16 h.epoch), acycOut := r.acycOut ++ [(out, end_)] })
        let p := payloadOf bytes
        if byteAt p 0 = 1 then s.updPos branch h.pos (fun q => { q with inForce := some (be p 0x0E 2) }) else s
      else s.dropFrame branch lane)

/-- ACYC_UP_ADMIT (R300): only the position granted in the last GRANT; a frame of another position is an OUTSIDE violation. -/
def execAcycUpAdmit (branch : Nat) (bytes : List Byte) (codeOk : Bool) (sof eof : Int) (s : State) : Host.Outcome State Fault Refusal :=
  .next (match s.relaying with
    | none => s
    | some ch =>
      let br := s.branches.getD branch {}
      let h := Hdr.of bytes
      let good := hdrOk bytes
      let s := s.updBranch branch (fun r =>
        { r with babble := r.babble + (if good then 0 else bytes.length + 2),
                 discards := if frameOk bytes codeOk then r.discards else r.discards ++ [s.clock.cycle] })
      if !good || h.branch ≠ branch then s
      else if h.pos ≠ br.grant then s.violate ch branch h.pos 3 (sof - s.arbStartNs)
      else
        let ok := h.ty == 6 && h.cycle == s.j && h.matrix == s.matrix && decide (s.arbStartNs - s.accWin ≤ sof)
        let cut := !codeOk || decide (s.arbEndNs - s.accWin < eof)
        if ok && !cut then (if br.shut || (s.pos branch h.pos).shut then s else s.forwardUp branch bytes false sof)
        else
          let s := if ok && !br.shut && !(s.pos branch h.pos).shut then s.forwardUp branch bytes true sof else s
          s.violate ch branch h.pos (if ok then 1 else if sof < s.arbStartNs - s.accWin then 1 else 2) (sof - s.arbStartNs))

/-! ### Grants (R301 to R303) -/

/-- The candidate that a grant goes to: highest effective priority, then highest DEFER, then lowest position (R301). -/
def grantBest : List (Nat × Nat × Nat) → Option Nat
  | [] => none
  | x :: r => match grantBest r with
    | none => some x.1
    | some p =>
      (match r.find? (fun y => y.1 == p) with
       | some y =>
         if y.2.1 < x.2.1 ∨ (y.2.1 = x.2.1 ∧ (y.2.2 < x.2.2 ∨ (y.2.2 = x.2.2 ∧ x.1 < y.1))) then some x.1 else some p
       | none => some p)

/-- The positions that ask: position, effective priority, DEFER (R301). -/
def Branch.asking (b : Branch) : List (Nat × Nat × Nat) :=
  (List.range 8).filterMap (fun p =>
    let q := b.poss.getD p {}
    if !q.shut && decide (0 < q.req) then some (p, min 7 (q.req + q.defer / 8), q.defer) else none)

/-- A grant decision: position or 0xFF, priority, and the branch after it (R301 to R303, R306). -/
def Branch.grantDecision (b : Branch) : Nat × Nat × Branch :=
  let open_ := (List.range 8).filter (fun p => !(b.poss.getD p {}).shut)
  if ((b.probeDue || b.firstPass) && b.links == .up) || b.shut || open_.isEmpty then (0xFF, 0, { b with grant := 0xFF })
  else
    let ask := b.asking
    let (g, prio, rr) := match grantBest ask with
      | some p => (p, (b.poss.getD p {}).req, b.rr)
      | none =>
        let p := ((List.range 8).map (fun i => (b.rr + 1 + i) % 8)).find? (fun p => p ∈ open_)
        (p.getD 0xFF, 0, p.getD b.rr)
    let upd (p : Nat) (q : Position) : Position :=
      if p = g ∨ q.req = 0 ∨ q.shut then { q with defer := 0 } else { q with defer := min 255 (q.defer + 1) }
    let poss := (List.range 8).map (fun p => upd p (b.poss.getD p {}))
    (g, prio, { b with grant := g, rr := rr, poss := poss })

/-- The GRANT of one branch (R246, R301 to R303). -/
def State.sendGrant (s : State) (ch : Channel) (b : Nat) : State :=
  let (g, prio, br) := (s.branches.getD b {}).grantDecision
  let s := s.updBranch b (fun _ => br)
  s.send (.frame b (frame (s.hdr 4 (chNum ch) b 0) (s.grantPayload (br.poss.map (·.defer)) g prio)))

/-- NETWORK_IDLE_START (R246, R261, R270, R271, R301 to R303). -/
def execNetworkIdleStart (s : State) : Host.Outcome State Fault Refusal :=
  let s := { s with clock := { s.clock with interval := .idle } }
  let s := match s.relaying with
    | some ch => (List.range 8).foldl (fun s b => s.sendGrant ch b) s
    | none => s
  .next (if s.net.st == .coldstart || s.net.st == .sync then
      let c := s.offsetCorr
      { s with clock := { s.clock with corr := c, csum := if s.clock.cycle % 16 = 15 then s.clock.csum else s.clock.csum + c } }
    else s)

/-! ### Link training (R309, R310, R325) -/

/-- One port's link state changed, by port code. -/
def State.setLink (s : State) (c : Nat) (st : LinkState) : State :=
  if c < 8 then s.updBranch c (fun r => { r with links := st }) else s.updLink c (fun l => { l with st := st })

/-- PORT_STATE for a link in use that enters or leaves UP (R310). -/
def State.portState (s : State) (c : Nat) (st : LinkState) : State :=
  s.reportEvent { code := 0x4CA, payload := [BitVec.ofNat 8 ((s.hosted.map chNum).getD 0xFF), BitVec.ofNat 8 (if c < 8 then c else c % 8), 0xFF,
    BitVec.ofNat 8 c, BitVec.ofNat 8 (linkCode st)] }

/-- The four data links of a weir port are up (Table 8.16). -/
def State.weirAllUp (s : State) (n : Nat) : Bool := (List.range 4).all (fun l => s.linkSt (0x40 + 4 * n + l) == .up)

/-- WEIR_PATH where the path of a port changes (R358). -/
def State.setPath (s : State) (n path : Nat) : State :=
  if (kvGet s.lanes.weirPath n).getD 0 = path then s
  else
    ({ s with lanes := { s.lanes with weirPath := kvSet s.lanes.weirPath n path } } : State).reportEvent
      { code := 0x504, payload := [BitVec.ofNat 8 n, BitVec.ofNat 8 path] }

/-- The weir ports whose data links are all up. -/
def State.weirState (s : State) : State := { s with lanes := { s.lanes with weirUp := (List.range 3).filter s.weirAllUp } }

/-- LINK_SIGNAL_DETECT (Table 7.3). -/
def execLinkSignalDetect (port : Nat) (s : State) : Host.Outcome State Fault Refusal :=
  .next (if s.linkEnabled port && (s.linkSt port == .off || s.linkSt port == .down) then s.setLink port .align else s)

/-- LINK_ALIGNED (R309, R310, R312, R325). -/
def execLinkAligned (port : Nat) (s : State) : Host.Outcome State Fault Refusal :=
  .next (if s.linkEnabled port && s.linkSt port == .align then
      let s := (s.setLink port .up).portState port .up
      let s := s.reportEnd 0x20A (locPort port)
      if port < 8 then s.updBranch port (fun r => { r with firstPass := true, probeNext := 0, probeWait := 0, outCycles := 0 })
      else
        let s := (s.updLink port (fun l => { l with outCycles := 0 })).weirState
        if 0x40 ≤ port then
          let n := (port - 0x40) / 4
          let s := if (port - 0x40) % 4 = 0 then s.weirSend 0x01 (weirLane s.lane n) [BitVec.ofNat 8 (Lane.num s.lane)] else s
          if s.weirAllUp n then (s.setPath n 0).reportEnd 0x246 (locPort (0x40 + 4 * n)) else s
        else s
    else s)

/-- A link leaves UP (R310). -/
def State.leaveUp (s : State) (port : Nat) (st : LinkState) : State :=
  let up := s.linkSt port == .up
  let s := (s.setLink port st).weirState
  if up then s.portState port st else s

/-- LINK_SIGNAL_LOST (Table 7.3). -/
def execLinkSignalLost (port : Nat) (s : State) : Host.Outcome State Fault Refusal :=
  .next (if s.linkEnabled port && s.linkSt port != .off then s.leaveUp port .down else s)

/-- LINK_CODE_ERRORS (Table 7.3). -/
def execLinkCodeErrors (port : Nat) (s : State) : Host.Outcome State Fault Refusal :=
  .next (if s.linkEnabled port && s.linkSt port == .up then s.leaveUp port .align else s)

/-- A link whose loss is a port-down fault: a branch port that carries a node of the map, a trunk or a relay link (R310). -/
def State.portMatters (s : State) (c : Nat) : Bool :=
  s.linkEnabled c && decide (c < 0x40) && (decide (8 ≤ c) || s.cfg.map.nodes.any (fun e => e.branch == c))

/-- Cycles a link has been out of UP. -/
def State.outCycles (s : State) (c : Nat) : Nat := if c < 8 then (s.branches.getD c {}).outCycles else ((s.link? c).map (·.outCycles)).getD 0

/-- PORT_DOWN_LIMIT (R310). -/
def execPortDownLimit (port : Nat) (s : State) : Host.Outcome State Fault Refusal :=
  .next (if s.portMatters port && decide (8 ≤ s.outCycles port) then s.reportL (mkFault 0x20A (locPort port)) else s)

/-! ### Probes (R311, R312, R314) -/

/-- PROBE_SEND (R311, R312, R314): a probe of a chain position, or of the far end of a trunk, relay or weir link. While the star
relays, a branch is probed in a probe window. -/
def execProbeSend (port pos : Nat) (s : State) : Host.Outcome State Fault Refusal :=
  .next (if s.linkSt port != .up then s
    else if 8 ≤ port then s.send (.probe port 0x40)
    else
      let b := s.branches.getD port {}
      if s.relaying.isSome && b.grant ≠ 0xFF then s
      else (s.send (.probe port pos)).updBranch port (fun r =>
        { r with probe := some pos, probeNext := (pos + 1) % 8, firstPass := r.firstPass && pos < 7, probeDue := false, probeWait := 0 }))

/-- PROBE_ANSWER (R287, R311, R312, R314, R384): `roundTrip` in ns. -/
def execProbeAnswer (port pos roundTrip : Nat) (s : State) : Host.Outcome State Fault Refusal :=
  .next (if 8 ≤ port then s.updLink port (fun l => { l with delay := some (roundTrip - 100) })
    else match s.hosted with
    | none => s
    | some ch =>
      if (s.branches.getD port {}).probe ≠ some pos ∨ 1100 < roundTrip then s
      else
        let d := (s.outward port (roundTrip - 100)).toNat
        let old := (s.pos port pos).inForce
        let s := s.updBranch port (fun r => { r with probe := none })
        let s := s.updPos port pos (fun q => { q with present := decide (d ≤ 500), delay := some d })
        match old with
        | some f =>
          if f + 8 < d ∨ d + 8 < f then
            s.report (mkFault 0x20C (locNode (chNum ch) port pos) none (some { code := 0x4CB, payload :=
              [BitVec.ofNat 8 (chNum ch), BitVec.ofNat 8 port, BitVec.ofNat 8 pos] ++ toLe 2 f ++ toLe 2 d }))
          else s
        | none => s)

/-- PROBE_TIMEOUT (R311): the position is absent. -/
def execProbeTimeout (port pos : Nat) (s : State) : Host.Outcome State Fault Refusal :=
  .next (if (s.branches.getD port {}).probe = some pos then
      (s.updBranch port (fun r => { r with probe := none })).updPos port pos (fun q => { q with present := false })
    else s)

/-- PROBE_INTERVAL_EXPIRY (R312). -/
def execProbeIntervalExpiry (branch : Nat) (s : State) : Host.Outcome State Fault Refusal :=
  .next (match s.hosted with
    | some ch =>
      let b := s.branches.getD branch {}
      if !b.firstPass && decide (s.fld (tgtChan ch) 0x0704 7 0 ≤ b.probeWait) then s.updBranch branch (fun r => { r with probeDue := true }) else s
    | none => s)

/-! ### The end of a cycle, as the next one begins -/

/-- A position at the end of a cycle (R293, R294); `active`: its uplink entry was active. -/
def Position.cycleEnd (q : Position) (active : Bool) : Position :=
  let good := if q.shut && !q.violNow && active then (if q.wouldNow then q.good + 1 else 0) else if q.violNow then 0 else q.good
  { q with good := good, violNow := false, goodNow := false, wouldNow := false }

/-- A branch at the end of a cycle (R294, R306, R307, R308, R310). -/
def Branch.cycleEnd (b : Branch) (j cycle : Nat) : Branch :=
  let bab := decide (64 < b.babble)
  { b with
    babble := 0, babbleRun := if bab then b.babbleRun + 1 else if b.closed then b.babbleRun else 0,
    quietRun := if bab then 0 else b.quietRun + 1, babbleSeen := b.babbleSeen || bab,
    poss := (List.range 8).map (fun p =>
      (b.poss.getD p {}).cycleEnd (b.sched.any (fun w => entWin w == 0 && entPos w == p && entActive w j))),
    acycOut := [], discards := b.discards.filter (fun c => decide (cycle < c + 64)), drops := b.drops.filter (fun d => decide (cycle < d.2 + 64)),
    probeWait := b.probeWait + 1, outCycles := if b.links = .up then 0 else b.outCycles + 1 }

/-- Every port at the end of a cycle. -/
def State.starCycleEnd (s : State) : State :=
  let seen := s.branches.any (fun b => decide (64 < b.babble) && !b.babbleSeen)
  let out (l : Link) : Link := { l with outCycles := if l.st = .up then 0 else l.outCycles + 1 }
  let s := { s with branches := s.branches.map (fun b => b.cycleEnd s.j s.clock.cycle), trunks := s.trunks.map out,
                    relays := s.relays.map out, weirs := s.weirs.map out }
  if seen then s.irq 7 else s

/-! ### BRANCH_CTRL (R578) -/

/-- The host opens or closes a branch or positions of this lane's star. -/
def State.branchCtrl (s : State) (ch : Channel) (b action mask : Nat) : State :=
  if !s.hosts ch then s
  else match action with
    | 1 => s.updBranch b (fun r => { r with hostClosed := true })
    | 2 => (s.updBranch b (fun r => { r with hostClosed := false })).openBranch ch b
    | 3 => (List.range 8).foldl (fun s p => if bit mask p then s.updPos b p (fun q => { q with hostClosed := true, defer := 0 }) else s) s
    | _ => (List.range 8).foldl (fun s p => if bit mask p then s.openPos ch b p else s) s

end Sys2Proof.Machine
end

