-- ==== Sys2Proof/Machine/Consensus.lean ====
section
/-!
DEFINITION. Input consensus: copies of node frames, copy maps, the agreed input set, its digest, and what an agreed frame brings
(R197, R235, R236, R247, R260, R279, R330 to R336, R353, R354, R385, R386, R579, R581).
-/
namespace Sys2Proof.Machine

/-! ### Faults that every voting lane finds alike -/

/-- A fault that every voting lane decides from the agreed inputs or the command order: the voice lane passes it on for all, with
no detecting lane named. -/
def State.reportAll (s : State) (r : FaultRep) : State :=
  if s.isVoice && !(r.kindL && (s.isActive r.code r.loc || s.faults.reports.any (fun q => q.code == r.code && q.loc == r.loc))) then
    { s with faults := { s.faults with reports := s.faults.reports ++ [{ r with lane := none }] } }
  else s

/-! ### Node services (R247, R579, R581) -/

/-- A READ_REPLY or WRITE_ACK becomes the result of the request it answers (R579). -/
def State.answerStore (s : State) (i : Nat) (write : Bool) (p : List Byte) : State :=
  let f (q : NodeReq) : NodeReq :=
    if q.node = i ∧ q.write = write ∧ q.sent = true ∧ q.outcome = 0xFE ∧ q.seq.toNat = byteAt p 1 ∧ q.index.toNat = be p 2 2 then
      { q with outcome := BitVec.ofNat 8 (byteAt p 4), data := p.drop 5 } else q
  { s with services := { s.services with reqs := s.services.reqs.map f } }

/-- A NODE_EVENT becomes a record of the ring of node events (R581). -/
def State.nodeEventStore (s : State) (i : Nat) (p : List Byte) : State :=
  let d := p.drop 4
  let len := min d.length 19 + (if 19 < d.length then 128 else 0)
  let bs := toLe 4 s.clock.cycle ++ toLe 2 (tgtNode (i / 8) (i % 8)) ++ toLe 2 (be p 2 2) ++ [BitVec.ofNat 8 len] ++ padTo 19 d
  { s with services := { s.services with
    events := (({ seq := s.services.nextSeq, bytes := bs } : NodeEvent) :: s.services.events).take 64,
    nextSeq := s.services.nextSeq + 1 } }

/-- An agreed ACYC_UP payload of a node acts (Table 6.8, R236). A SCHEDULE_REQUEST has the SCHEDULE sent again. -/
def State.nodeService (s : State) (i : Nat) (p : List Byte) : State :=
  match byteAt p 0 with
  | 0x81 => s.updNode i (fun r => if r.schedPending ∧ r.schedId.toNat = byteAt p 2 then { r with confirmed := true, schedPending := false } else r)
  | 0x82 => s.updNode i (fun r => { r with schedPending := true, confirmed := false })
  | 0x83 => s.answerStore i false p
  | 0x84 => s.answerStore i true p
  | 0x85 => s.nodeEventStore i p
  | _ => s

/-! ### The agreed copy of a frame acts -/

/-- An agreed UPLINK of node `i` (R197, R236, R242, R260, R279): its prefix, its report area, and the decoders of its axes. -/
def State.agreeNode (s : State) (i : Nat) (ch : Channel) (p : List Byte) : State :=
  let f := byteAt p 0
  let s := s.updNode i (fun r =>
    { r with agreed := true, active := true, tripped := bit f 0, holding := bit f 1, epochConflict := bit f 3,
             epochLow := BitVec.ofNat 8 (byteAt p 3), report := p.drop (4 + s.blockLen i), reportCycle := some s.clock.cycle,
             confirmed := r.confirmed || (r.schedPending && r.schedId.toNat == byteAt p 1),
             schedPending := r.schedPending && r.schedId.toNat != byteAt p 1 })
  let s := if bit f 0 then
      s.report { code := 0x203, cls := .f2, loc := locNode (chNum ch) (i / 8) (i % 8), event := some { code := 0x4C4, payload :=
        [BitVec.ofNat 8 (chNum ch), BitVec.ofNat 8 (i / 8), BitVec.ofNat 8 (i % 8), BitVec.ofNat 8 (byteAt p 3)] } }
    else s
  let s := if bit f 3 then s.report (mkFault 0x204) else s
  let s := { s with lanes := { s.lanes with agreed := s.lanes.agreed ++ [(i, p)] } }
  s.decodeNode i (some p)

/-! ### Copies of a frame (R197, R268, R331, R353, R354, R385, R386) -/

/-- The deviation of a sync node's frame joins those of the cycle. The lane's own star goes first, then X, then Y (R268); a stamp
of another star is in its lane's time and is converted by the deviation of that lane's LANE frame (R386); ASYM of the branch
port is added (R385). -/
def State.nodeDeviation (s : State) (ch : Channel) (own : Bool) (i : Nat) (stamp : Int) : State :=
  match s.place? i with
  | none => s
  | some pl =>
    let far : Lane := match ch with | .x => .a | .y => .b
    let conv : Option Int := if own then some 0
      else (s.clock.devs.find? (fun d => d.member == .lane far)).map (·.delta)
    let m := SyncMember.node (i / 8) (i % 8)
    let has := s.clock.devs.any (fun d => d.member == m)
    match conv with
    | none => s
    | some c =>
      let delta := stamp + c - (400 + 50 * (pl.upStart : Int)) + s.fldI (tgtChan ch) 0x0906 7 0 (i / 8)
      let take := own || !has || (s.hosted.isNone && ch == .x)
      if take && decide (delta.natAbs ≤ s.accWin) then
        { s with clock := { s.clock with devs := s.clock.devs.filter (fun d => d.member != m) ++ [{ member := m, delta := delta, isLane := false }] } }
      else s

/-- The frame is counted for R353 and R354: H, N, and the frames of another epoch. A node that has had no DOWNLINK slot since the
present voice took it says nothing of another epoch. -/
def State.countEpoch (s : State) (i : Nat) (p : List Byte) : State :=
  let hold := bit (byteAt p 0) 1
  let same := byteAt p 3 == s.lanes.epoch.toNat % 256
  let d := ((s.place? i).map (·.divisor)).getD 1
  let told := decide (s.lanes.voiceAt + d ≤ s.clock.cycle) && (match s.node? i with | some r => r.active | none => false)
  let l := s.lanes
  { s with lanes := { l with
      uplinks := l.uplinks + 1, holdH := l.holdH + b2n hold, holdN := l.holdN + b2n (!hold && same),
      otherEpoch := l.otherEpoch + b2n (!hold && !same && told) } }

/-- UPLINK_COPY_RECEIVED (R18, R19, R197, R241, R268, R331): a copy of a frame that a node sent reaches this lane. `own`: it comes
from this lane's own star; `complete` and `stamp` in ns from cycle start. A copy counts when it passes R241, has the length its
schedule gives, and arrived whole within 0.2 µs after the uplink interval. In Simplex the decoders commit from the X copy. -/
def execUplinkCopyReceived (ch : Channel) (own : Bool) (bytes : List Byte) (codeOk : Bool) (complete stamp : Int) (s : State) :
    Host.Outcome State Fault Refusal :=
  let h := Hdr.of bytes
  let i := h.branch * 8 + h.pos
  let p := payloadOf bytes
  let fits := h.ch == chNum ch && h.cycle == s.j && h.matrix == s.matrix
  .next (
    if s.net.st ≠ .sync ∨ !s.computing then s
    else if h.ty = 6 ∧ hdrOk bytes ∧ h.ch = chNum ch then
      { s with lanes := { s.lanes with
        acycCopies := s.lanes.acycCopies ++ [{ ch := ch, node := i, payload := p, valid := frameOk bytes codeOk && fits }] } }
    else if !(frameOk bytes codeOk && h.ty == 1 && fits && s.nodeActive i && h.len == s.fld (tgtNode h.branch h.pos) 0x060E 7 0) then s
    else
      let s := s.countEpoch i p
      let s := if s.syncNode i then s.nodeDeviation ch own i stamp else s
      if 50 * (8 + (s.uMt : Int)) + 200 < complete || s.lanes.resolved then s
      else if s.simplex then
        (if ch == .x && !(s.lanes.agreed.any (fun a => a.1 == i)) then s.agreeNode i ch p else s)
      else { s with lanes := { s.lanes with copies := s.lanes.copies ++ [{ ch := ch, node := i, payload := p, valid := true }] } })

/-! ### The copy map (Table 8.8) -/

/-- This lane holds a valid copy of entry `i` on a channel. -/
def State.holdsCopy (s : State) (i : Nat) (ch : Channel) : Bool :=
  s.nodeActive i && s.lanes.copies.any (fun c => c.node == i && c.ch == ch && c.valid)

/-- Its ACYC_UP set of a branch on a channel: every frame of the set passed (R331). A branch on which no frame was heard has no set. -/
def State.holdsAcyc (s : State) (b : Nat) (ch : Channel) : Bool :=
  let l := s.lanes.acycCopies.filter (fun c => c.node / 8 == b && c.ch == ch)
  !l.isEmpty && l.all (·.valid)

/-- 2 bits per entry, four entries per byte, the first in [7:6]. -/
def packPairs (l : List (Bool × Bool)) : List Byte :=
  let v (i : Nat) : Nat := match l[i]? with | some (x, y) => 2 * b2n x + b2n y | none => 0
  (List.range (l.length / 4)).map (fun k => BitVec.ofNat 8 (64 * v (4 * k) + 16 * v (4 * k + 1) + 4 * v (4 * k + 2) + v (4 * k + 3)))

/-- CONSENSUS payload (Table 8.8). -/
def State.copyMap (s : State) : List Byte :=
  packPairs ((List.range 64).map (fun i => (s.holdsCopy i .x, s.holdsCopy i .y)))
    ++ packPairs ((List.range 8).map (fun b => (s.holdsAcyc b .x, s.holdsAcyc b .y)))

/-- The pair of entry `i` in a CONSENSUS payload; entries 64 to 71 are the ACYC_UP sets. -/
def mapPair (m : List Byte) (i : Nat) (ch : Channel) : Bool :=
  bit (byteAt m (i / 4)) (2 * (3 - i % 4) + (match ch with | .x => 1 | .y => 0))

/-- Bodies that this lane passes to the voice lane (R345, R349): validated commands, and its own reports. -/
def State.passBodies (s : State) : State :=
  let own : List Held := s.faults.reports.map (fun r => ({ lane := s.lane, body := some (if r.cls = .f3 then .f3 r else .fault r) } : Held))
  let out := s.order.forward ++ s.order.held ++ own
  let s := { s with faults := { s.faults with reports := [] },
                    order := { s.order with forward := [], held := [], forwarded := s.order.forwarded ++ out } }
  out.foldl (fun s h =>
    let n := match h.req.origin with | .mailbox n => n | _ => 0xFF
    let s := s.send (.body s.lanes.voice n (h.body.getD (.cmd h.req)))
    match h.body, h.req.origin with
    | none, .mailbox n => { s with host := { s.host with boxes := modAt s.host.boxes n (fun b =>
        { b with st := .wait, rsp := patch b.rsp 2 [0x07] }) } }
    | _, _ => s) s

/-- CONSENSUS_SEND (R19, R32, R331, R345): at the start of the consensus interval a voting lane sends its copy map to every voting
lane, and a lane that is not voice passes its commands and reports to the voice lane. -/
def execConsensusSend (s : State) : Host.Outcome State Fault Refusal :=
  .next (if s.simplex || !s.computing then s
    else
      let s := { s with clock := { s.clock with interval := .consensus } }
      let m := s.copyMap
      let s := { s with lanes := { s.lanes with maps := s.lanes.maps.filter (fun p => p.1 != s.lane) ++ [(s.lane, m)] } }
      if !s.voting then s
      else
        let s := s.weirSend 0x02 none m
        if s.isVoice then s else s.passBodies)

/-- CONSENSUS_RECEIVED (R326, R331, R332): the map of another voting lane, before the resolution of the cycle. -/
def execConsensusReceived (port : Nat) (bytes : List Byte) (s : State) : Host.Outcome State Fault Refusal :=
  .next (match s.weirMsg 0x02 bytes with
    | some (l, count, p) =>
      if p.length = 18 ∧ count = s.clock.cycle % 65536 ∧ l ∈ s.lanes.vset ∧ !s.lanes.resolved ∧ port ∉ s.lanes.weirWrong ∧ l ≠ s.lane then
        { s with lanes := { s.lanes with maps := s.lanes.maps.filter (fun q => q.1 != l) ++ [(l, p)] } }
      else s
    | none => s)

/-! ### Resolution (R332 to R336) -/

/-- The channel of the agreed copy of entry `i`: valid in every map, X first. -/
def agreedChannel (maps : List (List Byte)) (i : Nat) : Option Channel :=
  if maps.all (fun m => mapPair m i .x) then some .x else if maps.all (fun m => mapPair m i .y) then some .y else none

/-- The maps that the resolution uses: those of the voting lanes that arrived, or this lane's own alone (R333, R336). -/
def State.mapsUsed (s : State) : List (List Byte) :=
  if s.majority s.lanes.present then (s.lanes.maps.filter (fun p => p.1 ∈ s.lanes.vset || p.1 == s.lane)).map (·.2) else [s.copyMap]

/-- An ACYC_UP set of a branch that is agreed on a channel acts, frame by frame. -/
def State.agreeAcyc (s : State) (b : Nat) (ch : Channel) : State :=
  let l := s.lanes.acycCopies.filter (fun c => c.node / 8 == b && c.ch == ch)
  let s := { s with lanes := { s.lanes with agreed := s.lanes.agreed ++ l.map (fun c => (64 + c.node, c.payload)) } }
  l.foldl (fun s c => s.nodeService c.node c.payload) s

/-- The CRC-64 over the agreed input set (R334): payloads in NODE_MAP order, then ACYC_UP payloads in branch order, 8 zero bytes
for a missing entry. -/
def State.inputDigest (s : State) : BitVec 64 :=
  let ent (i : Nat) : List Byte := match kvGet s.lanes.agreed i with | some p => p | none => List.replicate 8 0
  let set (b : Nat) : List Byte :=
    match s.lanes.agreed.filter (fun p => decide (64 ≤ p.1) && (p.1 - 64) / 8 == b) with
    | [] => List.replicate 8 0
    | l => l.flatMap (·.2)
  crc64 (((List.range 64).filter s.nodeActive).flatMap ent ++ (List.range 8).flatMap set)

/-- Entries that the other voting lanes agreed, and those of them of which this lane holds no copy (R335). -/
def State.lacking (s : State) : Nat × Nat :=
  let others := (s.lanes.maps.filter (fun p => p.1 != s.lane)).map (·.2)
  let es := ((List.range 64).filter s.nodeActive ++ (List.range 8).map (64 + ·)).filter
    (fun i => !others.isEmpty && (agreedChannel others i).isSome)
  let mine := s.copyMap
  (es.length, (es.filter (fun i => !mapPair mine i .x && !mapPair mine i .y)).length)

/-- INPUT_MISMATCH when the digests of the cycle differ: the lanes that differ from the majority, or in Duplex from the voice
lane (R334). -/
def State.digestJudge (s : State) (count : Nat) : State :=
  let ds := s.lanes.digests
  let vals := dedup' (ds.map (·.2))
  if vals.length ≤ 1 then s
  else
    let maj := vals.find? (fun v => decide ((ds.filter (fun d => d.2 == v)).length * 2 > ds.length))
    let ref := maj.or ((ds.find? (fun d => s.lanes.voice == some d.1)).map (·.2))
    let bad := (ds.filter (fun d => ref != some d.2)).map (·.1)
    s.reportEvent { code := 0x503, payload := [BitVec.ofNat 8 (laneMask bad)] ++ toLe 4 count }

/-- Every agreed ACYC_UP set of the maps used acts; the copies are done with. -/
def State.agreeAcycs (s : State) (maps : List (List Byte)) : State :=
  let s := (List.range 8).foldl (fun s b => match agreedChannel maps (64 + b) with | some ch => s.agreeAcyc b ch | none => s) s
  { s with lanes := { s.lanes with acycCopies := [] } }

/-- The input set of a cycle is closed in Simplex, which has one copy of each frame (R197). -/
def State.closeSimplex (s : State) : State :=
  if s.lanes.resolved || !s.computing then s
  else
    (s.agreeAcycs [packPairs ((List.range 64).map (fun _ => (false, false))) ++ packPairs ((List.range 8).map (fun b => (s.holdsAcyc b .x, false)))]).closeInputs

/-- CONSENSUS_RESOLUTION (R332 to R336, R197): the agreed copy of every entry is chosen and acts; the decoders commit; the digest
of the input set is sent. In Simplex it closes the input set. -/
def execConsensusResolution (s : State) : Host.Outcome State Fault Refusal :=
  .next (if !s.computing || s.lanes.resolved then s
    else
      if s.simplex then s.closeSimplex
      else
        let maps := s.mapsUsed
        let lack := s.lacking
        let s := { s with lanes := { s.lanes with deficient := if lack.1 < 2 * lack.2 then s.lanes.deficient + 1 else 0 } }
        let s := ((List.range 64).filter s.nodeActive).foldl (fun s i =>
          match agreedChannel maps i with
          | some ch => (match s.lanes.copies.find? (fun c => c.node == i && c.ch == ch && c.valid) with
            | some c => s.agreeNode i ch c.payload
            | none => s)
          | none => s) s
        let s := (s.agreeAcycs maps).closeInputs
        let d := s.inputDigest
        let s := { s with lanes := { s.lanes with digests := s.lanes.digests ++ [(s.lane, d)] } }
        let s := if s.voting then s.weirSend 0x03 none (toBe 8 d.toNat) else s
        if s.lanes.digests.length == s.lanes.vset.length then s.digestJudge s.clock.cycle else s)

/-- INPUT_DIGEST_RECEIVED (R334): digests are compared once those of the voting set are there. -/
def execInputDigestReceived (port : Nat) (bytes : List Byte) (s : State) : Host.Outcome State Fault Refusal :=
  .next (match s.weirMsg 0x03 bytes with
    | some (l, count, p) =>
      if p.length = 8 ∧ count = s.clock.cycle % 65536 ∧ s.voting ∧ l ∈ s.lanes.vset ∧ port ∉ s.lanes.weirWrong
          ∧ !(s.lanes.digests.any (fun d => d.1 == l)) then
        let s := { s with lanes := { s.lanes with digests := s.lanes.digests ++ [(l, BitVec.ofNat 64 (be p 0 8))] } }
        if s.lanes.digests.length = s.lanes.vset.length then s.digestJudge s.clock.cycle else s
      else s
    | none => s)

/-- INPUT_DEFICIENT (R335): the lane raises its F1 and leaves the voting set. -/
def execInputDeficient (s : State) : Host.Outcome State Fault Refusal :=
  .next (if s.voting && decide (3 ≤ s.lanes.deficient) then
      ({ s with lanes := { s.lanes with deficient := 0 } }.report (mkFault 0x243 (locLane s.lane))).decideLeave s.lane .removed 3
    else s)

/-- The input set of the cycle that ends is kept for 256 cycles (R367), and the next one begins empty. -/
def State.inputCycleEnd (s : State) : State :=
  let l := s.lanes
  let stop := s.isVoice && decide (l.uplinks < 2 * l.otherEpoch)
  let f (r : NodeRt) : NodeRt := { r with agreed := false }
  { s with
    nodes := s.nodes.map f,
    lanes := { l with
      past := (if s.computing then ((s.clock.cycle, l.agreed) :: l.past).take 256 else []), agreed := [], copies := [], acycCopies := l.acycCopies,
      maps := [], digests := [], resolved := false, claims := [], holdN := 0, holdH := 0, uplinks := 0, otherEpoch := 0,
      voiceStop := l.voiceStop || stop } }

end Sys2Proof.Machine
end

