-- ==== Sys2Proof/Machine/Setpoint.lean ====
section
/-!
DEFINITION. Set-points of a due period: motions, stop ramps, tables, references, coordination groups and injections (R147 to
R185, R433 to R437), and the sine of R127 that the generator shares with the engines.
-/
namespace Sys2Proof.Machine

/-! ### The sine of R127 -/

/-- π in units of 2^−60. -/
def pi60 : Int := 3622009729038561421

/-- Sine of `z` 2^−32 turns, at most a quarter turn, in units of 2^−60 (its series to the fifteenth power). -/
def sine60 (z : Int) : Int :=
  let x := z * pi60 / 2 ^ 31
  let q := x * x / 2 ^ 60
  let term (acc d : Int) : Int := 2 ^ 60 - q * acc / (d * 2 ^ 60)
  x * (([210, 156, 110, 72, 42, 20, 6] : List Int).foldl term (2 ^ 60)) / 2 ^ 60

/-- The sine of an unsigned Q0.32 angle in turns, in units of 2^−31 and within one of them. -/
def trueSine (angle : BitVec 32) : Int :=
  let v := angle.toNat
  let r : Int := (v % 2 ^ 30 : Nat)
  let z := if v / 2 ^ 30 % 2 = 0 then r else 2 ^ 30 - r
  let m := (sine60 z + 2 ^ 28) / 2 ^ 29
  if v / 2 ^ 31 = 0 then m else -m

/-- Sine of an unsigned Q0.32 angle in turns as Q1.31, +1.0 held as 2^31 − 1 (R127): the manual states neither the words of the
table nor the interpolation's rounding, and bounds the result, which is free within 5 × 10^−6 of the sine (log entry 5). -/
def sineQ31 (angle : BitVec 32) : Int :=
  clampI (-(2 ^ 31)) (2 ^ 31 - 1) (trueSine angle + clampI (-10736) 10736 (Config.sinDev angle))

/-- Cosine: the sine a quarter turn on (R127). -/
def cosineQ31 (angle : BitVec 32) : Int := sineQ31 (angle + 0x40000000#32)

/-! ### The elements of r (R151) -/

/-- r formed from real values at EXP_REF; an element that reaches its range is held there, flagged, and raises
profile-saturation (R151). -/
def State.putR (s : State) (n : Nat) (vals : List Rat) : State :=
  let es := (List.range 4).map (fun i => (s.expRef n i, if i = 3 then 0 else vals.getD i 0))
  let sat := es.any (fun p => decide (pow2 p.1 ≤ absR p.2))
  let ws := es.map (fun p => w32 (toQ31 p.1 p.2))
  let s := s.updMot n (fun m => { m with r := ws, satFlag := sat })
  if sat then s.computed (mkFault 0x180 (locAxis n)) else s

/-! ### Segment tables (R167 to R169) -/

/-- Sample j of a Hermite segment: position, velocity, acceleration (R168). -/
def Segment.sample (g : Segment) (j : Nat) (ts : Rat) : BitVec 48 × Rat × Rat :=
  let d : Rat := g.point.dur
  let τ := d * ts
  let x := (j : Rat) / d
  let v0 := g.v0
  let v1 := f32D g.point.vel.toNat
  let Δ := g.delta
  let a := (6 - 12 * x) * Δ / (τ * τ) + (6 * x - 4) * v0 / τ + (6 * x - 2) * v1 / τ
  if g.point.dur ≤ j then (moveBy g.p0 Δ, v1, a + Config.planAcc g.id j)
  else
    let p := (3 * x ^ 2 - 2 * x ^ 3) * Δ + (x ^ 3 - 2 * x ^ 2 + x) * τ * v0 + (x ^ 3 - x ^ 2) * τ * v1
    let v := (6 * x - 6 * x ^ 2) * Δ / τ + (3 * x ^ 2 - 4 * x + 1) * v0 + (3 * x ^ 2 - 2 * x) * v1
    (moveBy g.p0 (p + Config.planPos g.id j), v + Config.planVel g.id j, a + Config.planAcc g.id j)

/-- The segment to the next held point from the present trajectory state (R167, R168). -/
def MotionRt.segment (m : MotionRt) (id : Nat) (pt : Point) : Segment :=
  { p0 := m.o, v0 := m.vel, delta := if pt.relative then posR pt.pos else displacement pt.pos m.o, j := 0, point := pt, id := id }

/-- A sample of a running table; none where the table has run out of points (R169). -/
def State.tableSample (s : State) (n : Nat) (ts : Rat) : Option State :=
  let m := s.mot n
  let seg := match m.seg with
    | some g => some (g, s)
    | none => m.points.head?.map (fun pt => let (k, s) := s.draw; (m.segment k pt, s))
  seg.map (fun (g, s) =>
    let j := g.j + 1
    let (p, v, a) := g.sample j ts
    let s := s.updMot n (fun m => { m with o := p, vel := v, acc := a, seg := some { g with j := j } })
    if j < g.point.dur then s
    else
      let s := s.updMot n (fun m => { m with points := m.points.tail, seg := none })
      let s := if g.point.event then s.event 0x443 n (toLe 4 g.point.seq) else s
      if g.point.last then
        (s.updMot n (fun m => { m with motion := some (.move p), moveDone := true, replan := true })).event 0x442 n (toLe 4 g.point.seq)
      else s)

/-! ### Plans of one axis -/

/-- A plan of the kind the motion and the state call for, from the present trajectory state (R161, R163). -/
def State.planAxis (s : State) (n : Nat) (st : AxisSt) (ts : Rat) : State :=
  let (k, s) := s.draw
  let m := s.mot n
  let mk (kind : PlanKind) (dec jerk : Rat) : Plan := mkPlan k kind m.o m.vel m.acc ts (s.velMax n) (s.accMax n) dec jerk
  let plan := match st, m.motion with
    | .stopRamp, _ => if m.quick then mk .stop (s.quickDec n) 0 else mk .stop (s.stopDec n) (s.jerkMax n)
    | _, some (.move t) => mk (.toRest (displacement t m.o)) (s.decMax n) (s.jerkMax n)
    | _, some (.velocity v) =>
      let vm := s.velMax n
      mk (.toVelocity (clampR (-vm) vm v)) (s.decMax n) (s.jerkMax n)
    | _, _ => mk .stop (s.decMax n) (s.jerkMax n)
  s.updMot n (fun m => { m with plan := some plan, replan := false })

/-- The next sample of the plan in force, formed anew where R161 says so; MOVE_DONE at the first sample at the target (R162). -/
def State.planSample (s : State) (n : Nat) (st : AxisSt) (ts : Rat) : State :=
  let m := s.mot n
  let s := if m.replan || m.plan.isNone then s.planAxis n st ts else s
  match (s.mot n).plan with
  | none => s
  | some p =>
    let i := p.n + 1
    let (pos, v, a, done) := p.sample i
    let s := s.updMot n (fun m => { m with o := pos, vel := v, acc := a, plan := some { p with n := i } })
    match st, p.kind with
    | .stopRamp, _ => s.updMot n (fun m => { m with standstill := decide (v = 0 ∧ a = 0) })
    | .run, .toRest _ =>
      if done && !(s.mot n).moveDone then (s.updMot n (fun m => { m with moveDone := true })).event 0x441 n (posBytes pos) else s
    | _, _ => s

/-! ### Coordination groups (R177 to R185) -/

/-- MEMBERS of a group, in member order. -/
def State.groupMembers (s : State) (g : Nat) : List Nat :=
  ((toLe 8 (s.fld (tgtGroup g) 0x0407 0 0)).map BitVec.toNat).takeWhile (fun b => b ≠ 0xFF)

/-- A sample of a plan as displacement from its start, velocity, acceleration, and whether it is at or after the end. -/
def Plan.sampleR (p : Plan) (n : Nat) : Rat × Rat × Rat × Bool :=
  let last := p.samples
  let done := decide (last ≤ n)
  let t := (n : Rat) * p.ts
  let at_ (i : Nat) (t : Rat) : Rat × Rat × Rat :=
    if p.jerk then (Config.jerkPos p.id i, Config.jerkVel p.id i, Config.jerkAcc p.id i)
    else
      let (x, v, a) := segsAt p.segs 0 p.v0 t
      if p.segs.isEmpty then (x, v, a) else (x + Config.planPos p.id i, v + Config.planVel p.id i, a + Config.planAcc p.id i)
  match p.kind, done with
  | .toRest d, true => (d, 0, 0, true)
  | .stop, true => ((at_ last p.total).1, 0, 0, true)
  | _, d => ((at_ n t).1, (at_ n t).2.1, (at_ n t).2.2, d)

/-- The path bound of R182: the group's bound and every moving member's, scaled by its share; 0 is no bound. -/
def pathBound (own : Rat) (dist : Rat) (members : List (Rat × Rat)) : Rat :=
  let l := (own :: (members.filter (fun p => p.2 ≠ 0)).map (fun p => p.1 * absR dist / absR p.2)).filter (fun x => x ≠ 0)
  match l with
  | [] => 0
  | a :: r => r.foldl minR a

/-- A waiting move starts (R180 to R183). -/
def State.groupStart (s : State) (g : Nat) (mv : GroupMove) (ts : Rat) : State :=
  let disp (t : Nat × Bool × Int) : Nat × BitVec 48 × Rat :=
    let o := (s.mot t.1).o
    (t.1, o, if t.2.1 then (t.2.2 : Rat) / 65536 else displacement (BitVec.ofInt 48 t.2.2) o)
  let starts := mv.targets.map disp
  let big := starts.foldl (fun x p => maxR x (absR p.2.2)) 0
  let lead := (sortBy (·.1) (starts.filter (fun p => absR p.2.2 = big))).head?
  let dist := (lead.map (·.2.2)).getD 0
  let bound (row : Nat) (f : Nat → Rat) : Rat := pathBound (s.fldR (tgtGroup g) 0x0407 row 0) dist (starts.map (fun p => (f p.1, p.2.2)))
  let vmax := bound 1 s.velMax
  let amax := bound 2 s.accMax
  let dmax := bound 3 s.decMax
  let jmax := bound 4 s.jerkMax
  let (k, s) := s.draw
  let plan := mkPlan k (.toRest dist) 0 0 0 ts vmax amax dmax jmax
  let s := starts.foldl (fun s p => (s.endMotion p.1).updMot p.1 (fun m =>
    { m with motion := some (.group g), plan := none, replan := false, seg := none })) s
  let run : GroupRun := { starts := starts, dist := dist, vmax := vmax, amax := amax, dmax := dmax, jmax := jmax, plan := plan }
  { s with groups := modAt s.groups g (fun r => { r with waiting := r.waiting.tail, run := some run }) }

/-- A running move takes the path stop of R163 from its present state (R184). -/
def State.groupStop (s : State) (g : Nat) (r : GroupRun) (ts : Rat) : State :=
  let (k, s) := s.draw
  let plan := { mkPlan k .stop 0 r.dsigma r.ddsigma ts r.vmax r.amax r.dmax r.jmax with }
  { s with groups := modAt s.groups g (fun x => { x with run := some { r with stopping := true, plan := plan, base := r.sigma } }) }

/-- Members that can move: all placed, in RUN and at rest in the previous sample (R180). -/
def State.groupReady (s : State) (ms : List Nat) : Bool :=
  !ms.isEmpty && ms.all (fun n => match s.axis? n with | some a => a.st == .run && a.mot.atRest | none => false)

/-- The group's part of a due period, before its members' samples (R180 to R185). -/
def State.groupBegin (s : State) (g : Nat) : State :=
  match s.groups[g]? with
  | none => s
  | some r =>
    let ms := s.groupMembers g
    match ms.head?.bind s.axis? with
    | none => s
    | some a0 =>
      if !s.due a0 then s
      else
        let ts := s.ts a0
        let s := match r.run with
          | some x =>
            let s := if !x.broken.isEmpty && !x.brokenDone then
                let mask := ((List.range ms.length).map (fun i => if (ms.getD i 0) ∈ x.broken then 2 ^ i else 0)).sum
                let s := { s with groups := modAt s.groups g (fun y => { y with waiting := [], run := some { x with brokenDone := true } }) }
                let s := s.event 0x446 0xFF [BitVec.ofNat 8 g, BitVec.ofNat 8 mask]
                let s := s.computed (mkFault 0x182 (locGroup g))
                if x.stopping then s else s.groupStop g { x with brokenDone := true } ts
              else s
            s
          | none =>
            match r.waiting.head? with
            | some mv => if mv.eff ≤ s.clock.cycle && s.groupReady ms then s.groupStart g mv ts else s
            | none => s
        { s with groups := modAt s.groups g (fun y =>
            match y.run with
            | some x =>
              let i := x.plan.n + 1
              let (d, v, a, _) := x.plan.sampleR i
              { y with run := some { x with plan := { x.plan with n := i }, sigma := x.base + d, dsigma := v, ddsigma := a } }
            | none => y) }

/-- The end of a path after its last sample: GROUP_DONE, or the stop of an abort or a break (R183 to R185). -/
def State.groupEnd (s : State) (g : Nat) : State :=
  match s.groups[g]? with
  | none => s
  | some r => match r.run, (s.groupMembers g).head?.bind s.axis? with
    | some x, some a0 =>
      if s.due a0 && (x.plan.sampleR x.plan.n).2.2.2 then
        let s := { s with groups := modAt s.groups g (fun y => { y with run := none }) }
        let s := x.starts.foldl (fun s p =>
          if (s.mot p.1).motion = some (.group g) then
            s.updMot p.1 (fun m => { m with motion := some (.move m.o), replan := true, moveDone := false })
          else s) s
        if x.stopping then s else s.event 0x445 0xFF [BitVec.ofNat 8 g, BitVec.ofNat 8 x.starts.length]
      else s
    | _, _ => s

/-- A member's sample on the line (R183): in the last sample of the move exactly its target. -/
def State.groupSample (s : State) (n g : Nat) : State :=
  match (s.groups[g]?).bind (·.run) with
  | some x => match x.starts.find? (fun p => p.1 == n) with
    | some (_, p0, d) =>
      let done := !x.stopping && (x.plan.sampleR x.plan.n).2.2.2
      let k := d / x.dist
      let pos := if done then moveBy p0 d else moveBy p0 (k * x.sigma)
      s.updMot n (fun m => { m with o := pos, vel := k * x.dsigma, acc := k * x.ddsigma })
    | none => s
  | none => s

/-! ### One axis (Table 4.1) -/

/-- A reference moved towards a target by at most `step`; a rate of 0 moves it at once (R164, R171). -/
def rampTo (x t step : Rat) (free : Bool) : Rat :=
  if free then t else if absR (t - x) ≤ step then t else if x < t then x + step else x - step

/-- The references of a SEGMENT or AUX axis in RUN and STOP_RAMP (R164, R171). -/
def State.refSample (s : State) (n : Nat) (ty : AxisType) (st : AxisSt) (ts : Rat) : State :=
  let m := s.mot n
  let k := if ty = .segment then 2 else 1
  let refs := (List.range k).map (fun i =>
    match st with
    | .stopRamp => rampTo (m.ref i) 0 ((if m.quick then s.quickDec n else s.stopDec n) * ts) false
    | _ =>
      let t : Rat := match m.motion with | some (.reference a b) => if i = 0 then a else b | _ => 0
      let rate := s.prof n 6
      rampTo (m.ref i) t (rate * ts) (decide (rate = 0)))
  let r1 : Rat := if ty = .segment then refs.getD 1 0 else (refs.getD 0 0 - m.ref 0) / ts
  let s := s.updMot n (fun m => { m with refs := refs, vel := 0, acc := 0, standstill := decide (st = .stopRamp) && refs.all (fun x => x = 0) })
  s.putR n [refs.getD 0 0, r1, 0, 0]

/-- Band and angle of a STEPPER axis for the sample just formed (R172 to R174). -/
def State.stepperBand (s : State) (n : Nat) : State :=
  let m := s.mot n
  let sc := s.stepCounts n
  let f := fullStep m.o sc
  let band := if m.vel = 0 ∧ m.acc = 0 then 0
    else if f ≠ m.fPrev then bandAt (s.bands n) m.band (absR m.vel / sc) else m.band
  s.updMot n (fun m => { m with band := band, fPrev := f })

/-- r of an axis from its sample (R75, Table 4.1). -/
def State.formR (s : State) (n : Nat) (ty : AxisType) : State :=
  let m := s.mot n
  match ty with
  | .servo => s.putR n [m.vel, m.acc, s.prof n 7 * m.acc, 0]
  | .stepper =>
    let s := s.stepperBand n
    let b := (s.mot n).band
    s.putR n [m.vel, m.acc, stepAngle m.o (s.stepCounts n) b, 0]
  | .segment => s.putR n [m.ref 0, m.ref 1, 0, 0]
  | .aux => s.putR n [m.ref 0, 0, 0, 0]

/-- The set-point of a due period where it follows the measured position (Table 4.1): READY, COAST, FAULTED. -/
def State.followSet (s : State) (n : Nat) : State :=
  match s.axis? n with
  | none => s
  | some a =>
    match a.st with
    | .ready | .coast | .faulted =>
      let d := a.dec
      let ok := d.posValid
      let s := s.updMot n (fun m =>
        { m with o := if ok then d.pos else m.oPrev, vel := if d.speedValid then (d.speed : Rat) else 0, acc := 0, refs := [] })
      (match a.entry.ty with
       | .stepper =>
         let m := s.mot n
         let s := s.updMot n (fun m => { m with band := 0, fPrev := fullStep m.o (s.stepCounts n) })
         s.putR n [0, 0, stepAngle m.o (s.stepCounts n) 0, 0]
       | _ => s.putR n [0, 0, 0, 0])
    | _ => s

/-- The set-point of a due axis (R147, R152, Table 4.1). -/
def State.formAxis (s : State) (n : Nat) : State :=
  match s.axis? n with
  | none => s
  | some a =>
    let ts := s.ts a
    let s := s.updMot n (fun m => { m with oPrev := m.o })
    let s := match a.st with
      | .off => s
      | .ready | .coast | .faulted => s.followSet n
      | .hold => (s.updMot n (fun m => { m with vel := 0, acc := 0 })).formR n a.entry.ty
      | st =>
        if a.entry.ty.positional then
          let m := s.mot n
          let s := match st, m.motion with
            | .run, some .table => match s.tableSample n ts with
              | some s => s
              | none => ((s.toRest n).planSample n .run ts).computed (mkFault 0x181 (locAxis n))
            | .run, some (.group g) => s.groupSample n g
            | _, _ => s.planSample n st ts
          s.formR n a.entry.ty
        else s.refSample n a.entry.ty st ts
    s.updMot n (fun m => { m with atRest := decide (m.vel = 0 ∧ m.acc = 0) })

/-! ### Injections (R433 to R437) -/

/-- INJ_ENDED (Table 10.10): reason and due periods issued. -/
def State.injEnded (s : State) (n reason issued : Nat) : State := s.event 0x582 n ([BitVec.ofNat 8 reason] ++ toLe 4 issued)

/-- The exponent of the point of an injection (R434). -/
def State.injExp (s : State) (n point : Nat) : Int :=
  if point = 0 then s.fldI (tgtAxis n) 0x0208 6 14 else s.expRef n (point - 1)

/-- INJ_START takes effect with the injection fields of `s` (R434); void where the axis could not take it (R433). An injection
that INJ_STOP has ended is over. -/
def State.injStart (s : State) (n : Nat) : State :=
  let s := match (s.axis? n).bind (·.inj) with
    | some j => if j.stop then (s.updAxis n (fun a => { a with inj := none })).injEnded n 2 j.n else s
    | none => s
  match s.axis? n with
  | none => s.injEnded n 4 0
  | some a =>
    if (a.st = .hold ∨ a.st = .run) ∧ a.inj.isNone then
      let t := tgtAxis n
      let point := s.fld t 0x0A08 1 0
      let inc (i : Nat) : Nat := (roundEven (s.fldR t 0x0A08 3 i * s.ts a * 4294967296)).toNat
      let q := match s.fld t 0x0A08 4 0 with | 0 => 7 | 1 => 9 | 2 => 11 | 3 => 15 | _ => 23
      let j : Inj := { mode := s.fld t 0x0A08 0 0, point := point, amp := toQ31 (s.injExp n point) (s.fldR t 0x0A08 2 0),
                       inc0 := inc 0, inc1 := inc 1, total := s.fld t 0x0A08 6 0, order := q, hold := s.fld t 0x0A08 5 0 }
      s.updAxis n (fun a => { a with inj := some j })
    else s.injEnded n 4 0

/-- The second tap of a binary sequence (R435). -/
def prbsTap (q : Nat) : Nat := match q with | 7 => 6 | 9 => 5 | 11 => 9 | 15 => 14 | _ => 18

/-- One shift of the binary sequence: the chip b and the next state (R435). -/
def prbsShift (q : Nat) (l : BitVec 32) : Bool × BitVec 32 :=
  let b := l.getLsbD (q - 1)
  let f := xor b (l.getLsbD (prbsTap q - 1))
  (b, BitVec.ofNat 32 ((l.toNat * 2 + b2n f) % 2 ^ q))

/-- The value of the present period and the generator after it (R435). -/
def Inj.next (j : Inj) : Inj :=
  let i := j.n
  match j.mode with
  | 0 =>
    let ph := BitVec.ofNat 32 (i * j.inc0)
    { j with value := roundEven ((j.amp * sineQ31 ph : Int) / (2 ^ 31 : Rat)), n := i + 1 }
  | 1 =>
    let step : Int := (j.inc0 : Int) + (i : Int) * ((j.inc1 : Int) - j.inc0) / max 1 j.total
    { j with value := roundEven ((j.amp * sineQ31 j.phase : Int) / (2 ^ 31 : Rat)), n := i + 1, phase := j.phase + BitVec.ofInt 32 step }
  | 2 =>
    let (b, l) := if i % max 1 j.hold = 0 then prbsShift j.order j.lfsr else (j.chip, j.lfsr)
    { j with value := if b then j.amp else -j.amp, n := i + 1, chip := b, lfsr := l }
  | _ => { j with value := j.amp, n := i + 1 }

/-- The injection's part of a due period (R434, R436): its end, or its value added to r. -/
def State.injSample (s : State) (n : Nat) : State :=
  match s.axis? n with
  | none => s
  | some a => match a.inj with
    | none => s
    | some j =>
      let drop := s.updAxis n (fun a => { a with inj := none })
      if j.stop then drop.injEnded n 2 j.n
      else if ¬(a.st = .hold ∨ a.st = .run) then (drop.injEnded n 3 j.n).computed (mkFault 0x2C0 (locAxis n))
      else if j.total ≠ 0 ∧ j.total ≤ j.n then drop.injEnded n 1 j.n
      else
        let j := j.next
        let s := s.updAxis n (fun a => { a with inj := some { j with started := true } })
        if j.point = 0 then s
        else
          let i := j.point - 1
          let sum := (((s.mot n).r.getD i 0).toInt) + j.value
          let sat := decide (2 ^ 31 ≤ sum ∨ sum < -(2 ^ 31))
          let s := s.updMot n (fun m => { m with r := setAt m.r i (w32 (clampI (-(2 ^ 31)) (2 ^ 31 - 1) sum)), satFlag := m.satFlag || sat })
          if sat then s.computed (mkFault 0x180 (locAxis n)) else s

/-- SETPOINT_FORMATION of a cycle (R147): groups, then every due axis in ascending number, then the injections. -/
def State.formSetpoints (s : State) : State :=
  let due := (s.axes.filter s.due).map (·.entry.axis)
  let s := (List.range 16).foldl State.groupBegin s
  let s := due.foldl State.formAxis s
  let s := (List.range 16).foldl State.groupEnd s
  due.foldl State.injSample s

end Sys2Proof.Machine
end

