-- ==== Sys2Proof/Machine/EngineOps.lean ====
section
/-!
DEFINITION. The loop engine: reading operands, the effect of every slot operation (Tables 3.8 to 3.10), the writes of a
bundle (R121), its timing (R122, R123), and the two ways of decoding a bundle (R114 to R119).
-/
namespace Sys2Proof.Machine

/-! ### Registers -/

/-- A data register. -/
def Engine.dr (e : Engine) (r : Nat) : BitVec 32 := e.d.getD r 0
/-- An accumulator. -/
def Engine.ac (e : Engine) (r : Nat) : BitVec 80 := e.acc.getD r 0
/-- An address register. -/
def Engine.ar (e : Engine) (r : Nat) : BitVec 16 := e.a.getD r 0
/-- A modify register. -/
def Engine.mr (e : Engine) (r : Nat) : BitVec 16 := e.m.getD r 0
/-- A scale register; SC31 is always 0 (Table 3.1). -/
def Engine.scale (e : Engine) (r : Nat) : Int := if r = 31 then 0 else e.sc.getD r 0

/-- A predicate; P0 is always 1 (Table 3.1). -/
def Engine.pr (e : Engine) (r : Nat) : Bool := match r with
  | 0 => true | 1 => e.p1 | 2 => e.p2 | _ => e.p3

/-- A list as long as a register file with one register written. -/
def putReg {w : Nat} (n : Nat) (l : List (BitVec w)) (r : Nat) (v : BitVec w) : List (BitVec w) :=
  (List.range n).map (fun i => if i = r then v else l.getD i 0)

/-! ### Addresses (Table 3.2) -/

/-- The regions of R123: 0 local data, 1 context window, 2 input and output areas with the coupling views. -/
def regionOf (a : Nat) : Option Nat :=
  if a < 0x4000 then some 0 else if a < 0x5000 then some 1 else if a < 0x50C0 then some 2 else none

/-- Output words that a kernel may write (Table 3.4). -/
def outWord (a : Nat) : Bool := (0x5040 ≤ a && a ≤ 0x5045) || (0x5048 ≤ a && a ≤ 0x505B)

/-- A word as a slot reads it: the run's own context writes first (R108), output words as written in this run (Table 3.2). -/
def Engine.load (e : Engine) (ctx : Nat → BitVec 32) (a : Nat) : Except Nat (BitVec 32) :=
  if a < 0x4000 then .ok (cellGet 0 e.localMem a)
  else if a < 0x5000 then .ok ((kvGet e.ctxWrites (a - 0x4000)).getD (ctx (a - 0x4000)))
  else if a < 0x5040 then .ok (cellGet 0 e.inp (a - 0x5000))
  else if a < 0x5080 then .ok (cellGet 0 e.out (a - 0x5040))
  else if a < 0x50C0 then .ok (cellGet 0 e.inp (a - 0x5000))
  else .error a

/-- A store is allowed at an address: scratch, the context window, or a listed output word (R103, R111). -/
def storeAllowed (a : Nat) : Bool := decide (a < 0x5000) || outWord a

/-- A word stored when the bundle closes. -/
def Engine.store (e : Engine) (a : Nat) (v : BitVec 32) : Engine :=
  if a < 0x4000 then { e with localMem := cellSet 0 e.localMem a v }
  else if a < 0x5000 then { e with ctxWrites := kvSet e.ctxWrites (a - 0x4000) v }
  else { e with out := cellSet 0 e.out (a - 0x5040) v }

/-! ### Timing of a slot (R122, R123) -/

/-- An operand whose ready time a slot waits for. -/
inductive Res where
  | d (r : Nat)
  | accMac (r : Nat)
  | accMov (r : Nat)
  | a (r : Nat)
  | m (r : Nat)
  | p (r : Nat)
  | nx
  | mem (w : Nat)
deriving DecidableEq, Repr

/-- Ready time of an operand. -/
def Ready.at (t : Ready) : Res → Nat
  | .d r => (kvGet t.d r).getD 0
  | .accMac r => (kvGet t.accMac r).getD 0
  | .accMov r => (kvGet t.accMov r).getD 0
  | .a r => (kvGet t.a r).getD 0
  | .m r => (kvGet t.m r).getD 0
  | .p r => (kvGet t.p r).getD 0
  | .nx => t.nx
  | .mem w => (kvGet t.mem w).getD 0

/-- The access a slot makes through an address register. -/
structure Access where
  j : Nat
  off : Nat := 0
  lanes : Nat := 1
  store : Bool := false
  pm : Bool := false
deriving DecidableEq, Repr

/-- What a slot reads, writes and accesses, whatever its predicate (R121). -/
structure SlotInfo where
  reads : List Res := []
  marks : List ReadyMark := []
  access : Option Access := none
  extra : Nat := 0
  pred : Nat := 0
deriving DecidableEq, Repr

/-- The address of an access (R120). -/
def Engine.addr (e : Engine) (x : Access) : Nat := ((e.ar x.j).toNat + x.off) % 65536

/-- A slot joins the bundle: operands awaited, length, region, marks, and the post-modify that no predicate stops (R121 to R123). -/
def Engine.note (e : Engine) (isMac : Bool) (i : SlotInfo) : Engine :=
  let reads := i.reads ++ [.p i.pred] ++ (match i.access with
    | some x => [.a x.j] ++ (if x.pm then [.m x.j] else []) ++ (if x.store then [] else [.mem (e.addr x)])
    | none => [])
  let b := e.bundle
  let region := i.access.bind (fun x => regionOf (e.addr x))
  let marks := i.marks ++ (match i.access with
    | some x => (if x.pm then [.a x.j] else []) ++ (if x.store then [.mem (e.addr x)] else [])
    | none => [])
  let b := { b with
    startMin := (reads.map e.ready.at).foldl max b.startMin
    len := b.len + i.extra
    macRegion := if isMac then region else b.macRegion
    movRegion := if isMac then b.movRegion else region
    marks := b.marks ++ marks }
  let c := match i.access with
    | some x => if x.pm then { e.commit with aregs := kvSet e.commit.aregs x.j (e.ar x.j + e.mr x.j) } else e.commit
    | none => e.commit
  { e with bundle := b, commit := c }

/-- A result becomes ready (Table 3.11). -/
def Ready.mark (t : Ready) (start end_ : Nat) : ReadyMark → Ready
  | .d r dist => { t with d := kvSet t.d r (start + dist) }
  | .acc r => { t with accMac := kvSet t.accMac r (start + 1), accMov := kvSet t.accMov r (start + 3) }
  | .a r => { t with a := kvSet t.a r (start + 1) }
  | .m r => { t with m := kvSet t.m r (start + 1) }
  | .p r => { t with p := kvSet t.p r (start + 1) }
  | .nx dist => { t with nx := start + dist }
  | .dEnd r => { t with d := kvSet t.d r end_ }
  | .nxEnd => { t with nx := end_ }
  | .mem w => { t with mem := kvSet t.mem w (start + 1) }

/-! ### Slots -/

/-- An operation of a slot: its timing, and its writes when its predicate is 1. -/
structure SlotOp where
  info : SlotInfo := {}
  eff : (Nat → BitVec 32) → Engine → Except Nat Commit := fun _ e => .ok e.commit

/-- The MAC slot opens a bundle. -/
def Engine.openBundle (e : Engine) : Engine := { e with commit := {}, bundle := {} }

/-- A MAC or MOVE slot is carried out: a slot whose predicate is 0 writes nothing and accesses no memory (R121). -/
def Engine.slot (e : Engine) (isMac : Bool) (op : SlotOp) (ctx : Nat → BitVec 32) : Except Nat Engine :=
  let e := e.note isMac op.info
  if e.pr op.info.pred then (op.eff ctx e).map (fun c => { e with commit := c }) else .ok e

/-- Where the run goes after the bundle at `pc` (R123). -/
def nextPc : List LoopFrame → Nat → Nat × List LoopFrame
  | [], pc => (pc + 1, [])
  | f :: r, pc =>
    if pc = f.last then (if f.left = 0 then nextPc r pc else (f.first, { f with left := f.left - 1 } :: r))
    else (pc + 1, f :: r)

/-- The bundle closes: its writes are made, its cycles counted, its results become ready, and the run goes on (R121 to R123). -/
def Engine.closeBundle (e : Engine) (loop_ : Option (Nat × Nat)) : Engine :=
  let c := e.commit
  let b := e.bundle
  let len := b.len + (if b.macRegion.isSome && b.macRegion == b.movRegion then 1 else 0)
  let start := max e.cyc b.startMin
  let e := c.mem.foldl (fun e p => e.store p.1 p.2) e
  let pcl : Nat × List LoopFrame := match loop_ with
    | some (count, length) => (e.pc + 1, { first := e.pc + 1, last := e.pc + 1 + length, left := count } :: e.loops)
    | none => nextPc e.loops e.pc
  { e with
    d := c.dregs.foldl (fun l p => putReg 32 l p.1 p.2) e.d
    acc := c.accs.foldl (fun l p => putReg 4 l p.1 p.2) e.acc
    a := c.aregs.foldl (fun l p => putReg 8 l p.1 p.2) e.a
    m := c.mregs.foldl (fun l p => putReg 8 l p.1 p.2) e.m
    p2 := c.p2.getD e.p2
    p3 := c.p3.getD e.p3
    nx := c.nx.getD e.nx
    sf := c.sf.getD e.sf
    ready := b.marks.foldl (fun t k => t.mark start (start + len) k) e.ready
    cyc := start + len
    pc := pcl.1
    loops := pcl.2
    commit := {}
    bundle := {} }

/-! ### MAC slot (Table 3.8) -/

/-- A product shifted by a scale (R124). -/
def shifted (p : Int) (s : Int) : Int := if 0 ≤ s then p * 2 ^ s.toNat else p / 2 ^ (-s).toNat

/-- An accumulator result held in its range; true where it limits (R124). -/
def accHold (x : Int) : BitVec 80 × Bool :=
  (BitVec.ofInt 80 (clampI (-(2 ^ 79)) (2 ^ 79 - 1) x), decide (x < -(2 ^ 79) ∨ 2 ^ 79 ≤ x))

/-- What a MAC-slot operation does with its product. -/
inductive MacKind where
  | set | add | sub
deriving DecidableEq, Repr

/-- One lane of a MAC-slot operation: accumulator `r` takes the shifted product. -/
def Engine.macLane (e : Engine) (k : MacKind) (r : Nat) (p : Int) (c : Commit) : Commit :=
  let old := (e.ac r).toInt
  let x := match k with | .set => p | .add => old + p | .sub => old - p
  let (v, lim) := accHold x
  { c with accs := kvSet c.accs r v, sf := if lim then some true else c.sf }

/-- MUL4, MAC4, MSU4 and MUL1, MAC1, MSU1 (Table 3.8): `lanes` consecutive words at Aj into ACC from `acc` up. A four-lane
access lies at a multiple of 4. -/
def macMem (k : MacKind) (lanes dx j : Nat) (pm : Bool) (acc sci pred : Nat) : SlotOp :=
  let accs := if lanes = 4 then [0, 1, 2, 3] else [acc]
  { info := { reads := [.d dx] ++ (if k = .set then [] else accs.map .accMac), marks := accs.map .acc,
              access := some { j := j, lanes := lanes, pm := pm }, pred := pred },
    eff := fun ctx e =>
      let base := e.addr { j := j }
      if lanes = 4 && base % 4 ≠ 0 then .error base
      else (List.range lanes).foldlM (fun c i => do
        let v ← e.load ctx ((base + i) % 65536)
        pure (e.macLane k (if lanes = 4 then i else acc) (shifted ((e.dr dx).toInt * v.toInt) (e.scale sci)) c)) e.commit }

/-- MULR, MACR, MSUR (Table 3.8). -/
def macReg (k : MacKind) (dx dy acc sci pred : Nat) : SlotOp :=
  { info := { reads := [.d dx, .d dy] ++ (if k = .set then [] else [.accMac acc]), marks := [.acc acc], pred := pred },
    eff := fun _ e => .ok (e.macLane k acc (shifted ((e.dr dx).toInt * (e.dr dy).toInt) (e.scale sci)) e.commit) }

/-- ACCL, ACCA (Table 3.8). -/
def macLoad (k : MacKind) (dx acc sci pred : Nat) : SlotOp :=
  { info := { reads := [.d dx] ++ (if k = .set then [] else [.accMac acc]), marks := [.acc acc], pred := pred },
    eff := fun _ e => .ok (e.macLane k acc (shifted ((e.dr dx).toInt * 2 ^ 31) (e.scale sci)) e.commit) }

/-- CLR4 (Table 3.8). -/
def macClear : SlotOp :=
  { info := { marks := [.acc 0, .acc 1, .acc 2, .acc 3] },
    eff := fun _ e => .ok { e.commit with accs := [(0, 0), (1, 0), (2, 0), (3, 0)] } }

/-! ### MOVE slot (Table 3.9) -/

/-- A data register written, with SF where the result limits (R125). -/
def Commit.put (c : Commit) (dd : Nat) (v : BitVec 32) (lim : Bool := false) : Commit :=
  { c with dregs := kvSet c.dregs (dd % 32) v, sf := if lim then some true else c.sf }

/-- A 32-bit result held in its range; true where it limits (R125). -/
def hold32 (x : Int) : BitVec 32 × Bool := (w32 (clampI (-(2 ^ 31)) (2 ^ 31 - 1) x), decide (x < -(2 ^ 31) ∨ 2 ^ 31 ≤ x))

/-- An accumulator moved with shift `s`, before it is held (R125). -/
def moved (acc : BitVec 80) (s : Int) : Int := roundEven ((acc.toInt : Rat) * pow2 (s - 31))

/-- The largest shift from 63 down, within `fuel` steps, for which R125 does not limit (R126). -/
def normShift (acc : BitVec 80) : Nat → Int → Int
  | 0, s => s
  | n + 1, s => if (hold32 (moved acc s)).2 then normShift acc n (s - 1) else s

/-- MOVS in its three modes (R125, R126). -/
def movMovs (dd acc : Nat) (mode : MovsMode) (pred : Nat) : SlotOp :=
  { info := { reads := [.accMov acc], marks := [.d dd 2] ++ (match mode with | .normalise => [.nx 2] | _ => []), pred := pred },
    eff := fun _ e => match mode with
      | .shift s => let (v, l) := hold32 (moved (e.ac acc) s); .ok (e.commit.put dd v l)
      | .scale sc => let (v, l) := hold32 (moved (e.ac acc) (e.scale sc.val)); .ok (e.commit.put dd v l)
      | .normalise =>
        if e.ac acc = 0 then .ok { e.commit.put dd 0 with nx := some 0 }
        else
          let s := normShift (e.ac acc) 127 63
          .ok { e.commit.put dd (hold32 (moved (e.ac acc) s)).1 with nx := some (BitVec.ofInt 7 s) } }

/-- LD (Table 3.9). -/
def movLd (dd j : Nat) (pm : Bool) (off pred : Nat) : SlotOp :=
  { info := { marks := [.d dd 2], access := some { j := j, off := off, pm := pm }, pred := pred },
    eff := fun ctx e => (e.load ctx (e.addr { j := j, off := off })).map (fun v => e.commit.put dd v) }

/-- ST (Table 3.9). -/
def movSt (dd j : Nat) (pm : Bool) (off pred : Nat) : SlotOp :=
  { info := { reads := [.d dd], access := some { j := j, off := off, pm := pm, store := true }, pred := pred },
    eff := fun _ e =>
      let a := e.addr { j := j, off := off }
      if storeAllowed a then .ok { e.commit with mem := e.commit.mem ++ [(a, e.dr dd)] } else .error a }

/-- An operation of format R with one operand register. -/
def mov1 (dd ds pred : Nat) (f : BitVec 32 → BitVec 32 × Bool) : SlotOp :=
  { info := { reads := [.d ds], marks := [.d dd 1], pred := pred },
    eff := fun _ e => let (v, l) := f (e.dr ds); .ok (e.commit.put dd v l) }

/-- An operation of format R with two operand registers. -/
def mov2 (dd ds dt pred : Nat) (f : BitVec 32 → BitVec 32 → BitVec 32 × Bool) : SlotOp :=
  { info := { reads := [.d ds, .d dt], marks := [.d dd 1], pred := pred },
    eff := fun _ e => let (v, l) := f (e.dr ds) (e.dr dt); .ok (e.commit.put dd v l) }

/-- LDI (Table 3.9): never predicated. -/
def movLdi (dd : Nat) (imm : BitVec 12) : SlotOp :=
  { info := { marks := [.d dd 1] }, eff := fun _ e => .ok (e.commit.put dd (w32 imm.toInt)) }

/-- CLAMP (Table 3.9): limited to D(t) below and D(t + 1) above; with the limits crossed no result is stated (log entry 15). -/
def movClamp (dd ds t pred : Nat) : SlotOp :=
  { info := { reads := [.d ds, .d t, .d ((t + 1) % 32)], marks := [.d dd 1], pred := pred },
    eff := fun _ e =>
      let x := e.dr ds
      let lo := e.dr t
      let hi := e.dr ((t + 1) % 32)
      .ok (e.commit.put dd (if hi.toInt < lo.toInt then Config.clampCross x lo hi else w32 (clampI lo.toInt hi.toInt x.toInt))) }

/-- SINCOS (R127). -/
def movSincos (dd ds pred : Nat) : SlotOp :=
  { info := { reads := [.d ds], marks := [.d dd 4, .d ((dd + 1) % 32) 4], pred := pred },
    eff := fun _ e => .ok ((e.commit.put dd (w32 (sineQ31 (e.dr ds)))).put (dd + 1) (w32 (cosineQ31 (e.dr ds)))) }

/-- The exponent NX of a reciprocal: the n with 2^30 ≤ 2^(62 − n) / |x| < 2^31 (R128). -/
def rcpNx (x : Nat) : Int :=
  let k := Nat.log2 x
  if 2 ^ k = x then 32 - (k : Int) else 31 - (k : Int)

/-- RCP (R128): the stated bound of 2 units leaves the low bits free (log entry 5). -/
def rcpOf (ds : BitVec 32) : BitVec 32 × Int × Bool :=
  if ds = 0 then (0x7FFFFFFF, 63, true)
  else
    let x := ds.toInt
    let nx := rcpNx x.natAbs
    let q : Rat := pow2 (62 - nx) / (x.natAbs : Rat)
    let v := clampI (q - 2).ceil (q + 2).floor (q.floor + Config.rcpDev ds)
    let v := clampI (2 ^ 30) (2 ^ 31 - 1) v
    (w32 (if x < 0 then -v else v), nx, false)

/-- RSQ (R128): the stated bound of 1 unit leaves the low bit free (log entry 5). -/
def rsqOf (ds : BitVec 32) : BitVec 32 × Bool :=
  if ds.toInt < 0 then (0, true)
  else
    let n := ds.toNat * 2 ^ 31
    let r : Int := Nat.sqrt n
    let lo := if r * r = n then r - 1 else r
    (w32 (clampI lo (min (r + 1) (2 ^ 31 - 1)) (r + Config.rsqDev ds)), false)

/-- RCP in its slot: the bundle takes 5 cycles more (R123). -/
def movRcp (dd ds pred : Nat) : SlotOp :=
  { info := { reads := [.d ds], marks := [.dEnd dd, .nxEnd], extra := 5, pred := pred },
    eff := fun _ e => let (v, n, l) := rcpOf (e.dr ds); .ok { e.commit.put dd v l with nx := some (BitVec.ofInt 7 n) } }

/-- RSQ in its slot. -/
def movRsq (dd ds pred : Nat) : SlotOp :=
  { info := { reads := [.d ds], marks := [.dEnd dd], extra := 5, pred := pred },
    eff := fun _ e => let (v, l) := rsqOf (e.dr ds); .ok (e.commit.put dd v l) }

/-- CMP (Table 3.9). -/
def movCmp (cond : CmpCond) (p3 : Bool) (ds dt pred : Nat) : SlotOp :=
  { info := { reads := [.d ds, .d dt], marks := [.p (if p3 then 3 else 2)], pred := pred },
    eff := fun _ e =>
      let x := (e.dr ds).toInt
      let y := (e.dr dt).toInt
      let r := match cond with
        | .less => decide (x < y) | .lessEq => decide (x ≤ y) | .equal => decide (x = y) | .notEqual => decide (x ≠ y)
      .ok (if p3 then { e.commit with p3 := some r } else { e.commit with p2 := some r }) }

/-- XRD (Table 3.9). -/
def movXrd (dd : Nat) (src : XrdSrc) (pred : Nat) : SlotOp :=
  { info := { reads := (match src with | .nx => [.nx] | .sf => [] | .preds => [.p 2, .p 3]), marks := [.d dd 1], pred := pred },
    eff := fun _ e => .ok (e.commit.put dd (match src with
      | .nx => w32 e.nx.toInt
      | .sf => BitVec.ofNat 32 (b2n e.sf)
      | .preds => BitVec.ofNat 32 (1 + 2 * b2n e.p1 + 4 * b2n e.p2 + 8 * b2n e.p3))) }

/-- SFCLR (Table 3.9). -/
def movSfclr : SlotOp := { eff := fun _ e => .ok { e.commit with sf := some false } }

/-- Results of the operations of format R (Table 3.9). -/
def opAdd (x y : BitVec 32) : BitVec 32 × Bool := hold32 (x.toInt + y.toInt)
def opSub (x y : BitVec 32) : BitVec 32 × Bool := hold32 (x.toInt - y.toInt)
def opSat (w : Nat) (x : BitVec 32) : BitVec 32 × Bool :=
  (w32 (clampI (-(2 ^ w)) (2 ^ w - 1) x.toInt), decide (x.toInt < -(2 ^ w) ∨ (2 ^ w : Int) ≤ x.toInt))
def opShl (n : Nat) (x : BitVec 32) : BitVec 32 × Bool := hold32 (x.toInt * 2 ^ n)
def opMin (x y : BitVec 32) : BitVec 32 × Bool := (if x.toInt ≤ y.toInt then x else y, false)
def opMax (x y : BitVec 32) : BitVec 32 × Bool := (if x.toInt ≤ y.toInt then y else x, false)

/-! ### ADDRESS slot (Table 3.10) -/

/-- An ADDRESS-slot operation. -/
inductive AddrOp where
  | nop
  | setA (j : Nat) (v : BitVec 16)
  | addA (j : Nat) (v : BitVec 16)
  | setM (j : Nat) (v : BitVec 16)
  | modA (j : Nat)
  | loop (count length : Nat)
  | end_
deriving DecidableEq, Repr

/-- The signed value of an 11-bit operand. -/
def op11 (op : BitVec 11) : BitVec 16 := BitVec.ofInt 16 op.toInt

/-- ASETL, ASETC and ASETI addresses. -/
def asetlV (op : BitVec 11) : BitVec 16 := BitVec.ofNat 16 (op.toNat * 8)
def asetcV (op : BitVec 11) : BitVec 16 := BitVec.ofNat 16 (0x4000 + op.toNat * 2)
def asetiV (op : BitVec 11) : BitVec 16 := BitVec.ofNat 16 (0x5000 + op.toNat)

/-- The register an ADDRESS-slot operation waits for and makes ready. -/
def AddrOp.info : AddrOp → SlotInfo
  | .setA j _ => { marks := [.a j] }
  | .addA j _ => { reads := [.a j], marks := [.a j] }
  | .setM j _ => { marks := [.m j] }
  | .modA j => { reads := [.a j, .m j], marks := [.a j] }
  | _ => {}

/-- The write of an ADDRESS-slot operation. -/
def AddrOp.write (op : AddrOp) (e : Engine) : Commit :=
  let c := e.commit
  match op with
  | .setA j v => { c with aregs := kvSet c.aregs j v }
  | .addA j v => { c with aregs := kvSet c.aregs j (e.ar j + v) }
  | .setM j v => { c with mregs := kvSet c.mregs j v }
  | .modA j => { c with aregs := kvSet c.aregs j (e.ar j + e.mr j) }
  | _ => c

/-- The ADDRESS slot is carried out and the bundle closes; END completes the run (R107). -/
def Engine.address (e : Engine) (op : AddrOp) : Engine :=
  let b := e.bundle
  let e := { e with bundle := { b with
    startMin := (op.info.reads.map e.ready.at).foldl max b.startMin, marks := b.marks ++ op.info.marks } }
  let e := { e with commit := op.write e }
  match op with
  | .loop c l => e.closeBundle (some (c, l))
  | .end_ => { e.closeBundle none with done := true }
  | _ => e.closeBundle none

/-! ### Decoding a bundle (R114 to R119) -/

/-- The MAC slot of a bundle; none for a reserved opcode, a reserved field that is not 0, or a four-lane ACC field (R119). A
field that an operation does not use and that no table calls reserved is not looked at (log entry 17). -/
def decodeMac (w : Nat) : Option SlotOp :=
  let dx := bits w 58 54
  let j := bits w 53 51
  let pm := bit w 50
  let accM := bits w 49 48
  let sciM := bits w 47 43
  let dy := bits w 53 49
  let accR := bits w 48 47
  let sciR := bits w 46 42
  let pred := bits w 41 40
  let four (k : MacKind) : Option SlotOp := if accM = 0 && !bit w 42 then some (macMem k 4 dx j pm 0 sciM pred) else none
  let one (k : MacKind) : Option SlotOp := if bit w 42 then none else some (macMem k 1 dx j pm accM sciM pred)
  match bits w 63 59 with
  | 0x00 => some {}
  | 0x01 => four .set
  | 0x02 => four .add
  | 0x03 => four .sub
  | 0x04 => one .set
  | 0x05 => one .add
  | 0x06 => one .sub
  | 0x07 => some (macReg .set dx dy accR sciR pred)
  | 0x08 => some (macReg .add dx dy accR sciR pred)
  | 0x09 => some (macReg .sub dx dy accR sciR pred)
  | 0x0A => if dy = 0 then some (macLoad .set dx accR sciR pred) else none
  | 0x0B => if dy = 0 then some (macLoad .add dx accR sciR pred) else none
  | 0x0C => some macClear
  | _ => none

/-- The condition of CMP. -/
def cmpCond (n : Nat) : CmpCond := match n with | 0 => .less | 1 => .lessEq | 2 => .equal | _ => .notEqual

/-- The MOVE slot of a bundle; none for a reserved opcode or an operand that Table 3.9 does not give (R119, log entry 17). -/
def decodeMove (w : Nat) : Option SlotOp :=
  let dd := bits w 34 30
  let ds := bits w 29 25
  let dt := bits w 24 20
  let pred := bits w 19 18
  let two (f : BitVec 32 → BitVec 32 → BitVec 32 × Bool) : Option SlotOp := some (mov2 dd ds dt pred f)
  match bits w 39 35 with
  | 0x00 => some {}
  | 0x01 =>
    let acc := bits w 29 28
    (match bits w 27 26 with
     | 0 => some (movMovs dd acc (.shift (toSigned 6 (bits w 25 20))) pred)
     | 1 => if bit w 25 then none else some (movMovs dd acc (.scale ⟨bits w 24 20 % 32, Nat.mod_lt _ (by decide)⟩) pred)
     | 2 => if bits w 25 20 = 0 then some (movMovs dd acc .normalise pred) else none
     | _ => none)
  | 0x02 => some (movLd dd (bits w 29 27) (bit w 26) (bits w 25 20) pred)
  | 0x03 => some (movSt dd (bits w 29 27) (bit w 26) (bits w 25 20) pred)
  | 0x04 => some (mov1 dd ds pred (fun x => (x, false)))
  | 0x05 => some (movLdi dd (BitVec.ofNat 12 (bits w 29 18)))
  | 0x06 => two opAdd
  | 0x07 => two opSub
  | 0x08 => two (fun x y => (x + y, false))
  | 0x09 => two (fun x y => (x - y, false))
  | 0x0A => two opMin
  | 0x0B => two opMax
  | 0x0C => if dt ≤ 30 then some (mov1 dd ds pred (opSat dt)) else none
  | 0x0D => if dt % 2 = 0 then some (movClamp dd ds dt pred) else none
  | 0x0E => if dd % 2 = 0 then some (movSincos dd ds pred) else none
  | 0x0F => some (movRcp dd ds pred)
  | 0x10 => some (movRsq dd ds pred)
  | 0x11 => two (fun x y => (x * y, false))
  | 0x12 => some (mov1 dd ds pred (fun x => (x.sshiftRight dt, false)))
  | 0x13 => some (mov1 dd ds pred (opShl dt))
  | 0x14 => if bits dd 2 1 = 0 then some (movCmp (cmpCond (bits dd 4 3)) (bit dd 0) ds dt pred) else none
  | 0x15 => (match ds with
        | 0 => some (movXrd dd .nx pred) | 1 => some (movXrd dd .sf pred) | 2 => some (movXrd dd .preds pred) | _ => none)
  | 0x16 => some movSfclr
  | _ => none

/-- The ADDRESS slot of a bundle; none for a reserved opcode or a reserved field that is not 0 (R118, R119). -/
def decodeAddr (w : Nat) : Option AddrOp :=
  let j := bits w 13 11
  let op := BitVec.ofNat 11 (bits w 10 0)
  match bits w 17 14 with
  | 0x0 => some .nop
  | 0x1 => some (.setA j (asetlV op))
  | 0x2 => some (.setA j (asetcV op))
  | 0x3 => if op.toNat ≤ 0xBF then some (.setA j (asetiV op)) else none
  | 0x4 => some (.addA j (op11 op))
  | 0x5 => some (.setM j (op11 op))
  | 0x6 => some (.modA j)
  | 0x7 => some (.loop (bits w 13 6) (bits w 5 0))
  | 0xF => some .end_
  | _ => none

end Sys2Proof.Machine
end

