-- ==== Sys2Proof/Machine/Kernels.lean ====
section
/-!
DEFINITION. Kernels: the figures of a standard or custom kernel (Tables 3.13, 3.16), the blocks and the parameter record of an
axis context (R137, R138), the scale registers (R135, R136), and the verification of an image (R130, R140).
-/
namespace Sys2Proof.Machine

/-- The figures of a kernel (Table 3.13, R141) and its context layout (Table 3.16). -/
structure KInfo where
  id : Nat
  ty : AxisType
  maxN : Nat
  maxP : Nat
  maxM : Nat
  maxH : Nat
  cost : Nat
  bundles : Nat
  localBytes : Nat
  ctxBytes : Nat
  crc : BitVec 32
  paramBase : Nat
  bases : List (Option Nat)
  formulas : List Nat
deriving DecidableEq, Repr

/-- A standard kernel (Table 3.13). Its context layout is not given, so its bases are free (log entry 16). -/
def stdKernel (id : Nat) : Option KInfo :=
  let mk (ty : AxisType) (n p m h cost bundles loc ctx : Nat) : Option KInfo :=
    some { id := id, ty := ty, maxN := n, maxP := p, maxM := m, maxH := h, cost := cost, bundles := bundles, localBytes := loc,
           ctxBytes := ctx, crc := Config.stdCrc id, paramBase := Config.stdBase id 9,
           bases := (List.range 9).map (fun b => some (Config.stdBase id b)), formulas := [] }
  match id with
  | 1 => mk .segment 8 6 3 8 236 214 1024 2048
  | 2 => mk .servo 8 6 3 0 236 222 1024 2048
  | 3 => mk .stepper 6 4 2 0 148 140 768 1536
  | 4 => mk .aux 4 2 1 0 96 88 512 768
  | _ => none

/-! ### The image (Table 3.16) -/

def imgBundles (i : List Byte) : Nat := le i 0x08 2
def imgConst (i : List Byte) : Nat := le i 0x0A 2
def imgScratch (i : List Byte) : Nat := le i 0x0C 2
def imgCtx (i : List Byte) : Nat := le i 0x0E 2
def imgScCount (i : List Byte) : Nat := byteAt i 0x28
def imgFormulas (i : List Byte) : List Nat := (List.range (imgScCount i)).map (fun n => le i (0x30 + 4 * n) 4)
def imgBundle (i : List Byte) (n : Nat) : Nat := le i (0xB0 + 8 * n) 8
def imgConstWord (i : List Byte) (n : Nat) : BitVec 32 := BitVec.ofNat 32 (le i (0xB0 + 8 * imgBundles i + 4 * n) 4)
def imgBase (i : List Byte) (b : Nat) : Option Nat :=
  let v := le i (0x16 + 2 * b) 2
  if v = 0xFFFF then none else some v

/-- Bytes of local data a kernel takes (R141). -/
def localBytesOf (const scratch : Nat) : Nat := ceilDiv (const + scratch) 8 * 32

/-- The figures of a custom kernel (R141). -/
def Kernel.info (k : Kernel) : KInfo :=
  let i := k.image
  { id := k.id, ty := (axisTypeOf (byteAt i 2)).getD .servo, maxN := byteAt i 4, maxP := byteAt i 5, maxM := byteAt i 6,
    maxH := byteAt i 7, cost := k.cost, bundles := imgBundles i, localBytes := localBytesOf (imgConst i) (imgScratch i),
    ctxBytes := 4 * imgCtx i, crc := BitVec.ofNat 32 (le i (i.length - 4) 4), paramBase := le i 0x14 2,
    bases := (List.range 9).map (imgBase i), formulas := imgFormulas i }

/-- A custom kernel held. -/
def State.kernel? (s : State) (id : Nat) : Option Kernel := s.kernels.held.find? (fun k => k.id == id)

/-- The figures of a kernel that the part holds. -/
def State.kinfo? (s : State) (id : Nat) : Option KInfo :=
  match stdKernel id with
  | some k => some k
  | none => (s.kernel? id).map Kernel.info

/-! ### Coefficient blocks (Table 2.7) -/

/-- Rows and columns of a block for dimensions n, p, m and reach h. -/
def blockDims (n p m h b : Nat) : Nat × Nat :=
  match b with
  | 0 => (n, n) | 1 => (n, m) | 2 => (n, p) | 3 => (p, n) | 4 => (n, 2) | 5 => (m, n) | 6 => (m, 4) | 7 => (n, m)
  | 8 => (2, h)
  | _ => (0, 0)

/-- Column stride of a block in a context: its largest row count rounded up to a multiple of 4 (R137). -/
def KInfo.stride (k : KInfo) (b : Nat) : Nat := ceilDiv (blockDims k.maxN k.maxP k.maxM k.maxH b).1 4 * 4

/-- Context words of a block. -/
def KInfo.blockWords (k : KInfo) (b : Nat) : Nat := k.stride b * (blockDims k.maxN k.maxP k.maxM k.maxH b).2

/-- The block, row and column at a context word (R137). -/
def KInfo.elemAt (k : KInfo) (w : Nat) : Option (Nat × Nat × Nat) :=
  (List.range 9).findSome? (fun b => match k.bases.getD b none with
    | some base =>
      if base ≤ w && w < base + k.blockWords b then some (b, (w - base) % k.stride b, (w - base) / k.stride b) else none
    | none => none)

/-! ### Dimensions and exponents of an axis -/

/-- DIM_N, DIM_P and DIM_M. -/
def State.dim (s : State) (n i : Nat) : Nat := s.fld (tgtAxis n) 0x0208 0 i

/-- EXP_STATE, EXP_MEAS and EXP_OUT. -/
def State.expState (s : State) (n i : Nat) : Int := s.fldI (tgtAxis n) 0x0208 6 i
def State.expMeas (s : State) (n i : Nat) : Int := s.fldI (tgtAxis n) 0x0208 6 (8 + i)
def State.expOut (s : State) (n i : Nat) : Int := s.fldI (tgtAxis n) 0x0208 6 (14 + i)

/-- The coefficients of an axis, and of a coupling group. -/
def State.coefA (s : State) (n : Nat) : CoefRt := ((s.axis? n).map (·.coef)).getD {}
def State.coefG (s : State) (g : Nat) : CoefRt := (kvGet s.coupling.coef g).getD {}

/-- The exponent of a block in force: the field's integer, the one its elements are held at, or HEADROOM (R88). -/
def blockExp (field : Option Int) (held : Option Int) (headroom : Int) : Int :=
  match field with | some e => e | none => held.getD headroom

/-- e_b of a block of an axis in force. -/
def State.expBlock (s : State) (n b : Nat) : Int :=
  blockExp (s.fldO (tgtAxis n) 0x0208 4 b) (kvGet (s.coefA n).held b) (s.fldI (tgtAxis n) 0x0208 5 b)

/-- e_b of a coupling group in force (R101). -/
def State.expCpl (s : State) (g : Nat) : Int :=
  blockExp (s.fldO (tgtCg g) 0x0209 2 0) (kvGet (s.coefG g).held 8) (s.fldI (tgtCg g) 0x0209 3 0)

/-- The exponent in force that an exponent code names (Table 3.18). -/
def State.expCode (s : State) (n code : Nat) : Int :=
  if code = 0 then 0
  else if code ≤ 8 then s.expBlock n (code - 1)
  else if code ≤ 0x10 then s.expState n (code - 9)
  else if code ≤ 0x16 then s.expMeas n (code - 0x11)
  else if code ≤ 0x19 then s.expOut n (code - 0x17)
  else if code ≤ 0x1D then s.expRef n (code - 0x1A)
  else match s.cplGroup n with | some g => s.expCpl g | none => 0

/-- The value of a scale formula under a choice of exponents (R135, Table 3.17). -/
def scaleOf (expOf : Nat → Int) (f : Nat) : Int :=
  let term (t : Nat) : Int := (if bit t 7 then -1 else 1) * expOf (t % 32)
  toSigned 6 (bits f 29 24) + term (bits f 7 0) + term (bits f 15 8) + term (bits f 23 16)

/-- SC0 to SC30 of an axis (R135). -/
def State.scales (s : State) (n : Nat) : List Int :=
  match (s.axis? n).bind (fun a => s.kinfo? a.entry.kernel) with
  | some k => k.formulas.map (scaleOf (s.expCode n))
  | none => []

/-! ### The parameter record (Table 3.19) -/

/-- A real number as a mantissa in Q1.31 and an exponent (Table 3.19); 0 has exponent 0. -/
def mantExp (x : Rat) : Int × Int :=
  if x = 0 then (0, 0)
  else
    let e := exponentUp (absR x) 320 0
    (toQ31 e x, e)

/-- MEAS_OFFSET in the unit of its source (Table 3.19). -/
def offsetWord (src : Nat) (x : Rat) : BitVec 32 :=
  match src with
  | 0 => 0
  | 8 | 9 => w32 (clampI (-(2 ^ 31)) (2 ^ 31 - 1) (roundEven (x * 256)))
  | _ => w32 (toQ31 0 x)

/-- A word of the parameter record of an axis (R138). -/
def State.paramWord (s : State) (n i : Nat) : BitVec 32 :=
  let t := tgtAxis n
  let f (row elem : Nat) : Nat := s.fld t 0x0208 row elem
  let r (row elem : Nat) : Rat := s.fldR t 0x0208 row elem
  let nat (v : Nat) : BitVec 32 := BitVec.ofNat 32 v
  if i < 6 then w32 (mantExp (r 2 i)).1
  else if i < 12 then w32 (mantExp (r 2 (i - 6))).2
  else if i < 18 then offsetWord (f 1 (i - 12)) (r 3 (i - 12))
  else if i < 21 then w32 (toQ31 (s.expOut n (i - 18)) (r 16 (i - 18)))
  else if i < 24 then w32 (toQ31 (s.expOut n (i - 21)) (r 16 (i - 18)))
  else match i with
    | 24 => w32 (toQ31 0 (r 15 0))
    | 25 => w32 (toQ31 12 (r 17 0))
    | 26 => nat (f 18 0)
    | 27 => nat (f 19 0)
    | 28 => nat (f 20 0)
    | 29 => nat (f 21 0)
    | 30 => nat (min (2 ^ 32 - 1) (roundEven (r 11 0 * 4294967296)).toNat)
    | 31 => w32 (toQ31 2 (r 12 0))
    | 32 => nat (f 8 0)
    | 33 => (match s.fldO t 0x0208 7 0 with | some v => w32 v | none => 0xFFFFFFFF)
    | 34 => (match s.cplGroup n with | some g => nat (s.fld (tgtCg g) 0x0209 0 0) | none => 0)
    | 35 => (match s.cplGroup n with | some g => nat (s.fld (tgtCg g) 0x0209 1 0) | none => 0)
    | 36 => nat (f 25 0)
    | _ => 0

/-- A context word of an axis: a parameter, a coefficient in force, or a word of the kernel's own (R137, R138). -/
def State.ctxWord (s : State) (n w : Nat) : BitVec 32 :=
  match s.axis? n with
  | none => 0
  | some a =>
    match s.kinfo? a.entry.kernel with
    | none => cellGet 0 a.ctx w
    | some k =>
      if k.paramBase ≤ w && w < k.paramBase + 64 then s.paramWord n (w - k.paramBase)
      else match k.elemAt w with
        | some (8, row, col) => (match s.cplGroup n with
          | some g => (kvGet (s.coefG g).elems (8, row, col)).getD 0
          | none => 0)
        | some key => (kvGet a.coef.elems key).getD 0
        | none => cellGet 0 a.ctx w

/-- The context of the axis an engine runs; 0 with no axis dispatched. -/
def State.ctxOf (s : State) (e : Engine) : Nat → BitVec 32 :=
  match e.axis with | some n => s.ctxWord n | none => fun _ => 0

/-! ### Verification (R140) -/

/-- The registers a slot writes (R119). -/
def SlotInfo.writes (i : SlotInfo) : List Res :=
  i.marks.filterMap (fun m => match m with
    | .d r _ => some (.d r) | .dEnd r => some (.d r) | .acc r => some (.accMac r) | .a r => some (.a r) | .m r => some (.m r)
    | .p r => some (.p r) | .nx _ => some .nx | .nxEnd => some .nx | .mem _ => none)
  ++ (match i.access with | some x => if x.pm then [.a x.j] else [] | none => [])

/-- Two slots of a bundle write one register (R119). -/
def writesClash (a b : SlotInfo) : Bool := a.writes.any (fun r => b.writes.contains r)

/-- The bundle at an index, decoded; none for any case of R119. -/
def decodeBundle (w : Nat) : Option (SlotOp × SlotOp × AddrOp) :=
  match decodeMac w, decodeMove w, decodeAddr w with
  | some m, some v, some a =>
    if writesClash m.info v.info || writesClash m.info a.info || writesClash v.info a.info then none else some (m, v, a)
  | _, _, _ => none

/-- What the verifier's run of the addresses holds. -/
structure VRun where
  e : Engine
  scratch : List Nat := []
  ctx : List Nat := []
  addrErr : Option Nat := none
  uninit : Option Nat := none

/-- The lowest bundle index noted. -/
def minIdx (o : Option Nat) (i : Nat) : Option Nat := match o with | some j => some (min i j) | none => some i

/-- An access that no region allows (check 0x07). -/
def badAccess (img : List Byte) (base : Nat) (x : Access) : Bool :=
  (x.lanes = 4 && base % 4 ≠ 0)
  || (List.range x.lanes).any (fun i =>
    let a := (base + i) % 65536
    if a < 0x4000 then !(decide (a < imgConst img + imgScratch img)) || (x.store && decide (a < imgConst img))
    else if a < 0x5000 then !(decide (a - 0x4000 < imgCtx img))
    else if x.store then !outWord a
    else decide (0x50C0 ≤ a))

/-- The accesses of a slot noted: errors, scratch and context words. -/
def VRun.access (v : VRun) (img : List Byte) (idx : Nat) (i : SlotInfo) : VRun :=
  match i.access with
  | none => v
  | some x =>
    let base := v.e.addr x
    if badAccess img base x then { v with addrErr := minIdx v.addrErr idx }
    else if x.store then
      (if base < 0x4000 then { v with scratch := base :: v.scratch }
       else if base < 0x5000 then { v with ctx := if base ∈ v.ctx then v.ctx else base :: v.ctx } else v)
    else if (List.range x.lanes).any (fun k => decide (base + k < 0x4000) && decide (imgConst img ≤ base + k) && decide (base + k ∉ v.scratch))
    then { v with uninit := minIdx v.uninit idx } else v

/-- The verifier's run: addresses and timing are fixed by the program text (R120, R130). -/
def verifyRun (img : List Byte) : Nat → VRun → VRun
  | 0, v => v
  | n + 1, v =>
    if v.e.done then v
    else match decodeBundle (imgBundle img v.e.pc) with
      | none => v
      | some (m, mv, ad) =>
        let idx := v.e.pc
        let v' := (v.access img idx m.info).access img idx mv.info
        let e := ((v.e.openBundle).note true m.info).note false mv.info
        verifyRun img n { v' with e := e.address ad }

/-- Loops of a program: bundle, first and last of the body (R123). -/
def loopsOf (img : List Byte) : List (Nat × Nat × Nat) :=
  (List.range (imgBundles img)).filterMap (fun i => match decodeAddr (imgBundle img i) with
    | some (.loop _ l) => some (i, i + 1, i + 1 + l)
    | _ => none)

/-- The first loop that breaks R123. -/
def loopError (img : List Byte) : Option Nat :=
  let ls := loopsOf img
  let last := imgBundles img - 1
  (ls.find? (fun l =>
    let outer := ls.filter (fun o => o.2.1 ≤ l.1 && l.1 ≤ o.2.2)
    decide (last ≤ l.2.2) || decide (1 < outer.length) || outer.any (fun o => decide (o.2.2 < l.2.2)))).map (·.1)

/-- The ranges of an image's context do not overlap and lie within it (check 0x03). -/
def layoutOk (img : List Byte) : Bool :=
  let k := ({ image := img } : Kernel).info
  let pieces := (k.paramBase, 64) :: (List.range 9).filterMap (fun b => (k.bases.getD b none).map (fun x => (x, k.blockWords b)))
  pieces.all (fun p => p.1 % 4 == 0 && decide (p.1 + p.2 ≤ imgCtx img))
    && decide (List.Pairwise (fun (p q : Nat × Nat) => p.1 + p.2 ≤ q.1 ∨ q.1 + q.2 ≤ p.1 ∨ p.2 = 0 ∨ q.2 = 0) pieces)
    && decide (64 ≤ imgCtx img ∧ imgCtx img ≤ 4096) && decide (imgConst img + imgScratch img ≤ 16384) && decide (imgScCount img ≤ 31)
    && (imgFormulas img).all (fun f => bits f 31 30 == 0
        && [bits f 7 0, bits f 15 8, bits f 23 16].all (fun t => bits t 6 5 == 0 && t % 32 != 0x1F))

/-- Dimensions within Table 2.1 for a type. -/
def typeMax : AxisType → Nat × Nat × Nat
  | .segment => (8, 6, 3) | .servo => (8, 6, 3) | .stepper => (6, 4, 2) | .aux => (4, 2, 1)

/-- TYPE, MAX_N, MAX_P, MAX_M and MAX_H are allowed (check 0x02). -/
def imgTypeOk (img : List Byte) : Bool :=
  match axisTypeOf (byteAt img 2) with
  | none => false
  | some t =>
    let m := typeMax t
    decide (1 ≤ byteAt img 4 ∧ byteAt img 4 ≤ m.1 ∧ 1 ≤ byteAt img 5 ∧ byteAt img 5 ≤ m.2.1 ∧ 1 ≤ byteAt img 6 ∧ byteAt img 6 ≤ m.2.2)
      && (if t = .segment then decide (byteAt img 7 ≤ 8) else byteAt img 7 == 0)

/-- FORMAT, reserved bytes and length (check 0x01). -/
def imgFormatOk (img : List Byte) : Bool :=
  le img 0 2 == 1 && byteAt img 3 == 0 && (List.range 7).all (fun i => byteAt img (0x29 + i) == 0)
    && (List.range 4).all (fun i => byteAt img (0xAC + i) == 0) && decide (1 ≤ imgBundles img ∧ imgBundles img ≤ 4096)
    && img.length == 0xB0 + 8 * imgBundles img + 4 * imgConst img + 4

/-- The outcome of verification: the cost, or the reason code and bundle index of the first check that fails (R140). -/
def verifyImage (held : List Kernel) (img : List Byte) : Except (Nat × Nat) Nat :=
  let n := imgBundles img
  let v := verifyRun img (4096 * 65536 + 1) { e := { cyc := 4 } }
  if !imgFormatOk img then .error (0x01, 0xFFFF)
  else if !imgTypeOk img then .error (0x02, 0xFFFF)
  else if !layoutOk img then .error (0x03, 0xFFFF)
  else match (List.range n).find? (fun i => (decodeBundle (imgBundle img i)).isNone) with
  | some i => .error (0x04, i)
  | none => match (List.range n).find? (fun i => ((decodeAddr (imgBundle img i)) == some .end_) != (i + 1 == n)) with
  | some i => .error (0x05, i)
  | none => match loopError img with
  | some i => .error (0x06, i)
  | none => match v.addrErr with
  | some i => .error (0x07, i)
  | none => match v.uninit with
  | some i => .error (0x08, i)
  | none =>
    if 256 < v.ctx.length then .error (0x09, 0xFFFF)
    else if le img 0x10 4 < v.e.cyc || 38520 < v.e.cyc then .error (0x0A, 0xFFFF)
    else if 32 ≤ held.length || 512 * 1024 < (held.map (·.image.length)).sum + img.length then .error (0x0B, 0xFFFF)
    else .ok v.e.cyc

/-- The lowest free custom kernel ID (R141). -/
def freeKernelId (held : List Kernel) : Nat :=
  ((List.range 32).find? (fun i => held.all (fun k => k.id ≠ 0x20 + i))).elim 0x3F (fun i => 0x20 + i)

end Sys2Proof.Machine
end

