-- ==== Sys2Proof/Machine/Law.lean ====
section
/-!
DEFINITION. The law of an axis in one servo period as the standard kernels compute it (Table 2.4, R66 to R89): exact rational
arithmetic on the words in force, each result rounded and held at its exponent, with the free deviation of log entry 5.
-/
namespace Sys2Proof.Machine

/-- FLAGS word bits (Table 3.5). -/
def flagsWord (follow loss sat persist vdcLow : Bool) : BitVec 32 :=
  BitVec.ofNat 32 (b2n follow + 2 * b2n loss + 4 * b2n sat + 8 * b2n persist + 16 * b2n vdcLow)

/-- The output mode of a state (Table 2.2). -/
def State.modeOf (s : State) (n : Nat) (st : AxisSt) : OutMode :=
  match st with
  | .hold | .run | .stopRamp => .enabled
  | .faulted => if s.fld (tgtAxis n) 0x0208 22 0 = 1 then .shortLow else .off
  | _ => .off

/-- MECH_ANGLE as Q0.32 turns (Table 3.3, R216). -/
def State.mechAngle (s : State) (n : Nat) (d : Decoder) : BitVec 32 :=
  let cpr := s.fld (tgtAxis n) 0x0208 9 0
  let num := d.mech.toNat * 65536
  BitVec.ofNat 32 (num / cpr + (if num % cpr = 0 then 0 else min 1 (Config.angleDev d.mech cpr)))

/-- w[0] at exponent 12: the node's DC-link voltage of its last agreed sample block in volts (Tables 3.3, 5.3). -/
def State.vdcWord (s : State) (a : Axis) : BitVec 32 :=
  let fs := s.fldR (tgtNode (a.entry.node / 8) (a.entry.node % 8)) 0x0508 3 0
  match s.node? a.entry.node with
  | some r => w32 (toQ31 12 ((r.vdc.toNat : Rat) * fs / 65536))
  | none => 0

/-! ### Measurements (R67 to R70) -/

/-- RAW[i] as a fraction of full scale. -/
def Decoder.rawFrac (d : Decoder) (i : Nat) : Rat := ((d.raw.getD i 0).toInt : Rat) / 32768

/-- A bit of the VALID word (R217). -/
def Decoder.ok (d : Decoder) (i : Nat) : Bool := d.valid.getLsbD i

/-- MEAS_SRC[i]. -/
def State.measSrc (s : State) (n i : Nat) : Nat := s.fld (tgtAxis n) 0x0208 1 i

/-- Measurement i is valid (R68). -/
def State.measOk (s : State) (n : Nat) (d : Decoder) (i : Nat) : Bool :=
  let ana := s.fld (tgtAxis n) 0x0509 2 0
  let three := d.ok 0 && d.ok 1 && d.ok 2
  match s.measSrc n i with
  | 0 => true
  | 1 | 2 => three && d.ok 10
  | 3 | 4 | 5 => three
  | 6 | 7 => d.ok 0 && d.ok 1
  | 8 => d.ok 8
  | 9 => d.ok 9
  | 10 => d.ok ana
  | _ => d.ok (ana + 1)

/-- Sine and cosine of an angle in turns (R127). -/
def sinT (θ : BitVec 32) : Rat := (sineQ31 θ : Rat) / 2147483648
def cosT (θ : BitVec 32) : Rat := (cosineQ31 θ : Rat) / 2147483648

/-- The square root of 3, to the 2^−40 of log entry 5. -/
def root3 : Rat := sqrtR 3

/-- Measurement i before it is held (R67, R650, R651), at the electrical angle θ or the microstep angle. -/
def State.measValue (s : State) (n : Nat) (d : Decoder) (θ : BitVec 32) (i : Nat) : Rat :=
  let sc := s.fldR (tgtAxis n) 0x0208 2 i
  let off := s.fldR (tgtAxis n) 0x0208 3 i
  let ana := s.fld (tgtAxis n) 0x0509 2 0
  let c (j : Nat) : Rat := sc * (d.rawFrac j - off)
  let α := (2 * c 0 - c 1 - c 2) / 3
  let β := (c 1 - c 2) / root3
  match s.measSrc n i with
  | 0 => 0
  | 1 => α * cosT θ + β * sinT θ
  | 2 => -α * sinT θ + β * cosT θ
  | 3 => (c 0 + c 1 + c 2) / 3
  | 4 => α
  | 5 => β
  | 6 => c 0 * cosT θ + c 1 * sinT θ
  | 7 => -(c 0) * sinT θ + c 1 * cosT θ
  | 8 => sc * (posR (d.pos - (s.mot n).o) - off)
  | 9 => sc * ((d.speed : Rat) - off)
  | 10 => c ana
  | _ => c (ana + 1)

/-! ### Held words -/

/-- A computed word: the terms of a sum, rounded, moved by the free deviation `index` of the run `k`, and held at its exponent;
true where it saturates (R86, R89). Terms that are all 0 give 0 exactly (R137). -/
def heldWord (k index : Nat) (e : Int) (terms : List Rat) : BitVec 32 × Bool :=
  if terms.all (fun t => t = 0) then (0, false)
  else hold32 (roundEven (terms.sum * pow2 (31 - e)) + Config.kernelDev k index)

/-- A coefficient in force as a number (R86). -/
def State.coefR (s : State) (n : Nat) (c : CoefRt) (b row col : Nat) : Rat :=
  match kvGet c.elems (b, row, col) with
  | some w => q31 (s.expBlock n b) w
  | none => 0

/-- w[1]: the coupling sum of R77 from the buffer of the previous cycle (R78). -/
def State.couplingSum (s : State) (n : Nat) (ty : AxisType) : List Rat :=
  match ty, s.cplGroup n with
  | .segment, some g =>
    let N := s.fld (tgtCg g) 0x0209 0 0
    let h := s.fld (tgtCg g) 0x0209 1 0
    let p := s.ringPos n
    let c := s.coefG g
    let e := s.expCpl g
    let wt (row col : Nat) : Rat := ((kvGet c.elems (8, row, col)).map (q31 e)).getD 0
    let src (q : Nat) : Rat := q31 12 (s.cplEntry g q)
    (List.range h).flatMap (fun i =>
      let j := i + 1
      [wt 0 i * src ((p + j) % N), wt 1 i * src ((p + N - j % N) % N)])
  | _, _ => []

/-! ### Limits and modulation (R80 to R84) -/

/-- V_max of CIRCLE (R80): MOD_MODE 0 is SPACE_VECTOR, 1 SINE_TRIANGLE. -/
def vMax (mod_ : Nat) (kMod vdc : Rat) : Rat := if mod_ = 0 then kMod * vdc / root3 else kMod * vdc / 2

/-- Step 6: the limited outputs (R80). LIMIT_MODE 1 is CIRCLE. -/
def State.limitU (s : State) (n k : Nat) (vdc : Rat) (raw : List (BitVec 32)) : List (BitVec 32) :=
  let f (row elem : Nat) : Nat := s.fld (tgtAxis n) 0x0208 row elem
  let box (i : Nat) : BitVec 32 :=
    let e := s.expOut n i
    let lo := toQ31 e (s.fldR (tgtAxis n) 0x0208 16 i)
    let hi := toQ31 e (s.fldR (tgtAxis n) 0x0208 16 (3 + i))
    w32 (clampI lo hi (raw.getD i 0).toInt)
  let circle := f 14 0 = 1 ∧ f 13 0 ≤ 1
  let vm := vMax (f 13 0) (s.fldR (tgtAxis n) 0x0208 15 0) vdc
  let e0 := s.expOut n 0
  let e1 := s.expOut n 1
  let lim (e : Int) (i : Nat) (b : Rat) (idx : Nat) : BitVec 32 :=
    let x := q31 e (raw.getD i 0)
    if absR x < b then raw.getD i 0 else (heldWord k idx e [if x < 0 then -b else b]).1
  let u0 := lim e0 0 vm 40
  (List.range raw.length).map (fun i =>
    if circle then
      (match i with
       | 0 => u0
       | 1 => let v0 := q31 e0 u0; lim e1 1 (sqrtR (vm * vm - v0 * v0)) 41
       | _ => box i)
    else box i)

/-- A duty word (R83), with the free deviation of its computation. -/
def dutyWord (k i : Nat) (duty : Rat) : BitVec 16 :=
  BitVec.ofNat 16 (clampI 0 65535 (roundEven (clampR 0 1 duty * 65535) + Config.kernelDev k (50 + i))).toNat

/-- Step 8: the duty words (R82, R83, R650). -/
def State.modulate (s : State) (n k m : Nat) (vdc : Rat) (θ : BitVec 32) (u : List (BitVec 32)) : List (BitVec 16) :=
  let mode := s.fld (tgtAxis n) 0x0208 13 0
  let v (i : Nat) : Rat := q31 (s.expOut n i) (u.getD i 0)
  if mode ≤ 1 then
    let vα := v 0 * cosT θ - v 1 * sinT θ
    let vβ := v 0 * sinT θ + v 1 * cosT θ
    let ph := [vα, -vα / 2 + root3 * vβ / 2, -vα / 2 - root3 * vβ / 2]
    let hi := ph.foldl maxR vα
    let lo := ph.foldl minR vα
    let v0 : Rat := if mode = 0 then -(hi + lo) / 2 else 0
    let z : Rat := if 3 ≤ m then v 2 else 0
    (List.range 3).map (fun i => dutyWord k i (1 / 2 + (ph.getD i 0 + v0 + z) / vdc))
  else (List.range m).map (fun i => dutyWord k i (if mode = 2 then v i else 1 / 2 + v i / 2))

/-! ### One servo period (Table 2.4) -/

/-- What a period of the law leaves: its output area and the law's state. -/
structure LawOut where
  out : List (Nat × BitVec 32)
  law : LawRt
deriving DecidableEq, Repr

/-- Words placed into a sparse area from an offset. -/
def placeWords (m : List (Nat × BitVec 32)) (o : Nat) (ws : List (BitVec 32)) : List (Nat × BitVec 32) :=
  (List.range ws.length).foldl (fun m i => cellSet 0 m (o + i) (ws.getD i 0)) m

/-- [31:16] of two words as one snapshot word (R557). -/
def packHigh (lo hi : BitVec 32) : BitVec 32 := BitVec.ofNat 32 (lo.toNat / 65536 + hi.toNat / 65536 * 65536)

/-- Two 16-bit words as one snapshot word. -/
def packLow (lo hi : BitVec 16) : BitVec 32 := BitVec.ofNat 32 (lo.toNat + hi.toNat * 65536)

/-- The electrical angle base and step of a period (R70): from the decoder while valid, otherwise extrapolated. -/
def State.angleBase (s : State) (n : Nat) (a : Axis) : BitVec 32 × BitVec 32 :=
  let pp := BitVec.ofNat 32 (s.fld (tgtAxis n) 0x0208 8 0)
  if a.dec.ok 10 then
    let step := a.dec.angleStep.toInt * 2
    (pp * s.mechAngle n a.dec, pp * BitVec.ofInt 32 step)
  else (a.law.lastAngle.getD 0 + a.law.lastOmega, a.law.lastOmega)

/-- A servo period of a standard kernel (R66): steps 1 to 10, or 1 to 4 and 9 to 10 where no law is computed. -/
def State.lawStep (s : State) (n : Nat) (a : Axis) (k : Nat) : LawOut :=
  let law := a.law
  let d := a.dec
  let ty := a.entry.ty
  let N := s.dim n 0
  let P := s.dim n 1
  let M := s.dim n 2
  let comp := a.st.computes
  -- step 1
  let (base, step) := s.angleBase n a
  let off := BitVec.ofNat 32 (roundEven (s.fldR (tgtAxis n) 0x0208 11 0 * 4294967296)).toNat
  let r := s.mot n |>.r
  let μ : BitVec 32 := BitVec.ofInt 32 (roundEven (q31 (s.expRef n 2) (r.getD 2 0) * 4294967296))
  let θ := if ty = .stepper then μ else base + off
  let oks := (List.range P).map (s.measOk n d)
  let y := (List.range P).map (fun i => (heldWord k i (s.expMeas n i) [s.measValue n d θ i]).1)
  let yv (i : Nat) : Rat := q31 (s.expMeas n i) (y.getD i 0)
  -- step 2
  let x0 := (List.range N).map (fun i => law.xhat.getD i 0)
  let shift := posR ((s.mot n).o - (s.mot n).oPrev)
  let ps := (s.fldO (tgtAxis n) 0x0208 7 0).map Int.toNat
  let x1 := (List.range N).map (fun i =>
    let w := x0.getD i 0
    if ps = some i then (hold32 (roundEven ((q31 (s.expState n i) w - shift) * pow2 (31 - s.expState n i)))) else (w, false))
  let sat1 := x1.any (·.2)
  let xv (i : Nat) : Rat := q31 (s.expState n i) ((x1.getD i (0, false)).1)
  -- step 3
  let vNow : Option (BitVec 32) := if d.ok 11 then some (s.vdcWord a) else law.lastVdc
  let w0 := (vNow.map (q31 12)).getD 0
  let w1 := (s.couplingSum n ty).sum
  -- step 4
  let c (b row col : Nat) : Rat := s.coefR n a.coef b row col
  let uPrev (i : Nat) : Rat := if law.mode = .enabled then q31 (s.expOut n i) (law.u.getD i 0) else 0
  let innov (i : Nat) : Rat :=
    if oks.getD i false then yv i - ((List.range N).map (fun j => c 3 i j * xv j)).sum else 0
  let x2 := (List.range N).map (fun i =>
    heldWord k (8 + i) (s.expState n i)
      ((List.range N).map (fun j => c 0 i j * xv j) ++ (List.range M).map (fun j => c 1 i j * uPrev j)
        ++ (List.range P).map (fun j => c 2 i j * innov j) ++ [c 4 i 0 * w0, c 4 i 1 * w1]))
  let sat2 := x2.any (·.2)
  let x2v (i : Nat) : Rat := q31 (s.expState n i) ((x2.getD i (0, false)).1)
  -- step 5
  let inj : Rat := match a.inj with
    | some j => if j.point = 0 ∧ j.started then q31 (s.expOut n 0) (w32 j.value) else 0
    | none => 0
  let raw := (List.range M).map (fun i =>
    heldWord k (16 + i) (s.expOut n i)
      ((List.range N).map (fun j => -(c 5 i j) * x2v j) ++ (List.range 4).map (fun j => c 6 i j * q31 (s.expRef n j) (r.getD j 0))
        ++ [if i = 0 then inj else 0]))
  let rawW := raw.map (·.1)
  let sat3 := comp && raw.any (·.2)
  -- V_dc of R84
  let vMin := s.fldR (tgtAxis n) 0x0208 17 0
  let low := comp && (match vNow with | some w => decide (q31 12 w < vMin) | none => true)
  let vdc := match vNow with | some w => if q31 12 w < vMin then vMin else q31 12 w | none => vMin
  -- steps 6 and 7
  let u := s.limitU n k vdc rawW
  let du (i : Nat) : Rat := q31 (s.expOut n i) (u.getD i 0) - q31 (s.expOut n i) (rawW.getD i 0)
  let x3 := (List.range N).map (fun i =>
    let add := (List.range M).map (fun j => c 7 i j * du j)
    if comp && !(add.all (fun t => t = 0)) then heldWord k (24 + i) (s.expState n i) (x2v i :: add) else ((x2.getD i (0, false)).1, false))
  let sat4 := comp && x3.any (·.2)
  let xhat := x3.map (·.1)
  -- step 8
  let adv := s.fldR (tgtAxis n) 0x0208 12 0
  let θo := θ + BitVec.ofInt 32 (roundEven ((step.toInt : Rat) * adv))
  let duty := if comp then s.modulate n k M vdc θo u else []
  let uOut := if comp then u else []
  -- filters
  let sat := sat1 || sat2 || sat3 || sat4
  let satCount := if sat then law.satCount + 1 else 0
  let miss := oks.any (fun b => !b)
  let missCount := if miss then law.missCount + 1 else 0
  let missLim := s.fld (tgtAxis n) 0x0208 20 0
  let lim : Rat := (s.fld (tgtAxis n) 0x0208 18 0 : Nat)
  let beyond := match ps with
    | some i => i < N && (decide (lim < absR (q31 (s.expState n i) (xhat.getD i 0)))
        || (x1.getD i (0, false)).2 || (x2.getD i (0, false)).2 || (comp && (x3.getD i (0, false)).2))
    | none => false
  let followCount := if comp && beyond then law.followCount + 1 else 0
  let follow := comp && beyond && decide (s.fld (tgtAxis n) 0x0208 19 0 ≤ followCount)
  -- steps 9 and 10
  let src := s.fld (tgtAxis n) 0x0208 25 0
  let cpl : Option (BitVec 32) := if ty = .segment && oks.getD src false then some (w32 (toQ31 12 (yv src))) else none
  let flags := flagsWord follow (decide (missLim ≤ missCount)) sat (decide (16 ≤ satCount)) low
  let uApp := if comp && !follow then u else []
  let x (i : Nat) : BitVec 32 := xhat.getD i 0
  let yy (i : Nat) : BitVec 32 := y.getD i 0
  let rr (i : Nat) : BitVec 32 := r.getD i 0
  let dw (i : Nat) : BitVec 16 := duty.getD i 0
  let uh (i : Nat) : BitVec 16 := BitVec.ofNat 16 ((uOut.getD i 0).toNat / 65536)
  let snap := [packHigh (x 0) (x 1), packHigh (x 2) (x 3), packHigh (x 4) (x 5), packHigh (x 6) (x 7),
    packHigh (yy 0) (yy 1), packHigh (yy 2) (yy 3), packHigh (yy 4) (yy 5), packHigh (rr 0) (rr 1), packHigh (rr 2) (rr 3),
    packLow (dw 0) (dw 1), packLow (dw 2) (uh 0), packLow (uh 1) (uh 2)]
  let acq := [uApp.getD 0 0, uApp.getD 1 0, uApp.getD 2 0, yy 0, yy 1, x 0, x 1, x 2]
  let out := placeWords [] 0 (duty.map (fun w => w.setWidth 32))
  let out := cellSet 0 out 3 flags
  let out := match cpl with | some w => cellSet 0 (cellSet 0 out 4 w) 5 1 | none => out
  let out := placeWords (placeWords out 8 snap) 0x14 acq
  let good := d.ok 10
  { out := out,
    law := { law with
      xhat := xhat, u := if comp then u else law.u, uApp := uApp, lastVdc := vNow,
      lastAngle := if good then some base else law.lastAngle.map (fun _ => base),
      lastOmega := if good then step else law.lastOmega,
      missCount := missCount, followCount := followCount, satCount := satCount, vdcLow := low } }

end Sys2Proof.Machine
end

