-- ==== Sys2Proof/Machine/Snapshot.lean ====
section
/-!
DEFINITION. Snapshots and their mirrors, and the event rings at the snapshot switch (R25 to R28, R534 to R536, R550 to R559).
-/
namespace Sys2Proof.Machine

/-! ### Snapshot (Tables 14.17 to 14.19) -/

/-- Hardware part of the entry of an axis at the end of its due cycle, SINCE 0 (Table 14.18). -/
def State.hwPart (s : State) (a : Axis) : List Byte :=
  let n := a.entry.axis
  let st := axisStCode a.st + (if a.entry.ty = .stepper then 16 * (a.mot.band % 16) else 0)
  let valid := a.snap.measMask.toNat % 64 + 64 * b2n a.dec.posValid + 128 * b2n a.dec.speedValid
  let flags := b2n a.overrun + 4 * b2n a.mot.satFlag + 8 * b2n a.dec.dirFlag + 16 * b2n (decide (0 < a.dec.dir)) + 32 * b2n a.dec.illFlag
    + 64 * b2n (match a.inj with | some j => j.started | none => false)
    + (if a.snap.dueCycle = s.clock.cycle then a.snap.flags.toNat &&& 0x82 else 0)
  toLe 4 a.coef.gen.toNat ++ toLe 4 (a.dec.pos.toNat / 65536) ++ [BitVec.ofNat 8 st, BitVec.ofNat 8 valid] ++ toLe 2 flags
    ++ [0, BitVec.ofNat 8 (modeCode (if n < 160 then sentMode a else .off)), 0, 0]

/-- An axis entry (Tables 14.18, 14.19); an axis that is not placed is 0 apart from STATE (R557). -/
def State.snapEntry (s : State) (n : Nat) : List Byte :=
  match s.axis? n with
  | none => patch (List.replicate 64 0) 8 [0x0F]
  | some a =>
    let hw := patch (padTo 16 a.snap.hw) 12 [BitVec.ofNat 8 (min 255 (s.clock.cycle - a.snap.dueCycle))]
    hw ++ padTo 48 (a.snap.words.flatMap (fun w => toLe 4 w.toNat))

/-- Snapshot header (Table 14.17). -/
def State.snapHeader (s : State) (seq : Nat) (first n : Nat) : List Byte :=
  let gens := (List.range 16).flatMap (fun g => toLe 2 (((kvGet s.coupling.coef g).map (·.gen.toNat)).getD 0))
  toLe 8 s.clock.cycle ++ toLe 4 seq ++ [BitVec.ofNat 8 first, BitVec.ofNat 8 n] ++ toLe 2 1 ++ toLe 8 (s.mapped s.clock.cycle 0).toNat
    ++ toLe 4 (s.events.seq - 1).toNat ++ toLe 2 s.lanes.epoch.toNat
    ++ [BitVec.ofNat 8 ((s.lanes.voice.map Lane.num).getD 0 + 16 * laneMask s.lanes.vset),
        BitVec.ofNat 8 (b2n s.faults.sysF2 + 2 * b2n s.time.map.valid)] ++ gens

/-- A snapshot of `n` axes from `first` (R556, R558). -/
def State.snapshot (s : State) (seq : Nat) (first n : Nat) : List Byte :=
  s.snapHeader seq first n ++ (List.range n).flatMap (fun i => s.snapEntry (first + i)) ++ padTo 64 (toLe 8 s.clock.cycle)

/-! ### Event records (R547, R550 to R554) -/

/-- The 32 bytes of a record (Table 14.14). -/
def EvRec.bytes (r : EvRec) : List Byte :=
  toLe 4 r.seq.toNat ++ toLe 4 r.count.toNat ++ toLe 8 r.time.toNat ++ [r.source, r.axis] ++ toLe 2 r.kind.toNat ++ padTo 12 r.payload

/-- EVT_BASE, EVT_SIZE, EVT_IDX_ADDR, EVT_HOLDOFF (Table 14.16). -/
def State.evtBase (s : State) : Nat := s.fld tgtCluster 0x0E10 0 0
def State.evtSize (s : State) : Nat := s.fld tgtCluster 0x0E10 1 0
def State.evtIdx (s : State) : Nat := s.fld tgtCluster 0x0E10 2 0
def State.evtHoldoff (s : State) : Nat := s.fld tgtCluster 0x0E10 3 0

/-- free of R553. -/
def State.evtFree (s : State) : Nat := s.evtSize - (s.events.w - s.events.r).toNat

/-- A posted write of the voice lane (R554). -/
def State.dma (s : State) (addr : Nat) (bs : List Byte) : State := if s.isVoice && s.host.linkUp then s.send (.dma (BitVec.ofNat 64 addr) bs) else s

/-- A record takes its place in the host ring, or is dropped from it, and goes to the on-chip ring (R550, R551, R553). -/
def State.hostRecord (s : State) (r : EvRec) : State :=
  let e := s.events
  if s.evtBase = 0 then
    let s := s.ringWrite { r with seq := e.seq }
    { s with events := { s.events with seq := e.seq + 1, w := e.w + 1, r := e.w + 1 } }
  else if s.evtFree < 2 then
    let s := s.ringWrite { r with seq := e.seq, kind := r.kind ||| 0x8000 }
    { s with events := { s.events with dropped := e.dropped + 1, dropFirst := if e.dropped = 0 then r.count else e.dropFirst, dropLast := r.count } }
  else
    let r := { r with seq := e.seq }
    let s := s.ringWrite r
    let s := s.dma (s.evtBase + 32 * (e.w.toNat % s.evtSize)) r.bytes
    { s with events := { s.events with seq := e.seq + 1, w := e.w + 1, unannounced := true } }

/-- The OVERFLOW record once room has returned, ahead of the other records of the cycle, and its F0 (R553). -/
def State.overflow (s : State) : State :=
  let e := s.events
  if e.dropped = 0 ∨ s.evtFree < 2 then s
  else
    let r := s.mkRec s.sourceAll 0xFF 0x400 (toLe 4 e.dropped.toNat ++ toLe 4 e.dropFirst.toNat ++ toLe 4 e.dropLast.toNat)
    let s := ({ s with events := { e with dropped := 0 } } : State).hostRecord r
    if s.isVoice then s.report (mkFault 0x106) else s

/-- A lane that took voice writes the records and mirrors of the two previous cycles again, at the same places (R356). -/
def State.rewriteVoice (s : State) : State :=
  if s.events.rewrite && s.isVoice then
    let k := s.clock.cycle
    let old := s.events.ring.reverse.filter (fun r => !r.kind.getLsbD 15
      && (r.count == BitVec.ofNat 32 (k - 2) || r.count == BitVec.ofNat 32 (k - 1)))
    let s := { s with events := { s.events with rewrite := false } }
    let s := if s.evtBase = 0 then s
      else old.foldl (fun s r => s.dma (s.evtBase + 32 * ((s.events.w - (s.events.seq - r.seq)).toNat % s.evtSize)) r.bytes) s
    (s.host.mirrors.filter (fun m => m.2.1 + 2 ≥ k)).foldl (fun s m =>
      let base := s.fld tgtCluster 0x0E10 4 0
      if base = 0 then s else s.dma (base + m.1.toNat % s.fld tgtCluster 0x0E10 5 0 * m.2.2.length) m.2.2) s
  else s

/-- Vector 1 after W, when the hold-off has passed (R554). -/
def State.announce (s : State) : State :=
  if s.events.unannounced && s.evtBase ≠ 0 && (match s.events.sinceVec1 with | none => true | some n => decide (s.evtHoldoff ≤ n)) then
    let s := { s with events := { s.events with unannounced := false, sinceVec1 := some 0 } }
    if s.isVoice then s.irq 1 else s
  else s

/-- The records of the cycle reach the rings (R28, R550 to R554). -/
def State.writeRecords (s : State) : State :=
  let s := s.rewriteVoice
  let w := s.events.w
  let l := s.events.fresh
  let s := { s with events := { s.events with fresh := [], sinceVec1 := s.events.sinceVec1.map (· + 1) } }
  let s := l.foldl State.hostRecord s.overflow
  let s := if s.evtBase ≠ 0 ∧ s.evtIdx ≠ 0 ∧ s.events.w ≠ w then s.dma s.evtIdx (toLe 4 s.events.w.toNat) else s
  s.announce

/-! ### Mirrors (R559) -/

/-- A mirror that is due starts, or is skipped while the last one is being written. -/
def State.startMirror (s : State) : State :=
  let base := s.fld tgtCluster 0x0E10 4 0
  if base = 0 || s.clock.cycle % s.fld tgtCluster 0x0E10 8 0 ≠ 0 then s
  else if s.host.mirroring.isSome then { s with host := { s.host with snapSkipped := s.host.snapSkipped + 1 } }
  else
    let q := s.host.mirrorNext
    let bs := s.snapshot q.toNat (s.fld tgtCluster 0x0E10 6 0) (s.fld tgtCluster 0x0E10 7 0)
    let s := s.dma (base + q.toNat % s.fld tgtCluster 0x0E10 5 0 * bs.length) bs
    { s with host := { s.host with mirrorNext := q + 1, mirroring := if s.isVoice then some q else none,
                                   mirrors := ((q, s.clock.cycle, bs) :: s.host.mirrors).take 2 } }

/-- MIRROR_COMPLETE (R559): the index word follows the mirror, and vector 2. -/
def execMirrorComplete (s : State) : Host.Outcome State Fault Refusal :=
  .next (match s.host.mirroring with
    | some q =>
      let s := { s with host := { s.host with mirroring := none, snapSeq := q } }
      let idx := s.fld tgtCluster 0x0E10 9 0
      let s := if idx = 0 then s else s.dma idx (toLe 4 q.toNat)
      if s.isVoice then s.irq 2 else s
    | none => s)

/-- SNAPSHOT_SWITCH (R25 to R28, R352, R356, R536, R550 to R554, R559): the closed snapshot, a held one if requested, the records of
the cycle, and the mirror. A lane that does not compute has nothing to switch. -/
def execSnapshotSwitch (s : State) : Host.Outcome State Fault Refusal :=
  let s := { s with clock := { s.clock with interval := .downlink } }
  .next (if !s.common then s
    else
      let s := s.writeRecords
      let snap := s.snapshot 0xFFFFFFFF 0 160
      let h := s.host
      let s := { s with host := { h with
        snap := snap, heldSnap := if h.holdReq then snap else h.heldSnap, holdReq := false,
        snapHold := if h.holdReq then BitVec.ofNat 32 s.clock.cycle else h.snapHold } }
      s.startMirror)

end Sys2Proof.Machine
end

