-- ==== Sys2Proof/Machine/Compute.lean ====
section
/-!
DEFINITION. The compute window (R20, R102 to R113): dispatch, the end of a run, errors of the engines' memories, and the rows
of the limits that a run's FLAGS report.
-/
namespace Sys2Proof.Machine

/-! ### Dispatch (R106, R110, R113) -/

/-- STATE of the input area (Table 3.3). -/
def axisStWord (a : Axis) : Nat :=
  axisStCode a.st + 16 * b2n a.mot.enterHold + 32 * b2n a.mot.first

/-- A 32.16 value over two words (Table 3.3). -/
def words3216 (v : BitVec 48) : List (BitVec 32) := [BitVec.ofNat 32 (v.toNat / 65536), BitVec.ofNat 32 (v.toNat % 65536 * 65536)]

/-- The value of an OUT injection in this period (R434). -/
def injWord (a : Axis) : BitVec 32 :=
  match a.inj with | some j => if j.point = 0 ∧ j.started then w32 j.value else 0 | none => 0

/-- The coupling views of an axis, words 0x80 to 0xBF of its input area (R113, R78). -/
def State.viewWords (s : State) (a : Axis) : List (BitVec 32) :=
  let n := a.entry.axis
  match a.entry.ty, s.cplGroup n with
  | .segment, some g =>
    let N := s.fld (tgtCg g) 0x0209 0 0
    let p := s.ringPos n
    (List.range 32).map (fun i => s.cplEntry g ((p + i) % N)) ++ (List.range 32).map (fun i => s.cplEntry g ((p + N - i % N) % N))
  | _, _ => List.replicate 64 0

/-- The input area of a due axis with its coupling views (Table 3.3). -/
def State.inputArea (s : State) (a : Axis) : List (Nat × BitVec 32) :=
  let n := a.entry.axis
  let d := a.dec
  let m := a.mot
  let w := placeWords [] 0 [BitVec.ofNat 32 (axisStWord a), BitVec.ofNat 32 s.clock.cycle, d.valid.setWidth 32]
  let w := placeWords w 4 ((List.range 8).map (fun i => BitVec.ofNat 32 ((d.raw.getD i 0).toNat * 65536)))
  let w := placeWords w 0xC (words3216 (d.pos - m.o) ++ [BitVec.ofInt 32 d.speed, s.mechAngle n d, d.angleStep, s.vdcWord a]
    ++ words3216 (m.o - m.oPrev))
  let w := placeWords w 0x16 ((List.range 4).map (fun i => m.r.getD i 0) ++ [injWord a])
  placeWords w 0x80 (s.viewWords a)

/-- The constants of a kernel in local data (R109). -/
def constMem (img : List Byte) : List (Nat × BitVec 32) :=
  placeWords [] 0 ((List.range (imgConst img)).map (imgConstWord img))

/-- An axis is dispatched to an engine: every resource takes its dispatch value (R106, Table 3.1). -/
def State.dispatch (s : State) (i n : Nat) : State :=
  match s.axis? n with
  | none => s
  | some a =>
    let loc := match s.kernel? a.entry.kernel with | some k => constMem k.image | none => []
    let s' := s.updEngine i (fun e =>
      { todo := e.todo, used := e.used, axis := some n, cyc := 4, p1 := a.st.computes, sc := s.scales n, inp := s.inputArea a, localMem := loc })
    s'.updAxis n (fun a => { a with dispatched := true })

/-- The next due axis of an engine is dispatched, or the engine is left without one. -/
def State.dispatchNext (s : State) (i : Nat) : State :=
  match s.engines[i]? with
  | none => s
  | some e => match e.todo with
    | [] => s.updEngine i (fun e => { e with axis := none })
    | n :: r => (s.updEngine i (fun e => { e with todo := r })).dispatch i n

/-- Due axes of an engine in ascending slot order; an axis in OFF is not computed (R20, R56). -/
def State.dueOn (s : State) (i : Nat) : List Nat :=
  (sortBy (fun (a : Axis) => a.place.slot)
    (s.axes.filter (fun a => s.due a && a.place.engine == i && a.st != .off))).map (·.entry.axis)

/-- COMPUTE_WINDOW_OPEN (R20, R132): every engine takes its due axes and dispatches the first. In Simplex, which has no
consensus interval (R16), the input set is closed here at the latest (R197). -/
def execComputeWindowOpen (s : State) : Host.Outcome State Fault Refusal :=
  let s := if s.simplex then s.closeSimplex else s
  .next (if !s.computing then { s with clock := { s.clock with interval := .compute } } else (List.range 16).foldl (fun s i => (s.updEngine i (fun e => { e with todo := s.dueOn i, used := 120, axis := none })).dispatchNext i)
    { s with clock := { s.clock with interval := .compute } })

/-! ### Completion (R107, R111, R112) -/

/-- The mode and duties of the last run follow the axis state: no duty is sent in a mode but ENABLED (R112). -/
def State.fixMode (s : State) (n : Nat) : State :=
  match s.axis? n with
  | none => s
  | some a =>
    let m := s.modeOf n a.st
    if m = .enabled then s
    else s.updAxis n (fun a => { a with law := { a.law with mode := m, uApp := [], duty := a.law.duty.map (fun _ => 0) } })

/-- A fault that the computation of the axis detects, its effect on the mode sent in this cycle included (R62). -/
def State.computedAxis (s : State) (code n : Nat) : State := (s.computed (mkFault code (locAxis n))).fixMode n

/-- The coupling entry of a due SEGMENT axis (R77, R78). -/
def State.writeCoupling (s : State) (n : Nat) (ty : AxisType) (out : List (Nat × BitVec 32)) : State :=
  match ty, s.cplGroup n with
  | .segment, some g =>
    let key := (g, s.ringPos n)
    let v := cellGet 0 out 4
    if (cellGet 0 out 5).getLsbD 0 && v ≠ 0 then { s with coupling := { s.coupling with wr := kvSet s.coupling.wr key v } }
    else { s with coupling := { s.coupling with wr := kvDel s.coupling.wr key } }
  | _, _ => s

/-- Duty words an axis sends: three with three-phase modulation, m otherwise (R83). -/
def State.dutyCount (s : State) (n : Nat) : Nat := if s.fld (tgtAxis n) 0x0208 13 0 ≤ 1 then 3 else s.dim n 2

/-- Validity mask of the p measurements (R68). -/
def State.measMask (s : State) (n : Nat) (d : Decoder) : Nat :=
  ((List.range (s.dim n 1)).map (fun i => if s.measOk n d i then 2 ^ i else 0)).sum

/-- The hardware parts of the due axes are taken as the compute window closes, whatever their kernels did (R25, R557). -/
def State.takeHw (s : State) : State :=
  let f (a : Axis) : Axis :=
    if s.due a then
      let b := { a with snap := { a.snap with measMask := BitVec.ofNat 8 (s.measMask a.entry.axis a.dec) } }
      { b with snap := { b.snap with hw := s.hwPart b, dueCycle := s.clock.cycle } }
    else a
  { s with axes := s.axes.map f }

/-- A completed run hands its output area over: faults of the FLAGS word, output mode, coupling entry, snapshot and acquisition
words (R107, R111, R112). -/
def State.finishRun (s : State) (n : Nat) (out : List (Nat × BitVec 32)) (custom : Bool) : State :=
  match s.axis? n with
  | none => s
  | some a =>
    let f := (cellGet 0 out 3).toNat
    let s := if bit f 0 then s.faultAxis n else s
    let mode := match s.axis? n with | some a => s.modeOf n a.st | none => .off
    let duty := (List.range (s.dutyCount n)).map (fun i => if mode = .enabled then (cellGet 0 out i).setWidth 16 else (0 : BitVec 16))
    let dec := a.dec
    let snapFlags := 2 * b2n (bit f 2) + 4 * b2n a.mot.satFlag + 8 * b2n dec.dirFlag + 16 * b2n (decide (0 < dec.dir))
      + 32 * b2n dec.illFlag + 64 * b2n (match a.inj with | some j => j.started | none => false) + 128 * b2n (bit f 0)
    let s := s.updAxis n (fun a =>
      { a with out := out, overrun := false, dispatched := false,
               law := { a.law with mode := mode, duty := duty, uApp := if mode = .enabled then a.law.uApp else [] },
               snap := { dueCycle := s.clock.cycle, words := wordsN 0 out 8 12, acq := wordsN 0 out 0x14 8,
                         flags := BitVec.ofNat 16 snapFlags, measMask := BitVec.ofNat 8 (s.measMask n dec) } })
    let s := s.writeCoupling n a.entry.ty out
    let s := if bit f 1 then s else s.computedEnd 0x141 (locAxis n)
    let s := if bit f 2 then s.computedAxis 0x143 n else s
    let s := if bit f 3 then s else s.computedEnd 0x144 (locAxis n)
    let s := if bit f 4 then s.computedAxis 0x145 n else s.computedEnd 0x145 (locAxis n)
    if custom && bit f 5 then s.computedAxis 0x146 n else s

/-- A custom kernel runs to END on the engine (R107): one bundle after another, within a number of bundles. -/
def runProgram (img : List Byte) (ctx : Nat → BitVec 32) : Nat → Engine → Except Nat Engine
  | 0, e => .ok e
  | k + 1, e =>
    if e.done then .ok e
    else match decodeBundle (imgBundle img e.pc) with
      | none => .ok e
      | some (m, v, ad) =>
        (e.openBundle.slot true m ctx).bind (fun e => (e.slot false v ctx).bind (fun e => runProgram img ctx k (e.address ad)))

/-- An element of a block in force (R137): elements that are 0 are not listed. -/
def CoefRt.setElem (c : CoefRt) (key : Nat × Nat × Nat) (v : BitVec 32) : CoefRt :=
  { c with elems := if v = 0 then kvDel c.elems key else kvSet c.elems key v }

/-- The context words a run wrote are committed: coefficients in their blocks, the others as the kernel's own; the steward's
parameter record stays as R138 keeps it (log entry 18). -/
def State.commitCtx (s : State) (n : Nat) (k : KInfo) (w : List (Nat × BitVec 32)) : State :=
  w.foldl (fun s p =>
    if k.paramBase ≤ p.1 && p.1 < k.paramBase + 64 then s
    else match k.elemAt p.1 with
      | some (8, _, _) => s
      | some key => s.updAxis n (fun a => { a with coef := a.coef.setElem key p.2 })
      | none => s.updAxis n (fun a => { a with ctx := cellSet 0 a.ctx p.1 p.2 })) s

/-- AXIS_RUN_END (R66, R107): the axis an engine runs completes, and the engine's next due axis is dispatched. A custom kernel
whose run does not reach END completes nothing. -/
def execAxisRunEnd (engine : Fin 16) (s : State) : Host.Outcome State Fault Refusal :=
  match s.engines[engine.val]? with
  | none => .next s
  | some e => match e.axis with
    | none => .next s
    | some n => match s.axis? n with
      | none => .next s
      | some a => match s.kernel? a.entry.kernel with
        | some k => (match runProgram k.image (s.ctxOf e) (4096 * 65536) e with
          | .error w => .fault (.engineAddress w)
          | .ok e' =>
            if e'.done && !e'.stopped then
              let s := s.updEngine engine.val (fun _ => { e' with used := e'.used + e'.cyc })
              .next (((s.commitCtx n k.info e'.ctxWrites).finishRun n e'.out true).dispatchNext engine.val)
            else .next (s.updEngine engine.val (fun _ => e')))
        | none =>
          if e.stopped then .next s
          else
            let (d, s) := s.draw
            let r := s.lawStep n a d
            let s := s.updAxis n (fun a => { a with law := r.law })
            let cost := ((stdKernel a.entry.kernel).map (·.cost)).getD 0
            let s := s.updEngine engine.val (fun e => { e with used := e.used + cost, cyc := cost, done := true, out := r.out })
            .next ((s.finishRun n r.out false).dispatchNext engine.val)

/-! ### Limits that a run reports (R69, R74, R89) -/

/-- The FLAGS word of the last completed run of an axis in this cycle. -/
def State.runFlag (s : State) (n b : Nat) : Bool :=
  match s.axis? n with
  | some a => (cellGet 0 a.out 3).getLsbD b && a.snap.dueCycle == s.clock.cycle
  | none => false

/-- SAMPLE_LOSS_LIMIT (R69): the sample-loss F1 of the axis. -/
def execSampleLossLimit (axis : Nat) (s : State) : Host.Outcome State Fault Refusal :=
  .next (if s.runFlag axis 1 then s.computedAxis 0x141 axis else s)

/-- FOLLOWING_ERROR (R74, R62): the following-error F2 of the axis. -/
def execFollowingError (axis : Nat) (s : State) : Host.Outcome State Fault Refusal :=
  .next (if s.runFlag axis 0 then s.computedAxis 0x142 axis else s)

/-- NUMERIC_PERSIST (R89): the numeric F1 of the axis. -/
def execNumericPersist (axis : Nat) (s : State) : Host.Outcome State Fault Refusal :=
  .next (if s.runFlag axis 3 then s.computedAxis 0x144 axis else s)

/-! ### Memory errors (R105) -/

/-- ENGINE_ECC_CORRECTED (R105): 2 engine cycles more and an F0. -/
def execEngineEccCorrected (engine : Fin 16) (s : State) : Host.Outcome State Fault Refusal :=
  .next (((s.updEngine engine.val (fun e => { e with cyc := e.cyc + 2, used := e.used + 2 })).report (mkFault 0x147)).collectOwn)

/-- ENGINE_ECC_UNCORRECTABLE (R105): the run of the axis stops as if the window had closed on it, and the axis raises an F2. -/
def execEngineEccUncorrectable (engine : Fin 16) (s : State) : Host.Outcome State Fault Refusal :=
  match (s.engines[engine.val]?).bind (·.axis) with
  | none => .next s
  | some n =>
    let s := s.updEngine engine.val (fun e => { e with stopped := true })
    let s := s.updAxis n (fun a => { a with overrun := true, dispatched := false })
    .next ((s.report (mkFault 0x148 (locAxis n))).collectOwn.dispatchNext engine.val)

/-- The window closes on the engines (R20, R107): an axis that has not completed keeps the duties of its previous period, its
entry carries the overrun flag, and an engine-overrun F1 is reported for it. -/
def State.closeEngines (s : State) : State :=
  (List.range 16).foldl (fun s i =>
    match s.engines[i]? with
    | none => s
    | some e =>
      let late := (match e.axis with | some n => [n] | none => []) ++ e.todo
      let s := late.foldl (fun s n => (s.updAxis n (fun a => { a with overrun := true, dispatched := false })).report (mkFault 0x140 (locAxis n))) s
      s.updEngine i (fun e => { e with axis := none, todo := [], stopped := false })) s

end Sys2Proof.Machine
end

