-- ==== Sys2Proof/Machine/Verdict.lean ====
section
/-!
DEFINITION. What the check of a command answers (Tables 14.10, 14.11), and the views of State that checks use: the commands
accepted and not yet in effect (R61, R569).
-/
namespace Sys2Proof.Machine

/-- Status codes (Table 14.11). -/
def stOk : Nat := 0
def stAccepted : Nat := 1
def stBusy : Nat := 2
def stCapacity : Nat := 3
def stLocked : Nat := 4
def stRange : Nat := 5
def stState : Nat := 6
def stForwarded : Nat := 7
def stFaultLock : Nat := 8
def stUnknownOp : Nat := 9
def stIntegrity : Nat := 0xA
def stDenied : Nat := 0xB

/-- The outcome of a command's checks: status, AUX and response payload; `ok` tells an accepted command. -/
structure Verdict where
  status : Nat := 0
  aux : Nat := 0
  rsp : List Byte := []
  /-- Effective cycle of the response where it is not the command's own (R94). -/
  eff : Option Nat := none
deriving DecidableEq, Repr

/-- The command is accepted. -/
def Verdict.ok (v : Verdict) : Bool := v.status == 0 || v.status == 1

/-- A refusal. -/
def refuse (status : Nat) (aux : Nat := 0) (rsp : List Byte := []) : Verdict := { status := status, aux := aux, rsp := rsp }

/-- A refusal because of an item (R566). -/
def refuseItem (status i : Nat) : Verdict := { status := status, rsp := [BitVec.ofNat 8 i] }

/-- The first verdict of a list that is not OK. -/
def firstBad (l : List Verdict) : Verdict := (l.find? (fun v => v.status ≠ 0)).getD {}

/-! ### Targets (Table 15.1) -/

/-- Kind and number of a TARGET. -/
def tKind (t : Nat) : Nat := t / 4096
def tNum (t : Nat) : Nat := t % 4096

/-- TARGET names an axis. -/
def isAxisT (t : Nat) : Bool := decide (t < 160)
/-- TARGET names a node position. -/
def isNodeT (t : Nat) : Bool := tKind t == 1 && decide (tNum t / 256 < 8) && decide (tNum t % 256 < 8)
/-- TARGET names a lane. -/
def isLaneT (t : Nat) : Bool := tKind t == 6 && decide (tNum t < 4)
/-- TARGET names a coordination group. -/
def isGroupT (t : Nat) : Bool := tKind t == 5 && decide (tNum t < 16)
/-- TARGET names a coupling group. -/
def isCgT (t : Nat) : Bool := tKind t == 7 && decide (tNum t < 16)
/-- TARGET names a kernel. -/
def isKernelT (t : Nat) : Bool := tKind t == 0xB && decide (1 ≤ tNum t ∧ tNum t ≤ 0x3F)
/-- TARGET names nothing. -/
def isNoneT (t : Nat) : Bool := t == 0xFFFF
/-- TARGET names the axis map. -/
def isMapT (t : Nat) : Bool := t == 0xD000
/-- TARGET names the acquisition set-up. -/
def isAcqT (t : Nat) : Bool := t == 0x8000

/-- The node number b × 8 + p of a node TARGET. -/
def nodeOfT (t : Nat) : Nat := tNum t / 256 % 8 * 8 + t % 8

/-! ### Items of FIELD_WRITE (R569) -/

/-- The field reference of an item. -/
def keyAt (t : Nat) (p : List Byte) (o : Nat) : FieldKey :=
  { target := t, table := le p o 2, row := byteAt p (o + 2), elem := byteAt p (o + 3), unit := byteAt p (o + 4), lane := byteAt p (o + 5) }

/-- The items of a FIELD_WRITE: reference and VALUE. -/
def itemsOf (r : Req) : List (FieldKey × Nat) :=
  (List.range (r.payload.length / 16)).map (fun i => (keyAt r.target.toNat r.payload (16 * i), le r.payload (16 * i + 8) 8))

/-- A reference as it stands in a key: UNIT canonical (R567). -/
def FieldKey.canon (k : FieldKey) (d : FieldDef) : FieldKey := { k with unit := (d.unit.canon k.target k.table k.row k.elem k.unit).getD k.unit }

/-! ### Views of the command order -/

/-- The commands accepted with an effective cycle at or before `eff`, in the order in which they take effect (R30). -/
def State.before (s : State) (eff : Nat) : List (Accepted × Req) :=
  (sortBy (fun (p : Accepted × Req) => p.1.eff)
    (s.order.accepted.filterMap (fun a => match a.body with | .cmd r => if a.eff ≤ eff then some (a, r) else none | _ => none)))

/-- The values that the accepted FIELD_WRITEs before an effective cycle leave (R569), with those of a map that comes into force by
then (R47). -/
def State.valuesAt (s : State) (eff : Nat) : List (FieldKey × BitVec 64) :=
  let put (vals l : List (FieldKey × BitVec 64)) : List (FieldKey × BitVec 64) := l.foldl (fun vals i => kvSet vals i.1 i.2) vals
  let run (l : List (Accepted × Req)) (vals : List (FieldKey × BitVec 64)) : List (FieldKey × BitVec 64) :=
    l.foldl (fun vals p => if p.2.opcode = 2 then put vals p.1.captured else vals) vals
  match s.order.mapPending with
  | some p =>
    if p.at_ ≤ eff then
      run ((s.before eff).filter (fun x => p.at_ ≤ x.1.eff)) (put (run ((s.before eff).filter (fun x => x.1.eff < p.at_)) s.cfg.active) p.fields)
    else run (s.before eff) s.cfg.active
  | none => run (s.before eff) s.cfg.active

/-- The accepted map that is in force at an effective cycle and not yet now (R48). -/
def State.mapAt (s : State) (eff : Nat) : Option PendingMap := s.order.mapPending.filter (fun p => decide (p.at_ ≤ eff))

/-- An axis of a map that comes into force: as it stands where its entry is unchanged, anew in OFF otherwise, with what has been
accepted for it (R48, R99). -/
def PendingMap.axis (p : PendingMap) (old : List Axis) (e : AxisEntry) : Axis :=
  let place := (p.places.find? (fun q => q.axis == e.axis)).getD { axis := e.axis }
  match old.find? (fun a => a.entry == e) with
  | some a => { a with place := place }
  | none => { entry := e, place := place, coef := (kvGet p.coefs e.axis).getD {},
              snap := { dueCycle := firstDue e.divisor place.phase p.at_ - e.divisor } }

/-- The first cycle of an axis that a map creates, or creates anew, between now and an effective cycle (R48). -/
def State.bornAt (s : State) (n eff : Nat) : Option Nat :=
  match s.mapAt eff with
  | some p => if (p.map.axis? n).isSome && decide (p.map.axis? n ≠ (s.axis? n).map (·.entry)) then some p.at_ else none
  | none => none

/-- State with the field values and the axis map that an effective cycle finds. -/
def State.fieldsAt (s : State) (eff : Nat) : State :=
  match s.mapAt eff with
  | none => { s with cfg := { s.cfg with active := s.valuesAt eff } }
  | some p =>
    { s with
      cfg := { s.cfg with active := s.valuesAt eff, map := p.map, nodes := p.nodes },
      axes := (sortBy (fun (e : AxisEntry) => e.axis) p.map.axes).map (p.axis s.axes) }

/-- The axes that a command of Table 2.3 or INJ names (R565). -/
def axesOf (r : Req) : List Nat :=
  if r.target.toNat = 0xFFFF then (List.range 160).filter (fun a => bit (byteAt r.payload (a / 8)) (a % 8))
  else [r.target.toNat]

/-- The axis has a place in the map at an effective cycle (R48): in the map in force, or in the one that comes. -/
def State.placedAt (s : State) (n eff : Nat) : Bool :=
  match s.mapAt eff with
  | some p => (p.map.axis? n).isSome
  | none => (s.axis? n).isSome

/-- The axis state that the command order alone gives an axis at an effective cycle (R61): a new axis starts in OFF (R48). -/
def State.stateAt (s : State) (n eff : Nat) : AxisSt :=
  let src := s.f2Active n || s.faults.f3
  let run (l : List Req) (st : AxisSt) : AxisSt :=
    l.foldl (fun st r => if n ∈ axesOf r && 0x0100 ≤ r.opcode && r.opcode ≤ 0x0108 then (transition r.opcode st src).getD st else st) st
  match s.bornAt n eff with
  | some k => run (((s.before eff).filter (fun p => k ≤ p.1.eff)).map (·.2)) .off
  | none =>
    match s.axis? n with
    | none => .off
    | some a =>
      if !s.placedAt n eff then .off
      else run (a.waiting.filterMap (fun x => match x.body with | .cmd r => some r | _ => none) ++ (s.before eff).map (·.2)) a.st

/-- STATE of a command for an axis that has no transition or cannot take it: FAULT_LOCK for a FAULTED axis or after an F3 (R58). -/
def State.axisRefusal (s : State) (st : AxisSt) : Nat := if s.faults.f3 || st = .faulted then stFaultLock else stState

end Sys2Proof.Machine
end

