-- ==== Sys2Proof/Machine/Coefs.lean ====
section
/-!
DEFINITION. Coefficient updates (R85 to R99): the checks of a write, the queue, elements that take effect, and reads.
-/
namespace Sys2Proof.Machine

/-- An element entry of a coefficient write (R91). -/
structure Entry where
  block : Nat
  row : Nat
  col : Nat
  value : Nat
deriving DecidableEq, Repr

/-- The entries of COEFF_WRITE. -/
def entriesOf (p : List Byte) : List Entry :=
  (List.range (p.length / 8)).map (fun i =>
    { block := byteAt p (8 * i), row := byteAt p (8 * i + 1), col := byteAt p (8 * i + 2), value := le p (8 * i + 4) 4 })

/-- The owner of coefficients: an axis or a coupling group. -/
inductive CoefOwner where
  | axis (n : Nat)
  | group (g : Nat)
deriving DecidableEq, Repr

/-- The owner that a TARGET names. -/
def coefOwner (t : Nat) : Option CoefOwner :=
  if isAxisT t then some (.axis t) else if isCgT t then some (.group (tNum t)) else none

/-- Its coefficients. -/
def State.coefOf (s : State) : CoefOwner → CoefRt
  | .axis n => s.coefA n
  | .group g => s.coefG g

/-- They changed. -/
def State.setCoef (s : State) (o : CoefOwner) (c : CoefRt) : State :=
  match o with
  | .axis n => s.updAxis n (fun a => { a with coef := c })
  | .group g => { s with coupling := { s.coupling with coef := kvSet s.coupling.coef g c } }

/-- EXP_BLOCK or EXP_CPL of a block, none for AUTO. -/
def State.expField (s : State) (o : CoefOwner) (b : Nat) : Option Int :=
  match o with
  | .axis n => s.fldO (tgtAxis n) 0x0208 4 b
  | .group g => s.fldO (tgtCg g) 0x0209 2 0

/-- HEADROOM or HEADROOM_CPL of a block. -/
def State.headroom (s : State) (o : CoefOwner) (b : Nat) : Int :=
  match o with
  | .axis n => s.fldI (tgtAxis n) 0x0208 5 b
  | .group g => s.fldI (tgtCg g) 0x0209 3 0

/-- The exponent of a block in force (R88). -/
def State.expNow (s : State) (o : CoefOwner) (b : Nat) : Int :=
  blockExp (s.expField o b) (kvGet (s.coefOf o).held b) (s.headroom o b)

/-- Rows and columns of a block of an owner (R90). -/
def State.dimsOf (s : State) (o : CoefOwner) (b : Nat) : Nat × Nat :=
  match o with
  | .axis n => if b < 8 then blockDims (s.dim n 0) (s.dim n 1) (s.dim n 2) 0 b else (0, 0)
  | .group g => if b = 8 then (2, s.fld (tgtCg g) 0x0209 1 0) else (0, 0)

/-- The owner's block lies in its kernel's context (R137). -/
def State.baseOk (s : State) (o : CoefOwner) (b : Nat) : Bool :=
  match o with
  | .axis n => (match (s.axis? n).bind (fun a => s.kinfo? a.entry.kernel) with
    | some k => (k.bases.getD b none).isSome
    | none => true)
  | .group _ => true

/-- The exponent that a write fixes for an unfixed AUTO block (R88). -/
def CoefRt.autoExp (c : CoefRt) (b : Nat) (eNow headroom : Int) (ws : List Entry) : Int :=
  let news := ws.filter (fun w => w.block == b)
  let q := c.queue.filter (fun e => e.block == b)
  let named (key : Nat × Nat × Nat) : Bool :=
    news.any (fun w => (w.block, w.row, w.col) == key) || q.any (fun e => (e.block, e.row, e.col) == key)
  let kept := c.elems.filter (fun p => p.1.1 == b && !named p.1)
  let mags := news.map (fun w => absR (f32D w.value)) ++ q.map (fun e => absR (f32D e.value.toNat)) ++ kept.map (fun p => absR (q31 eNow p.2))
  let mx := mags.foldl maxR 0
  if mx = 0 then headroom else clampI (-32) 31 (exponentUp mx 320 0 + headroom)

/-- The exponents that a write fixes: one for each AUTO block it names that stands unfixed (R88). -/
def State.fixesOf (s : State) (o : CoefOwner) (ws : List Entry) : List (Nat × Int) :=
  let c := s.coefOf o
  (dedup' (ws.map (·.block))).filterMap (fun b =>
    if (s.expField o b).isSome || (kvGet c.fixed b).isSome then none
    else some (b, c.autoExp b (s.expNow o b) (s.headroom o b) ws))

/-- The exponent that a write is checked against (R87, R88). -/
def State.expCheck (s : State) (o : CoefOwner) (fixes : List (Nat × Int)) (b : Nat) : Int :=
  match s.expField o b with
  | some e => e
  | none => ((kvGet (s.coefOf o).fixed b).or (kvGet fixes b)).getD (s.headroom o b)

/-- The exponent of a code as the command order leaves it, with fixes that a command would make (R136). -/
def State.expCodeWith (s : State) (n : Nat) (o : CoefOwner) (fixes : List (Nat × Int)) (code : Nat) : Int :=
  let own (o' : CoefOwner) (b : Nat) : Int :=
    match s.expField o' b with
    | some e => e
    | none => ((if o' = o then kvGet fixes b else none).or ((kvGet (s.coefOf o').fixed b).or (kvGet (s.coefOf o').held b))).getD (s.headroom o' b)
  if 1 ≤ code ∧ code ≤ 8 then own (.axis n) (code - 1)
  else if code = 0x1E then (match s.cplGroup n with | some g => own (.group g) 8 | none => 0)
  else s.expCode n code

/-- Every scale register of every axis of the map lies within −64 to +63 (R136). -/
def State.scalesOk (s : State) (o : CoefOwner) (fixes : List (Nat × Int)) : Bool :=
  s.axes.all (fun a => match s.kinfo? a.entry.kernel with
    | some k => k.formulas.all (fun f =>
        let v := scaleOf (s.expCodeWith a.entry.axis o fixes) f
        decide (-64 ≤ v ∧ v ≤ 63))
    | none => true)

/-- The effective cycles of the elements of a write (R92): in order, at most 8 a cycle, none before `eff` or an element ahead. -/
def elementCycles (queue : List CoefElem) (eff : Nat) : Nat → List Nat
  | 0 => []
  | n + 1 =>
    let last := (queue.getLast?.map (·.eff)).getD 0
    let c := max eff last
    let c := if (queue.filter (fun e => e.eff == c)).length < 8 then c else c + 1
    c :: elementCycles (queue ++ [{ eff := c }]) eff n

/-- Cycles until a queue has room for `n` more elements (R93). -/
def roomAfter (queue : List CoefElem) (n now : Nat) : Nat :=
  let excess := queue.length + n - 256
  match queue[excess - 1]? with
  | some e => e.eff - now
  | none => 0

/-- The entry check of R91: the status of an entry. -/
def State.entryOk (s : State) (o : CoefOwner) (fixes : List (Nat × Int)) (w : Entry) : Bool :=
  let d := s.dimsOf o w.block
  decide (w.row < d.1) && decide (w.col < d.2) && s.baseOk o w.block
    && (match f32 w.value with
        | some x => decide (absR x < pow2 (s.expCheck o fixes w.block)) && decide (absR x < pow2 31)
        | none => false)

/-- The first cycle of the owner where a pending map creates it by an effective cycle, 0 otherwise (R48). -/
def State.ownerSince (s : State) (o : CoefOwner) (eff : Nat) : Nat :=
  match o with | .axis n => (s.bornAt n eff).getD 0 | .group _ => 0

/-- The generation counter after the last element of a write (R94, R95), of an owner that stands since a cycle. -/
def State.finalGen (s : State) (o : CoefOwner) (since : Nat) (cycles : List Nat) : BitVec 32 :=
  let c := s.coefOf o
  let all := c.queue.map (·.eff) ++ cycles
  let ons := match o with
    | .axis n => (match s.axis? n with
      | some a => (s.order.accepted.filterMap (fun (x : Accepted) => match x.body with
          | .cmd r => if r.opcode = 0x0100 ∧ n ∈ axesOf r ∧ since ≤ x.eff then some (firstDue a.entry.divisor a.place.phase x.eff) else none
          | _ => none)).filter (fun k => k ≤ cycles.getLast?.getD 0)
      | none => [])
    | .group _ => []
  match ons.getLast? with
  | some k => BitVec.ofNat 32 (all.filter (fun e => k ≤ e)).length
  | none => c.gen + BitVec.ofNat 32 all.length

/-- COEFF_WRITE checked (R85 to R94, R136, R137). -/
def checkCoeffWrite (s : State) (r : Req) (eff : Nat) : Verdict :=
  let n := r.payload.length
  match coefOwner r.target.toNat with
  | none => refuse stRange
  | some o =>
    if n = 0 ∨ n % 8 ≠ 0 ∨ 240 < n then refuse stRange
    else if (match o with | .axis a => !s.placedAt a eff | .group _ => false) then refuse stState
    else
      let since := s.ownerSince o eff
      let s := s.fieldsAt eff
      let ws := entriesOf r.payload
      let fixes := s.fixesOf o ws
      match ws.findIdx? (fun w => !s.entryOk o fixes w) with
      | some i => refuseItem stRange i
      | none =>
        if !s.scalesOk o fixes then refuseItem stRange ((ws.findIdx? (fun w => (kvGet fixes w.block).isSome)).getD 0)
        else
          let q := (s.coefOf o).queue
          if 256 < q.length + ws.length then refuse stBusy (roomAfter q ws.length s.clock.cycle)
          else
            let cs := elementCycles q eff ws.length
            { eff := cs.head?, rsp := toLe 4 (cs.getLast?.getD eff) ++ toLe 4 (s.finalGen o since cs).toNat }

/-- The coefficients of an owner at an effective cycle changed: those of an axis that a pending map creates stand with that map (R48). -/
def State.setCoefAt (s : State) (o : CoefOwner) (eff : Nat) (c : CoefRt) : State :=
  match o, s.order.mapPending with
  | .axis n, some p =>
    if (s.bornAt n eff).isSome then { s with order := { s.order with mapPending := some { p with coefs := kvSet p.coefs n c } } } else s.setCoef o c
  | _, _ => s.setCoef o c

/-- COEFF_WRITE accepted: exponents are fixed and its elements queued (R88, R92, R93). -/
def acceptCoeffWrite (s : State) (r : Req) (eff : Nat) : State :=
  match coefOwner r.target.toNat with
  | none => s
  | some o =>
    let v := s.fieldsAt eff
    let ws := entriesOf r.payload
    let fixes := v.fixesOf o ws
    let c := v.coefOf o
    let cs := elementCycles c.queue eff ws.length
    let es := (List.range ws.length).map (fun i =>
      let w := ws.getD i ⟨0, 0, 0, 0⟩
      let first := ws.findIdx? (fun x => x.block == w.block) == some i
      ({ block := w.block, row := w.row, col := w.col, value := BitVec.ofNat 32 w.value, eff := cs.getD i eff,
         tag := r.tag, fixes := if first then kvGet fixes w.block else none } : CoefElem))
    s.setCoefAt o eff { c with queue := c.queue ++ es, fixed := fixes.foldl (fun l p => kvSet l p.1 p.2) c.fixed }

/-- A block held again at a new exponent from its values in force (R88); no generation counter moves. -/
def CoefRt.rehold (c : CoefRt) (b : Nat) (old new : Int) : CoefRt :=
  { c with
    elems := (c.elems.map (fun p => if p.1.1 = b then (p.1, w32 (toQ31 new (q31 old p.2))) else p)).filter (fun p => p.2 ≠ 0)
    held := kvSet c.held b new }

/-- One element takes effect (R86, R88, R95, R96). -/
def State.elementEffect (s : State) (o : CoefOwner) (e : CoefElem) : State :=
  let c := s.coefOf o
  let c := match e.fixes with
    | some x => c.rehold e.block (s.expNow o e.block) x
    | none => c
  let s := s.setCoef o c
  let x := s.expNow o e.block
  let c := { c.setElem (e.block, e.row, e.col) (w32 (toQ31 x (f32D e.value.toNat))) with held := kvSet c.held e.block x, gen := c.gen + 1 }
  s.setCoef o c

/-- The queued elements of an owner that take effect in this cycle (R92). -/
def State.coefStep (s : State) (o : CoefOwner) : State :=
  let c := s.coefOf o
  let now := c.queue.filter (fun e => decide (e.eff ≤ s.clock.cycle))
  let s := if now.isEmpty then s else s.setCoef o { c with queue := c.queue.filter (fun e => !decide (e.eff ≤ s.clock.cycle)) }
  now.foldl (fun s e => s.elementEffect o e) s

/-- Every queue's elements of this cycle, before any computation (R92, R96). -/
def State.coefSteps (s : State) : State :=
  let s := (s.axes.map (·.entry.axis)).foldl (fun s n => s.coefStep (.axis n)) s
  (s.coupling.coef.map (·.1)).foldl (fun s g => s.coefStep (.group g)) s

/-- COEFF_READ (R98): the generation counter, and the values in force as binary32. -/
def checkCoeffRead (s : State) (r : Req) : Verdict :=
  let n := r.payload.length
  match coefOwner r.target.toNat with
  | none => refuse stRange
  | some o =>
    if n % 4 ≠ 0 ∨ 224 < n then refuse stRange
    else if (match o with | .axis a => (s.axis? a).isNone | .group _ => false) then refuse stState
    else
      let es := (List.range (n / 4)).map (fun i => (byteAt r.payload (4 * i), byteAt r.payload (4 * i + 1), byteAt r.payload (4 * i + 2)))
      match es.findIdx? (fun e => let d := s.dimsOf o e.1; !(decide (e.2.1 < d.1) && decide (e.2.2 < d.2))) with
      | some i => refuseItem stRange i
      | none =>
        let c := s.coefOf o
        { rsp := toLe 4 c.gen.toNat ++ es.flatMap (fun e =>
            toLe 4 (toF32 (((kvGet c.elems e).map (q31 (s.expNow o e.1))).getD 0)).toNat) }

end Sys2Proof.Machine
end

