-- ==== Sys2Proof/Machine/FieldOps.lean ====
section
/-!
DEFINITION. FIELD_WRITE and FIELD_READ (R35 to R39, R567 to R570): which object holds a field, the checks of an item, what its
acceptance stages, and what a read returns.
-/
namespace Sys2Proof.Machine

/-! ### Where a field stands -/

/-- The object of a TARGET is an axis or a node that the active map does not hold and the staging copy does (R574). -/
def State.stagedOnly (s : State) (t : Nat) : Bool :=
  if isAxisT t then (s.cfg.map.axis? t).isNone && (s.cfg.stagedMap.axis? t).isSome
  else if isNodeT t then (s.cfg.map.node? t).isNone && (s.cfg.stagedMap.node? t).isSome
  else false

/-- Neither map holds the axis or node of a TARGET (R574). -/
def State.unknownObject (s : State) (t : Nat) : Bool :=
  if isAxisT t then (s.cfg.map.axis? t).isNone && (s.cfg.stagedMap.axis? t).isNone
  else if isNodeT t then (s.cfg.map.node? t).isNone && (s.cfg.stagedMap.node? t).isNone
  else false

/-- The values that the staging copies hold over the active ones. -/
def Fields.stagedValues (f : Fields) : List (FieldKey × BitVec 64) := f.staged.foldl (fun l p => kvSet l p.1 p.2) f.active

/-- State as its staging copies would make it: the view that a COMMIT checks (R36, R37). -/
def State.stagedView (s : State) : State :=
  { s with cfg := { s.cfg with active := s.cfg.stagedValues, map := s.cfg.stagedMap } }

/-- The values a command leaves for its cross checks (R569): active fields as the command order leaves them, staged ones in the
staging copies; items in order. -/
def State.withItems (s : State) (eff : Nat) (items : List (FieldKey × Nat)) : State :=
  let v := s.fieldsAt eff
  items.foldl (fun v i =>
    match fieldDef i.1.target i.1.table i.1.row i.1.elem with
    | some d => (match d.enc.take i.2 with
      | some x =>
        let k := i.1.canon d
        if d.cls = .staged || s.stagedOnly k.target then { v with cfg := { v.cfg with staged := kvSet v.cfg.staged k (BitVec.ofNat 64 x) } }
        else { v with cfg := { v.cfg with active := kvSet v.cfg.active k (BitVec.ofNat 64 x) } }
      | none => v)
    | none => v) v

/-! ### Stopped blocks (R17, R100, R101, R177, R431) -/

/-- A block of a field is stopped at an effective cycle. -/
def State.blockStopped (s : State) (h : Holder) (t eff : Nat) : Bool :=
  match h with
  | .axis => s.stateAt t eff == .off
  | .node | .localChan => true
  | .couplingGroup => (s.cplMembers (tNum t)).all (fun a => s.stateAt a.entry.axis eff == .off)
  | .coordGroup => (s.groupMembers (tNum t)).all (fun n => !(s.stateAt n eff).computes)
  | .acqSetup => !s.acq.running && !(s.before eff).any (fun p => p.2.opcode == 0x0700)
  | .channel | .cluster => s.stopped

/-! ### Conditions of single fields and between fields -/

/-- Bytes of a record and records per segment of the acquisition buffer (R412). -/
def recSize (nch : Nat) : Nat := ceilDiv (16 + 4 * nch) 16 * 16
def segRecords (segs nch : Nat) : Nat := min 65536 (2097152 / (segs * recSize nch))

/-- C of the acquisition set-up (R412). -/
def State.acqC (s : State) : Nat := segRecords (s.fld tgtAcq 0x0A07 4 0) (s.fld tgtAcq 0x0A07 1 0)

/-- A channel source of Table 10.1. -/
def chSrcOk (v : Nat) : Bool :=
  let k := bits v 31 24
  let i := bits v 15 8
  (k == 0 && decide (v = 0)) || (decide (1 ≤ k ∧ k ≤ 9) && decide (bits v 23 16 < 160) && bits v 7 0 == 0
    && decide (i ≤ (match k with | 1 => 7 | 2 => 7 | 6 => 2 | 8 => 3 | _ => 0)))

/-- A measurement source that a type allows (Table 2.5). -/
def measSrcOk (ty : AxisType) (v : Nat) : Bool :=
  match v with
  | 0 | 10 | 11 => true
  | 1 | 2 | 3 | 4 | 5 => ty == .segment || ty == .servo
  | 6 | 7 => ty == .stepper
  | 8 | 9 => ty != .segment
  | _ => false

/-- The members of a coupling group in the map have distinct ring positions below N (R76). -/
def State.ringOk (s : State) (g : Nat) : Bool :=
  let ms := s.cfg.map.axes.filter (fun e => e.ty == .segment && s.cplGroup e.axis == some g)
  let ps := ms.map (fun e => s.ringPos e.axis)
  let N := s.fld (tgtCg g) 0x0209 0 0
  decide ps.Nodup && ps.all (fun p => decide (p < N))

/-- The cycle layout leaves a compute window of at least 20 MT and an arbitrating window long enough (R14). -/
def State.layoutOk (s : State) : Bool :=
  decide (8 + s.uMt + s.consMt + 12 + s.dMt + s.arbMt + s.idleMt + 20 ≤ s.tMt) && decide (ceilDiv (1080 + s.accWin) 50 ≤ s.arbMt)

/-- The mirror's share of the host link (R560). -/
def State.mirrorOk (s : State) : Bool :=
  decide (64 * (s.fld tgtCluster 0x0E10 7 0 + 2) ≤ 32 * s.tMt * s.fld tgtCluster 0x0E10 8 0)

/-- VEL_MAX, ACC_MAX, DEC_MAX, STOP_DEC and QUICK_DEC within the exponents of r (R175). -/
def State.profileOk (s : State) (n : Nat) : Bool :=
  match s.cfg.map.axis? n with
  | some e =>
    !e.ty.positional || (decide (s.velMax n < pow2 (s.expRef n 0))
      && [s.accMax n, s.decMax n, s.stopDec n, s.quickDec n].all (fun x => decide (x < pow2 (s.expRef n 1))))
  | none => true

/-- STEP_BAND: above a disabled band every band is disabled, and the enabled ones rise (R173). -/
def State.bandsOk (s : State) (n : Nat) : Bool :=
  let l := (List.range 8).map (fun i => s.fldR (tgtAxis n) 0x0405 10 i)
  let on := l.takeWhile (fun x => x ≠ 0)
  (l.drop on.length).all (fun x => x = 0) && decide (List.Pairwise (fun (a b : Rat) => a < b) on)

/-- MEMBERS: servo or stepper axes, in no other group, of one divisor and phase (Table 4.7, R178). -/
def State.membersOk (s : State) (g : Nat) : Bool :=
  let ms := s.groupMembers g
  let es := ms.filterMap s.cfg.map.axis?
  es.all (fun e => e.ty.positional)
    && (List.range 16).all (fun h => h == g || (s.groupMembers h).all (fun n => decide (n ∉ ms)))
    && (match ms.filterMap s.axis? with
        | [] => true
        | a :: r => r.all (fun b => b.entry.divisor == a.entry.divisor && b.place.phase == a.place.phase))

/-- The injection fields of an axis (Table 10.8). -/
def State.injOk (s : State) (n row elem : Nat) : Bool :=
  match s.cfg.map.axis? n with
  | none => true
  | some e =>
    let t := tgtAxis n
    let pt := s.fld t 0x0A08 1 0
    let ptMax := match e.ty with | .servo => 3 | .stepper => 2 | .segment => 2 | .aux => 1
    let ts : Rat := (e.divisor * s.tNs : Nat) / 1000000000
    match row with
    | 3 => decide (s.fldR t 0x0A08 3 elem ≤ 1 / 2 / ts)
    | 0 | 6 => s.fld t 0x0A08 0 0 ≠ 1 || decide (1 ≤ s.fld t 0x0A08 6 0)
    | _ => decide (pt ≤ ptMax) && decide (absR (s.fldR t 0x0A08 2 0) < pow2 (s.injExp n pt))

/-- Law fields of an axis (Tables 2.1, 2.5, 2.6, 2.8). -/
def State.lawFieldOk (s : State) (n row elem : Nat) : Bool :=
  match s.cfg.map.axis? n with
  | none => true
  | some e =>
    let t := tgtAxis n
    let f (r i : Nat) : Nat := s.fld t 0x0208 r i
    let mx := typeMax e.ty
    let posOk := (match s.fldO t 0x0208 7 0 with | some v => decide (v < (f 0 0 : Int)) | none => true)
    match row with
    | 0 => decide (f 0 0 ≤ mx.1) && decide (f 0 1 ≤ mx.2.1) && decide (f 0 2 ≤ mx.2.2) && posOk
    | 1 => measSrcOk e.ty (f 1 elem)
    | 7 => posOk
    | 11 => decide (s.fldR t 0x0208 11 0 < 1)
    | 13 | 14 => (e.ty == .segment || e.ty == .servo || decide (2 ≤ f 13 0)) && (f 14 0 == 0 || decide (f 13 0 ≤ 1))
    | 16 => decide (s.fldR t 0x0208 16 (elem % 3) ≤ s.fldR t 0x0208 16 (3 + elem % 3))
    | 23 => (s.cplGroup n).isNone || e.ty == .segment
    | _ => true

/-- The ring of the ACTIVE axis map that a COUPLING_GROUP, a RING_POS or a RING_N concerns (R76): a member of the staging copy alone
is checked by its COMMIT. -/
def State.ringWriteOk (s : State) (k : FieldKey) : Bool :=
  match k.table, k.row with
  | 0x0208, 23 | 0x0208, 24 =>
    (s.cfg.map.axis? k.target).isNone || (match s.cplGroup k.target with | some g => s.ringOk g | none => true)
  | 0x0209, 0 => s.ringOk (tNum k.target)
  | _, _ => true

/-- Every condition beyond its own range that a field meets under the values a command leaves (R569). -/
def State.condOk (s : State) (k : FieldKey) : Bool :=
  let n := k.target
  match k.table with
  | 0x0102 => s.layoutOk && s.mirrorOk
  | 0x060E => (match k.row with
    | 0 => s.layoutOk
    | 5 => (match s.cfg.stagedMap.node? n with
      | some e => decide (2 * (((s.cfg.stagedMap.axesOf (nodeIndex e)).head?.map (·.divisor)).getD 1) - 1 ≤ s.stagedView.fld n 0x060E 5 0)
      | none => true)
    | 8 => (match s.cfg.map.node? n with
      | some e => decide (8 * k.elem < s.fld n 0x060E 7 1 - 4 - ((s.cfg.map.axesOf (nodeIndex e)).map (fun a => 2 + 2 * (if s.fld a.axis 0x0208 13 0 ≤ 1 then 3 else s.dim a.axis 2))).sum)
      | none => true)
    | _ => true)
  | 0x080F => k.row ≠ 0 || s.layoutOk
  | 0x0208 => s.lawFieldOk n k.row k.elem
  | 0x0209 => decide (s.fld n 0x0209 1 0 ≤ min 8 (s.fld n 0x0209 0 0 - 1))
  | 0x0405 => (match k.row with
    | 0 | 1 | 2 | 4 | 5 => s.profileOk n
    | 8 => s.profileOk n && (k.elem ≠ 2 || (s.cfg.map.axis? n).map (·.ty) ≠ some .stepper || s.fld n 0x0405 8 2 == 0)
    | 10 => s.bandsOk n
    | _ => true)
  | 0x0407 => k.row ≠ 0 || s.membersOk (tNum n)
  | 0x0509 => (k.row ≠ 25 || s.fld n 0x0509 25 0 = 0 || s.fld n 0x0508 1 0 = 1 || s.fld n 0x0508 1 0 = 3) && (k.row ≠ 13 && k.row ≠ 14) || decide (s.fldR n 0x0509 13 0 ≤ s.fldR n 0x0509 14 0)
  | 0x0906 => (match k.row with
    | 2 => s.fld n 0x0906 2 0 0xFF k.lane / 2 ^ 40 % 2 == 0
    | 7 => decide (8 ≤ k.unit) || (decide (-50 ≤ s.fldI n 0x0906 7 0 k.unit k.lane) && decide (s.fldI n 0x0906 7 0 k.unit k.lane ≤ 50))
    | 25 | 26 => decide (s.fld n 0x0906 26 0 k.unit k.lane + 8 ≤ s.fld n 0x0906 25 0 k.unit k.lane)
    | _ => true)
  | 0x0A07 => (match k.row with
    | 2 => chSrcOk (s.fld tgtAcq 0x0A07 2 k.elem)
    | 5 => decide (s.fld tgtAcq 0x0A07 5 0 ≤ s.acqC - 1)
    | 6 => decide (s.fld tgtAcq 0x0A07 6 0 + s.fld tgtAcq 0x0A07 5 0 + 1 ≤ s.acqC)
    | 12 => decide (s.stagedView.fld tgtAcq 0x0A07 12 k.elem < s.fld tgtAcq 0x0A07 1 0)
    | _ => true)
  | 0x0A08 => s.injOk n k.row k.elem
  | 0x0E10 => (match k.row with
    | 6 | 7 => decide (s.fld n 0x0E10 7 0 + s.fld n 0x0E10 6 0 ≤ 160) && s.mirrorOk
    | 8 => s.mirrorOk
    | _ => true)
  | _ => true

/-- An exponent field whose change moves scale registers (R136). -/
def movesScales (k : FieldKey) : Bool :=
  (k.table == 0x0208 && (k.row == 4 || k.row == 5 || k.row == 6 || k.row == 23)) || (k.table == 0x0405 && k.row == 8)
    || (k.table == 0x0209 && (k.row == 2 || k.row == 3))

/-- The engine of an axis of the map lies in an unpowered quarter (R594). -/
def State.quarterStranded (s : State) (mask : Nat) : Bool := s.axes.any (fun a => !bit mask (a.place.engine / 4))

/-- A refusal that a field's own chapter gives, by status: DENIED, BUSY or STATE (R99, R101, R449, R480, R594). -/
def State.fieldRefusal (s : State) (k : FieldKey) (v : Nat) : Option (Nat × Nat) :=
  let left (q : List CoefElem) : Option (Nat × Nat) := (q.getLast?).map (fun e => (stBusy, e.eff - s.clock.cycle))
  match k.table, k.row with
  | 0x0208, 0 | 0x0208, 4 | 0x0208, 5 => left (s.coefA k.target).queue
  | 0x0209, 0 | 0x0209, 1 => left (s.coefG (tNum k.target)).queue
  | 0x0C03, 1 => if s.sdoSafe k.unit && v ≠ 0 then some (stDenied, 0) else none
  | 0x0C03, 2 | 0x0C03, 3 => if s.sdoSafe k.unit then some (stDenied, 0) else none
  | 0x100A, 0 => if s.quarterStranded v then some (stState, 0) else none
  | _, _ => none

/-! ### FIELD_WRITE (R569) -/

/-- A reference names a field that a write may name: its holder, UNIT and LANE (R562, R567). -/
def refDef (k : FieldKey) : Option FieldDef :=
  match fieldDef k.target k.table k.row k.elem with
  | some d =>
    if d.holder.names k.target && (d.unit.canon k.target k.table k.row k.elem k.unit).isSome
      && (if d.perLane then decide (k.lane < 4) else k.lane == 0xFF) then some d else none
  | none => none

/-- The objects of the map that concern the cross checks stand in the view of the object's copy. -/
def State.viewFor (s : State) (t : Nat) (v : State) : State := if s.stagedOnly t then v.stagedView else v

/-- An item checked against the values the whole command leaves, `v`. -/
def State.itemVerdict (s v : State) (eff : Nat) (i : FieldKey × Nat) : Verdict :=
  match refDef i.1 with
  | none => refuse stRange
  | some d =>
    if d.cls = .readOnly then refuse stRange
    else
      let k := i.1.canon d
      match d.enc.take i.2 with
      | none => refuse stRange
      | some x =>
        let held := s.stagedOnly k.target
        if d.cls = .locked && !held && !s.blockStopped d.holder k.target eff then refuse stLocked
        else match (if held then none else s.fieldRefusal k x) with
          | some (st, aux) => refuse st aux
          | none =>
            let w := s.viewFor k.target v
            if !w.condOk k || !v.ringWriteOk k then refuse stRange
            else if movesScales k && !held && !w.scalesOk (.axis 0xFFFF) [] then refuse stRange
            else {}

/-- FIELD_WRITE checked (R566, R569). -/
def checkFieldWrite (s : State) (r : Req) (eff : Nat) : Verdict :=
  let n := r.payload.length
  if n = 0 ∨ n % 16 ≠ 0 ∨ 240 < n then refuse stRange
  else if s.unknownObject r.target.toNat then refuse stState
  else
    let items := itemsOf r
    let v := s.withItems eff items
    let vs := items.map (s.itemVerdict v eff)
    match vs.findIdx? (fun x => x.status ≠ 0) with
    | some i => let x := vs.getD i {}; { x with rsp := [BitVec.ofNat 8 i] }
    | none => {}

/-- The values of a FIELD_WRITE by the copy they go to: staged ones, and those that take effect later (R35, R574). -/
def State.splitItems (s : State) (r : Req) : List (FieldKey × BitVec 64) × List (FieldKey × BitVec 64) :=
  (itemsOf r).foldl (fun (acc : List (FieldKey × BitVec 64) × List (FieldKey × BitVec 64)) i =>
    match refDef i.1 with
    | some d => (match d.enc.take i.2 with
      | some x =>
        let p := (i.1.canon d, BitVec.ofNat 64 x)
        if d.cls = .staged || s.stagedOnly i.1.target then (acc.1 ++ [p], acc.2) else (acc.1, acc.2 ++ [p])
      | none => acc)
    | none => acc) ([], [])

/-- A FIELD_WRITE accepted: STAGED values enter their staging copies (R37). -/
def acceptFieldWrite (s : State) (r : Req) : State :=
  { s with cfg := { s.cfg with staged := (s.splitItems r).1.foldl (fun l p => kvSet l p.1 p.2) s.cfg.staged } }

/-! ### FIELD_READ (R39, R570) -/

/-- A value of a field as it is read; a length of Table 1.2 that is no field is the length in force (R13). -/
def State.readValue (s : State) (k : FieldKey) : Nat :=
  match k.table, k.row with
  | 0x0102, 1 => 8
  | 0x0102, 3 => s.consMt
  | 0x0102, 4 => s.compMt
  | 0x0102, 5 => 12
  | _, _ => s.fld k.target k.table k.row k.elem k.unit k.lane

/-- The two VALUEs of a reference. A field of an object that stands in the staging copy alone reads as that copy holds it. -/
def State.readPair (s : State) (k : FieldKey) (d : FieldDef) : Nat × Nat :=
  let st := s.stagedView.readValue k
  if s.stagedOnly k.target then (st, st)
  else if d.cls = .staged then (s.readValue k, st)
  else (s.readValue k, s.readValue k)

/-- FIELD_READ (R570). -/
def checkFieldRead (s : State) (r : Req) : Verdict :=
  let n := r.payload.length
  if n = 0 ∨ n % 8 ≠ 0 ∨ 120 < n then refuse stRange
  else if s.unknownObject r.target.toNat then refuse stState
  else
    let ks := (List.range (n / 8)).map (fun i => keyAt r.target.toNat r.payload (8 * i))
    match ks.findIdx? (fun k => (refDef k).isNone) with
    | some i => refuseItem stRange i
    | none => { rsp := ks.flatMap (fun k => match refDef k with
        | some d => let p := s.readPair (k.canon d) d; toLe 8 p.1 ++ toLe 8 p.2
        | none => []) }

end Sys2Proof.Machine
end

