-- ==== Sys2Proof/Machine/Admission.lean ====
section
/-!
DEFINITION. COMMIT of an axis map: its checks in their three groups (R574), the placement of nodes, axes and slots (R45, R232),
admission (R40 to R46), and what an accepted COMMIT holds until the map comes into force (R47). MAP_AXIS, MAP_NODE and
MAP_REMOVE write the staging copy.
-/
namespace Sys2Proof.Machine

/-! ### The map under check -/

/-- What the checks of a COMMIT look at: the state with the staging copy as its map, its axes as the map creates or keeps them. -/
def State.commitView (s : State) (eff : Nat) : State :=
  let v := s.stagedView
  { v with axes := v.cfg.map.axes.map (fun e =>
      match s.axis? e.axis with
      | some a => if a.entry = e then { a with st := s.stateAt e.axis eff } else { entry := e }
      | none => { entry := e }) }

/-- Axes of the map in force that are not OFF at the effective cycle (R44). -/
def State.liveAxes (s : State) (eff : Nat) : List Axis := s.axes.filter (fun a => s.stateAt a.entry.axis eff != .off)

/-- A node of the map in force has an axis not in OFF. -/
def State.liveNode (s : State) (eff i : Nat) : Bool := (s.liveAxes eff).any (fun a => a.entry.node == i)

/-- Shared divisor of the axes of a node, 1 for a node without axes (R41). -/
def AxisMap.nodeDiv (m : AxisMap) (i : Nat) : Nat := ((m.axesOf i).head?.map (·.divisor)).getD 1

/-- P_up and P_down of a node under a view. -/
def State.pUp (v : State) (e : NodeEntry) : Nat := v.fld (nodeTgt e) 0x060E 7 0
def State.pDown (v : State) (e : NodeEntry) : Nat := v.fld (nodeTgt e) 0x060E 7 1

/-- Duty words of an axis under a view (R83). -/
def State.dutyWords (v : State) (n : Nat) : Nat := if v.fld (tgtAxis n) 0x0208 13 0 ≤ 1 then 3 else v.dim n 2

/-- Bytes of the axis parts of a DOWNLINK payload (R243). -/
def State.downParts (v : State) (i : Nat) : Nat := ((v.cfg.map.axesOf i).map (fun a => 2 + 2 * v.dutyWords a.axis)).sum

/-! ### Placement of phases and engines (R45) -/

/-- Nodes of a branch in chain order. -/
def AxisMap.branch (m : AxisMap) (b : Nat) : List NodeEntry := sortBy (·.pos) (m.nodes.filter (fun e => e.branch == b))

/-- A node with its divisor, phase and slot lengths. -/
structure Load where
  node : Nat
  div : Nat
  phase : Nat
  up : Nat
  down : Nat
deriving DecidableEq, Repr

/-- The largest sum of a length over the cycles of a matrix cycle (divisors up to 8 repeat within 8). -/
def worst (f : Load → Nat) (l : List Load) : Nat :=
  ((List.range 8).map (fun j => ((l.filter (fun x => dueIn x.div x.phase j)).map f).sum)).foldl max 0

/-- The phases of the nodes of one branch (R45). -/
def State.phasesOf (s v : State) (eff b : Nat) : List Load :=
  let mk (e : NodeEntry) (φ : Nat) : Load :=
    { node := nodeIndex e, div := v.cfg.map.nodeDiv (nodeIndex e), phase := φ,
      up := slotLen v.accWin (v.pUp e), down := slotLen v.accWin (v.pDown e) }
  let nodes := v.cfg.map.branch b
  let kept := (nodes.filter (fun e => s.liveNode eff (nodeIndex e))).map (fun e => mk e (((s.place? (nodeIndex e)).map (·.phase)).getD 0))
  (nodes.filter (fun e => !s.liveNode eff (nodeIndex e))).foldl (fun done e =>
    let d := v.cfg.map.nodeDiv (nodeIndex e)
    let key (φ : Nat) : Nat :=
      let l := done ++ [mk e φ]
      (worst (·.up) l * 100000 + worst (·.down) l) * 8 + φ
    let φ := if d ≤ 1 then 0 else (argMin key (List.range d)).getD 0
    done ++ [mk e φ]) kept

/-- The phases of every node. -/
def State.allPhases (s v : State) (eff : Nat) : List Load := (List.range 8).flatMap (s.phasesOf v eff)

/-- The cost of an axis's kernel (R51). -/
def State.costOf (s : State) (e : AxisEntry) : Nat := ((s.kinfo? e.kernel).map (·.cost)).getD 0

/-- An axis put on an engine, with what admission counts of it. -/
structure Put where
  axis : Nat
  engine : Nat
  slot : Nat
  div : Nat
  phase : Nat
  cost : Nat
  kernel : Nat
deriving DecidableEq, Repr

/-- Load of an engine in a basic cycle (Table 1.8). -/
def engineLoad (l : List Put) (e j : Nat) : Nat :=
  120 + ((l.filter (fun p => p.engine == e && dueIn p.div p.phase j)).map (·.cost)).sum

/-- Its worst load. -/
def engineWorst (l : List Put) (e : Nat) : Nat := ((List.range 8).map (engineLoad l e)).foldl max 0

/-- Engines of powered quarters (R594). -/
def State.powered (v : State) (e : Nat) : Bool := bit (v.fld tgtCluster 0x100A 0 0) (e / 4)

/-- The engines and slots of the axes (R45): axes not in OFF stay, the others are placed in order. -/
def State.enginesOf (s v : State) (eff : Nat) (ph : List Load) : List Put :=
  let phase (n : AxisEntry) : Nat := ((ph.find? (fun l => l.node == n.node)).map (·.phase)).getD 0
  let live := (s.liveAxes eff).filter (fun a => v.cfg.map.axis? a.entry.axis == some a.entry)
  let kept := live.map (fun a =>
    ({ axis := a.entry.axis, engine := a.place.engine, slot := a.place.slot, div := a.entry.divisor, phase := a.place.phase,
       cost := s.costOf a.entry, kernel := a.entry.kernel } : Put))
  let new := v.cfg.map.axes.filter (fun e => live.all (fun a => a.entry.axis ≠ e.axis))
  let order := sortBy (fun (e : AxisEntry) => (e.divisor * 100000 + (99999 - s.costOf e)) * 256 + e.axis) new
  order.foldl (fun done e =>
    let put (g : Nat) : Put :=
      let used := (done.filter (fun p => p.engine == g)).map (·.slot)
      { axis := e.axis, engine := g, slot := ((List.range 10).find? (fun k => decide (k ∉ used))).getD 255, div := e.divisor,
        phase := phase e, cost := s.costOf e, kernel := e.kernel }
    let key (g : Nat) : Nat := engineWorst (done ++ [put g]) g
    let on := (List.range 16).filter v.powered
    let free := on.filter (fun g => decide ((done.filter (fun p => p.engine == g)).length < 10))
    let g := match e.pinned with
      | some g => g
      | none => ((argMin key free).or (argMin key on)).getD 0
    done ++ [put g]) kept

/-! ### Slots (R231, R232) -/

/-- Two nodes are active in a common basic cycle (R232). -/
def meet (d φ e ψ : Nat) : Bool := φ % min d e == ψ % min d e

/-- A slot: node, start, length, divisor and phase. -/
structure SlotAt where
  node : Nat
  start : Nat
  len : Nat
  div : Nat
  phase : Nat
deriving DecidableEq, Repr

/-- The lowest start that meets no placed slot (R232). -/
def lowestStart (placed : List SlotAt) (floor len d φ : Nat) : Nat :=
  let ends := (placed.map (fun q => q.start + q.len)).filter (fun c => floor < c)
  let ok (c : Nat) : Bool := placed.all (fun q => !meet d φ q.div q.phase || decide (q.start + q.len ≤ c) || decide (c + len ≤ q.start))
  (argMin id ((floor :: ends).filter ok)).getD floor

/-- The slots of one branch and one window. -/
def State.slotsOf (s v : State) (eff b : Nat) (up : Bool) (ph : List Load) : List SlotAt :=
  let nodes := v.cfg.map.branch b
  let info (e : NodeEntry) : Nat × Nat × Nat := match ph.find? (fun l => l.node == nodeIndex e) with
    | some l => (l.div, l.phase, if up then l.up else l.down)
    | none => (1, 0, 1)
  let kept := (nodes.filter (fun e => s.liveNode eff (nodeIndex e))).map (fun e =>
    let (d, φ, len) := info e
    let p := (s.place? (nodeIndex e)).getD {}
    ({ node := nodeIndex e, start := if up then p.upStart else p.downStart, len := len, div := d, phase := φ } : SlotAt))
  (nodes.filter (fun e => !s.liveNode eff (nodeIndex e))).foldl (fun placed e =>
    let (d, φ, len) := info e
    let t := nodeTgt e
    let floor := if up then v.fld t 0x060E 2 0 + v.fld t 0x060E 3 0 - 8 else 0
    placed ++ [{ node := nodeIndex e, start := lowestStart placed floor len d φ, len := len, div := d, phase := φ }]) kept

/-- The first slot of a branch and window that ends beyond its window, as a CAPACITY (R233). -/
def lateSlot (b code win : Nat) (l : List SlotAt) : Option (Nat × Nat × Nat × Nat × Nat × Nat) :=
  (l.find? (fun p => decide (win < p.start + p.len))).map (fun p => (code, b, 0, p.phase, p.start + p.len, win))

/-! ### Admission (R42 to R46) -/

/-- The first entry of Table 1.8 that fails: resource, engine or branch, channel, cycle, demand, available. -/
def State.admissible (s v : State) (ph : List Load) (puts : List Put) : Option (Nat × Nat × Nat × Nat × Nat × Nat) :=
  let es := List.range 16
  let bs := List.range 8
  let js := List.range 64
  let on (e : Nat) : List Put := puts.filter (fun p => p.engine == e)
  let kernels (e : Nat) : List KInfo := (dedup' ((on e).map (·.kernel))).filterMap s.kinfo?
  let c1 := es.findSome? (fun e =>
    let n := (on e).length
    let lim := if v.powered e then 10 else 0
    if lim < n then some (0x01, e, 0xFF, 0xFF, n, lim) else none)
  let c2 := es.findSome? (fun e => js.findSome? (fun j =>
    let n := engineLoad puts e j
    if v.budget < n then some (0x02, e, 0xFF, j, n, v.budget) else none))
  let c3 := es.findSome? (fun e =>
    let n := ((kernels e).map (·.bundles)).sum
    if 4096 < n then some (0x03, e, 0xFF, 0xFF, n, 4096) else none)
  let c4 := es.findSome? (fun e =>
    let n := ((kernels e).map (·.localBytes)).sum
    if 65536 < n then some (0x04, e, 0xFF, 0xFF, n, 65536) else none)
  let ctx := (puts.map (fun p => ((s.kinfo? p.kernel).map (·.ctxBytes)).getD 0)).sum
  let c5 := if 2097152 < ctx then some (0x05, 0xFF, 0xFF, 0xFF, ctx, 2097152) else none
  let at_ (b : Nat) : List Load := ph.filter (fun l => l.node / 8 == b)
  let c6 := bs.findSome? (fun b => let n := (at_ b).length; if 8 < n then some (0x06, b, 0, 0xFF, n, 8) else none)
  let win (code lim : Nat) (f : Load → Nat) : Option (Nat × Nat × Nat × Nat × Nat × Nat) :=
    bs.findSome? (fun b => js.findSome? (fun j =>
      let n := (((at_ b).filter (fun l => dueIn l.div l.phase j)).map f).sum
      if lim < n then some (code, b, 0, j, n, lim) else none))
  let c7 := win 0x07 v.uMt (·.up)
  let c8 := win 0x08 v.dMt (·.down)
  let c9 := bs.findSome? (fun b => let n := 2 * (at_ b).length; if 1024 < n then some (0x09, b, 0, 0xFF, n, 1024) else none)
  [c1, c2, c3, c4, c5, c6, c7, c8, c9].findSome? id

/-! ### Conditions that refuse with RANGE -/

/-- RAW words that a measurement source reads (R190): the number that RAW_COUNT must reach. -/
def rawNeed (src ana : Nat) : Nat := match src with
  | 1 | 2 | 3 | 4 | 5 => 3 | 6 | 7 => 2 | 10 => ana + 1 | 11 => ana + 2 | _ => 0

/-- The SSI read of an axis on a local channel fits (R222). SSI_BITS is the axis's SER_BITS (log entry 20). -/
def State.ssiOk (v : State) (n ch : Nat) : Bool :=
  let t := tgtLocal ch
  if v.fld t 0x0508 4 0 = 4 then
    let clk := v.fldR t 0x0508 7 0
    let bitsN := v.fld (tgtAxis n) 0x0509 4 0
    let read : Rat := ((bitsN + 1 : Nat) : Rat) / clk * 1000000000 + (v.fldI t 0x0508 8 0 : Rat)
    let inst : Nat := 50 * v.fld t 0x0508 5 0
    decide (read ≤ (50 * (8 + v.uMt) - inst : Nat)) && decide (read + (v.fldI t 0x0508 9 0 : Rat) ≤ (v.tNs : Nat))
  else true

/-- The conditions of an axis of the map (R70, R133, R190, R218, R222 and the serial word). -/
def State.axisRangeOk (v : State) (ph : List Load) (e : AxisEntry) : Bool :=
  let t := tgtAxis e.axis
  let phase (x : AxisEntry) : Nat := ((ph.find? (fun l => l.node == x.node)).map (·.phase)).getD 0
  let f9 (row : Nat) : Nat := v.fld t 0x0509 row 0
  let src := v.fld t 0x0208 10 0
  let angle := !(e.ty == .segment || e.ty == .servo) || (match v.cfg.map.axis? src with
    | some x => x.divisor == e.divisor && phase x == phase e
    | none => false)
  let kernel := match v.kinfo? e.kernel with
    | some k => k.ty == e.ty && decide (v.dim e.axis 0 ≤ k.maxN) && decide (v.dim e.axis 1 ≤ k.maxP) && decide (v.dim e.axis 2 ≤ k.maxM)
    | none => false
  let rawN := v.fld t 0x0508 2 0
  let raws := (List.range (v.dim e.axis 1)).all (fun i => decide (rawNeed (v.fld t 0x0208 1 i) (f9 2) ≤ rawN))
  let fb := v.fld t 0x0508 0 0
  let ser := decide (f9 6 + f9 5 ≤ f9 4) && (match v.fldO t 0x0509 8 0 with
    | some b => decide (b < (f9 6 : Int)) || decide ((f9 6 + f9 5 : Nat) ≤ b)
    | none => true)
  let form := v.fld t 0x0508 1 0
  let forms := (form ≠ 2 || decide (2 ≤ f9 0)) && (f9 25 = 0 || form = 1 || form = 3)
  angle && kernel && raws && forms && (fb == 0 || (v.simplex && v.ssiOk e.axis (fb - 1))) && ser

/-- The conditions of a node of the map (R24, R188, R242, R243, R258, R267, R574). -/
def State.nodeRangeOk (v : State) (e : NodeEntry) : Bool :=
  let i := nodeIndex e
  let as := v.cfg.map.axesOf i
  let d := v.cfg.map.nodeDiv i
  let up := v.pUp e
  let down := v.pDown e
  as.all (fun a => a.divisor == d) && decide (as.map (·.part) = List.range as.length)
    && decide (4 + v.blockLen i ≤ up ∧ up ≤ 256) && decide (4 + v.downParts i ≤ down ∧ down ≤ 256)
    && decide (2 * d - 1 ≤ v.fld (nodeTgt e) 0x060E 5 0) && (v.fld (nodeTgt e) 0x060E 4 0 == 0 || d == 1)

/-- Every check that refuses a COMMIT of the map with RANGE (R574). -/
def State.mapRangeOk (v : State) (ph : List Load) : Bool :=
  let m := v.cfg.map
  let phase (x : AxisEntry) : Nat := ((ph.find? (fun l => l.node == x.node)).map (·.phase)).getD 0
  let same (l : List AxisEntry) : Bool := match l with
    | [] => true
    | a :: r => r.all (fun b => b.divisor == a.divisor && phase b == phase a)
  m.axes.all (fun a => m.nodes.any (fun e => nodeIndex e == a.node)) && m.nodes.all v.nodeRangeOk && m.axes.all (v.axisRangeOk ph)
    && (List.range 16).all (fun g => v.ringOk g && same (m.axes.filter (fun e => e.ty == .segment && v.cplGroup e.axis == some g)))
    && (List.range 16).all (fun g => same ((v.groupMembers g).filterMap m.axis?))
    && decide (v.lanesOfConfig.length + (m.nodes.filter (fun e => v.fld (nodeTgt e) 0x060E 4 0 == 1)).length ≤ 15)
    && v.scalesOk (.axis 0xFFFF) []

/-! ### Conditions that refuse with STATE -/

/-- A field of an object has the same value in the staging copy as in force. -/
def State.sameField (s v : State) (t table row elem : Nat) : Bool := s.fld t table row elem == v.fld t table row elem

/-- Every check that refuses a COMMIT of the map with STATE (R44, R50, R145, R223, R234). -/
def State.mapStateOk (s v : State) (eff : Nat) : Bool :=
  let live := s.liveAxes eff
  let m := v.cfg.map
  live.all (fun a => m.axis? a.entry.axis == some a.entry && m.nodes.any (fun e => nodeIndex e == a.entry.node)
      && [0, 1, 2].all (fun r => s.sameField v (tgtAxis a.entry.axis) 0x0508 r 0)
      && s.sameField v (tgtNode (a.entry.node / 8) (a.entry.node % 8)) 0x0508 3 0
      && (let fb := s.fld (tgtAxis a.entry.axis) 0x0508 0 0
          fb == 0 || [4, 5, 6, 7, 8, 9].all (fun r => s.sameField v (tgtLocal (fb - 1)) 0x0508 r 0))
      && (let t := tgtNode (a.entry.node / 8) (a.entry.node % 8)
          [2, 3, 4].all (fun r => s.sameField v t 0x060E r 0) && [0, 1].all (fun i => s.sameField v t 0x060E 7 i)))
    && m.axes.all (fun e => (stdKernel e.kernel).isSome || (match s.kernel? e.kernel with | some k => decide (k.verifiedAt < eff) | none => false))

/-! ### COMMIT, DISCARD -/

/-- The nodes whose SCHEDULE a map changes (R235): their entries, or a field that their SCHEDULE carries. -/
def State.changedNodes (s v : State) (nodes : List NodePlace) : List Nat :=
  (nodes.filter (fun p =>
    let t := tgtNode (p.node / 8) (p.node % 8)
    s.place? p.node ≠ some p || !([2, 3, 4, 5, 6].all (fun r => s.sameField v t 0x060E r 0)) || !([0, 1].all (fun i => s.sameField v t 0x060E 7 i))
      || decide (s.cfg.map.axesOf p.node ≠ v.cfg.map.axesOf p.node)
      || (v.cfg.map.axesOf p.node).any (fun a => v.dutyWords a.axis ≠ s.dutyWords a.axis))).map (·.node)

/-- A key of the block of the axis map; the acquisition set-up is a block of its own. -/
def mapKey (k : FieldKey) : Bool := k.table != 0x0A07

/-- The outcome of a COMMIT of the axis map (R574): a refusal, or the map that comes. -/
def State.commitMap (s : State) (eff : Nat) : Except Verdict PendingMap :=
  match s.order.mapPending with
  | some p => .error (refuse stBusy (p.at_ - s.clock.cycle))
  | none =>
    let v := s.commitView eff
    let ph := s.allPhases v eff
    let cap (x : Nat × Nat × Nat × Nat × Nat × Nat) : Verdict :=
      refuse stCapacity 0 ([BitVec.ofNat 8 x.1, BitVec.ofNat 8 x.2.1, BitVec.ofNat 8 x.2.2.1, BitVec.ofNat 8 x.2.2.2.1]
        ++ toLe 4 x.2.2.2.2.1 ++ toLe 4 x.2.2.2.2.2)
    if !v.mapRangeOk ph then .error (refuse stRange)
    else if !s.mapStateOk v eff then .error (refuse stState)
    else
      let puts := s.enginesOf v eff ph
      match s.admissible v ph puts with
      | some x => .error (cap x)
      | none =>
        let ups (b : Nat) := s.slotsOf v eff b true ph
        let downs (b : Nat) := s.slotsOf v eff b false ph
        match (List.range 8).findSome? (fun b => (lateSlot b 0x07 v.uMt (ups b)).or (lateSlot b 0x08 v.dMt (downs b))) with
        | some x => .error (cap x)
        | none =>
          let nodes := (List.range 8).flatMap (fun b => (ups b).map (fun u =>
            let d := ((downs b).find? (fun x => x.node == u.node)).getD ⟨u.node, 0, 1, 1, 0⟩
            ({ node := u.node, phase := u.phase, divisor := u.div, upStart := u.start, upLen := u.len, downStart := d.start, downLen := d.len } : NodePlace)))
          .ok { map := v.cfg.map, places := sortBy (·.axis) (puts.map (fun p => { axis := p.axis, engine := p.engine, slot := p.slot, phase := p.phase })),
                nodes := sortBy (·.node) nodes, at_ := ceilDiv eff 64 * 64,
                fields := s.cfg.staged.filter (fun k => mapKey k.1), changed := s.changedNodes v nodes }

/-- COMMIT checked (R36, R37, R424, R574). -/
def checkCommit (s : State) (r : Req) (eff : Nat) : Verdict :=
  let t := r.target.toNat
  if r.payload.length ≠ 0 then refuse stRange
  else if isMapT t then
    match (s.fieldsAt eff).commitMap eff with
    | .ok p => { rsp := toLe 4 p.at_ }
    | .error v => v
  else if isAcqT t then
    let v := (s.fieldsAt eff).stagedView
    if v.acqC < v.fld tgtAcq 0x0A07 5 0 + 1 + v.fld tgtAcq 0x0A07 6 0
      || (List.range 4).any (fun i => decide (v.fld tgtAcq 0x0A07 1 0 ≤ v.fld tgtAcq 0x0A07 12 i)) then refuse stRange
    else {}
  else refuse stRange

/-- COMMIT accepted: the map waits for its matrix cycle; staged values of an acquisition set-up are captured elsewhere (R37, R47).
A changed node's SCHED_ID rises and its SCHEDULE is distributed (R235). -/
def acceptCommit (s : State) (r : Req) (eff : Nat) : State :=
  if isMapT r.target.toNat then
    match (s.fieldsAt eff).commitMap eff with
    | .ok p => { s with order := { s.order with mapPending := some p } }
    | .error _ => s
  else s

/-- The staged values of the acquisition set-up that its COMMIT captures (R37). -/
def State.acqStaged (s : State) : List (FieldKey × BitVec 64) := s.cfg.staged.filter (fun p => !mapKey p.1)

/-- DISCARD (R38) checked. -/
def checkDiscard (r : Req) : Verdict :=
  if r.payload.length = 0 && (isMapT r.target.toNat || isAcqT r.target.toNat) then {} else refuse stRange

/-- DISCARD takes effect: a staging copy becomes its active copy. -/
def effectDiscard (s : State) (t : Nat) : State :=
  if isMapT t then { s with cfg := { s.cfg with stagedMap := s.cfg.map, staged := s.cfg.staged.filter (fun p => !mapKey p.1) } }
  else if isAcqT t then { s with cfg := { s.cfg with staged := s.cfg.staged.filter (fun p => mapKey p.1) } }
  else s

/-! ### MAP_AXIS, MAP_NODE, MAP_REMOVE (R574) -/

/-- The entry of a MAP_AXIS. -/
def axisEntryOf (r : Req) : AxisEntry :=
  let p := r.payload
  { axis := r.target.toNat, ty := (axisTypeOf (byteAt p 0)).getD .servo, kernel := byteAt p 1, divisor := byteAt p 2,
    pinned := if byteAt p 3 = 0xFF then none else some (byteAt p 3), node := nodeOfT (le p 4 2), part := byteAt p 6 }

/-- MAP_AXIS checked. -/
def checkMapAxis (s : State) (r : Req) : Verdict :=
  let p := r.payload
  let d := byteAt p 2
  if !isAxisT r.target.toNat || p.length ≠ 8 then refuse stRange
  else match axisTypeOf (byteAt p 0), s.kinfo? (byteAt p 1) with
    | some ty, some k =>
      if (d = 1 ∨ d = 2 ∨ d = 4 ∨ d = 8) ∧ (byteAt p 3 ≤ 15 ∨ byteAt p 3 = 0xFF) ∧ k.ty = ty ∧ isNodeT (le p 4 2) ∧ byteAt p 6 ≤ 15 then {}
      else refuse stRange
    | _, _ => refuse stRange

/-- Type-dependent fields of an axis held only in the staging copy return to their defaults when its TYPE changes (R574). -/
def typeFields (k : FieldKey) (n : Nat) : Bool :=
  k.target == tgtAxis n && ((k.table == 0x0208 && (k.row == 0 || k.row == 13)) || (k.table == 0x0405 && k.row == 8) || (k.table == 0x0508 && k.row == 2))

/-- MAP_AXIS accepted: the staging copy takes the entry. -/
def acceptMapAxis (s : State) (r : Req) : State :=
  let e := axisEntryOf r
  let m := s.cfg.stagedMap
  let changed := match m.axis? e.axis with | some o => decide (o.ty ≠ e.ty) | none => false
  let staged := if changed && (s.cfg.map.axis? e.axis).isNone then s.cfg.staged.filter (fun p => !typeFields p.1 e.axis) else s.cfg.staged
  { s with cfg := { s.cfg with
      staged := staged
      stagedMap := { m with axes := sortBy (·.axis) (e :: m.axes.filter (fun a => a.axis ≠ e.axis)) } } }

/-- The entry of a MAP_NODE. -/
def nodeEntryOf (r : Req) : NodeEntry :=
  let t := r.target.toNat
  { node := nodeOfT t, branch := tNum t / 256 % 8, pos := t % 8, pUp := le r.payload 0 2, pDown := le r.payload 2 2 }

/-- MAP_NODE checked. -/
def checkMapNode (r : Req) : Verdict := if isNodeT r.target.toNat && r.payload.length == 4 then {} else refuse stRange

/-- MAP_NODE accepted: the staging copy takes the entry, P_up and P_down with it. -/
def acceptMapNode (s : State) (r : Req) : State :=
  let e := nodeEntryOf r
  let m := s.cfg.stagedMap
  let key (i : Nat) : FieldKey := { target := nodeTgt e, table := 0x060E, row := 7, elem := i }
  let staged := kvSet (kvSet s.cfg.staged (key 0) (BitVec.ofNat 64 e.pUp)) (key 1) (BitVec.ofNat 64 e.pDown)
  { s with cfg := { s.cfg with
      staged := staged
      stagedMap := { m with nodes := sortBy (·.node) (e :: m.nodes.filter (fun n => n.node ≠ e.node)) } } }

/-- MAP_REMOVE checked. -/
def checkMapRemove (r : Req) : Verdict :=
  if (isAxisT r.target.toNat || isNodeT r.target.toNat) && r.payload.length == 0 then {} else refuse stRange

/-- MAP_REMOVE accepted: the staging copy loses the object, and the staged fields of it. -/
def acceptMapRemove (s : State) (r : Req) : State :=
  let t := r.target.toNat
  let m := s.cfg.stagedMap
  let m := if isAxisT t then { m with axes := m.axes.filter (fun a => a.axis ≠ t) } else { m with nodes := m.nodes.filter (fun n => nodeTgt n ≠ t) }
  { s with cfg := { s.cfg with stagedMap := m, staged := s.cfg.staged.filter (fun p => p.1.target ≠ t) } }

/-- KERNEL_REMOVE checked (R145). -/
def checkKernelRemove (s : State) (r : Req) : Verdict :=
  let t := r.target.toNat
  let id := tNum t
  if !isKernelT t || r.payload.length ≠ 0 || (s.kernel? id).isNone then refuse stRange
  else if (s.cfg.map.axes ++ s.cfg.stagedMap.axes).any (fun a => a.kernel == id) then refuse stState
  else {}

/-- KERNEL_INFO (R141, Table 15.6). -/
def checkKernelInfo (s : State) (r : Req) : Verdict :=
  let t := r.target.toNat
  let id := tNum t
  if !isKernelT t || r.payload.length ≠ 0 then refuse stRange
  else match s.kinfo? id with
    | none => refuse stRange
    | some k =>
      { rsp := [BitVec.ofNat 8 id, 0] ++ toLe 2 k.bundles ++ toLe 4 k.cost ++ toLe 4 k.localBytes ++ toLe 4 k.ctxBytes ++ toLe 4 k.crc.toNat
          ++ [BitVec.ofNat 8 (s.cfg.map.axes.filter (fun a => a.kernel == id)).length,
              BitVec.ofNat 8 (b2n (s.cfg.stagedMap.axes.any (fun a => a.kernel == id))), 0, 0] }

end Sys2Proof.Machine
end

