-- ==== Sys2Proof/Machine/KernelLoad.lean ====
section
/-!
DEFINITION. Loading, verifying and removing custom kernels (R141 to R145): KERNEL_OPEN, KERNEL_WRITE, KERNEL_CLOSE,
KERNEL_REMOVE, KERNEL_VERIFIED and KERNEL_LOAD_LAPSE.
-/
namespace Sys2Proof.Machine

/-- Basic cycles from the last part to the lapse of a load (R143, R590). -/
def loadLapse : Nat := 65536

/-- What a command of R142 does to the kernel store at its effective cycle. -/
def kernelStep (k : Kernels) (eff : Nat) (r : Req) : Kernels :=
  match r.opcode, k.load with
  | 0x0120, _ => { k with load := some { length := le r.payload 0 4, last := eff, id := eff } }
  | 0x0121, some l =>
    let o := le r.payload 0 4
    let bs := r.payload.drop 4
    { k with load := some { l with data := (List.range bs.length).foldl (fun d i => kvSet d (o + i) (bs.getD i 0)) l.data, last := eff } }
  | 0x0122, some l => { k with load := some { l with closing := true, closeTag := r.tag } }
  | 0x0123, _ => { k with held := k.held.filter (fun x => x.id ≠ tNum r.target.toNat) }
  | _, _ => k

/-- The kernel store as an effective cycle finds it. -/
def State.kernelsAt (s : State) (eff : Nat) : Kernels := (s.before eff).foldl (fun k p => kernelStep k p.1.eff p.2) s.kernels

/-- The image of a load; a byte no part gave is free (log entry 14). -/
def KernelLoad.image (l : KernelLoad) : List Byte :=
  (List.range l.length).map (fun i => (kvGet l.data i).getD (Config.openByte l.id i))

/-- KERNEL_OPEN checked (R143, Table 15.6). -/
def checkKernelOpen (s : State) (r : Req) (eff : Nat) : Verdict :=
  let n := le r.payload 0 4
  if !isNoneT r.target.toNat || r.payload.length ≠ 4 || n < 0xB4 || 98484 < n then refuse stRange
  else match (s.kernelsAt eff).load with
    | some l => refuse stBusy (l.last + loadLapse - s.clock.cycle)
    | none => {}

/-- KERNEL_WRITE checked (R142, Table 15.6). A load being verified is no longer open to parts. -/
def checkKernelWrite (s : State) (r : Req) (eff : Nat) : Verdict :=
  let n := r.payload.length
  if !isNoneT r.target.toNat || n < 5 || 240 < n then refuse stRange
  else match (s.kernelsAt eff).load with
    | some l => if l.closing then refuse stState else if l.length < le r.payload 0 4 + (n - 4) then refuse stRange else {}
    | none => refuse stState

/-- KERNEL_CLOSE checked: the CRC over the declared length (R142). -/
def checkKernelClose (s : State) (r : Req) (eff : Nat) : Verdict :=
  if !isNoneT r.target.toNat || r.payload.length ≠ 0 then refuse stRange
  else match (s.kernelsAt eff).load with
    | some l =>
      if l.closing then refuse stState
      else
        let img := l.image
        if crc32 (img.take (l.length - 4)) = le img (l.length - 4) 4 then { status := stAccepted } else refuse stIntegrity
    | none => refuse stState

/-- A command of R142, or KERNEL_REMOVE, takes effect. -/
def State.kernelEffect (s : State) (r : Req) : State := { s with kernels := kernelStep s.kernels s.clock.cycle r }

/-- The event of a verified kernel (Table 15.15). -/
def verifiedEvent (id cost : Nat) (img : List Byte) : EvBody :=
  let k : Kernel := { id := id, image := img, cost := cost }
  let i := k.info
  let fig := i.bundles % 8192 + i.localBytes / 32 % 4096 * 2 ^ 13 + i.ctxBytes / 4 % 8192 * 2 ^ 25
  { code := 0x403, payload := [BitVec.ofNat 8 id] ++ toLe 2 cost ++ toLe 5 fig ++ toLe 4 i.crc.toNat }

/-- The event of a refused kernel (Table 15.15). -/
def refusedEvent (reason idx : Nat) (tag : BitVec 32) : EvBody :=
  { code := 0x404, payload := [BitVec.ofNat 8 reason, 0] ++ toLe 2 idx ++ toLe 4 tag.toNat }

/-- KERNEL_VERIFIED (R144): verification of the closed image ends, and the voice lane's steward distributes the outcome. Another
lane reaches it by itself and waits for the voice lane's. -/
def execKernelVerified (s : State) : Host.Outcome State Fault Refusal :=
  .next (match s.kernels.load with
    | some l =>
      if l.closing && s.isVoice then
        match verifyImage s.kernels.held l.image with
        | .ok cost => s.reportBody (.kernelOutcome l.closeTag true (verifiedEvent (freeKernelId s.kernels.held) cost l.image))
        | .error (reason, i) => s.reportBody (.kernelOutcome l.closeTag false (refusedEvent reason i l.closeTag))
      else s
    | none => s)

/-- The outcome takes effect (R141, R143 to R145): the load is over, a verified kernel is held under its ID, and the event is
recorded. -/
def State.kernelOutcome (s : State) (ok : Bool) (e : EvBody) : State :=
  match s.kernels.load with
  | some l =>
    let k : Kernel := { id := byteAt e.payload 0, image := l.image, cost := le e.payload 1 2, verifiedAt := s.clock.cycle }
    let held := if ok then sortBy (·.id) (k :: s.kernels.held) else s.kernels.held
    ({ s with kernels := { held := held, load := none } } : State).eventBody e
  | none => s.eventBody e

/-- KERNEL_LOAD_LAPSE (R143): an open load lapses 65,536 basic cycles after its last KERNEL_WRITE, and its data is discarded. -/
def execKernelLoadLapse (s : State) : Host.Outcome State Fault Refusal :=
  .next (match s.kernels.load with
    | some l => if l.last + loadLapse ≤ s.clock.cycle && !l.closing then { s with kernels := { s.kernels with load := none } } else s
    | none => s)

end Sys2Proof.Machine
end

