-- ==== Sys2Proof/Machine/ProfileOps.lean ====
section
/-!
DEFINITION. Motion commands, injections and the commands of the acquisition set-up (R153 to R185, R423 to R433, Tables 15.7,
15.12): their checks, the queue depths they answer, and their effects on an axis in its due cycle.
-/
namespace Sys2Proof.Machine

/-- The type an axis has at an effective cycle, none where no map places it. -/
def State.typeAt (s : State) (n eff : Nat) : Option AxisType :=
  match s.mapAt eff with
  | some p => (p.map.axis? n).map (·.ty)
  | none => (s.axis? n).map (·.entry.ty)

/-- A motion command (R153): PROFILE_MOVE to TABLE_CLEAR and REF_SET; GROUP_MOVE names a group. -/
def isMotionOp (op : Nat) : Bool := op == 0x0200 || op == 0x0201 || op == 0x0202 || op == 0x0203 || op == 0x0204 || op == 0x0206

/-- Commands that act on one axis in its first due cycle (R60, R148, R433). -/
def isAxisOp (op : Nat) : Bool := (decide (0x0100 ≤ op) && decide (op ≤ 0x0108)) || isMotionOp op || op == 0x0703 || op == 0x0704

/-- The commands accepted for an axis that stands at an effective cycle and not yet in effect, in the order in which they take
effect. -/
def State.comingOn (s : State) (n eff : Nat) : List Req :=
  let l : List Accepted := match s.bornAt n eff with
    | some k => sortBy (·.eff) (s.order.accepted.filter (fun a => decide (k ≤ a.eff)))
    | none => ((s.axis? n).map (·.waiting)).getD [] ++ sortBy (·.eff) s.order.accepted
  l.filterMap (fun a => match a.body with
    | .cmd r => if isAxisOp r.opcode && decide (n ∈ axesOf r) then some r else none
    | _ => none)

/-- A 6-byte position (R575). -/
def pos48 (p : List Byte) (o : Nat) : BitVec 48 := BitVec.ofNat 48 (le p o 2 + le p (o + 2) 4 * 65536)

/-- R155: a motion command is refused in OFF, READY and FAULTED. -/
def State.motionState (s : State) (n eff : Nat) : Verdict :=
  let st := s.stateAt n eff
  if s.faults.f3 || st = .faulted then refuse stFaultLock
  else if st = .off ∨ st = .ready || !s.placedAt n eff then refuse stState
  else {}

/-- The queue depth of a motion command other than TABLE_APPEND and GROUP_MOVE (R156). -/
def State.motionDepth (s : State) (n eff : Nat) : Nat := ((s.comingOn n eff).filter (fun r => isMotionOp r.opcode)).length + 1

/-! ### PROFILE_MOVE, PROFILE_VELOCITY, REF_SET -/

/-- The type of the axis allows the motion (R153); an axis no map places is refused by its state. -/
def State.motionType (s : State) (n eff : Nat) (positional : Bool) : Bool :=
  match s.typeAt n eff with | some ty => ty.positional == positional | none => true

/-- The value check after the state check of a motion command, and its queue depth. -/
def State.motionVerdict (s : State) (n eff : Nat) (form value : Bool) (positional : Bool) : Verdict :=
  if !form || !s.motionType n eff positional then refuse stRange
  else
    let v := s.motionState n eff
    if v.status ≠ 0 then v else if !value then refuse stRange else { aux := s.motionDepth n eff }

/-- PROFILE_MOVE checked (R153, R155, R158). -/
def checkProfileMove (s : State) (r : Req) (eff : Nat) : Verdict :=
  let rel := bit (byteAt r.payload 0) 0
  s.motionVerdict r.target.toNat eff (isAxisT r.target.toNat && r.payload.length == 8) (!(rel && pos48 r.payload 2 == BitVec.ofNat 48 (2 ^ 47))) true

/-- PROFILE_VELOCITY checked (R153, R155, R160). -/
def checkProfileVelocity (s : State) (r : Req) (eff : Nat) : Verdict :=
  let n := r.target.toNat
  s.motionVerdict n eff (isAxisT n && r.payload.length == 4)
    (match f32 (le r.payload 0 4) with | some v => decide (absR v ≤ (s.fieldsAt eff).velMax n) | none => false) true

/-- REF_SET checked (R153, R155, R171). -/
def checkRefSet (s : State) (r : Req) (eff : Nat) : Verdict :=
  let n := r.target.toNat
  let v := s.fieldsAt eff
  let ok (i : Nat) : Bool := match f32 (le r.payload (4 * i) 4) with
    | some t => decide (absR t < pow2 (v.expRef n i)) && (i == 0 || s.typeAt n eff == some .segment || decide (t = 0))
    | none => false
  s.motionVerdict n eff (isAxisT n && r.payload.length == 8) (ok 0 && ok 1) false

/-! ### Tables (R165 to R170) -/

/-- The points of a TABLE_APPEND. -/
def pointsOf (r : Req) : List Point :=
  (List.range (r.payload.length / 16)).map (fun i =>
    let o := 16 * i
    let f := byteAt r.payload (o + 12)
    { dur := le r.payload o 2, pos := pos48 r.payload (o + 2), vel := BitVec.ofNat 32 (le r.payload (o + 8) 4),
      relative := bit f 0, event := bit f 1, last := bit f 2 })

/-- A point meets Table 4.3. -/
def pointOk (s : State) (n : Nat) (p : List Byte) (o : Nat) : Bool :=
  decide (1 ≤ le p o 2) && decide (byteAt p (o + 12) < 8) && le p (o + 13) 3 == 0
    && (match f32 (le p (o + 8) 4) with
        | some v => decide (absR v < pow2 (s.expRef n 0)) && (!bit (byteAt p (o + 12)) 2 || decide (v = 0))
        | none => false)

/-- Points an axis holds with those accepted and coming (R156). -/
def State.pointsHeld (s : State) (n eff : Nat) : Nat :=
  (s.comingOn n eff).foldl (fun k r => match r.opcode with
    | 0x0202 => k + r.payload.length / 16
    | 0x0204 => 0
    | _ => k) (if (s.bornAt n eff).isSome then 0 else (s.mot n).points.length)

/-- Points of every axis that are held or coming. -/
def State.poolHeld (s : State) (eff : Nat) : Nat := ((s.fieldsAt eff).axes.map (fun a => s.pointsHeld a.entry.axis eff)).sum

/-- Basic cycles until the running table of an axis has freed `k` points (R166). -/
def State.tableFrees (s : State) (n k : Nat) : Nat :=
  match s.axis? n with
  | some a =>
    let m := a.mot
    let left := (m.points.take k).map (·.dur)
    if m.points.length < k then 65535
    else
      let periods := left.sum - ((m.seg.map (·.j)).getD 0)
      firstDue a.entry.divisor a.place.phase (s.clock.cycle + 1) + (periods - 1) * a.entry.divisor - s.clock.cycle
  | none => 65535

/-- TABLE_APPEND checked (R155, R165, R166). -/
def checkTableAppend (s : State) (r : Req) (eff : Nat) : Verdict :=
  let n := r.target.toNat
  let len := r.payload.length
  let k := len / 16
  if !isAxisT n || len = 0 || len % 16 ≠ 0 || 240 < len || !s.motionType n eff true then refuse stRange
  else
    let v := s.motionState n eff
    if v.status ≠ 0 then v
    else match (List.range k).find? (fun i => !pointOk (s.fieldsAt eff) n r.payload (16 * i)) with
      | some i => refuseItem stRange i
      | none =>
        let own := s.pointsHeld n eff + k
        let pool := s.poolHeld eff + k
        if own ≤ 4096 ∧ pool ≤ 16384 then { aux := own }
        else if (s.mot n).motion = some .table ∧ (s.bornAt n eff).isNone then refuse stBusy (s.tableFrees n (max (own - 4096) (pool - 16384)))
        else refuse stRange

/-- TABLE_START and TABLE_CLEAR checked (R153, R155). -/
def checkTable (s : State) (r : Req) (eff : Nat) : Verdict :=
  s.motionVerdict r.target.toNat eff (isAxisT r.target.toNat && r.payload.length == 0) true true

/-- TABLE_APPEND takes effect: the points join the axis's table (R165). -/
def State.appendPoints (s : State) (n : Nat) (ps : List Point) : State :=
  s.updMot n (fun m =>
    { m with points := m.points ++ (List.range ps.length).map (fun i => { ps.getD i {} with seq := m.pointSeq + i }),
             pointSeq := m.pointSeq + ps.length })

/-- TABLE_START takes effect (R167, R170). -/
def State.tableStartEffect (s : State) (n : Nat) (st : AxisSt) (tag : BitVec 32) : State :=
  match st with
  | .off | .ready | .faulted => s.profileVoid n tag 0x0203 1
  | _ =>
    if (s.mot n).points.isEmpty then s.profileVoid n tag 0x0203 3
    else if st = .run ∧ (s.mot n).motion = some .table then s
    else s.motionEffect n st .table none tag 0x0203

/-- TABLE_CLEAR takes effect (R170). -/
def State.tableClearEffect (s : State) (n : Nat) (st : AxisSt) (tag : BitVec 32) : State :=
  match st with
  | .off | .ready | .faulted => s.profileVoid n tag 0x0204 1
  | _ => if (s.mot n).motion = some .table ∧ st = .run then (s.discardPoints n).toRest n else s.discardPoints n

/-! ### Coordination groups (R179, R184) -/

/-- Targets of a GROUP_MOVE, by member. -/
def groupTargets (ms : List Nat) (r : Req) : List (Nat × Bool × Int) :=
  (List.range ms.length).map (fun i =>
    let o := 2 + 8 * i
    (ms.getD i 0, bit (byteAt r.payload o) 0, (pos48 r.payload (o + 2)).toInt))

/-- Waiting moves of a group, those coming included (R156, R179). -/
def State.groupWaiting (s : State) (g eff : Nat) : Nat :=
  (s.before eff).foldl (fun k p =>
    if p.2.opcode = 0x0205 ∧ p.2.target.toNat = tgtGroup g then (if bit (byteAt p.2.payload 0) 0 then 1 else k + 1) else k)
    (((s.groups[g]?).map (·.waiting.length)).getD 0)

/-- Basic cycles until the running move of a group ends as planned (R179). -/
def State.groupEnds (s : State) (g : Nat) : Nat :=
  match (s.groups[g]?).bind (·.run), (s.groupMembers g).head?.bind s.axis? with
  | some x, some a =>
    firstDue a.entry.divisor a.place.phase (s.clock.cycle + 1) + (x.plan.samples - x.plan.n - 1) * a.entry.divisor - s.clock.cycle
  | _, _ => 0

/-- GROUP_MOVE checked (R155, R179, R184). -/
def checkGroupMove (s : State) (r : Req) (eff : Nat) : Verdict :=
  let t := r.target.toNat
  let g := tNum t
  let ms := (s.fieldsAt eff).groupMembers g
  let n := byteAt r.payload 1
  if !isGroupT t || ms.isEmpty || n ≠ ms.length || r.payload.length ≠ 2 + 8 * n then refuse stRange
  else
    let v := firstBad (ms.map (fun a => s.motionState a eff))
    if v.status ≠ 0 then v
    else
      let w := if bit (byteAt r.payload 0) 0 then 0 else s.groupWaiting g eff
      if 8 ≤ w then refuse stBusy (s.groupEnds g) else { aux := w + 1 }

/-- GROUP_MOVE takes effect (R155, R179, R184): void where a member could not take it. -/
def State.groupMoveEffect (s : State) (r : Req) : State :=
  let g := tNum r.target.toNat
  let ms := s.groupMembers g
  let ok := ms.length == byteAt r.payload 1 && ms.all (fun n => match s.axis? n with
    | some a => a.st == .hold || a.st == .run || a.st == .coast || a.st == .stopRamp
    | none => false)
  if !ok then s.profileVoid 0xFF r.tag 0x0205 1
  else
    let mv : GroupMove := { targets := groupTargets ms r, eff := s.clock.cycle, tag := r.tag }
    if bit (byteAt r.payload 0) 0 then
      let s := { s with groups := modAt s.groups g (fun x => { x with waiting := [mv] }) }
      match (s.groups[g]?).bind (·.run), ms.head?.bind s.axis? with
      | some x, some a => if x.stopping then s else s.groupStop g x (s.ts a)
      | _, _ => s
    else { s with groups := modAt s.groups g (fun x => { x with waiting := x.waiting ++ [mv] }) }

/-! ### Injections (R433) -/

/-- The injection field values an INJ_START reads at its effective cycle (R434). -/
def State.injFields (s : State) (n : Nat) : List (FieldKey × BitVec 64) :=
  [(0, 0), (1, 0), (2, 0), (3, 0), (3, 1), (4, 0), (5, 0), (6, 0)].map (fun p =>
    (({ target := tgtAxis n, table := 0x0A08, row := p.1, elem := p.2 } : FieldKey), BitVec.ofNat 64 (s.fld (tgtAxis n) 0x0A08 p.1 p.2)))

/-- Commands accepted and not yet in effect of any axis, with effective cycles. -/
def State.coming (s : State) : List (Req × Nat) :=
  ((s.axes.flatMap (·.waiting)) ++ s.order.accepted).filterMap (fun (a : Accepted) => match a.body with | .cmd r => some (r, a.eff) | _ => none)

/-- The planned end of a running injection, none without a duration (R433). -/
def State.injEnd (s : State) (a : Axis) (j : Inj) : Option Nat :=
  if j.total = 0 then none
  else some (firstDue a.entry.divisor a.place.phase (s.clock.cycle + 1) + (j.total - j.n) * a.entry.divisor)

/-- The planned ends of the injections accepted and not ended (R433). -/
def State.injEnds (s : State) : List (Option Nat) :=
  s.axes.filterMap (fun a => a.inj.map (s.injEnd a))
    ++ s.coming.filterMap (fun p =>
        if p.1.opcode = 0x0703 then
          let n := p.1.target.toNat
          let v := s.fieldsAt p.2
          let total := v.fld (tgtAxis n) 0x0A08 6 0
          some (if total = 0 then none
            else (v.axis? n).map (fun a => firstDue a.entry.divisor a.place.phase p.2 + total * a.entry.divisor))
        else none)

/-- An axis has an injection at an effective cycle. -/
def State.injAt (s : State) (n eff : Nat) : Bool :=
  (s.comingOn n eff).foldl (fun b r => if r.opcode = 0x0703 then true else if r.opcode = 0x0704 then false else b)
    ((s.bornAt n eff).isNone && (match (s.axis? n).bind (·.inj) with | some j => !j.stop | none => false))

/-- INJ_START checked (R433). -/
def checkInjStart (s : State) (r : Req) (eff : Nat) : Verdict :=
  let n := r.target.toNat
  let st := s.stateAt n eff
  if !isAxisT n || r.payload.length ≠ 0 then refuse stRange
  else if s.faults.f3 || st = .faulted then refuse stFaultLock
  else if !(st = .hold ∨ st = .run) || !s.placedAt n eff || s.injAt n eff then refuse stState
  else
    let v := s.fieldsAt eff
    if [(0, 0), (1, 0), (3, 0), (3, 1)].any (fun (p : Nat × Nat) => !v.injOk n p.1 p.2) then refuse stRange
    else
      let ends := s.injEnds
      if 16 ≤ ends.length then
        refuse stBusy (match ends.filterMap id with | [] => 65535 | e :: l => (l.foldl min e) - s.clock.cycle)
      else {}

/-- INJ_STOP checked: only its form (R433). -/
def checkInjStop (r : Req) : Verdict := if isAxisT r.target.toNat && r.payload.length == 0 then {} else refuse stRange

/-- INJ_STOP takes effect: the injection ends in the axis's due period (R433, R436). -/
def State.injStopEffect (s : State) (n : Nat) : State :=
  s.updAxis n (fun a => { a with inj := a.inj.map (fun j => { j with stop := true }) })

/-! ### Acquisition (R418, R423, R429 to R431) -/

/-- The set-up runs at an effective cycle, as the command order decides it (R431). -/
def State.acqRunsAt (s : State) (eff : Nat) : Bool :=
  (s.before eff).foldl (fun b p => if p.2.opcode = 0x0700 then true else if p.2.opcode = 0x0701 then false else b) s.acq.running

/-- ACQ_ARM checked (R424, R431). -/
def checkAcqArm (s : State) (r : Req) (eff : Nat) : Verdict :=
  if !isAcqT r.target.toNat || r.payload.length ≠ 0 then refuse stRange
  else
    let v := s.fieldsAt eff
    if s.acqRunsAt eff then refuse stState
    else if v.acqC < v.fld tgtAcq 0x0A07 5 0 + 1 + v.fld tgtAcq 0x0A07 6 0 then refuse stRange
    else {}

/-- ACQ_STOP and ACQ_FORCE checked: the set-up runs (Table 15.12). -/
def checkAcqRun (s : State) (r : Req) (eff : Nat) : Verdict :=
  if !isAcqT r.target.toNat || r.payload.length ≠ 0 then refuse stRange
  else if s.acqRunsAt eff then {} else refuse stState

/-! ### Commands of Table 2.3 (R57 to R61, R565) -/

/-- TARGET and payload of a command with TARGET "axis or mask" (R565). -/
def maskOk (r : Req) : Bool :=
  if r.target.toNat = 0xFFFF then r.payload.length == 20 && !(axesOf r).isEmpty
  else isAxisT r.target.toNat && r.payload.length == 0

/-- One axis of a command of Table 2.3 checked (R58, R59). -/
def State.axisVerdict (s : State) (op n eff : Nat) : Verdict :=
  if neverVoid op then {}
  else if s.faults.f3 then refuse stFaultLock
  else if !s.placedAt n eff then refuse stState
  else
    let st := s.stateAt n eff
    match transition op st (s.f2Active n || s.faults.f3) with
    | some _ => {}
    | none => refuse (s.axisRefusal st)

/-- A command of Table 2.3 checked, a mask as a whole (R565). -/
def checkAxisOp (s : State) (r : Req) (eff : Nat) : Verdict :=
  if !maskOk r then refuse stRange
  else match (axesOf r).find? (fun n => (s.axisVerdict r.opcode n eff).status ≠ 0) with
    | some n =>
      let v := s.axisVerdict r.opcode n eff
      if r.target.toNat = 0xFFFF then { v with rsp := [BitVec.ofNat 8 n] } else v
    | none => {}

/-! ### Effects on one axis -/

/-- A command acts on an axis in its due cycle (R60, R148, R433). `cap` holds the injection fields of INJ_START. -/
def State.axisEffect (s : State) (r : Req) (n : Nat) (cap : List (FieldKey × BitVec 64)) : State :=
  let st := ((s.axis? n).map (·.st)).getD .off
  let p := r.payload
  match r.opcode with
  | 0x0200 =>
    if bit (byteAt p 0) 0 then s.motionEffect n st (.move (s.mot n).o) (some ((pos48 p 2).toInt, r.tag)) r.tag 0x0200
    else s.motionEffect n st (.move (pos48 p 2)) none r.tag 0x0200
  | 0x0201 => s.motionEffect n st (.velocity (f32D (le p 0 4))) none r.tag 0x0201
  | 0x0202 => match st with
    | .off | .ready | .faulted => s.profileVoid n r.tag 0x0202 1
    | _ => s.appendPoints n (pointsOf r)
  | 0x0203 => s.tableStartEffect n st r.tag
  | 0x0204 => s.tableClearEffect n st r.tag
  | 0x0206 => s.motionEffect n st (.reference (f32D (le p 0 4)) (f32D (le p 4 4))) none r.tag 0x0206
  | 0x0703 =>
    let v : State := { s with cfg := { s.cfg with active := cap.foldl (fun l i => kvSet l i.1 i.2) s.cfg.active } }
    let t := v.injStart n
    { t with cfg := s.cfg }
  | 0x0704 => s.injStopEffect n
  | op => s.axisCommand op n r.tag

end Sys2Proof.Machine
end

