-- ==== Sys2Proof/Machine/Acquire.lean ====
section
/-!
DEFINITION. The acquisition unit (R408 to R432): channels, comparators, the condition word, triggers and their placing, records,
segments and descriptors; and the close of the compute window (R20, R107).
-/
namespace Sys2Proof.Machine

/-- A field of the acquisition set-up (Table 10.7). -/
def State.aq (s : State) (row elem : Nat) : Nat := s.fld tgtAcq 0x0A07 row elem

/-- This lane is one of ACQ_LANES and votes while the set-up runs (R430, R431). -/
def State.recording (s : State) : Bool := s.acq.running && s.voting && bit (s.aq 0 0) (Lane.num s.lane)

/-- Size z of a record (R412). -/
def State.recSize (s : State) : Nat := ceilDiv (16 + 4 * s.aq 1 0) 16 * 16

/-! ### Channels (R409, R410, R413) -/

/-- The axis of a channel source, when the map places it. -/
def State.chAxis (s : State) (w : Nat) : Option Axis := if bits w 31 24 = 0 then none else s.axis? (bits w 23 16)

/-- Value of a channel source (Table 10.1). -/
def State.chValue (s : State) (w : Nat) : BitVec 32 :=
  let i := bits w 15 8
  match s.chAxis w with
  | none => 0
  | some a =>
    match bits w 31 24 with
    | 1 => a.snap.acq.getD i 0
    | 2 => BitVec.ofNat 32 ((a.dec.raw.getD i 0).toNat * 65536)
    | 3 => BitVec.ofNat 32 (a.dec.pos.toNat / 65536)
    | 4 => BitVec.ofInt 32 a.dec.speed
    | 5 => s.vdcWord a
    | 6 => (a.law.duty.getD i 0).setWidth 32
    | 7 => BitVec.ofNat 32 (a.mot.o.toNat / 65536)
    | 8 => a.mot.r.getD i 0
    | 9 => (match a.inj with | some j => if j.started then w32 j.value else 0 | none => 0)
    | _ => 0

/-- The source's producer formed a new value in this cycle (R410, R416). -/
def State.chNew (s : State) (w : Nat) : Bool :=
  match s.chAxis w with
  | none => false
  | some a => s.due a && (if bits w 31 24 = 1 ∨ bits w 31 24 = 6 then a.snap.dueCycle == s.clock.cycle && !a.overrun else true)

/-- Sampling instant of a value formed in this cycle, ns from count 0 (R413). -/
def State.chAt (s : State) (w : Nat) : Int :=
  match s.chAxis w with
  | none => s.clock.cycle * s.tNs
  | some a => s.clock.cycle * s.tNs + 50 * s.fld (tgtNode (a.entry.node / 8) (a.entry.node % 8)) 0x060E 2 0

/-- Channel source word of channel n. -/
def State.chSrc (s : State) (n : Nat) : Nat := s.aq 2 n

/-! ### Comparators (R416) -/

/-- One comparator on a new value x. -/
def Cmp.eval (c : Cmp) (mode : Nat) (thr hyst x : Int) (raw : BitVec 32) (at_ : Int) : Cmp :=
  let c := { c with prev := c.cur, prevAt := c.curAt, cur := some raw, curAt := at_, level := none }
  let set (r : Bool) (l : Int) : Cmp := if r = c.result then c else { c with result := r, level := some (w32 l) }
  match mode with
  | 0 => if thr ≤ x then set true thr else if x < thr - hyst then set false (thr - hyst) else c
  | 1 => if x ≤ thr then set true thr else if thr + hyst < x then set false (thr + hyst) else c
  | 2 =>
    if c.primed && decide (thr ≤ x) then { c with primed := false, result := true, level := some (w32 thr) }
    else { c with result := false, primed := c.primed || decide (x < thr - hyst) }
  | _ =>
    if c.primed && decide (x ≤ thr) then { c with primed := false, result := true, level := some (w32 thr) }
    else { c with result := false, primed := c.primed || decide (thr + hyst < x) }

/-- A comparator in a cycle without a new value: a level result holds, a RISE or FALL result is 0. -/
def Cmp.rest (c : Cmp) (mode : Nat) : Cmp := { c with level := none, result := if mode ≤ 1 then c.result else false }

/-- The four comparators of the cycle. -/
def State.evalCmps (s : State) : List Cmp :=
  (List.range 4).map (fun n =>
    let c := s.acq.cmps.getD n {}
    let w := s.chSrc (s.aq 12 n)
    let mode := s.aq 13 n
    if s.chNew w then
      let v := s.chValue w
      c.eval mode (s.fldI tgtAcq 0x0A07 14 n) (s.aq 15 n) v.toInt v (s.chAt w)
    else c.rest mode)

/-! ### Condition word and trigger cycles (R415, R417 to R422) -/

/-- The condition word of the cycle (Table 10.4). -/
def State.condWord (s : State) (cmps : List Cmp) : Nat :=
  ((List.range 16).map (fun n => if (s.acq.lines.getD n {}).levelStart then 2 ^ n else 0)).sum
    + ((List.range 4).map (fun n => if (cmps.getD n {}).result then 2 ^ (16 + n) else 0)).sum
    + (if s.aq 11 0 < s.acq.faultPrev then 2 ^ 20 else 0)

/-- A condition word matches the pattern. -/
def State.condMatch (s : State) (w : BitVec 32) : Bool :=
  ((w ^^^ BitVec.ofNat 32 (s.aq 9 1)) &&& BitVec.ofNat 32 (s.aq 9 0)) == 0

/-- The cycle is a trigger cycle by its pattern: 0 for QUAL ENTER, 1 for LEVEL. -/
def State.patternTrig (s : State) (w : BitVec 32) : Bool :=
  s.condMatch w && (s.aq 10 0 == 1 || !s.condMatch s.acq.condPrev)

/-- Condition bits that changed into a match in this cycle (R419). -/
def State.placing (s : State) (w : BitVec 32) : List Nat :=
  let m := BitVec.ofNat 32 (s.aq 9 0)
  let v := BitVec.ofNat 32 (s.aq 9 1)
  (List.range 21).filter (fun n => m.getLsbD n && (w.getLsbD n == v.getLsbD n) && (s.acq.condPrev.getLsbD n != v.getLsbD n))

/-- Instant of a placing condition, from the start of the cycle in 2^−7 ns (R420, R421). -/
def State.placeAt (s : State) (w : BitVec 32) (n : Nat) : Option Int :=
  let t : Int := s.tNs
  if n < 16 then
    let l := s.acq.lines.getD n {}
    (if w.getLsbD n then l.risePrev else l.fallPrev).map (fun x => x - t * 128)
  else if n < 20 then
    let c := s.acq.cmps.getD (n - 16) {}
    match c.level, c.prev, c.cur with
    | some l, some p, some x =>
      let d := (x.toInt - p.toInt).natAbs
      let k := ceilDiv (256 * (l.toInt - p.toInt).natAbs) d
      if d = 0 then none else some ((c.prevAt - s.clock.cycle * t) * 128 + (k : Int) * (c.curAt - c.prevAt) / 2)
    | _, _, _ => none
  else none

/-- The latest placing instant, with its condition. -/
def latestPlace : List (Nat × Int) → Option (Nat × Int)
  | [] => none
  | p :: r => match latestPlace r with
    | none => some p
    | some q => if q.2 ≤ p.2 then some p else some q

/-- TRIG_OFF, PLACEMENT and SOURCE of a trigger cycle (R419, R422, R428); `pattern`: the pattern made it. -/
def State.placement (s : State) (w : BitVec 32) (pattern : Bool) : Int × Nat × Nat :=
  if !pattern then (0, 3, 0xFF)
  else
    let ps := s.placing w
    match latestPlace (ps.filterMap (fun n => (s.placeAt w n).map (fun x => (n, x)))) with
    | some (n, x) => if n < 16 then (x, 1, n) else (x, 2, n)
    | none => (0, 3, if 20 ∈ ps then 0x14 else 0xFF)

/-! ### Records (R408, R412) -/

/-- Bytes of a record of this cycle (Table 10.3). -/
def State.recordBytes (s : State) (trig : Bool) : List Byte :=
  let lvl := ((List.range 16).map (fun n => if (s.acq.lines.getD n {}).levelStart then 2 ^ n else 0)).sum
  let edg := ((List.range 16).map (fun n => if (s.acq.lines.getD n {}).edge then 2 ^ n else 0)).sum
  let cmp := ((List.range 4).map (fun n => if (s.acq.cmps.getD n {}).result then 2 ^ n else 0)).sum
  padTo s.recSize (toLe 4 (s.clock.cycle % 2 ^ 32) ++ toLe 2 lvl ++ toLe 2 edg
    ++ [BitVec.ofNat 8 (b2n trig + 2 * b2n (s.acq.cond.getLsbD 20)), BitVec.ofNat 8 cmp, 0, 0, 0, 0, 0, 0]
    ++ s.acq.values.flatMap (fun v => toLe 4 v.toNat))

/-- One record is written at the next place of the present segment; the places wrap within the segment (R412, R424). -/
def State.writeRecord (s : State) (trig : Bool) : State :=
  let q := s.acq
  let n := q.written
  let a := (q.segment * s.acqC + n % s.acqC) * s.recSize
  let noEdge (l : DigLine) : DigLine := { l with edge := false }
  { s with acq := { q with
      mem := memWriteN q.mem a (s.recordBytes trig), written := n + 1, lines := q.lines.map noEdge,
      lastRecAt := if q.st = .post then s.clock.cycle * s.tNs else q.lastRecAt,
      post := if q.st = .post && !trig then q.post + 1 else q.post,
      trigPending := if trig then false else q.trigPending, trigRec := if trig then n else q.trigRec } }

/-- FIRST_REC and PRE_ACTUAL as the trigger record is written (R424). -/
def State.fixPre (s : State) : State :=
  let pre := min (s.aq 5 0) s.acq.written
  { s with acq := { s.acq with cur := { s.acq.cur with preActual := pre, firstRec := (s.acq.written - pre) % s.acqC } } }

/-- A trigger is accepted (R417 to R426): the descriptor begins, and the lane reports ACQ_TRIGGERED. -/
def State.acceptTrigger (s : State) (w : BitVec 32) (pattern : Bool) : State :=
  let q := s.acq
  let (off, plc, src) := s.placement w pattern
  let (k, s) := s.draw
  let dead := match q.armedAt with
    | some t => min 0xFFFFFFFF (t - q.lastRecAt).toNat
    | none => (Config.openWord k).toNat
  let d : Descr := {
    trigCount := BitVec.ofNat 32 s.clock.cycle, trigOff := off, trigTime := s.mapped s.clock.cycle (off / 128),
    placement := BitVec.ofNat 8 plc, source := BitVec.ofNat 8 src, deadNs := dead, missed := min 0xFFFFFFFF q.missed }
  let was := q.trigSeen
  let s := { s with acq := { q with
    st := .post, post := 0, trigPending := true, cur := d, lastTrig := s.clock.cycle, missed := 0, trigSeen := true } }
  (s.irq7 was).reportEvent { code := 0x580, payload :=
    [BitVec.ofNat 8 (Lane.num s.lane), BitVec.ofNat 8 q.segment, d.placement, d.source] ++ toLe 4 d.trigCount.toNat ++ toLe 4 (ofSigned 32 off) }

/-- A trigger cycle that is not accepted (R425). -/
def State.missTrigger (s : State) : State :=
  let was := s.acq.missedSeen
  let s := { s with acq := { s.acq with missed := s.acq.missed + 1, missedTotal := min 0xFFFFFFFF (s.acq.missedTotal + 1), missedSeen := true } }
  s.irq7 was

/-- The acquisition unit at the end of the compute window (R408, R415 to R418, R423, R424). -/
def State.acquire (s : State) : State :=
  let cmps := s.evalCmps
  let w := BitVec.ofNat 32 (s.condWord cmps)
  let s := { s with acq := { s.acq with cmps := cmps, cond := w, values := (List.range (s.aq 1 0)).map (fun n => s.chValue (s.chSrc n)) } }
  let s :=
    if !s.recording then s
    else
      let pat := s.patternTrig w
      let st := s.acq.st
      let s :=
        if !(pat || s.acq.force) then s
        else if st = .armed ∨ (s.acq.force ∧ st = .filling) then s.acceptTrigger w pat
        else s.missTrigger
      let on := s.acq.st == .filling || s.acq.st == .armed || (s.acq.st == .post && (s.acq.trigPending || decide (s.acq.post < s.aq 6 0)))
      if on && s.clock.cycle % (s.aq 3 0) == 0 then
        let trig := s.acq.st == .post && s.acq.trigPending
        (if trig then s.fixPre else s).writeRecord trig
      else s
  { s with acq := { s.acq with condPrev := w, force := false } }

/-- COMPUTE_WINDOW_CLOSE (R20, R25, R107, R408, R415 to R417, R507): busy engines are stopped, the faults of the computation are
taken, the hardware parts of the snapshot entries stand, and the acquisition unit works. -/
def execComputeWindowClose (s : State) : Host.Outcome State Fault Refusal :=
  let s := { s with clock := { s.clock with interval := .assembly } }
  .next ((if s.computing then s.closeEngines.takeComputed.takeHw else s).acquire)

/-! ### Segments (R423 to R427) -/

/-- HOLDOFF has run out since the previous trigger cycle or ACQ_ARM (R425). -/
def State.holdoffOut (s : State) : Bool := decide (s.acq.lastTrig + s.aq 8 0 ≤ s.clock.cycle)

/-- ACQ_PRE_FILLED (R423): FILLING becomes ARMED from the next basic cycle. -/
def execAcqPreFilled (s : State) : Host.Outcome State Fault Refusal :=
  .next (if s.recording && s.acq.st == .filling && s.holdoffOut && (s.aq 7 0 == 1 || decide (s.aq 5 0 ≤ s.acq.written)) then
      { s with acq := { s.acq with st := .armed, armedAt := some ((s.clock.cycle + 1 : Nat) * s.tNs) } }
    else s)

/-- The descriptor of the present segment is written (R427). -/
def State.writeDescr (s : State) : State :=
  { s with acq := { s.acq with descrs := kvSet s.acq.descrs s.acq.segment { s.acq.cur with postActual := s.acq.post } } }

/-- ACQ_COMPLETE of this lane (R429, R431). -/
def State.acqComplete (s : State) (closed reason : Nat) : State :=
  (s.reportBody (.acqDone s.lane { code := 0x581, payload :=
    [BitVec.ofNat 8 (Lane.num s.lane), BitVec.ofNat 8 closed] ++ toLe 4 s.acq.missedTotal ++ [BitVec.ofNat 8 reason] })).collectOwn

/-- ACQ_POST_COMPLETE (R423, R427): the segment leaves POST for FILLING in the next one, or COMPLETE after the last. -/
def execAcqPostComplete (s : State) : Host.Outcome State Fault Refusal :=
  .next (if s.recording && s.acq.st == .post && !s.acq.trigPending && decide (s.aq 6 0 ≤ s.acq.post) then
      let s := s.writeDescr
      if s.aq 4 0 ≤ s.acq.segment + 1 then
        { s with acq := { s.acq with st := .complete } }.acqComplete (s.acq.segment + 1) 0
      else { s with acq := { s.acq with st := .filling, segment := s.acq.segment + 1, written := 0, post := 0, armedAt := none, cur := {} } }
    else s)

/-! ### Commands (R418, R423, R429 to R431) -/

/-- ACQ_ARM takes effect. -/
def State.acqArm (s : State) : State :=
  let lanes := s.lanes.vset.filter (fun l => bit (s.aq 0 0) (Lane.num l))
  let s := { s with acq := { s.acq with running := true, openLanes := lanes } }
  if !s.recording then s
  else
    { s with acq := { s.acq with
        st := .filling, segment := 0, written := 0, post := 0, trigPending := false, cur := {}, descrs := [], lastTrig := s.clock.cycle,
        lastRecAt := ((s.clock.cycle : Int) - 1) * s.tNs, armedAt := none, missed := 0, missedTotal := 0 } }

/-- ACQ_STOP takes effect (R429): a segment in POST is closed, one in FILLING or ARMED discarded. A trigger accepted whose trigger
record has not come (ACQ_DIV above 1) keeps the records before it. -/
def State.acqStop (s : State) : State :=
  let rec_ := s.recording
  let s' := if rec_ && s.acq.st == .post then (if s.acq.trigPending then s.fixPre else s).writeDescr else s
  let closed := s.acq.segment + (if s.acq.st == .post then 1 else 0)
  let open_ := rec_ && (s.acq.st == .filling || s.acq.st == .armed || s.acq.st == .post)
  let s'' := { s' with acq := { s'.acq with running := false, openLanes := [], st := if rec_ then .idle else s'.acq.st } }
  if open_ then s''.acqComplete closed 1 else s''

/-- ACQ_FORCE makes its effective cycle a trigger cycle (R418). -/
def State.acqForce (s : State) : State := { s with acq := { s.acq with force := true } }

/-- ACQ_COMPLETE of a lane enters the command order; the set-up stops with the last one (R431). -/
def State.acqDone (s : State) (l : Lane) (e : EvBody) : State :=
  let s := s.eventBody e (some l)
  let o := s.acq.openLanes.filter (· ≠ l)
  { s with acq := { s.acq with openLanes := o, running := s.acq.running && !o.isEmpty } }

/-! ### Digital lines (R414) and the start of a cycle -/

/-- DL_EDGE (R414): a counted edge, stamped from the start of the cycle in 2^−7 ns. -/
def execDlEdge (line : Nat) (rising : Bool) (stamp : Int) (s : State) : Host.Outcome State Fault Refusal :=
  let f (l : DigLine) : DigLine :=
    { l with level := rising, edge := true, rise := if rising then some stamp else l.rise, fall := if rising then l.fall else some stamp }
  .next { s with acq := { s.acq with lines := modAt s.acq.lines line f } }

/-- A new cycle begins for the lines, and for the FAULT condition, which looks at the cycle before (R414, R415). -/
def State.acqCycleStart (s : State) : State :=
  let f (l : DigLine) : DigLine := { l with levelStart := l.level, risePrev := l.rise, fallPrev := l.fall, rise := none, fall := none }
  { s with acq := { s.acq with lines := s.acq.lines.map f, faultPrev := s.acq.faultNow, faultNow := 0 } }

end Sys2Proof.Machine
end

