-- ==== Sys2Proof/Machine/Faults.lean ====
section
/-!
DEFINITION. F3s and the steps of the fault collector (R508 to R518, R521), and what FAULT_CLEAR and FAULT_RAISE do (R514, R520).
-/
namespace Sys2Proof.Machine

/-! ### F3 (R515, R516, R602) -/

/-- Every axis enters FAULTED, an axis in OFF too (Table 2.3). -/
def State.faultAll (s : State) : State :=
  s.axes.foldl (fun s a => if a.st = .faulted then s else s.enter a.entry.axis .faulted) s

/-- The code of the first F3 is kept for the next start, and the F3 register of PD_AON is set (R516, R602). -/
def State.keepF3 (s : State) (code : Nat) : State :=
  if s.faults.f3 then s
  else
    { s with
      faults := { s.faults with f3 := true, f3Code := BitVec.ofNat 12 code },
      power := { s.power with f3Record := some (BitVec.ofNat 12 code, BitVec.ofNat 32 s.clock.cycle), f3Reg := true } }

/-- What an F3 stops besides the outputs: pulse outputs, Ethernet transmission, SPARE_WAKE, and the star for an F3 of the
network's domain (R515, R286). -/
def State.quiet (s : State) (code : Nat) : State :=
  let low (p : Pps) : Pps := { p with level := false }
  let s := { s with time := { s.time with pps := s.time.pps.map low, ethBusy := false }, lanes := { s.lanes with spareWake := false } }
  if netF3 code then s.silence else s

/-- An F3 acts in the lane that detects it (R515). The other lanes get it as a lane report; in Simplex the lane itself does. -/
def State.enterF3 (s : State) (r : FaultRep) : State :=
  let r := { r with lane := some s.lane, loc := locLane s.lane }
  if r.kindL && s.isActive r.code r.loc then s
  else
    let s := (s.keepF3 r.code).quiet r.code
    let s := if 0x300 ≤ r.code ∧ r.code < 0x340 then s.lockOut r.code (if r.code = 0x324 then 2 else if r.code = 0x320 ∨ r.code = 0x321 then 3 else 1) true
      else s.settle
    if s.simplex then (if s.common then (s.faultAll).report r else (s.faultAll).takeNow r)
    else
      let s := if s.voting then s.send (.body s.lanes.voice 0xFF (.f3 r)) else s
      (s.leaveNow .removed 4).takeNow r

/-- F3_DETECT: an F3 of the source table. -/
def execF3Detect (code : Nat) (s : State) : Host.Outcome State Fault Refusal :=
  .next (if (faultInfo code).any (fun i => i.cls == .f3) then s.enterF3 (mkFault code) else s)

/-- COLLECTOR_COMPARE (R518). -/
def execCollectorCompare (s : State) : Host.Outcome State Fault Refusal := .next (s.enterF3 (mkFault 0x3C0))

/-- COLLECTOR_LINE (R518): the pair is treated as set; the F3 sets both lines' effects. -/
def execCollectorLine (s : State) : Host.Outcome State Fault Refusal := .next (s.enterF3 (mkFault 0x3C1))

/-! ### Faults that one lane detects by itself (R349, R504, R513) -/

/-- A fault of this lane: a lane report, taken at once where the lane runs its collector on its own. A SYSTEM F2 sets the
system-F2 line of the detecting lane without waiting (R513). -/
def State.found (s : State) (r : FaultRep) : State :=
  let s := if r.kindL then s.reportL r else s.report r
  let s := if r.cls = .f2 && r.scope == 3 then { s with faults := { s.faults with sysF2 := true } }.settle else s
  s.collectOwn

/-- The condition of a kind L source of this lane has ended. -/
def State.foundEnd (s : State) (code : Nat) (loc : Loc) : State := (s.reportEnd code loc).collectOwn

/-! ### Timers (R510, R512) -/

/-- HANDLING_TIMER_EXPIRY (R508 to R510): the timer of an instance that has reached its expiry cycle; queued notices that no timer
holds back any longer are released (R512). -/
def execHandlingTimerExpiry (instNo : BitVec 32) (s : State) : Host.Outcome State Fault Refusal :=
  .next (match s.faults.timers.find? (fun t => t.inst == instNo && decide (t.expiry ≤ s.clock.cycle)) with
    | some t => (s.expire t).releaseQueue
    | none => s)

/-- HOST_WATCHDOG_EXPIRY (R521). -/
def execHostWatchdogExpiry (s : State) : Host.Outcome State Fault Refusal :=
  .next (if s.fld tgtCluster 0x0D02 1 0 = 0 then s else s.found (mkFault 0x108))

/-! ### Commands -/

/-- A SYSTEM F2 source is active or a lane is locked out (R514); a lock-out of another lane shows by its safety F2, which stays
active with it (R504). -/
def State.clearBlocked (s : State) : Bool := s.systemF2Active || s.lockedOut

/-- FAULT_CLEAR takes effect: the system F2 ends, and with it what held single outputs off (R487, R496); or the command is void
(R514). -/
def State.faultClear (s : State) (tag : BitVec 32) : State :=
  if s.clearBlocked || s.faults.f3 then s.axisVoid 0xFF tag 0x0009 0xFF
  else
    let outs := s.drivers.outs.map (fun o => { o with shorted := false, failed := false })
    ({ s with faults := { s.faults with sysF2 := false }, drivers := { s.drivers with outs := outs } }.clearedRecord).settle

/-- FAULT_RAISE takes effect: the host-test source at an axis or at none (R520). -/
def State.faultRaise (s : State) (axis : Option Nat) (cls : Nat) : State :=
  let r : FaultRep := { code := 0x13F, cls := if cls = 0 then .f0 else .f1, loc := match axis with | some n => locAxis n | none => locNone }
  s.takeNow r

end Sys2Proof.Machine
end

