-- ==== Sys2Proof/Machine/Store.lean ====
section
/-!
DEFINITION. The settings that the peat store keeps and a start restores (R606 to R616), and the check that takes a started lane
into network LISTEN (R321, step 9 of Table 16.4).
-/
namespace Sys2Proof.Machine

/-- EVT_BASE, EVT_IDX_ADDR, SNAP_BASE and SNAP_IDX_ADDR, which no copy holds (R608). -/
def hostAddressField (k : FieldKey) : Bool := k.table == 0x0E10 && (k.row == 0 || k.row == 2 || k.row == 4 || k.row == 9)

/-- Coefficients as a copy holds them: no queue, and a generation counter of 0 (R608, R612). -/
def CoefRt.kept (c : CoefRt) : CoefRt := { c with queue := [], gen := 0 }

/-- The content of a settings copy (R608). -/
def State.capture (s : State) (origin : Nat) : Settings :=
  { valid := true, origin := BitVec.ofNat 8 origin, lane := BitVec.ofNat 8 (Lane.num s.lane), saveCount := s.clock.cycle,
    cfg := { s.cfg with active := s.cfg.active.filter (fun p => !hostAddressField p.1), staged := [], stagedMap := s.cfg.map },
    places := s.axes.map (·.place),
    notOff := (s.axes.filter (fun a => a.st != .off)).map (·.entry.axis),
    coefs := s.axes.map (fun a => (a.entry.axis, a.coef.kept)),
    groupCoefs := s.coupling.coef.map (fun p => (p.1, p.2.kept)),
    kernels := s.kernels.held, schedIds := s.nodes.map (fun r => (r.node, r.schedId)) }

/-- AXIS_ON as a restore places it (R612). -/
def restoreOn (n : Nat) : Accepted := { body := .cmd { opcode := 0x0100, cls := 2, target := BitVec.ofNat 16 n } }

/-- An axis of a restored map, in OFF, with AXIS_ON waiting for its first due cycle where the copy marks it (R612). -/
def Settings.axis (c : Settings) (e : AxisEntry) : Axis :=
  { entry := e, place := (c.places.find? (fun p => p.axis == e.axis)).getD { axis := e.axis },
    coef := (kvGet c.coefs e.axis).getD {}, waiting := if e.axis ∈ c.notOff then [restoreOn e.axis] else [] }

/-- Links follow their enables: an enabled one leaves OFF, a disabled one is OFF (R315). -/
def State.followLinks (s : State) : State :=
  let codes := List.range 8 ++ (List.range 8).map (· + 0x10) ++ (List.range 8).map (· + 0x20) ++ (List.range 8).map (· + 0x30) ++ (List.range 12).map (· + 0x40)
  codes.foldl (fun s c =>
    if s.linkEnabled c then (if s.linkSt c == .off then s.setLink c .down else s)
    else if s.linkSt c == .off then s else s.setLink c .off) s

/-- A restore takes effect (R612). -/
def State.restore (s : State) (c : Settings) : State :=
  let node (e : NodeEntry) : NodeRt := { node := nodeIndex e, schedId := (kvGet c.schedIds (nodeIndex e)).getD 0 }
  { s with
    cfg := c.cfg, axes := (sortBy (fun (e : AxisEntry) => e.axis) c.cfg.map.axes).map c.axis, nodes := c.cfg.map.nodes.map node,
    coupling := { coef := c.groupCoefs }, kernels := { held := c.kernels }, groups := List.replicate 16 {},
    power := { s.power with fresh := true } }.loadScheds.followLinks

/-- Factory defaults (R614). -/
def State.factory (s : State) : State := { (s.restore {}) with power := { s.power with fresh := false } }

/-- The settings copy with the higher SAVE_SEQ among those that hold (R611, R613). -/
def State.newest (s : State) (ok : Nat → Bool) : Option Nat :=
  let v (i : Nat) : Bool := (s.power.copies.getD i {}).valid && ok i
  let q (i : Nat) : Nat := (s.power.copies.getD i {}).saveSeq
  if v 0 && v 1 then some (if q 0 ≤ q 1 then 1 else 0) else if v 0 then some 0 else if v 1 then some 1 else none

/-- The copy that a save or refresh writes: the invalid one, or else the one with the lower SAVE_SEQ (R609). -/
def State.saveTarget (s : State) : Nat := match s.newest (fun _ => true) with | some 0 => 1 | _ => 0

/-- The target's header is overwritten with zeros (R609, step 1). -/
def State.saveBegin (s : State) : State :=
  { s with power := { s.power with copies := setAt s.power.copies s.saveTarget {} } }

/-- The target is written and its header last, with SAVE_SEQ one above the other copy's (R609, steps 2 and 3). -/
def State.saveEnd (s : State) (c : Settings) : State :=
  let t := s.saveTarget
  let o := s.power.copies.getD (1 - t) {}
  { s with power := { s.power with copies := setAt s.power.copies t { c with valid := true, saveSeq := if o.valid then o.saveSeq + 1 else 1 } } }

/-- LANE_DENY of the watermark names this lane's address (R321, Table 11.5). -/
def State.laneDenied (s : State) : Bool :=
  match s.lanes.addr with | some l => bit (((kvGet s.safety.watermark 5).getD 0).toNat) (Lane.num l) | none => false

/-- Lane S woken for a refresh (R362, R592, R600): it asks the refresh source for REFRESH_DATA. The manual gives the request no
message of its own; it is an empty REFRESH_DATA message here. -/
def State.enterRefresh (s : State) : State :=
  let s := { s with
    lanes := { s.lanes with role := .refresh, refreshTries := 1, refreshSrc := s.couchSource },
    power := { s.power with mode := .refresh } }
  s.weirSend 0x10 s.lanes.refreshSrc []

/-- Step 9 of Table 16.4: a started lane with an address is checked under R321 and enters network LISTEN, or REFRESH for a refresh
wake of lane S. While lane S has not classified its wake it waits (R600). -/
def State.checkStart (s : State) : State :=
  if !s.power.steward || s.lanes.addr.isNone || s.net.st != .config || s.lanes.role != .unassigned then s
  else if s.laneDenied then s.enterF3 (mkFault 0x249)
  else if !s.addrAllowed then s.found (mkFault 0x248)
  else
    let s := s.foundEnd 0x248 {}
    if s.lane == .s && s.config == 3 then
      (match s.power.wakeKind with
       | none => s
       | some true => s.startCluster
       | some false => s.enterRefresh)
    else s.startCluster

end Sys2Proof.Machine
end

