-- ==== Sys2Proof/Machine/Power.lean ====
section
/-!
DEFINITION. Power modes, start-up, resets, supplies, temperatures and the peat store (R592 to R621), and the memory and steward
errors of Tables 13.5 and 13.15.
-/
namespace Sys2Proof.Machine

/-! ### Resets -/

/-- Everything but PD_AON, the peat store, the fuses, the straps and the pins takes its reset value; the dyke, on VDYK, runs on
(R442, R516, R593, R602). -/
def State.coreReset (s : State) : State :=
  let p := s.power
  { power := { mode := p.mode, pwrEn := p.pwrEn, vaon := p.vaon, supplies := p.supplies, slots := p.slots, copies := p.copies,
               f3Record := p.f3Record, f3Reg := p.f3Reg, refreshRec := p.refreshRec, aonSpare := p.aonSpare, aonRefresh := p.aonRefresh,
               wakeKind := p.wakeKind, chipId := p.chipId },
    lanes := { spareEn := s.lanes.spareEn, refreshHours := s.lanes.refreshHours, role := if p.aonSpare && !p.pwrEn then .dormant else .unassigned },
    safety := { dyke := s.safety.dyke, watermark := s.safety.watermark, vdykIn := s.safety.vdykIn, safeReset := s.safety.safeReset },
    host := { endpoint := s.host.endpoint },
    tx := s.tx, free := s.free, pending := s.pending }

/-- PD_AON at its reset values (R632). -/
def State.aonReset (s : State) : State :=
  { s with
    power := { s.power with pwrEn := false, aonSpare := false, aonRefresh := 0, f3Reg := false, wakeKind := none },
    lanes := { s.lanes with refreshHours := 0 } }

/-- VAON_POWER_ON (R592): PD_AON starts in STANDBY with PWR_EN low. -/
def execVaonPowerOn (s : State) : Host.Outcome State Fault Refusal :=
  .next (let s := s.aonReset; { s with power := { s.power with vaon := true, mode := .standby } })

/-- VAON_POR (R632): PD_AON resets, and PWR_EN is held low. -/
def execVaonPor (s : State) : Host.Outcome State Fault Refusal :=
  .next (let s := s.aonReset; { s with power := { s.power with vaon := false } })

/-- VDD_CORE_POR (R516, R599): the lane is reset, and an F3 is left; with PWR_EN low the lane is in STANDBY. -/
def execVddCorePor (s : State) : Host.Outcome State Fault Refusal :=
  .next (let s := s.coreReset
    { s with power := { s.power with f3Reg := false, supplies := false, mode := if s.power.pwrEn then s.power.mode else .standby } })

/-- VDYK_POR (R444, R632): the dyke resets, and stands locked out with its switches off until it has started again. -/
def execVdykPor (s : State) : Host.Outcome State Fault Refusal :=
  .next ({ s with safety := { s.safety with dyke := {}, vdykIn := false } }.settle)

/-- RESET_N_ASSERT (R602): every domain but PD_AON is reset, and the lane starts again from step 4; the dyke keeps running. -/
def execResetNAssert (s : State) : Host.Outcome State Fault Refusal :=
  .next (if s.power.mode == .standby then s else s.coreReset)

/-! ### Wake and start-up (R597 to R605) -/

/-- WAKE_QUALIFIED (R598): in STANDBY it starts a wake. -/
def execWakeQualified (s : State) : Host.Outcome State Fault Refusal :=
  .next (if s.power.vaon && s.power.mode == .standby then
      { s with power := { s.power with pwrEn := true, mode := .operating, wakeKind := none }, lanes := { s.lanes with role := .unassigned } }
    else s)

/-- VDYK_IN_RANGE (R444, R603, step 2): the dyke starts from its own reset; it comes up locked out where the processor has
completed safety start before. -/
def execVdykInRange (s : State) : Host.Outcome State Fault Refusal :=
  .next (if s.safety.vdykIn then s else { s with safety := { s.safety with dyke := {}, vdykIn := true } }.settle)

/-- SUPPLIES_IN_RANGE (R603, step 3). -/
def execSuppliesInRange (s : State) : Host.Outcome State Fault Refusal :=
  .next (if s.power.pwrEn then { s with power := { s.power with supplies := true } } else s)

/-- REFERENCE_VALID (R603, steps 4 to 6): the PLLs lock, the domains are powered, and the safety processor starts
from its reset values, locked out with every switch off. -/
def execReferenceValid (s : State) : Host.Outcome State Fault Refusal :=
  .next (if s.power.supplies && !s.power.refValid then
      { s with power := { s.power with refValid := true }, safety := { s.safety with proc := {}, safeSupplyIn := true } }.settle
    else s)

/-- The slot that the boot ROM checks first: not BAD, and of the higher SLOT_SEQ (R619). -/
def State.firstSlot (s : State) : Option Nat :=
  let ok (i : Nat) : Bool := (s.power.slots.getD i {}).st == .verified
  let q (i : Nat) : Nat := (s.power.slots.getD i {}).seq
  if ok 0 && ok 1 then some (if q 0 ≤ q 1 then 1 else 0) else if ok 0 then some 0 else if ok 1 then some 1 else none

/-- A slot marked BAD. -/
def State.slotBad (s : State) (i : Nat) : State :=
  let bad (x : Slot) : Slot := { x with st := .bad }
  { s with power := { s.power with slots := modAt s.power.slots i bad } }

/-- BOOT_ROM_COMPLETE (R602, R619, step 7): image selection with the outcome of each slot's check. An F3 register that is set puts
the lane into its F3 at once. -/
def execBootRomComplete (pass0 pass1 : Bool) (s : State) : Host.Outcome State Fault Refusal :=
  let pass (i : Nat) : Bool := if i = 0 then pass0 else pass1
  .next (if !s.power.refValid || s.power.booted then s
    else
      let s := { s with power := { s.power with booted := true } }
      let s := if s.power.f3Reg then
          ({ s with faults := { s.faults with f3 := true, f3Code := ((s.power.f3Record.map (·.1)).getD 0) } } : State).settle
        else s
      match s.firstSlot with
      | some i =>
        if pass i then { s with power := { s.power with running := some i } }
        else
          let s := s.slotBad i
          if (s.power.slots.getD (1 - i) {}).st == .verified && pass (1 - i) then
            { s with power := { s.power with running := some (1 - i), pending := s.power.pending ++ [mkFault 0x38E] } }
          else
            let s := if (s.power.slots.getD (1 - i) {}).st == .verified then s.slotBad (1 - i) else s
            { s with power := { s.power with noImage := true } }.enterF3 (mkFault 0x38F)
      | none => { s with power := { s.power with noImage := true } }.enterF3 (mkFault 0x38F))

/-- The F3_HISTORY record of an F3 before the power cycle (R516, R524). It numbers no fault of this collector, and carries
INSTANCE 0. -/
def State.historyEvent (s : State) (code : Nat) (count : Nat) : EvBody :=
  { code := code + 3 * 4096 + 2 ^ 14, axis := 0xFF,
    payload := [BitVec.ofNat 8 frHistory, BitVec.ofNat 8 (Lane.num s.lane)] ++ toLe 2 (Loc.word (locLane s.lane)) ++ toLe 4 0 ++ toLe 2 0 ++ toLe 2 count }

/-- SETTINGS_RESTORE (R516, R605, R611 to R614, step 8): the steward starts, restores the newer valid copy or factory defaults, and
holds the start-up faults; step 9 follows once an address is latched. `kernelsOk i`: every kernel image of copy i passes. -/
def execSettingsRestore (kernelsOk0 kernelsOk1 : Bool) (s : State) : Host.Outcome State Fault Refusal :=
  let ok (i : Nat) : Bool := if i = 0 then kernelsOk0 else kernelsOk1
  let good (i : Nat) : Bool := (s.power.copies.getD i {}).valid && ok i
  .next (if !s.power.booted || s.power.steward || s.power.noImage then s
    else
      let pick := s.newest ok
      let s := match pick with | some i => s.restore (s.power.copies.getD i {}) | none => s.factory
      let held := if pick.isNone then [mkFault 0x38D] else if good 0 && good 1 then [] else [mkFault 0x38C]
      let s := { s with power := { s.power with steward := true, restored := pick, pending := s.power.pending ++ held } }
      let s := match s.power.f3Record with
        | some (code, count) =>
          if s.power.f3Reg then s
          else { s with faults := { s.faults with f3Prev := true, f3PrevCode := code } }.reportEvent (s.historyEvent code.toNat count.toNat)
        | none => s
      s.checkStart)

/-! ### Standby (R599) and its end -/

/-- STANDBY_ENTRY (R599): 1 ms after the response to STANDBY. A running save completes, an open load is discarded, the driver block
and the host port stop, PD_AON takes SPARE_REFRESH and the address, and PWR_EN goes low. -/
def execStandbyEntry (s : State) : Host.Outcome State Fault Refusal :=
  .next (if !s.power.standbyDue then s
    else
      let s := match s.power.saving with | some c => if c.valid then s.saveEnd c else s | none => s
      let s := { s with
        drivers := { s.drivers with supplyOn := false, cpOk := false },
        host := { s.host with linkUp := false } }
      let s := s.settle
      { s with power := { s.power with
          saving := none, fw := none, standbyDue := false, pwrEn := false, aonSpare := s.lanes.addr == some .s,
          aonRefresh := s.fld tgtCluster 0x080F 2 0, mode := if s.power.supplies then s.power.mode else .standby } })

/-! ### Saves and firmware (R609, R618, R620) -/

/-- SETTINGS_SAVE_COMPLETE (R589, R609). -/
def execSettingsSaveComplete (ok : Bool) (s : State) : Host.Outcome State Fault Refusal :=
  .next (match s.power.saving with
    | none => s
    | some c =>
      if !c.valid then s else
      let s := if ok then s.saveEnd c else s
      let s := { s with power := { s.power with
        saving := none, lastResult := if ok then 1 else 2, lastSave := if ok then BitVec.ofNat 32 s.clock.cycle else s.power.lastSave } }
      if ok then s else s.found (mkFault 0x390))

/-- The slot that a firmware load writes: the one that is not running (R590). -/
def State.loadSlot (s : State) : Nat := match s.power.running with | some 0 => 1 | some _ => 0 | none => match s.firstSlot with | some 0 => 1 | _ => 0

/-- FW_CHECK_COMPLETE (R620): the slot becomes VERIFIED or BAD. -/
def execFwCheckComplete (ok : Bool) (s : State) : Host.Outcome State Fault Refusal :=
  .next (match s.power.fw with
    | none => s
    | some f =>
      if !f.checking then s
      else
        let i := s.loadSlot
        let img := (List.range f.length).map (fun k => (kvGet f.data k).getD (Config.openByte f.id k))
        let other := (s.power.slots.getD (1 - i) {}).seq
        let x : Slot := if ok then { st := .verified, seq := other + 1, release := BitVec.ofNat 16 (le img 2 2), image := img }
          else { st := .bad, seq := (s.power.slots.getD i {}).seq, release := BitVec.ofNat 16 (le img 2 2), image := img }
        { s with power := { s.power with slots := setAt s.power.slots i x, fw := none, lastResult := if ok then 3 else 5 } })

/-- FW_LOAD_LAPSE (R590): 65,536 basic cycles after the last FW_WRITE. -/
def execFwLoadLapse (s : State) : Host.Outcome State Fault Refusal :=
  .next (match s.power.fw with
    | some f => if !f.checking && decide (f.last + 65536 ≤ s.clock.cycle) then { s with power := { s.power with fw := none } } else s
    | none => s)

/-! ### Supplies, clocks and temperatures (Table 13.15, R631)
Supplies are numbered in the order of Table 17.8: VDD_CORE 0, VDD_SD 1, VDD_A 2, VIO_1 3, VIO_2 4, VDYK 5, VAON 6. -/

/-- SUPPLY_OUT_OF_RANGE: outside its range for 10 µs, or within 2 % of a limit (`near`). -/
def execSupplyOutOfRange (supply : Nat) (near : Bool) (s : State) : Host.Outcome State Fault Refusal :=
  let s := { s with power := { s.power with badSupplies := kvSet s.power.badSupplies supply (if near then 1 else 2) } }
  .next (if near then s.found (mkFault 0x381)
    else match supply with
    | 0 => s.enterF3 (mkFault 0x380)
    | 1 => s.enterF3 (mkFault 0x383)
    | 2 | 3 | 4 => s.found (mkFault 0x382)
    | _ => s)

/-- SUPPLY_RETURN_TO_RANGE: the conditions that no supply holds any longer end. -/
def execSupplyReturnToRange (supply : Nat) (s : State) : Host.Outcome State Fault Refusal :=
  let s := { s with power := { s.power with badSupplies := kvDel s.power.badSupplies supply } }
  let io := s.power.badSupplies.any (fun p => p.2 == 2 && decide (2 ≤ p.1 ∧ p.1 ≤ 4))
  let warn := s.power.badSupplies.any (fun p => p.2 == 1)
  let s := if io then s else s.foundEnd 0x382 {}
  .next (if warn then s else s.foundEnd 0x381 {})

/-- One temperature fault against its threshold: it begins at the threshold, and ends when every sensor reads 5 °C below. -/
def State.tempFault (s : State) (code : Nat) (th : Int) : State :=
  if s.power.temps.any (fun t => decide (th ≤ t)) then s.found (mkFault code)
  else if s.power.temps.all (fun t => decide (t ≤ th - 5)) then s.foundEnd code {}
  else s

/-- TEMPERATURE_THRESHOLD (Table 13.15). -/
def execTemperatureThreshold (sensor : Nat) (celsius : Int) (s : State) : Host.Outcome State Fault Refusal :=
  let s := { s with power := { s.power with temps := setAt s.power.temps sensor celsius } }
  .next (((s.tempFault 0x387 135).tempFault 0x388 145).tempFault 0x389 150)

/-- PLL_LOCK_LOSS. -/
def execPllLockLoss (s : State) : Host.Outcome State Fault Refusal := .next (s.enterF3 (mkFault 0x384))

/-- REFERENCE_CLOCK_LOSS. -/
def execReferenceClockLoss (s : State) : Host.Outcome State Fault Refusal := .next (s.enterF3 (mkFault 0x385))

/-- AON_CLOCK_STOP. -/
def execAonClockStop (s : State) : Host.Outcome State Fault Refusal := .next (s.found (mkFault 0x386))

/-- AON_CLOCK_RESTART (R504). -/
def execAonClockRestart (s : State) : Host.Outcome State Fault Refusal := .next (s.foundEnd 0x386 {})

/-- SRAM_ECC_ERROR. -/
def execSramEccError (corrected : Bool) (s : State) : Host.Outcome State Fault Refusal :=
  .next (s.found (mkFault (if corrected then 0x38A else 0x38B)))

/-- STEWARD_ECC_ERROR. -/
def execStewardEccError (corrected : Bool) (s : State) : Host.Outcome State Fault Refusal :=
  .next (if corrected then s.found (mkFault 0x101) else s.enterF3 (mkFault 0x102))

/-- STEWARD_LOCKSTEP. -/
def execStewardLockstep (s : State) : Host.Outcome State Fault Refusal := .next (s.enterF3 (mkFault 0x100))

/-- STEWARD_DEADLINE. -/
def execStewardDeadline (s : State) : Host.Outcome State Fault Refusal := .next (s.enterF3 (mkFault 0x103))

/-! ### PCIe (R526, R639) -/

/-- PCIE_PERSTN_ASSERT: only the endpoint, its configuration space and its MSI-X table are reset. -/
def execPciePerstnAssert (s : State) : Host.Outcome State Fault Refusal :=
  .next { s with host := { s.host with endpoint := false, linkUp := false, retry := true, msix := [] } }

/-- PCIE_PERSTN_RELEASE (step 6): the endpoint leaves reset and trains; configuration requests are answered with Retry Status until
step 8 completes. -/
def execPciePerstnRelease (s : State) : Host.Outcome State Fault Refusal :=
  .next { s with host := { s.host with endpoint := true, retry := !s.power.steward } }

/-- PCIE_LINK_UP: the link is in L0 again. -/
def execPcieLinkUp (s : State) : Host.Outcome State Fault Refusal :=
  .next (if s.host.endpoint then
      { s with host := { s.host with linkUp := true, retry := !s.power.steward } }.foundEnd 0x104 {}
    else s)

/-- PCIE_LINK_DOWN: out of L0 for 1 ms while enabled. -/
def execPcieLinkDown (s : State) : Host.Outcome State Fault Refusal :=
  .next (let s := { s with host := { s.host with linkUp := false } }
    if s.host.endpoint then s.found (mkFault 0x104) else s)

/-- PCIE_UNCORRECTABLE. -/
def execPcieUncorrectable (s : State) : Host.Outcome State Fault Refusal := .next (s.found (mkFault 0x105))

end Sys2Proof.Machine
end

