-- ==== Sys2Proof/Machine/Chain.lean ====
section
/-!
DEFINITION. The lane chain, the weir's wiring and paths, and the refresh of the spare (R318 to R327, R358 to R364, R600, R601).
-/
namespace Sys2Proof.Machine

/-! ### The lane chain (R318 to R320) -/

/-- An address is latched; it is kept until the chip is powered down (R320). The links that it puts into use leave OFF once the
settings are restored (R315). -/
def State.latchAddr (s : State) (l : Lane) : State :=
  if s.lanes.addr.isSome then s
  else
    let s := { s with lanes := { s.lanes with addr := some l } }
    (if s.power.steward then s.followLinks else s).checkStart

/-- The address that a train of p pulses assigns (R318, R319). -/
def State.chainAddr (s : State) (p : Nat) : Option Lane :=
  if s.lanes.spareEn then some .s else if 1 ≤ p ∧ p ≤ 4 then some (laneOf (p - 1)) else none

/-- The part of the chip that holds the lane chain is powered (step 6 of Table 16.4). -/
def State.hostPowered (s : State) : Bool := s.power.refValid

/-- LANE_CHAIN_HEAD (R318): the head counts as having received 1 pulse. -/
def execLaneChainHead (s : State) : Host.Outcome State Fault Refusal :=
  .next (if !s.hostPowered || s.lanes.addr.isSome then s
    else
      let s := { s with power := { s.power with head := true }, lanes := { s.lanes with pulses := some 1 } }
      match s.chainAddr 1 with | some l => s.latchAddr l | none => s)

/-- LCH_TRAIN_RECEIVED (R318 to R320): the second of two equal trains latches the address; a later change is ignored. -/
def execLchTrainReceived (pulses : Nat) (s : State) : Host.Outcome State Fault Refusal :=
  .next (if !s.hostPowered || s.lanes.addr.isSome then s
    else if s.lanes.pulses = some pulses then (match s.chainAddr pulses with | some l => s.latchAddr l | none => s)
    else { s with lanes := { s.lanes with pulses := some pulses } })

/-- LCH_TRAIN_SEND (R319, R515): a chip that holds an address sends its train, a spare the train it received. -/
def execLchTrainSend (s : State) : Host.Outcome State Fault Refusal :=
  .next (if s.hostPowered && s.lanes.addr.isSome then
      (match s.lanes.pulses with
       | some p => s.send (.train (if s.lanes.spareEn then p else p + 1))
       | none => s)
    else s)

/-- ADDRESS_TIMEOUT (R320). -/
def execAddressTimeout (s : State) : Host.Outcome State Fault Refusal :=
  .next (if s.hostPowered && s.lanes.addr.isNone then s.found (mkFault 0x248) else s)

/-! ### Weir wiring and paths (R322, R325, R327, R358 to R360) -/

/-- The lane that an IDENT message names, whatever lane it was sent to (R325). -/
def identOf (bs : List Byte) : Option Lane :=
  if byteAt bs 0 = 1 ∧ bs.length = 11 ∧ be bs 2 2 = 1 ∧ crc32 (bs.take 7) = be bs 7 4 ∧ byteAt bs 6 < 4 then some (laneOf (byteAt bs 6)) else none

/-- The refresh source answers lane S, which is being refreshed and has come up on the weir, with REFRESH_DATA (R362). -/
def State.answerRefresh (s : State) (l : Lane) : State :=
  if l == .s && s.voting && s.lanes.spareState == .refresh && s.couchSource == some s.lane then s.send (.refresh (s.capture 2)) else s

/-- IDENT_RECEIVED (R322, R325): the far lane of a weir port. -/
def execIdentReceived (port : Nat) (bytes : List Byte) (s : State) : Host.Outcome State Fault Refusal :=
  .next (match identOf bytes with
    | none => s
    | some l =>
      if s.simplex || decide (2 < port) then s
      else
        let s := { s with lanes := { s.lanes with ident := kvSet s.lanes.ident port l } }
        let wrong := weirLane s.lane port != some l
        let s := { s with lanes := { s.lanes with weirWrong := if wrong then dedup' (s.lanes.weirWrong ++ [port]) else s.lanes.weirWrong.filter (· ≠ port) } }
        let s := if wrong then s.found (mkFault 0x247) else if s.lanes.weirWrong.isEmpty then s.foundEnd 0x247 {} else s
        let s := if s.dupAddr && s.lanes.role == .unassigned then s.found (mkFault 0x248) else s
        s.answerRefresh l)

/-- A weir port in use (R323, R325). -/
def State.weirUsed (s : State) (n : Nat) : Bool :=
  !s.simplex && decide (n ∉ s.lanes.weirWrong) && (weirLane s.lane n).any (fun l => decide (l ∈ s.lanesOfConfig))

/-- The first available path of a port whose data links are down (R327, R359, R360): 1 relayed by another voting lane, 2 the star
path on relay or trunk links, 3 none. -/
def State.nextPath (s : State) (n : Nat) : Nat :=
  let far := weirLane s.lane n
  let relay := (List.range 3).any (fun m => m != n && s.weirUsed m && s.weirAllUp m
    && (weirLane s.lane m).any (fun l => decide (l ∈ s.lanes.vset) && far != some l))
  let star := s.relays.any (fun l => l.st == .up) || (s.config != 1 && s.trunks.any (fun l => l.st == .up))
  if relay then 1 else if star then 2 else 3

/-- WEIR_LINK_DOWN (R358): the data links out of UP for 8 basic cycles while in use. -/
def execWeirLinkDown (port : Nat) (s : State) : Host.Outcome State Fault Refusal :=
  .next (if s.weirUsed port && (List.range 4).any (fun l => decide (8 ≤ s.outCycles (0x40 + 4 * port + l))) then
      (s.setPath port (s.nextPath port)).found (mkFault 0x246 (locPort (0x40 + 4 * port)))
    else s)

/-! ### The spare's refresh (R361 to R364, R600, R601) -/

/-- SPARE_REFRESH_TIMER (R600, R601): the timer of PD_AON has counted SPARE_REFRESH hours in STANDBY. -/
def execSpareRefreshTimer (s : State) : Host.Outcome State Fault Refusal :=
  .next (if s.power.mode == .standby && s.power.vaon && s.power.aonSpare then
      { s with power := { s.power with pwrEn := true, mode := .operating, wakeKind := some false },
               lanes := { s.lanes with role := .unassigned, refreshHours := 0 } }
    else s)

/-- WAKE_CLASSIFY (R600, R601): a level that ends within 400 µs is a take-over, a longer one a refresh. A take-over that reaches a
lane in REFRESH turns the refresh into couching. -/
def execWakeClassify (lowUs : Nat) (s : State) : Host.Outcome State Fault Refusal :=
  let take := decide (lowUs ≤ 400)
  .next (if s.power.mode == .refresh then
      (if take then
        { s with power := { s.power with mode := .operating, wakeKind := some true },
                 lanes := { s.lanes with role := .unassigned, refreshTries := 0, refreshSrc := none } }.checkStart
      else s)
    else if s.power.mode == .operating && s.lanes.role == .unassigned && s.power.wakeKind.isNone then
      { s with power := { s.power with wakeKind := some take } }.checkStart
    else s)

/-- CRC-64 of what REFRESH_DATA carries. -/
def Settings.crc (c : Settings) : BitVec 64 :=
  Config.openDigest (c.cfg.active.flatMap (fun p => toBe 2 p.1.target ++ toBe 2 p.1.table ++ [BitVec.ofNat 8 p.1.row, BitVec.ofNat 8 p.1.elem,
      BitVec.ofNat 8 p.1.unit, BitVec.ofNat 8 p.1.lane] ++ toBe 8 p.2.toNat)
    ++ c.cfg.map.axes.flatMap (fun e => [BitVec.ofNat 8 e.axis, BitVec.ofNat 8 (AxisTypeCode e.ty), BitVec.ofNat 8 e.kernel,
      BitVec.ofNat 8 e.divisor, BitVec.ofNat 8 (e.pinned.getD 0xFF), BitVec.ofNat 8 e.node, BitVec.ofNat 8 e.part])
    ++ c.cfg.map.nodes.flatMap (fun e => [BitVec.ofNat 8 (nodeIndex e)] ++ toBe 2 e.pUp ++ toBe 2 e.pDown)
    ++ c.coefs.flatMap (fun p => [BitVec.ofNat 8 p.1] ++ p.2.elems.flatMap (fun e => [BitVec.ofNat 8 e.1.1, BitVec.ofNat 8 e.1.2.1,
      BitVec.ofNat 8 e.1.2.2] ++ toBe 4 e.2.toNat))
    ++ c.kernels.flatMap (fun k => [BitVec.ofNat 8 k.id] ++ k.image))

/-- The end of a refresh (R362, R363, R592): SPARE_REFRESHED, the refresh record, and DORMANT with PWR_EN low. -/
def State.endRefresh (s : State) (result copy : Nat) (crc : BitVec 64) : State :=
  let (n, _, _) := s.power.refreshRec
  let s := s.sendReport (.event { code := 0x506, payload := [BitVec.ofNat 8 result, BitVec.ofNat 8 copy] ++ toLe 4 (crc.toNat % 2 ^ 32) })
  { s with
    power := { s.power with refreshRec := (n + 1, BitVec.ofNat 8 result, copy), pwrEn := false, aonSpare := true,
                            aonRefresh := s.fld tgtCluster 0x080F 2 0 },
    lanes := { s.lanes with role := .dormant, refreshHours := 0, refreshTries := 0, refreshSrc := none } }

/-- A refresh whose source is lost or whose CRC fails is repeated once from another voting lane; then the previous copy is kept and
the spare-refresh F1 is raised through the next refresh source (R363). -/
def State.refreshFail (s : State) : State :=
  let next := lowest (s.lanes.vset.filter (fun l => s.lanes.refreshSrc ≠ some l))
  let s := { s with lanes := { s.lanes with refreshTries := s.lanes.refreshTries + 1, refreshSrc := next } }
  if s.lanes.refreshTries ≤ 2 then s.weirSend 0x10 next []
  else (s.sendReport (.fault { (mkFault 0x24C) with lane := some s.lane })).endRefresh 1 (1 - s.saveTarget) 0

/-- REFRESH_DATA_RECEIVED (R362, R363, R610, R616): lane S writes the older copy and checks it; a lane that is to be couched applies
the data in place of its restored settings. -/
def execRefreshDataReceived (settings : Settings) (crc : BitVec 64) (s : State) : Host.Outcome State Fault Refusal :=
  .next (if s.lanes.role == .refresh then
      (if settings.crc = crc then
        let t := s.saveTarget
        ((s.saveBegin).saveEnd { settings with origin := 2, lane := BitVec.ofNat 8 (Lane.num s.lane) }).endRefresh 0 t crc
      else s.saveBegin.refreshFail)
    else if s.lanes.role == .joining && s.lanes.couch.active && !s.lanes.couch.committed && settings.crc = crc then s.restore settings
    else s)

/-- REFRESH_FAILED (R363): the source was lost. -/
def execRefreshFailed (s : State) : Host.Outcome State Fault Refusal := .next (if s.lanes.role == .refresh then s.refreshFail else s)

/-- SPARE_WAKE_TIMEOUT (Table 8.17): no COUCH_REQ within 5 ms of SPARE_WAKE. Every voting lane finds it alike; the voice lane reports
it. -/
def execSpareWakeTimeout (s : State) : Host.Outcome State Fault Refusal :=
  .next (if s.lanes.couchWait then
      let s := { s with lanes := { s.lanes with couchWait := false, spareWake := false } }
      if s.isVoice then s.found (mkFault 0x24D) else s
    else s)

end Sys2Proof.Machine
end

