-- ==== Sys2Proof/Machine/SafetyFns.lean ====
section
/-!
DEFINITION. The safety functions (R442 to R475): inputs, restart, discrepancy, test pulses, seals, heartbeat, safety start, lock-out
and deliberate reset, release requests.
-/
namespace Sys2Proof.Machine

/-! ### Channels -/

/-- A channel's part of the state. -/
def State.chan (s : State) : SafeChan → Chan
  | .proc => s.safety.proc
  | .dyke => s.safety.dyke

/-- One channel changed. -/
def State.updChan (s : State) (c : SafeChan) (f : Chan → Chan) : State :=
  match c with
  | .proc => { s with safety := { s.safety with proc := f s.safety.proc } }
  | .dyke => { s with safety := { s.safety with dyke := f s.safety.dyke } }

/-- LOCKOUT_BY of a channel (Table 11.8). -/
def chanBit : SafeChan → Nat
  | .proc => 1 | .dyke => 2

/-- One input of a channel changed. -/
def Chan.updIn (c : Chan) (n : Nat) (f : SafeIn → SafeIn) : Chan := { c with ins := modAt c.ins n f }

/-- A channel's own pin demand at a filtered level (Table 11.2); a disabled input never demands (R445). -/
def State.pinDemand (s : State) (c : SafeChan) (n : Nat) (level : Bool) : Bool :=
  s.siEnabled n && (match c with
    | .proc => !level
    | .dyke => if s.siAntivalent n then level else !level)

/-- The input counts as demanded: by its own pin or by the other channel's DEM line (R446). -/
def State.demanded (s : State) (n : Nat) : Bool := (s.safety.proc.ins.getD n {}).pin || (s.safety.dyke.ins.getD n {}).pin

/-- One channel demands on its own pin and the other does not (R448). -/
def State.discrepant (s : State) (n : Nat) : Bool := (s.safety.proc.ins.getD n {}).pin != (s.safety.dyke.ins.getD n {}).pin

/-! ### Input states (R446, Table 11.3) -/

/-- An input's next state in a channel; `d`: it is demanded. Before safety start is complete, and during a lock-out, DEMAND stands. -/
def inputNext (d live delay manual : Bool) (st : InState) : InState :=
  match st with
  | .clear => if d then (if delay then .delay else .demand) else .clear
  | .delay => .delay
  | .demand => if d || !live then .demand else if manual then .waitRestart else .clear
  | .waitRestart => if d then .demand else .waitRestart

/-- The state code of SAFETY_DEMAND and SAFETY_CLEAR (Table 11.10). -/
def inCode : InState → Nat
  | .clear => 0 | .delay => 1 | .demand => 2 | .waitRestart => 3

/-- SAFETY_DEMAND leaves as a lane report with its drive reaction (R472). -/
def State.safetyDemand (s : State) (n : Nat) (st : InState) : State :=
  let pins := b2n (s.safety.proc.ins.getD n {}).pin + 2 * b2n (s.safety.dyke.ins.getD n {}).pin
  let was := s.safety.demandSeen
  let s := { s with safety := { s.safety with demandSeen := true } }
  ((s.irq7 was).reportBody (.safetyDemand n { code := 0x5C0, payload :=
    [BitVec.ofNat 8 (Lane.num s.lane), BitVec.ofNat 8 n, BitVec.ofNat 8 pins, BitVec.ofNat 8 (inCode st)] })).collectOwn

/-- SAFETY_CLEAR; `mark`: by a restart pulse. -/
def State.safetyClear (s : State) (n : Nat) (st : InState) (mark : Bool) : State :=
  (s.reportEvent { code := 0x5C1, payload :=
    [BitVec.ofNat 8 (Lane.num s.lane), BitVec.ofNat 8 n, BitVec.ofNat 8 (inCode st + 128 * b2n mark)] }).collectOwn

/-- The state of an input follows its demand in both channels, and the processor reports what leaves or enters CLEAR. -/
def State.followInput (s : State) (n : Nat) : State :=
  let d := s.demanded n
  let live := s.safety.startDone && !s.lockedOut
  let old := (s.safety.proc.ins.getD n {}).st
  let f (i : SafeIn) : SafeIn :=
    let st := if s.siEnabled n then inputNext d live (s.siOffDelay n ≠ 0) (s.siManual n) i.st else i.st
    { i with st := st, delay := st == .delay }
  let s := (s.updChan .proc (fun c => c.updIn n f)).updChan .dyke (fun c => c.updIn n f)
  let new := (s.safety.proc.ins.getD n {}).st
  let s := if old == .clear && (new == .delay || new == .demand) then s.safetyDemand n new
    else if old == .demand && (new == .clear || new == .waitRestart) then s.safetyClear n new false
    else s
  s.settle

/-- SAFETY_INPUT_CHANGE (R443, R445, R446, R472): a filtered pin level of a channel. -/
def execSafetyInputChange (chan : SafeChan) (input : Nat) (level : Bool) (s : State) : Host.Outcome State Fault Refusal :=
  let d := s.pinDemand chan input level
  .next ((s.updChan chan (fun c => c.updIn input (fun i => { i with pin := d, lowNow := level }))).followInput input)

/-- OFF_DELAY_EXPIRY (R446): the channel's timer has reached OFF_DELAY; the output goes off, and DEMAND is left again where neither
pin demands any longer. -/
def execOffDelayExpiry (chan : SafeChan) (input : Nat) (s : State) : Host.Outcome State Fault Refusal :=
  .next (if ((s.chan chan).ins.getD input {}).st == .delay then
      ((s.updChan chan (fun c => c.updIn input (fun i => { i with st := .demand, delay := false }))).settle).followInput input
    else s)

/-- DISCREPANCY_TIMEOUT (R448). -/
def execDiscrepancyTimeout (chan : SafeChan) (input : Nat) (s : State) : Host.Outcome State Fault Refusal :=
  .next (if s.siEnabled input && s.discrepant input then (s.safetyF2 0x300 (chanBit chan) (locInput input)).collectOwn else s)

/-! ### SAFE_RESET (R447, R470) -/

/-- A restart pulse: inputs in WAIT_RESTART that neither pin demands become CLEAR. -/
def State.restartPulse (s : State) : State :=
  (List.range 8).foldl (fun s n =>
    if (s.safety.proc.ins.getD n {}).st == .waitRestart && !s.demanded n then
      let f (i : SafeIn) : SafeIn := if i.st = .waitRestart then { i with st := .clear } else i
      (((s.updChan .proc (fun c => c.updIn n f)).updChan .dyke (fun c => c.updIn n f)).safetyClear n .clear true).settle
    else s) s

/-- A hold of SAFE_RESET as a reset step: 0.5 s to 3 s. -/
def resetHold (ms : Nat) : Option Nat := if 500 ≤ ms ∧ ms ≤ 3000 then some ms else none

/-- SAFE_RESET_RELEASE (R447, R470, step 2): the hold as each channel timed it, in ms. -/
def execSafeResetRelease (procMs dykeMs : Nat) (s : State) : Host.Outcome State Fault Refusal :=
  let s := (s.updChan .proc (fun c => { c with holdOk := resetHold procMs })).updChan .dyke (fun c => { c with holdOk := resetHold dykeMs })
  let s := { s with safety := { s.safety with safeReset := true, resetSince := some procMs } }
  .next (if 50 ≤ procMs && procMs ≤ 400 && 50 ≤ dykeMs && dykeMs ≤ 400 then s.restartPulse else s)

/-- A channel's own records show a cause that has not gone (R470, step 1). -/
def State.causeStands (s : State) (c : SafeChan) : Bool :=
  (List.range 8).any (fun n => s.siEnabled n && s.discrepant n) || s.safety.sealNow != s.safety.sealStart || (s.chan c).beatLost
    || s.safety.lockoutF3

/-- The result of a deliberate reset (Table 11.10), with the time since the release as each channel timed it. -/
def State.resetResult (s : State) (procMs dykeMs : Nat) (procCause dykeCause : Bool) : Nat :=
  if procCause || s.causeStands .proc then 1
  else if s.safety.proc.holdOk.isNone then 2
  else if 5000 < procMs then 3
  else if dykeCause || s.causeStands .dyke || s.safety.dyke.holdOk.isNone || decide (5000 < dykeMs) then 4
  else 0

/-- The lock-out ends, and with it the safety F2s and the system F2 they caused (R470, R504, R514). -/
def State.endLockout (s : State) : State :=
  let s := (s.updChan .proc (fun c => { c with lockout := false })).updChan .dyke (fun c => { c with lockout := false })
  let codes := (s.faults.active.filter (fun a => decide (0x300 ≤ a.code ∧ a.code < 0x308))).map (fun a => (a.code, a.loc))
  let s := codes.foldl (fun s p => s.endSource p.1 p.2) s
  let s := codes.foldl (fun s p => (s.reportBody (.sourceEnded p.1 p.2)).collectOwn) s
  let s := if s.systemF2Active then s else { s with faults := { s.faults with sysF2 := false } }
  (List.range 8).foldl State.followInput s.settle

/-- SAFETY_RESET (R470, R471): the outcome of a SAFETY_ACK that has taken effect. -/
def execSafetyReset (procMs dykeMs : Nat) (procCause dykeCause : Bool) (s : State) : Host.Outcome State Fault Refusal :=
  .next (match s.safety.ackPending with
    | none => s
    | some id =>
      let r := s.resetResult procMs dykeMs procCause dykeCause
      let ev : EvBody := { code := 0x5C4, payload := [BitVec.ofNat 8 (Lane.num s.lane), BitVec.ofNat 8 id, BitVec.ofNat 8 r] }
      let was := s.safety.resetRefused
      let s := (s.updChan .proc (fun c => { c with holdOk := none })).updChan .dyke (fun c => { c with holdOk := none })
      let s := { s with safety := { s.safety with ackPending := none, resetSince := none, resetRefused := was || decide (r ≠ 0) } }
      if r = 0 then (s.endLockout.reportEvent ev).collectOwn
      else (s.irq7 was).found (mkFault 0x330 {} none (some ev)))

/-! ### Test pulses (R456 to R460) -/

/-- Both switches of an output are on. -/
def State.sdoOn (s : State) (m : Nat) : Bool := match s.drivers.outs[m]? with | some o => o.hs.on && o.ls.on | none => false

/-- The test of an output. -/
def State.updTest (s : State) (m : Nat) (f : Test → Test) : State := { s with safety := { s.safety with tests := modAt s.safety.tests m f } }

/-- A dark pulse of an output begins or ends in a channel. -/
def State.setDark (s : State) (c : SafeChan) (m : Nat) (on : Bool) : State := s.updChan c (fun x => { x with dark := setAt x.dark m on })

/-- The high-side dark pulse starts. -/
def State.startTest (s : State) (m : Nat) : State := ((s.updTest m (fun _ => { phase := 1, due := false })).setDark .proc m true).settle

/-- TEST_PULSE_DUE (R456, R458). -/
def execTestPulseDue (output : Nat) (s : State) : Host.Outcome State Fault Refusal :=
  .next (if s.testsEnabled && s.sdoSafe output && (s.safety.tests.getD output {}).phase == 0 && s.safety.startDone then
      (if s.sdoOn output then s.startTest output else s.updTest output (fun t => { t with due := true }))
    else s)

/-- TEST_START_AFTER_ON (R458): both switches have been on for 10 ms. -/
def execTestStartAfterOn (output : Nat) (s : State) : Host.Outcome State Fault Refusal :=
  let t := s.safety.tests.getD output {}
  .next (if t.due && t.phase == 0 && s.sdoOn output then s.startTest output else s)

/-- A pulse that was not proven (R457): TEST_PULSE with FAIL, and the test-pulse-fail F2. -/
def State.testFail (s : State) (m sw by_ us : Nat) : State :=
  let s := ((s.updTest m (fun _ => {})).setDark .proc m false).setDark .dyke m false
  let s := s.reportEvent { code := 0x5C2, payload := [BitVec.ofNat 8 (Lane.num s.lane), BitVec.ofNat 8 m, BitVec.ofNat 8 sw, 1] ++ toLe 2 us }
  (s.safetyF2 0x301 by_ (locSdo m)).collectOwn

/-- DARK_PULSE_END (R456, R457): what each channel read of the off-check, and the off-check time in µs. -/
def execDarkPulseEnd (output : Nat) (high provenP provenD : Bool) (us : Nat) (s : State) : Host.Outcome State Fault Refusal :=
  let t := s.safety.tests.getD output {}
  let by_ := b2n (!provenP) + 2 * b2n (!provenD)
  .next (if t.phase == 1 && high then
      (if by_ ≠ 0 then s.testFail output 1 by_ us else ((s.updTest output (fun t => { t with phase := 2 })).setDark .proc output false).settle)
    else if t.phase == 3 && !high then
      (if by_ ≠ 0 then s.testFail output 2 by_ us
       else
        let s := ((s.updTest output (fun t => { t with phase := 0 })).setDark .dyke output false).settle
        { s with safety := { s.safety with passed := s.safety.passed + 1 } })
    else s)

/-- TEST_GAP_EXPIRY (R456): the low-side dark pulse starts. -/
def execTestGapExpiry (output : Nat) (s : State) : Host.Outcome State Fault Refusal :=
  .next (if (s.safety.tests.getD output {}).phase == 2 then ((s.updTest output (fun t => { t with phase := 3 })).setDark .dyke output true).settle
    else s)

/-- TEST_MISSING (R460): on for 2 × TP_INTERVAL + 1 s without a high-side dark pulse, where test pulses run (R456). -/
def execTestMissing (output : Nat) (s : State) : Host.Outcome State Fault Refusal :=
  .next (if s.testsEnabled && s.sdoSafe output && s.sdoOn output then (s.safetyF2 0x302 2 (locSdo output)).collectOwn else s)

/-! ### Supervision (R443, R444, R462, R468, R474) -/

/-- SEAL_POLL (R462). -/
def execSealPoll (chan : SafeChan) (word : BitVec 8) (s : State) : Host.Outcome State Fault Refusal :=
  .next (if s.safety.startDone then
      let s := { s with safety := { s.safety with sealNow := word } }
      if word = s.safety.sealStart then s else (s.safetyF2 0x303 (chanBit chan) locNone).collectOwn
    else s)

/-- HEARTBEAT_TOGGLE (R443): the channel toggles its line, and the other one sees it. -/
def execHeartbeatToggle (chan : SafeChan) (s : State) : Host.Outcome State Fault Refusal :=
  let other : SafeChan := match chan with | .proc => .dyke | .dyke => .proc
  .next ((s.updChan chan (fun c => { c with beat := !c.beat })).updChan other (fun c => { c with beatLost := false }))

/-- HEARTBEAT_LOSS (R444): the channel has seen no toggle for 200 µs. -/
def execHeartbeatLoss (chan : SafeChan) (s : State) : Host.Outcome State Fault Refusal :=
  .next (if (s.chan chan).started then
      ((s.updChan chan (fun c => { c with beatLost := true })).safetyF2 0x304 (chanBit chan) locNone).collectOwn
    else s)

/-- ROM_CRC_CHECK (R468). -/
def execRomCrcCheck (ok : Bool) (s : State) : Host.Outcome State Fault Refusal := .next (if ok then s else s.enterF3 (mkFault 0x323))

/-- CROSS_MISMATCH (Table 11.9): the channel's switch is still on 2 ms after the other channel's OFF line was set. -/
def execCrossMismatch (chan : SafeChan) (output : Nat) (s : State) : Host.Outcome State Fault Refusal :=
  let off := match chan with | .proc => s.safety.dyke.off.getD output true | .dyke => s.safety.proc.off.getD output true
  .next (if s.safety.startDone && off then (s.safetyF2 0x305 (chanBit chan) (locSdo output)).collectOwn else s)

/-- VDYK_RANGE (Table 11.9), found by the processor. -/
def execVdykRange (s : State) : Host.Outcome State Fault Refusal := .next ((s.safetyF2 0x306 1 locNone).collectOwn)

/-- SAFE_SUPPLY (Table 11.9), found by the dyke. -/
def execSafeSupply (s : State) : Host.Outcome State Fault Refusal := .next ((s.safetyF2 0x307 2 locNone).collectOwn)

/-! ### Safety start (R461, R464, R465, R467) -/

/-- Bytes of the watermark. -/
def State.fuses (s : State) (o n : Nat) : List Byte := (List.range n).map (fun i => (kvGet s.safety.watermark (o + i)).getD 0)

/-- HDR_CRC holds and factory test is disabled (R464). -/
def State.watermarkOk (s : State) : Bool :=
  let h := s.fuses 0 0x40
  let z := h.take 4 ++ [0, 0] ++ h.drop 6
  crc32 z == leNat (s.fuses 0x40 4) && bit (byteAt h 4) 0

/-- The fields of an input of a set lie within Table 11.6. -/
def setInOk (p : List Byte) (n : Nat) : Bool :=
  let o := 4 + 8 * n
  decide (byteAt p o < 8 ∧ 1 ≤ byteAt p (o + 1) ∧ byteAt p (o + 1) ≤ 12 ∧ 1 ≤ le p (o + 2) 2 ∧ le p (o + 2) 2 ≤ 400 ∧ le p (o + 4) 2 ≤ 5000
      ∧ byteAt p (o + 6) < 16 ∧ byteAt p (o + 7) = 0)
    && (List.range 4).all (fun m => !bit (byteAt p (o + 6)) m || byteAt p (0x44 + 8 * m) == 1)

/-- The fields of an output of a set lie within Table 11.6. -/
def setOutOk (p : List Byte) (m : Nat) : Bool :=
  let o := 0x44 + 8 * m
  decide (byteAt p o ≤ 1 ∧ 4 ≤ byteAt p (o + 1) ∧ byteAt p (o + 1) ≤ 16 ∧ 1 ≤ byteAt p (o + 2) ∧ byteAt p (o + 2) ≤ 60)
    && (List.range 5).all (fun i => byteAt p (o + 3 + i) == 0)

/-- A parameter set is programmed, holds its CRC, agrees with the seal word, and lies within Table 11.6 (R461, R465). -/
def setOk (p : List Byte) (word : BitVec 8) : Bool :=
  decide (byteAt p 1 = 0x5A ∧ crc32 (p.take 0x7C) = le p 0x7C 4 ∧ byteAt p 0 = word.toNat / 8 ∧ le p 2 2 = 0)
    && (List.range 8).all (setInOk p) && (List.range 4).all (setOutOk p) && (List.range 24).all (fun i => byteAt p (0x64 + i) == 0)

/-- A channel that has started, with its inputs in DEMAND. -/
def Chan.begin (c : Chan) (en : Nat → Bool) (crc : Nat) (lock : Bool) : Chan :=
  { demandAll en c with started := true, ok := true, lockout := lock, setCrc := BitVec.ofNat 32 crc, beatLost := false }

/-- SAFETY_START_COMPLETE (R444, R461, R464, R467): `word` is the seal word; the self-tests of the processor, the dyke and the ROM.
Where one channel had completed safety start before, the other comes up locked out. -/
def execSafetyStartComplete (word : BitVec 8) (procOk dykeOk romOk : Bool) (s : State) : Host.Outcome State Fault Refusal :=
  let p := s.fuses (0x80 + word.toNat % 4 * 0x80) 0x80
  .next (if !s.safety.vdykIn || !s.safety.safeSupplyIn || s.safety.startDone && s.safety.proc.started && s.safety.dyke.started then s
    else if !romOk then s.enterF3 (mkFault 0x323)
    else if !procOk then s.enterF3 (mkFault 0x322)
    else if !dykeOk then s.enterF3 (mkFault 0x324)
    else if !s.watermarkOk then s.enterF3 (mkFault 0x321)
    else if !setOk p word then s.enterF3 (mkFault 0x320)
    else
      let lock := s.safety.proc.started || s.safety.dyke.started
      let s := { s with safety := { s.safety with setInForce := p, sealStart := word, sealNow := word } }
      let s := (s.updChan .proc (fun c => c.begin s.siEnabled (le p 0x7C 4) lock)).updChan .dyke (fun c => c.begin s.siEnabled (le p 0x7C 4) lock)
      let s := { s with safety := { s.safety with startDone := true } }
      (List.range 8).foldl State.followInput s.settle)

/-! ### Commands (R453, R454, R470) -/

/-- Release requests of this lane set, for its safe outputs (R453). -/
def State.sdoRelease (s : State) (mask : Nat) : State :=
  { s with safety := { s.safety with
      release := (List.range 4).map (fun m => s.safety.release.getD m false || (bit mask m && s.sdoSafe m)) } }.settle

/-- Release requests of this lane cleared (R453). -/
def State.sdoApply (s : State) (mask : Nat) : State :=
  { s with safety := { s.safety with release := (List.range 4).map (fun m => s.safety.release.getD m false && !bit mask m) } }.settle

/-- SAFETY_ACK of this lane takes effect (R453, R470): the release requests go, and the outcome follows in SAFETY_RESET. -/
def State.safetyAck (s : State) (id : Nat) : State :=
  let s := s.clearReleases.settle
  if s.lockedOut && s.safety.lockoutId.toNat == id then { s with safety := { s.safety with ackPending := some id } } else s

end Sys2Proof.Machine
end

