-- ==== Sys2Proof/Machine/Drive.lean ====
section
/-!
DEFINITION. The safe drive outputs (R478 to R501): bridge switching, supply monitors, gate checks, strength adaptation, shorts and the
off-check.
-/
namespace Sys2Proof.Machine

/-! ### Switches of an output -/

/-- A switch of an output. -/
def Sdo.sw (o : Sdo) (high : Bool) : Switch := if high then o.hs else o.ls

/-- One switch of an output changed. -/
def Sdo.updSw (o : Sdo) (high : Bool) (f : Switch → Switch) : Sdo := if high then { o with hs := f o.hs } else { o with ls := f o.ls }

/-- An output's part of the state. -/
def State.sdoOf (s : State) (m : Nat) : Sdo := s.drivers.outs.getD m {}

/-- A field of Table 12.3 of an output of this lane. -/
def State.sdoFld (s : State) (row m : Nat) : Nat := s.fld tgtCluster 0x0C03 row 0 m (Lane.num s.lane)

/-- SDO_GATE (Table 12.5): the output, the switch and the kind. -/
def State.gateEvent (s : State) (m : Nat) (high : Bool) (kind : Nat) : EvBody :=
  { code := 0x601, payload := [BitVec.ofNat 8 (Lane.num s.lane), BitVec.ofNat 8 m, if high then 1 else 2, BitVec.ofNat 8 kind] }

/-! ### Bridge switching (R482, R483) -/

/-- The PWM period of this lane in ns: 1 / SDO_PWM_FREQ in whole 10 ns. -/
def State.pwmPeriod (s : State) : Nat :=
  let f := s.fldR tgtCluster 0x0C03 4 0 0xFF (Lane.num s.lane)
  if f ≤ 0 then 0 else (roundEven (100000000 / f)).toNat * 10

/-- A turn-on asked for that waits until the other switch's gate is below 1.0 V. -/
def Switch.await (sw : Switch) : Switch := if sw.cmd then sw else { sw with waiting := true }

/-- A period of one bridge output: a share below 100 ns is not given, 0.0 and 1.0 hold one side throughout, and otherwise the low
side leads and the high side waits for it. -/
def Sdo.period (o : Sdo) (duty : BitVec 32) (period : Nat) : Sdo :=
  let d := clampR 0 1 (f32D duty.toNat)
  let o := { o with duty := duty }
  let start (o : Sdo) (high : Bool) : Sdo :=
    let other := o.sw (!high)
    if other.low && !other.cmd then o.updSw high (fun w => w.turn true) else o.updSw high Switch.await
  if d * period < 100 then start (o.updSw true (fun w => w.turn false)) false
  else if (1 - d) * period < 100 then start (o.updSw false (fun w => w.turn false)) true
  else if o.hs.cmd then { (o.updSw true (fun w => w.turn false)) with ls := o.ls.await }
  else (start o false).updSw true Switch.await

/-- An output of this lane switches as a bridge now (R481, R482). -/
def State.bridgeRuns (s : State) (m : Nat) : Bool :=
  s.sdoBridge m && !s.sdoSafe m && s.driverFree m && !s.gateDisabled && s.voting && s.sdoOnCmd m

/-- PWM_PERIOD_START (R482): the duties written take effect, and each running bridge begins its period. -/
def execPwmPeriodStart (s : State) : Host.Outcome State Fault Refusal :=
  .next ((List.range 4).foldl (fun s m =>
    if s.bridgeRuns m then s.updSdo m (fun o => o.period (BitVec.ofNat 32 (s.sdoFld 3 m)) s.pwmPeriod) else s) s)

/-- INTERLOCK_RELEASE (R483): the other switch of the output has been commanded off and its gate measures below 1.0 V, so the waiting
turn-on proceeds; within a period the other side is then due again. -/
def execInterlockRelease (output : Nat) (high : Bool) (s : State) : Host.Outcome State Fault Refusal :=
  let w := (s.sdoOf output).sw high
  .next (if w.waiting && s.bridgeRuns output then
      s.updSdo output (fun o =>
        let d := clampR 0 1 (f32D o.duty.toNat)
        let both := decide (100 ≤ d * s.pwmPeriod) && decide (100 ≤ (1 - d) * s.pwmPeriod)
        let o := o.updSw (!high) (fun x => { x.turn false with low := true })
        let o := o.updSw high (fun x => x.turn true)
        if both && high then o.updSw false Switch.await else o)
    else s)

/-! ### Gates (R484, R487, R489 to R492) -/

/-- GATE_STUCK (R484): the switch's turn-off has not brought its gate below 1.0 V within 10 µs. -/
def execGateStuck (output : Nat) (high : Bool) (s : State) : Host.Outcome State Fault Refusal :=
  let w := (s.sdoOf output).sw high
  .next (if !w.cmd && !w.low then
      let was := (s.sdoOf output).stuckSeen
      let s := s.updSdo output (fun o => { (o.updSw (!high) (fun x => x.turn false)) with failed := true, stuckSeen := true })
      ((s.irq7 was).settle).found (mkFault 0x342 (locSdo output) none (some (s.gateEvent output high 2)))
    else s)

/-- GATE_UNDER (R487): a switch commanded on, past its blanking, whose gate stays below 7.0 V for 1 µs. -/
def execGateUnder (output : Nat) (high : Bool) (s : State) : Host.Outcome State Fault Refusal :=
  .next (if ((s.sdoOf output).sw high).cmd then
      let was := (s.sdoOf output).underSeen
      let s := s.updSdo output (fun o => { (o.updSw high (fun x => x.turn false)) with failed := true, underSeen := true })
      ((s.irq7 was).settle).found (mkFault 0x341 (locSdo output) none (some (s.gateEvent output high 1)))
    else s)

/-- One step of R491: the strength for a measured switching time and a target, in ns. -/
def adaptStep (t target step : Nat) : Nat :=
  if 8 * t > 9 * target ∧ step < 15 then step + 1 else if 8 * t < 7 * target ∧ 0 < step then step - 1 else step

/-- The run of events that a strength has stayed at 0 or at 15. -/
def heldRun (old new run : Nat) : Nat := if old = new ∧ (new = 0 ∨ new = 15) then run + 1 else 0

/-- A switching event of a measured time adjusts the strength it used. -/
def Switch.adapt (w : Switch) (turnOn : Bool) (t target : Nat) : Switch :=
  if turnOn then
    let n := adaptStep t target w.strOn
    { w with strOn := n, onHeld := heldRun w.strOn n w.onHeld }
  else if w.soft then w
  else
    let n := adaptStep t target w.strOff
    { w with strOff := n, offHeld := heldRun w.strOff n w.offHeld }

/-- SWITCHING_EVENT_END (R490, R491): the event's switching time in ns, where it has one. -/
def execSwitchingEventEnd (output : Nat) (high turnOn : Bool) (time : Option Nat) (s : State) : Host.Outcome State Fault Refusal :=
  .next (match time with
    | none => s
    | some t =>
      if s.sdoFld 7 output = 1 then s.updSdo output (fun o => o.updSw high (fun w => w.adapt turnOn t (s.sdoFld 5 output))) else s)

/-- GATE_LIMIT (R491): a strength has stayed at 0 or at 15 for 16 consecutive events; its run starts again. -/
def execGateLimit (output : Nat) (high turnOn : Bool) (s : State) : Host.Outcome State Fault Refusal :=
  let w := (s.sdoOf output).sw high
  .next (if 16 ≤ (if turnOn then w.onHeld else w.offHeld) then
      let was := (s.sdoOf output).limitSeen
      let s := s.updSdo output (fun o =>
        { (o.updSw high (fun x => if turnOn then { x with onHeld := 0 } else { x with offHeld := 0 })) with limitSeen := true })
      (s.irq7 was).found (mkFault 0x346 (locSdo output) none (some (s.gateEvent output high 3)))
    else s)

/-! ### Supplies (R486, R488) -/

/-- SUPPLY_MONITOR_TRIP (R486): 1 VBRG low, 2 VBRG high, 3 charge pump, with the reading in 10 mV; only while SDO_SUPPLY is 1. -/
def execSupplyMonitorTrip (kind : Nat) (reading : BitVec 16) (s : State) : Host.Outcome State Fault Refusal :=
  .next (if s.sdoFld 0 0xFF = 1 ∧ 1 ≤ kind ∧ kind ≤ 3 then
      let d := s.drivers
      let d := if kind = 3 then { d with cpOk := false, vcpMv := BitVec.ofNat 12 reading.toNat } else { d with vbrgOk := false, vbrgMv := reading }
      let s := { s with drivers := d }
      (s.settle).found (mkFault (0x342 + kind) {} none (some { code := 0x602, payload :=
        [BitVec.ofNat 8 (Lane.num s.lane), BitVec.ofNat 8 kind] ++ toLe 2 reading.toNat }))
    else s)

/-- SUPPLY_CONDITION_END (R486): VBRG and VCP have stayed in range for 1 ms. -/
def execSupplyConditionEnd (s : State) : Host.Outcome State Fault Refusal :=
  let s := { s with drivers := { s.drivers with vbrgOk := true, cpOk := true } }
  .next ([0x343, 0x344, 0x345].foldl (fun s c => if s.isActive c locNone then s.foundEnd c locNone else s) s.settle)

/-- DRIVER_SUPPLY_READY (R488): 2 ms after SDO_SUPPLY became 1 the charge pump is up. The monitors act from here on; a condition that
was found before stands until it has ended. -/
def execDriverSupplyReady (s : State) : Host.Outcome State Fault Refusal :=
  .next (if s.sdoFld 0 0xFF = 1 && !s.drivers.supplyOn then
      let v := !s.isActive 0x343 locNone && !s.isActive 0x344 locNone
      { s with drivers := { s.drivers with supplyOn := true, vbrgOk := v, cpOk := !s.isActive 0x345 locNone } }.settle
    else s)

/-! ### Shorts (R492 to R496) -/

/-- A detection: both switches of the output go off, the shorted one at step 0, every output is held off at once (R452, R513), and
the detection joins the event being collected. -/
def State.shortFound (s : State) (m : Nat) (high shunt : Bool) (vbrg : BitVec 16) : State :=
  let was := (s.sdoOf m).shortSeen
  let d := s.drivers
  let bitNo := 2 * m + b2n (!high)
  let s := { s with drivers := { d with
    legs := setAt d.legs m true, sws := if bitNo ∈ d.sws then d.sws else d.sws ++ [bitNo],
    shunts := if !shunt || decide (m ∈ d.shunts) then d.shunts else d.shunts ++ [m],
    shortVbrg := some (d.shortVbrg.getD vbrg), vbrgMv := vbrg } }
  let s := s.updSdo m (fun o =>
    let o := o.updSw high (fun w => { w.turn false with soft := true })
    { (o.updSw (!high) (fun w => w.turn false)) with shorted := true, shortSeen := true })
  ({ (s.irq7 was) with faults := { s.faults with sysF2 := true } }).settle

/-- The switch conducts or is being discharged. -/
def Switch.live (w : Switch) : Bool := w.cmd || !w.low

/-- SHORT_DETECT (R493): by the drain-source monitor of a switch. -/
def execShortDetect (output : Nat) (high : Bool) (vbrg : BitVec 16) (s : State) : Host.Outcome State Fault Refusal :=
  .next (if ((s.sdoOf output).sw high).live then s.shortFound output high false vbrg else s)

/-- SHUNT_SHORT_DETECT (R494): by the shunt comparator, of the switch whose path holds the shunt. -/
def execShuntShortDetect (output : Nat) (vbrg : BitVec 16) (s : State) : Host.Outcome State Fault Refusal :=
  .next (match s.sdoFld 10 output with
    | 1 => s.shortFound output true true vbrg
    | 2 => s.shortFound output false true vbrg
    | _ => s)

/-- A mask of bit numbers. -/
def maskOf (ns : List Nat) : Nat := ns.foldl (fun m n => if bit m n then m else m + 2 ^ n) 0

/-- SDO_SHORT (R496): the detections of the window form one event with the SDO-short F2. -/
def execSdoShort (s : State) : Host.Outcome State Fault Refusal :=
  .next (match s.drivers.shortVbrg with
    | none => s
    | some v =>
      let d := s.drivers
      let legs := (List.range 4).filter (fun m => d.legs.getD m false)
      let ev : EvBody := { code := 0x600, payload := [BitVec.ofNat 8 (Lane.num s.lane), BitVec.ofNat 8 (maskOf legs), BitVec.ofNat 8 (maskOf d.sws),
        BitVec.ofNat 8 (maskOf d.shunts)] ++ toLe 2 v.toNat }
      let s := { s with drivers := { d with legs := List.replicate 4 false, sws := [], shunts := [], shortVbrg := none } }
      s.found (mkFault 0x340 (locSdo (legs.headD 0)) none (some ev)))

/-! ### The off-check (R497) -/

/-- OFF_CHECK_PROVEN: a switch that is off meets both voltage conditions for 1 µs. -/
def execOffCheckProven (output : Nat) (high : Bool) (s : State) : Host.Outcome State Fault Refusal :=
  .next (s.updSdo output (fun o => o.updSw high (fun w => if w.cmd then w else { w with low := true, proven := true })))

/-! ### Fields (R481, R488, R489) -/

/-- All four strengths of an output take GATE_INIT. -/
def State.gateInit (s : State) (m : Nat) : State :=
  let g := s.sdoFld 6 m
  let f (w : Switch) : Switch := { w with strOn := g, strOff := g, onHeld := 0, offHeld := 0 }
  s.updSdo m (fun o => { o with hs := f o.hs, ls := f o.ls })

/-- SDO_SUPPLY of this lane has been written. -/
def State.sdoSupplySet (s : State) (was : Nat) : State :=
  let now := s.sdoFld 0 0xFF
  let s := if now = 0 then { s with drivers := { s.drivers with supplyOn := false } }
    else if was = 0 then (List.range 4).foldl State.gateInit s else s
  s.settle

end Sys2Proof.Machine
end

