-- ==== Sys2Proof/Machine/Time.lean ====
section
/-!
DEFINITION. The time unit: PTP, the hardware servo, the map from cluster time to vehicle time, steering, pulse outputs, captures
and the Ethernet port (R376 to R407, R585), and the rate period (R274, R277).
-/
namespace Sys2Proof.Machine

/-- A time field of this lane, and its signed and binary32 readings (Table 9.6). -/
def State.tf (s : State) (row elem : Nat) (unit : Nat := 0xFF) : Nat := s.fld tgtCluster 0x0906 row elem unit (Lane.num s.lane)
def State.tfI (s : State) (row elem : Nat) : Int := s.fldI tgtCluster 0x0906 row elem 0xFF (Lane.num s.lane)
/-- A time field of the whole cluster. -/
def State.tc (s : State) (row elem : Nat) : Nat := s.fld tgtCluster 0x0906 row elem
def State.tcR (s : State) (row elem : Nat) : Rat := s.fldR tgtCluster 0x0906 row elem

/-- The Ethernet port works: in use, link up, and no F3 (R515). -/
def State.ethUp (s : State) : Bool := s.tf 0 0 == 1 && s.time.linkUp && !s.faults.f3

/-! ### Events and faults (Tables 9.8, 14.15) -/

def servoCode : Servo → Nat
  | .unlocked => 0 | .acquiring => 1 | .locked => 2 | .holdover => 3

/-- TIME_STATE. -/
def State.timeState (s : State) (old new : Servo) : EvBody :=
  { code := 0x540, payload := [BitVec.ofNat 8 (servoCode old), BitVec.ofNat 8 (servoCode new)] ++ toLe 4 (ofSigned 32 s.time.offset) }

/-- TIME_STEP. -/
def timeStep (what : Nat) (step : Int) : EvBody := { code := 0x541, payload := [BitVec.ofNat 8 what] ++ toLe 8 (ofSigned 64 step) }

/-- A servo state is taken. -/
def State.servoTo (s : State) (st : Servo) : State := { s with time := { s.time with servo := st } }

/-! ### The servo (R388 to R390) -/

/-- ±500 ppm. -/
def ppm500 : Rat := 500 / 1000000

/-- The proportional-integral law, f and i held within ±500 ppm (R389); `t` is the interval since the last measurement. -/
def State.servoLaw (s : State) (o t : Int) : State :=
  if t ≤ 0 then s
  else
    let x : Rat := (o : Rat) / (t : Rat)
    let i := s.time.integ + s.tcR 15 1 * x
    let ic := clampR (-ppm500) ppm500 i
    let f := s.tcR 15 0 * x + ic
    let fc := clampR (-ppm500) ppm500 f
    let held := decide (i ≠ ic ∨ f ≠ fc ∨ absR ic = ppm500 ∨ absR fc = ppm500)
    let was := s.time.freqHeld
    let s := { s with time := { s.time with integ := ic, freq := fc, freqHeld := if held then was + 1 else 0 } }
    if !held && decide (16 ≤ was) then s.foundEnd 0x285 {} else s

/-- A measurement within, or not within, LOCK_WIN. -/
def State.countLock (s : State) (o : Int) : State :=
  { s with time := { s.time with locks := if o.natAbs ≤ s.tc 17 0 then s.time.locks + 1 else 0 } }

/-- The PHC steps by −o (Table 9.4), with the time-step F0 and TIME_STEP. -/
def State.phcStep (s : State) (o : Int) : State :=
  let was := s.time.stepSeen
  let s := { s with time := { s.time with phcAdj := s.time.phcAdj - o, integ := 0, stepSeen := true } }
  (s.irq7 was).found (mkFault 0x283 {} none (some (timeStep 1 (-o))))

/-- A measurement o at a PHC time (Table 9.4). -/
def State.measure (s : State) (o at_ : Int) : State :=
  let t := match s.time.lastAt with | some l => at_ - l | none => 0
  let lim := 2 ^ 31 - 1
  let s := { s with time := { s.time with offset := clampI (-lim) lim o, lastAt := some at_ } }
  let big := decide (s.tc 16 0 < o.natAbs)
  match s.time.servo with
  | .unlocked => s
  | .acquiring => (if big then s.phcStep o else s.servoLaw o t).countLock o
  | .locked =>
    if big then { s with time := { s.time with outliers := s.time.outliers + 1 } }
    else { s with time := { s.time with outliers := 0 } }.servoLaw o t
  | .holdover => ({ s with time := { s.time with locks := 0, outliers := 0 } }.servoTo .acquiring).foundEnd 0x280 {}

/-- SERVO_LOCKED (R389): 16 consecutive measurements within LOCK_WIN. -/
def execServoLocked (s : State) : Host.Outcome State Fault Refusal :=
  .next (if s.time.servo == .acquiring && decide (16 ≤ s.time.locks) then
      let s := s.servoTo .locked
      { s with time := { s.time with outliers := 0, portState := if s.time.portState = 8 then 9 else s.time.portState } }
    else s)

/-- SERVO_OUTLIERS (R389): 4 consecutive outliers. -/
def execServoOutliers (s : State) : Host.Outcome State Fault Refusal :=
  .next (if s.time.servo == .locked && decide (4 ≤ s.time.outliers) then
      let s := { s with time := { s.time with locks := 0, outliers := 0 } }.servoTo .acquiring
      s.found (mkFault 0x281 {} none (some (s.timeState .locked .acquiring)))
    else s)

/-- The servo takes its measurements from PTP (R388). -/
def State.sourcePtp (s : State) : Bool := s.tc 14 0 == 0

/-- TIME_SOURCE_LOST (R390): the selected master has sent no Announce for 3 announce intervals, or the capture source no edge for
3 s. In LOCKED the servo enters HOLDOVER, and the PHC keeps the frequency i. -/
def execTimeSourceLost (s : State) : Host.Outcome State Fault Refusal :=
  .next (if s.sourcePtp && (s.time.master.isNone || decide (s.time.announces < 3)) then s
    else
      let s := if s.sourcePtp then { s with time := { s.time with master := none, masterData := [], portState := 4 } } else s
      if s.time.servo == .locked then
        let s := { s with time := { s.time with freq := s.time.integ } }.servoTo .holdover
        s.found (mkFault 0x280 {} none (some (s.timeState .locked .holdover)))
      else s)

/-- HOLDOVER_EXPIRED (R389): HOLDOVER_MAX has passed. -/
def execHoldoverExpired (s : State) : Host.Outcome State Fault Refusal :=
  .next (if s.time.servo == .holdover then
      let s := s.servoTo .unlocked
      s.found (mkFault 0x282 {} none (some (s.timeState .holdover .unlocked)))
    else s)

/-- PHC_FREQUENCY_LIMIT (Table 9.8). -/
def execPhcFrequencyLimit (s : State) : Host.Outcome State Fault Refusal :=
  .next (if 16 ≤ s.time.freqHeld then s.found (mkFault 0x285) else s)

/-! ### PTP (R378 to R383)
PRESUMED from IEEE 1588-2019: the port states, the order in which data sets compare, and the two delay formulas. -/

/-- PHC time of a received message at the media interface (R381). -/
def State.rxStamp (s : State) (stamp : Int) : Int := s.phc stamp - s.tf 5 1

/-- PHC time of a sent message at the media interface (R381). -/
def State.txStamp (s : State) (stamp : Int) : Int := s.phc stamp + s.tf 5 0

/-- A port that is slave in its domain listens to this message. -/
def State.ptpHears (s : State) (m : PtpMsg) : Bool := s.ethUp && m.domain == s.tc 11 0

/-- The message comes from the selected master. -/
def State.fromMaster (s : State) (m : PtpMsg) : Bool := s.time.master.isSome && m.src == s.time.masterData.drop 30

/-- The offset of the PHC from the master, delayAsymmetry included (R383), is a measurement when SERVO_SOURCE is PTP (R388). -/
def State.ptpOffset (s : State) (t1 t2 corr : Int) : State :=
  let s := { s with time := { s.time with syncT12 := some (t1 + corr, t2) } }
  if s.sourcePtp then s.measure (t2 - t1 - s.time.pathDelay - corr - s.tfI 6 0) t2 else s

/-- PTP_SYNC_RECEIVED (R382, R383, R388, R389): `stamp` is the PHC counter as the Sync passed. -/
def execPtpSyncReceived (msg : PtpMsg) (stamp : Int) (s : State) : Host.Outcome State Fault Refusal :=
  .next (if !s.ptpHears msg || !s.fromMaster msg then s
    else
      let t2 := s.rxStamp stamp
      if msg.twoStep then { s with time := { s.time with syncT := some (t2, msg.corr, msg.seq) } }
      else s.ptpOffset msg.time t2 msg.corr)

/-- The order of data sets: priority1, clockClass, clockAccuracy, offsetScaledLogVariance, priority2, clockIdentity, stepsRemoved;
a lower number is better. -/
def announceKey (d : List Byte) : Nat :=
  ((((be d 13 1 * 2 ^ 32 + be d 14 4) * 256 + be d 18 1) * 2 ^ 64 + be d 19 8) * 65536) + be d 27 2

/-- The own data set of a master-capable clock. -/
def State.ownKey (s : State) : Nat :=
  let mac := s.tf 2 0
  let id := mac / 2 ^ 24 * 2 ^ 40 + 0xFFFE * 2 ^ 24 + mac % 2 ^ 24
  ((((s.tc 12 0 * 2 ^ 32 + 248 * 2 ^ 24 + 0xFE * 2 ^ 16 + 0xFFFF) * 256 + s.tc 12 1) * 2 ^ 64 + id) * 65536)

/-- A master is selected: MASTER_CHANGED for a new grandmaster, and the servo leaves UNLOCKED (R389, Table 9.8). -/
def State.selectMaster (s : State) (m : PtpMsg) : State :=
  let id := (m.data.drop 19).take 8
  let new := s.time.master != some id
  let s := { s with time := { s.time with master := some id, masterData := padTo 30 m.data ++ m.src, announces := 0,
                                          portState := if s.time.servo = .locked then 9 else 8 } }
  let s := if new then (s.reportEvent { code := 0x542, payload := id }).collectOwn else s
  if s.sourcePtp && s.time.servo == .unlocked then { s with time := { s.time with locks := 0, lastAt := none } }.servoTo .acquiring else s

/-- An Announce of the slave's domain (R378). -/
def State.hearAnnounce (s : State) (m : PtpMsg) : State :=
  if s.fromMaster m then
    (if (m.data.drop 19).take 8 = s.time.master.getD [] then { s with time := { s.time with announces := 0, masterData := padTo 30 m.data ++ m.src } }
     else s.selectMaster m)
  else
    let better := s.time.master.isNone || decide (announceKey m.data < announceKey s.time.masterData)
    let me := s.tc 9 0 == 1 && decide (s.ownKey < announceKey m.data)
    if better && !me then s.selectMaster m else s

/-- Mean path delay from the four stamps; delayAsymmetry cancels (R383). -/
def State.meanDelay (s : State) (fwd back : Int) : State := { s with time := { s.time with pathDelay := (fwd + back) / 2 } }

/-- The port is master: an OC_MASTER with no better clock, or the second instance of a boundary clock while the servo is LOCKED or in
HOLDOVER (R379). -/
def State.ptpMaster (s : State) : Bool :=
  s.ethUp && ((s.tc 9 0 == 1 && s.time.master.isNone) || (s.tc 9 0 == 2 && (s.time.servo == .locked || s.time.servo == .holdover)))

/-- The next sequence number of a message type. -/
def State.nextPtp (s : State) (ty : Nat) : BitVec 16 := (kvGet s.time.ptpSeq ty).getD 0

/-- A PTP message leaves (Table 9.2), with the next sequence number of its type. -/
def State.sendPtp (s : State) (ty : Nat) : State :=
  let n := s.nextPtp ty
  { s with time := { s.time with ptpSeq := kvSet s.time.ptpSeq ty (n + 1) } }.send (.ptp ty n)

/-- STEP_MODE is TWO. -/
def State.twoStep (s : State) : Bool := s.tc 10 0 == 1

/-- PTP_MESSAGE_RECEIVED (R378, R382, R383): message types other than Sync. -/
def execPtpMessageReceived (kind : PtpKind) (msg : PtpMsg) (stamp : Int) (s : State) : Host.Outcome State Fault Refusal :=
  .next (match kind with
    | .sync => s
    | .announce => if s.ptpHears msg && !(s.tc 9 0 == 1 && s.time.servo == .unlocked && !s.sourcePtp) then s.hearAnnounce msg else s
    | .followUp =>
      if !s.ptpHears msg || !s.fromMaster msg then s
      else (match s.time.syncT with
        | some (t2, corr, seq) =>
          if seq = msg.seq then { s with time := { s.time with syncT := none } }.ptpOffset msg.time t2 (corr + msg.corr) else s
        | none => s)
    | .delayReq =>
      if s.ptpMaster && s.tc 8 0 == 0 && msg.domain == (if s.tc 9 0 == 2 then s.tc 11 1 else s.tc 11 0) then s.send (.ptp 9 msg.seq) else s
    | .delayResp =>
      if !s.ptpHears msg || !s.fromMaster msg || !msg.forUs then s
      else (match s.time.delayT3, s.time.syncT12 with
        | some (t3, seq), some (t1, t2) =>
          if seq = msg.seq then { s with time := { s.time with delayT3 := none } }.meanDelay (t2 - t1) (msg.time - t3 - msg.corr) else s
        | _, _ => s)
    | .pdelayReq =>
      if s.ethUp && s.tc 8 0 ≠ 0 then
        let s := s.send (.ptp 3 msg.seq)
        if s.twoStep then s.send (.ptp 10 msg.seq) else s
      else s
    | .pdelayResp =>
      if !s.ethUp || !msg.forUs then s
      else (match s.time.delayT3 with
        | some (t1, seq) =>
          if seq ≠ msg.seq then s
          else if msg.twoStep then { s with time := { s.time with pdelay := some (msg.time, s.rxStamp stamp, msg.corr) } }
          else { s with time := { s.time with delayT3 := none } }.meanDelay (s.rxStamp stamp - t1) (-msg.corr)
        | none => s)
    | .pdelayRespFollowUp =>
      if !s.ethUp || !msg.forUs then s
      else (match s.time.delayT3, s.time.pdelay with
        | some (t1, seq), some (t2, t4, corr) =>
          if seq = msg.seq then
            { s with time := { s.time with delayT3 := none, pdelay := none } }.meanDelay (t4 - t1) (t2 - msg.time - corr - msg.corr)
          else s
        | _, _ => s))

/-- PTP_INTERVAL_EXPIRY (R378, R379): a message interval runs out. -/
def execPtpIntervalExpiry (kind : PtpKind) (stamp : Int) (s : State) : Host.Outcome State Fault Refusal :=
  .next (if !s.ethUp then s
    else match kind with
    | .sync => if s.ptpMaster then (if s.twoStep then (s.sendPtp 0).send (.ptp 8 (s.nextPtp 0)) else s.sendPtp 0) else s
    | .announce =>
      let s := if s.time.portState = 1 then { s with time := { s.time with portState := 4 } } else s
      if s.ptpMaster then { s with time := { s.time with portState := if s.tc 9 0 = 1 then 6 else s.time.portState } }.sendPtp 11
      else { s with time := { s.time with announces := s.time.announces + 1 } }
    | .delayReq =>
      if s.tc 8 0 = 0 && s.time.master.isSome then
        { s with time := { s.time with delayT3 := some (s.txStamp stamp, s.nextPtp 1) } }.sendPtp 1
      else s
    | .pdelayReq =>
      if s.tc 8 0 ≠ 0 then { s with time := { s.time with delayT3 := some (s.txStamp stamp, s.nextPtp 2), pdelay := none } }.sendPtp 2 else s
    | _ => s)

/-! ### Rate periods (R274, R277, R393) -/

/-- ρ over the rate period just ended, to 10⁻⁹, rounded toward zero (R274). -/
def State.rho (s : State) : Int :=
  let per := s.clock.rateLast.filterMap (fun (p : SyncMember × Int) =>
    (kvGet s.clock.rateFirst p.1).map (fun a => ((p.2 - a + s.clock.csum : Int) : Rat) * 1000000000 / (15 * s.tNs : Nat)))
  truncR (midpoint (0 :: per))

/-- The sealed map comes into force (R393, R395). -/
def State.mapInForce (s : State) : State :=
  match s.time.mapNext with
  | none => s
  | some m =>
    let step := (m.vtBase - s.mapped m.baseCount 0).toInt
    let was := s.time.stepSeen
    let s := { s with time := { s.time with map := m, mapNext := none, stepSeen := was || m.step } }
    if m.step then
      let s := s.irq7 was
      if s.isVoice then s.found (mkFault 0x283 {} none (some (timeStep 2 step))) else s
    else s

/-- RATE_PERIOD_START (R274, R275, R277, R393, R399): at a count that is a multiple of 16. -/
def execRatePeriodStart (s : State) : Host.Outcome State Fault Refusal :=
  .next (if !s.clock.running || s.clock.cycle % 16 ≠ 0 then s
    else
      let k := clampI (-250000) 250000 (s.clock.kappa + s.rho)
      let held := decide (k.natAbs = 250000)
      let was := s.clock.kappaHeld
      let st := if s.simplex then s.steerOut else (s.clock.steerNext).getD s.clock.steer
      let lim := decide (st.natAbs = steerMax.natAbs)
      let wasLim := s.clock.steerHeld
      let s := { s with clock := { s.clock with
        kappa := k, kappaHeld := if held then was + 1 else 0, csum := 0, steer := st, steerNext := none, steerHeld := if lim then wasLim + 1 else 0 } }
      let s := if !held && decide (4 ≤ was) then s.foundEnd 0x202 {} else s
      let s := if !lim && decide (16 ≤ wasLim) then s.foundEnd 0x284 {} else s
      s.mapInForce)

/-- STEERING_LIMIT_REACHED (R399): the voice lane's time unit, whose target it is. -/
def execSteeringLimitReached (s : State) : Host.Outcome State Fault Refusal :=
  .next (if s.isVoice && decide (16 ≤ s.clock.steerHeld) then s.found (mkFault 0x284) else s)

/-! ### The map and the steering target (R393 to R398) -/

/-- The PHC time latched at the start of a cycle. -/
def State.latch (s : State) (c : Nat) : Option Int := kvGet s.time.latches c

/-- Rounding to the nearest integer, a tie upward. -/
def roundNear (x : Rat) : Int := (x + 1 / 2).floor

/-- The map that the voice lane forms in cycle `c`, 8 modulo 16 (R394, R395). -/
def State.formMap (s : State) : TimeMap :=
  let c := s.clock.cycle
  let b := c + 8
  let base := s.mapped b 0
  let same : TimeMap := { s.time.map with baseCount := b, vtBase := base, valid := false, holdover := false, step := false }
  match s.latch (c - 8), s.latch (c - 24) with
  | some p8, some p24 =>
    if !(s.time.servo == .locked || s.time.servo == .holdover) || decide (c < 24) then same
    else
      let err : Int := p8 - (s.mapped (c - 8) 0).toNat
      let rate : Rat := ((p8 - p24 : Int) : Rat) / (16 * s.tNs : Nat) - 1
      let corr := clampR (-(50 / 1000000)) (50 / 1000000) ((err : Rat) / (s.tc 19 0 : Nat))
      let r := clampI (truncR (-ppm500 * 2 ^ 40)) (truncR (ppm500 * 2 ^ 40)) (roundNear ((rate + corr) * 2 ^ 40))
      let step := decide (s.tc 20 0 < err.natAbs)
      { baseCount := b, vtBase := if step then BitVec.ofInt 64 (p8 + (16 : Int) * s.tNs) else base, ratio := r, valid := true,
        holdover := s.time.servo == .holdover, step := step }
  | _, _ => same

/-- Offset of the start of the present basic cycle from the nearest whole multiple of T in vehicle time (R398). -/
def State.gridError (s : State) : Int :=
  match s.latch s.clock.cycle with
  | some p =>
    let t : Int := s.tNs
    let r := p % t
    if 2 * r ≤ t then r else r - t
  | none => 0

/-- The steering target from the vehicle time that the last rate periods took (R398), in 2^−16 ppm. -/
def State.formTarget (s : State) : Int :=
  let n := s.time.rates.length
  let veh := s.time.rates.sum
  if veh ≤ 0 then s.clock.steer
  else
    let robs : Rat := ((n * 16 * s.tNs : Nat) : Rat) / (veh : Rat) - 1
    let ph : Rat := if s.tc 21 0 = 1 then (s.gridError : Rat) / (s.tc 22 0 : Nat) else 0
    clampI (-steerMax) steerMax (s.clock.steer + roundNear (-(robs + ph) * 1000000 * 65536))

/-- MAP_FORMATION (R393, R394, R397, R398): the voice lane, in each cycle whose count is 8 modulo 16. -/
def execMapFormation (s : State) : Host.Outcome State Fault Refusal :=
  .next (if !s.isVoice || s.clock.cycle % 16 ≠ 8 then s
    else
      let m := s.formMap
      let s := match s.latch (s.clock.cycle - 8), s.latch (s.clock.cycle - 24) with
        | some a, some b => if 24 ≤ s.clock.cycle then { s with time := { s.time with rates := ((a - b) :: s.time.rates).take 16 } } else s
        | _, _ => s
      let s := { s with time := { s.time with target := if m.valid then s.formTarget else s.clock.steer } }
      s.reportBody (.timeMap m))

/-! ### Pulse outputs (R400 to R402) -/

def State.ppsMode (s : State) (n : Nat) : Nat := s.tf 23 0 n

/-- The first pulse time of a PERIODIC output at or after an instant. -/
def State.ppsFirst (s : State) (n t : Nat) : Nat :=
  let st := s.tf 24 0 n
  let p := s.tf 25 0 n
  if t ≤ st then st else st + ceilDiv (t - st) p * p

/-- PULSE_MISSED with its F0 (R402). -/
def State.missPulse (s : State) (n count : Nat) : State :=
  let was := s.time.pulseSeen
  let s := { s with time := { s.time with pulseSeen := true } }
  (s.irq7 was).found (mkFault 0x287 {} none (some { code := 0x544, payload := [BitVec.ofNat 8 n] ++ toLe 2 count }))

/-- The present time of an output's base: the PHC as latched at the start of the cycle, or cluster time. -/
def State.ppsNow (s : State) (n : Nat) : Nat :=
  if s.tf 23 1 n = 0 then ((s.time.latches.head?).map (fun p => p.2.toNat)).getD 0 else s.clock.cycle * s.tNs

/-- A setting of an output takes effect (R402): mode, base or start. -/
def State.ppsSet (s : State) (n : Nat) : State :=
  let now := s.ppsNow n
  let put (s : State) (p : Pps) : State := { s with time := { s.time with pps := setAt s.time.pps n p } }
  match s.ppsMode n with
  | 1 => if s.tf 24 0 n < now then (put s {}).missPulse n 1 else put s { next := some (s.tf 24 0 n) }
  | 2 => put s { next := some (s.ppsFirst n (now + 1000)) }
  | _ => put s {}

/-- The falling edge of the active level, when its width has passed; a changed period then applies (R402). -/
def State.ppsFall (s : State) (n t : Nat) (p : Pps) : Pps :=
  match p.next with
  | some at_ =>
    if p.level && decide (at_ + s.tf 26 0 n ≤ t) then
      { p with level := false, next := if s.ppsMode n = 2 then some (s.ppsFirst n (at_ + 1)) else none }
    else p
  | none => p

/-- PPS_EDGE (R400, R401): the PHC counter `clk` and cluster time `cluster` have reached an edge of the output. -/
def execPpsEdge (output : Nat) (clk cluster : Int) (s : State) : Host.Outcome State Fault Refusal :=
  .next (match s.time.pps[output]? with
    | none => s
    | some p =>
      if s.ppsMode output = 0 || s.faults.f3 then s
      else
        let t := (if s.tf 23 1 output = 0 then s.phc clk else cluster).toNat
        let p := s.ppsFall output t p
        let give := !p.level && (match p.next with | some a => decide (a ≤ t) | none => false)
        let s' := { s with time := { s.time with pps := setAt s.time.pps output (if give then { p with level := true, n := p.n + 1 } else p) } }
        if give then s'.send (.pulse output (p.next.getD 0)) else s')

/-- PULSE_MISSED (R402): pulses whose time has passed, or over which the PHC stepped. -/
def execPulseMissed (output count : Nat) (s : State) : Host.Outcome State Fault Refusal :=
  .next (match s.time.pps[output]? with
    | none => s
    | some p =>
      if s.ppsMode output = 0 then s
      else
        let next := if s.ppsMode output = 2 then p.next.map (fun a => a + count * s.tf 25 0 output) else none
        { s with time := { s.time with pps := setAt s.time.pps output { p with next := next, n := p.n + count } } }.missPulse output count)

/-! ### Captures (R403, R404) -/

/-- The CAPTURE event of a capture (Table 9.5). -/
def State.captureEvent (s : State) (n : Nat) (c : Capture) : EvBody :=
  { code := 0x543, payload := [BitVec.ofNat 8 (n + 4 * b2n c.rising), BitVec.ofNat 8 (Lane.num s.lane)] ++ toLe 4 c.cycle ++ toLe 4 c.off
      ++ toLe 2 (s.time.capDrop.getD n 0) }

/-- The CAPTURE event leaves, and the count of dropped captures starts again. -/
def State.captureSent (s : State) (n : Nat) : State := { s with time := { s.time with capDrop := setAt s.time.capDrop n 0 } }

/-- A capture source gives the servo a measurement: the capture time less the nearest whole second (R388). -/
def State.captureServo (s : State) (n : Nat) (c : Capture) : State :=
  if s.tc 14 0 ≠ n + 1 || !c.rising then s
  else
    let r := c.phc % 1000000000
    let o := if 2 * r ≤ 1000000000 then r else r - 1000000000
    let s := if s.time.servo == .unlocked then { s with time := { s.time with locks := 0, lastAt := none } }.servoTo .acquiring else s
    s.measure o c.phc

/-- CAP_EDGE (R403, R404, R388): an edge that has passed the filter, with the PHC counter and the cluster instant of its first
crossing. -/
def execCapEdge (input : Nat) (rising : Bool) (clk : Int) (cycle ns : Nat) (s : State) : Host.Outcome State Fault Refusal :=
  let sel := s.tf 28 0 input
  .next (if 3 < input || !((sel == 2) || (sel == 0 && rising) || (sel == 1 && !rising)) then s
    else
      let c : Capture := { phc := s.phc clk, cycle := cycle, off := ns, rising := rising }
      let s := s.captureServo input c
      let q := s.time.fifo.getD input []
      let e := s.captureEvent input c
      if 16 ≤ q.length then
        let was := s.time.capOvf
        let drop := modAt s.time.capDrop input (· + 1)
        let s := { s with time := { s.time with capOvf := true, capDrop := drop } }
        let e := s.captureEvent input c
        ((s.irq7 was).found (mkFault 0x286 {} none (some e))).captureSent input
      else
        let s := { s with time := { s.time with fifo := setAt s.time.fifo input (q ++ [c]) } }
        if s.tf 30 0 input = 1 && decide (s.time.capReports < 4) then
          ({ s with time := { s.time with capReports := s.time.capReports + 1 } }.reportEvent e).collectOwn.captureSent input
        else s)

/-! ### The Ethernet port (R377, R380, R585) -/

/-- ETH_FRAME_RECEIVED (R380): a frame that is not PTP's goes to the 16 KB receive buffer. -/
def execEthFrameReceived (bytes : List Byte) (s : State) : Host.Outcome State Fault Refusal :=
  let ty := if be bytes 12 2 = 0x8100 then be bytes 16 2 else be bytes 12 2
  .next (if !s.ethUp || ty == 0x88F7 then s
    else if ((s.time.ethRx.map List.length).sum + bytes.length) ≤ 16384 then { s with time := { s.time with ethRx := s.time.ethRx ++ [bytes] } }
    else { s with time := { s.time with ethDropped := s.time.ethDropped + 1 } })

/-- ETH_TRANSMIT_COMPLETE (R585): the host's frame has been sent. -/
def execEthTransmitComplete (s : State) : Host.Outcome State Fault Refusal :=
  .next (if s.time.ethBusy then { s with time := { s.time with ethBusy := false, ethTx := [], ethTxLen := none } } else s)

/-- SGMII_LINK_CHANGE (R377, R406, R407). -/
def execSgmiiLinkChange (up speed1000 : Bool) (s : State) : Host.Outcome State Fault Refusal :=
  let s := { s with time := { s.time with
    linkUp := up, speed1000 := if up then speed1000 else s.time.speed1000,
    portState := if s.tf 0 0 ≠ 1 then 3 else if up then (if s.time.portState = 1 ∨ s.time.portState = 3 then 4 else s.time.portState) else 1 } }
  .next (if up then s.foundEnd 0x288 {} else s)

/-- ETH_LINK_DOWN_LIMIT (Table 9.8): the link down for 1 s with ETH_ENABLE set. -/
def execEthLinkDownLimit (s : State) : Host.Outcome State Fault Refusal :=
  .next (if s.tf 0 0 == 1 && !s.time.linkUp then
      s.found (mkFault 0x288 {} none (some (s.timeState s.time.servo s.time.servo)))
    else s)

end Sys2Proof.Machine
end

