-- ==== Sys2Proof/Machine/Effects.lean ====
section
/-!
DEFINITION. What a written field changes besides its value, by the rules of its own chapter, and a field write taking effect (R35,
R569).
-/
namespace Sys2Proof.Machine

/-- EXP_BLOCK, HEADROOM, EXP_CPL or HEADROOM_CPL of a block was written (R88, R101): an AUTO exponent stands unfixed again, and the
elements in force are held again where the exponent in force moved. `old` is the exponent before. -/
def State.expWritten (s : State) (o : CoefOwner) (b : Nat) (old : Int) : State :=
  let c := s.coefOf o
  let s := s.setCoef o { c with fixed := kvDel c.fixed b }
  let new := s.expNow o b
  if new = old ∧ (s.expField o b).isNone then s else s.setCoef o ((s.coefOf o).rehold b old new)

/-- Coefficients outside the dimensions of their block are gone (R90). -/
def State.trimCoefs (s : State) (o : CoefOwner) : State :=
  let c := s.coefOf o
  s.setCoef o { c with elems := c.elems.filter (fun p => let d := s.dimsOf o p.1.1; decide (p.1.2.1 < d.1 ∧ p.1.2.2 < d.2)) }

/-- A profile limit of an axis changed: a plan in force is formed anew in the next due period (R161). -/
def State.limitWritten (s : State) (n : Nat) : State :=
  match s.axis? n with
  | some a => if a.st = .run ∨ a.st = .stopRamp then s.updMot n (fun m => { m with replan := true }) else s
  | none => s

/-- A field of Table 9.6 was written (R402, R405, R406). -/
def State.timeWritten (s : State) (k : FieldKey) (old new : Nat) : State :=
  let mine := k.lane == Lane.num s.lane || k.lane == 0xFF
  if old = new ∧ k.row ≠ 24 then s
  else if k.row = 0 then
    (if mine then { s with time := { s.time with portState := if new = 1 then 1 else 3 } } else s)
  else if 8 ≤ k.row ∧ k.row ≤ 13 then
    (if s.tf 0 0 = 1 then { s with time := { s.time with portState := 1, master := none, masterData := [] } } else s)
  else if (k.row = 23 ∨ k.row = 24) ∧ mine then s.ppsSet k.unit
  else s

/-- A field of Table 12.3 was written (R480, R481, R488, R489). -/
def State.outputWritten (s : State) (k : FieldKey) (old : Nat) : State :=
  if k.lane ≠ Lane.num s.lane then s
  else if k.row = 0 then s.sdoSupplySet old
  else if k.row = 6 then s.gateInit k.unit
  else s.settle

/-- EVT_BASE, EVT_SIZE or EVT_IDX_ADDR was written: the host ring starts anew (R551). -/
def State.ringWritten (s : State) : State :=
  { s with events := { s.events with w := 0, r := 0, dropped := 0, unannounced := false } }

/-- What a written field changes besides its value; `oldExp`: the exponent in force before, for the fields of R88. -/
def State.fieldHook (s : State) (k : FieldKey) (old new : Nat) (oldExp : Int) : State :=
  match k.table with
  | 0x0208 =>
    if k.row = 4 ∨ k.row = 5 then s.expWritten (.axis k.target) k.elem oldExp
    else if k.row = 0 then s.trimCoefs (.axis k.target) else s
  | 0x0209 =>
    if k.row = 2 ∨ k.row = 3 then s.expWritten (.group (tNum k.target)) 8 oldExp
    else if k.row = 1 then s.trimCoefs (.group (tNum k.target)) else s
  | 0x0405 => if k.row ≤ 5 then s.limitWritten k.target else s
  | 0x0509 =>
    if k.row = 24 ∧ new = 1 then s.updAxis k.target (fun a => { a with dec := { a.dec with dirSupp := 0 } }) else s
  | 0x0704 => if k.row ≤ 1 then s.followLinks else s
  | 0x080F => if k.row = 0 then s.checkStart else s
  | 0x0906 => s.timeWritten k old new
  | 0x0C03 => s.outputWritten k old
  | 0x0E10 => if k.row ≤ 2 then s.ringWritten else s
  | _ => s

/-- The exponent in force that a field of R88 governs. -/
def State.expOfField (s : State) (k : FieldKey) : Int :=
  if k.table = 0x0208 then s.expNow (.axis k.target) k.elem else if k.table = 0x0209 then s.expNow (.group (tNum k.target)) 8 else 0

/-- One field takes its value. -/
def State.setField (s : State) (k : FieldKey) (v : BitVec 64) : State :=
  let old := s.fld k.target k.table k.row k.elem k.unit k.lane
  let e := s.expOfField k
  let s := { s with cfg := { s.cfg with active := kvSet s.cfg.active k v } }
  s.fieldHook k old v.toNat e

/-- The values of a FIELD_WRITE take effect in item order (R569). -/
def State.applyFields (s : State) (l : List (FieldKey × BitVec 64)) : State := l.foldl (fun s p => s.setField p.1 p.2) s

end Sys2Proof.Machine
end

