-- ==== Sys2Proof/Machine/NodeOps.lean ====
section
/-!
DEFINITION. What the voice lane sends to nodes in the arbitrating window (R235, R247, R313), and the network opcodes
(R576 to R581).
-/
namespace Sys2Proof.Machine

/-! ### Arbitrating window -/

/-- The state as a coming map makes it, for the SCHEDULEs that announce it (R235). -/
def State.schedView (s : State) : State :=
  match s.order.mapPending with
  | some p => { s with cfg := { s.cfg with active := p.fields.foldl (fun l f => kvSet l f.1 f.2) s.cfg.active, map := p.map, nodes := p.nodes } }
  | none => s

/-- An ACYC_DOWN payload goes to a node on a channel (R247, R298). -/
def State.sendAcyc (s : State) (ch : Channel) (i : Nat) (pay : List Byte) : State :=
  let b := i / 8
  if s.speaks then
    s.send (.frame (s.starPort ch b) (frame { s.hdr 5 (chNum ch) b (i % 8) with epoch := s.lanes.epoch.toNat } pay))
  else s

/-- The PORT_DELAY of a node on a channel as the voice lane holds it: measured by its own star (R313); a foreign star's value is
free, since the manual gives no message that carries it. -/
def State.portDelayOf (s : State) (ch : Channel) (i : Nat) : Option Nat × State :=
  if s.hosts ch then ((s.pos (i / 8) (i % 8)).delay, s)
  else
    let (k, s) := s.draw
    (some ((Config.openWord k).toNat % 501), s)

/-- The SCHEDULE of a changed node goes out on both channels (R235, R313). -/
def State.sendSchedule (s : State) (r : NodeRt) : State :=
  let v := s.schedView
  match v.place? r.node with
  | none => s
  | some p =>
    let s := match r.schedSeq with
      | some _ => s
      | none => s.updNode r.node (fun x => { x with schedSeq := some x.seq, seq := x.seq + 1 })
    let r := (s.node? r.node).getD r
    s.channels.foldl (fun s ch =>
      let (d, s) := s.portDelayOf ch r.node
      match d with
      | some d =>
        (s.sendAcyc ch r.node (v.schedPayload r p d)).updNode r.node (fun x =>
          { x with portDelay := x.portDelay.filter (fun q => q.1 != ch) ++ [(ch, d)] })
      | none => s) s

/-- The service payload of a request (Table 6.8). -/
def NodeReq.payload (q : NodeReq) : List Byte := [if q.write then 3 else 2, q.seq] ++ toBe 2 q.index.toNat ++ q.bytes

/-- A request is sent on both channels. -/
def State.sendReq (s : State) (q : NodeReq) : State := s.channels.foldl (fun s ch => s.sendAcyc ch q.node q.payload) s

/-- One request changed, by TAG and node. -/
def State.updReq (s : State) (q : NodeReq) (f : NodeReq → NodeReq) : State :=
  let g (x : NodeReq) : NodeReq := if x.tag = q.tag ∧ x.node = q.node ∧ x.outcome = 0xFE then f x else x
  { s with services := { s.services with reqs := s.services.reqs.map g } }

/-- ARBITRATING_WINDOW_START (R235, R247, R313, R579): SCHEDULEs that are not confirmed and requests that were not sent go out;
requests that wait count the window. -/
def execArbitratingWindowStart (s : State) : Host.Outcome State Fault Refusal :=
  let s := { s with clock := { s.clock with interval := .arbitrating } }
  .next (if !s.computing || s.net.st != .sync then s
    else
      let s := (s.nodes.filter (fun r => r.schedPending && !r.confirmed)).foldl State.sendSchedule s
      (s.services.reqs.reverse.filter (fun q => q.outcome == 0xFE)).foldl (fun s q =>
        if q.sent then s.updReq q (fun x => { x with windows := x.windows + 1 })
        else
          let seq := ((s.node? q.node).map (·.seq)).getD 0
          let s := s.updNode q.node (fun r => { r with seq := r.seq + 1 })
          let s := s.updReq q (fun x => { x with sent := true, seq := seq, windows := 0 })
          s.sendReq { q with seq := seq }) s)

/-- NODE_REQUEST_TIMEOUT (R247, R579): resent once under its SEQ, then no answer. -/
def execNodeRequestTimeout (tag : BitVec 32) (s : State) : Host.Outcome State Fault Refusal :=
  .next (match s.services.reqs.find? (fun q => q.tag == tag && q.outcome == 0xFE && q.sent) with
    | some q =>
      if q.windows < 8 then s
      else if q.resent then s.updReq q (fun x => { x with outcome := 0x03 })
      else (s.updReq q (fun x => { x with resent := true, windows := 0 })).sendReq q
    | none => s)

/-! ### Opcodes -/

/-- FEEDBACK_STATUS (R576). -/
def checkFeedbackStatus (s : State) (r : Req) : Verdict :=
  let n := r.target.toNat
  if !isAxisT n || r.payload.length ≠ 0 then refuse stRange
  else match s.axis? n with
    | none => refuse stState
    | some a =>
      let d := a.dec
      { rsp := toLe 4 d.illTotal.toNat ++ [BitVec.ofNat 8 (min 255 (d.illWin.map (·.2)).sum), BitVec.ofNat 8 (min 255 d.misCount),
          BitVec.ofNat 8 (b2n (d.dir ≠ 0) + 2 * b2n (0 < d.dir) + 4 * b2n d.deferred.isSome), BitVec.ofNat 8 d.lastRef]
          ++ toLe 4 ((d.index.map (·.toNat)).getD 0) ++ toLe 4 (d.pos.toNat / 65536) ++ toLe 2 (d.pos.toNat % 65536)
          ++ toLe 2 (min 0xFFFF d.since) ++ toLe 4 (ofSigned 32 d.speed) }

/-- BRANCH_CTRL checked (R578). -/
def checkBranchCtrl (s : State) (r : Req) : Verdict :=
  let p := r.payload
  if !isNoneT r.target.toNat || p.length ≠ 4 || 1 < byteAt p 0 || 7 < byteAt p 1 || byteAt p 2 = 0 || 4 < byteAt p 2 then refuse stRange
  else
    let host : Lane := if byteAt p 0 = 0 then .a else .b
    if host ∈ s.lanes.vset && !(byteAt p 0 = 1 && s.simplex) then {} else refuse stState

/-- BRANCH_CTRL takes effect in the lane that hosts the channel. -/
def State.branchCtrlEffect (s : State) (r : Req) : State :=
  let p := r.payload
  s.branchCtrl (if byteAt p 0 = 0 then .x else .y) (byteAt p 1) (byteAt p 2) (byteAt p 3)

/-- A request for a node is outstanding, or accepted and coming (R579). -/
def State.reqOut (s : State) (i : Nat) : Bool :=
  s.services.reqs.any (fun q => q.node == i && q.outcome == 0xFE)
    || s.order.accepted.any (fun a => match a.body with
      | .cmd r => (r.opcode == 0x0401 || r.opcode == 0x0402) && nodeOfT r.target.toNat == i
      | _ => false)

/-- NODE_PARAM_READ and NODE_PARAM_WRITE checked (R579). -/
def checkNodeParam (s : State) (r : Req) : Verdict :=
  let t := r.target.toNat
  let n := r.payload.length
  let form := if r.opcode = 0x0401 then decide (n = 3 ∧ 1 ≤ byteAt r.payload 2 ∧ byteAt r.payload 2 ≤ 232) else decide (5 ≤ n ∧ n ≤ 240)
  if !isNodeT t || !form then refuse stRange
  else if s.reqOut (nodeOfT t) then refuse stBusy 16
  else { status := stAccepted }

/-- A node parameter request takes effect: it joins the last 32. -/
def State.nodeParamEffect (s : State) (r : Req) : State :=
  let w := r.opcode == 0x0402
  let q : NodeReq := { tag := r.tag, node := nodeOfT r.target.toNat, write := w, index := BitVec.ofNat 16 (le r.payload 0 2),
                       bytes := if w then r.payload.drop 4 else [BitVec.ofNat 8 (byteAt r.payload 2)] }
  { s with services := { s.services with reqs := (q :: s.services.reqs).take 32 } }

/-- NODE_RESULT (R579). -/
def checkNodeResult (s : State) (r : Req) : Verdict :=
  if !isNoneT r.target.toNat || r.payload.length ≠ 4 then refuse stRange
  else match s.services.reqs.find? (fun q => q.tag.toNat == le r.payload 0 4) with
    | some q => { rsp := [q.outcome, BitVec.ofNat 8 q.data.length] ++ toLe 2 q.index.toNat ++ q.data.take 236 }
    | none => { rsp := [0xFF, 0, 0, 0] }

/-- NODE_REPORT_READ (R580). -/
def checkNodeReport (s : State) (r : Req) : Verdict :=
  let t := r.target.toNat
  if !isNodeT t || r.payload.length ≠ 1 then refuse stRange
  else
    let x := (s.node? (nodeOfT t)).getD {}
    let d := (x.report.drop (byteAt r.payload 0)).take 232
    { rsp := toLe 4 (x.reportCycle.getD 0) ++ [BitVec.ofNat 8 d.length, 0, 0, 0] ++ d }

/-- NODE_EVENTS_READ (R581). -/
def checkNodeEvents (s : State) (r : Req) : Verdict :=
  if !isNoneT r.target.toNat || r.payload.length ≠ 4 then refuse stRange
  else
    let want := BitVec.ofNat 32 (le r.payload 0 4)
    let next := s.services.nextSeq
    let ring := s.services.events.reverse
    let oldest := next - BitVec.ofNat 32 ring.length
    let skip := if (next - want).toNat ≤ ring.length then (want - oldest).toNat
      else if (next - want).toNat < 2 ^ 31 then 0 else ring.length
    let l := (ring.drop skip).take 7
    { rsp := toLe 4 (match l.getLast? with | some e => (e.seq + 1).toNat | none => next.toNat) ++ [BitVec.ofNat 8 l.length, 0, 0, 0]
        ++ l.flatMap (fun e => toLe 4 e.seq.toNat ++ e.bytes) }

end Sys2Proof.Machine
end

