-- ==== Sys2Proof/Machine/LocalOps.lean ====
section
/-!
DEFINITION. The local commands (R563): those that read state or change only what belongs to the lane that owns the mailbox, apart
from the reads whose chapters hold them.
-/
namespace Sys2Proof.Machine

/-- The command names nothing and carries nothing. -/
def plainReq (r : Req) : Bool := isNoneT r.target.toNat && r.payload.length == 0

/-- IDENTIFY (Table 15.5). The boot ROM alone reports steward release 0x0000 (R619). -/
def checkIdentify (s : State) (r : Req) : Verdict :=
  if !plainReq r then refuse stRange
  else
    { rsp := toLe 2 0x0160 ++ [0xB0, 0] ++ toLe 2 (if s.power.noImage then 0 else 0x0302) ++ toLe 2 0x0104
        ++ [BitVec.ofNat 8 ((s.lanes.addr.map Lane.num).getD 0xFF), BitVec.ofNat 8 (roleCode s.lanes.role), BitVec.ofNat 8 s.config,
            BitVec.ofNat 8 (b2n s.lanes.spareEn + 2 * b2n s.power.head)] ++ toLe 8 s.power.chipId.toNat }

/-! ### FAULT_LIST (R572) -/

/-- An entry of FAULT_LIST (Table 15.4). -/
def faultEntry (inst code cls loc left axis : Nat) : List Byte :=
  toLe 4 inst ++ toLe 2 (code + 4096 * cls) ++ toLe 2 loc ++ toLe 2 left ++ [BitVec.ofNat 8 axis, 0]

/-- Every F1 under handling, in instance order, then every active F2 source, in code order and then location order. -/
def State.faultEntries (s : State) : List (List Byte) :=
  (s.faults.timers.map (fun t => faultEntry t.inst.toNat t.rep.code 1 t.rep.loc.word (t.expiry - s.clock.cycle) (t.rep.loc.axis.getD 0xFF)))
    ++ (sortBy (fun (a : Active) => a.code * 65536 + a.loc.word) (s.faults.active.filter (fun a => a.cls == .f2))).map
        (fun a => faultEntry a.inst.toNat a.code 2 a.loc.word 0xFFFF (a.loc.axis.getD 0xFF))

/-- FAULT_LIST. -/
def checkFaultList (s : State) (r : Req) : Verdict :=
  if !isNoneT r.target.toNat || r.payload.length ≠ 2 then refuse stRange
  else
    let l := s.faultEntries
    let part := (l.drop (le r.payload 0 2)).take 19
    { rsp := toLe 2 l.length ++ [BitVec.ofNat 8 part.length] ++ part.flatten }

/-! ### Time and Ethernet (R584, R585) -/

/-- TIME_READ: one instant within the present cycle, which the manual leaves open: the time since the cycle's start on each clock is
free. -/
def timeRead (s : State) (r : Req) : Verdict × State :=
  if !plainReq r then (refuse stRange, s)
  else
    let (k, s) := s.draw
    let off := (Config.openWord k).toNat % (max 1 s.tNs)
    let (k, s) := s.draw
    let phc := ((s.time.latches.head?).map (·.2)).getD 0 + ((Config.openWord k).toNat % (2 * max 1 s.tNs) : Nat)
    let m := s.time.map
    ({ rsp := toLe 6 (phc / 1000000000).toNat ++ toLe 4 (phc % 1000000000).toNat ++ ([0, 0] : List Byte) ++ toLe 8 s.clock.cycle ++ toLe 4 off
        ++ toLe 8 (s.mapped s.clock.cycle off).toNat ++ toLe 4 (ofSigned 32 m.ratio)
        ++ [BitVec.ofNat 8 (b2n m.valid + 2 * b2n m.holdover + 4 * b2n m.step),
            BitVec.ofNat 8 (match s.time.servo with | .unlocked => 0 | .acquiring => 1 | .locked => 2 | .holdover => 3), (0 : Byte), (0 : Byte)] }, s)

/-- Both bytes of the EtherType of a frame being filled are 0x88F7. -/
def ptpType (d : List (Nat × Byte)) : Bool := kvGet d 12 == some 0x88 && kvGet d 13 == some 0xF7

/-- ETH_SEND. -/
def ethSend (s : State) (r : Req) : Verdict × State :=
  let p := r.payload
  let len := le p 0 2
  let o := le p 2 2
  let bs := p.drop 4
  let t := s.time
  let data := (List.range bs.length).foldl (fun d i => kvSet d (o + i) (bs.getD i 0)) t.ethTx
  if !isNoneT r.target.toNat || p.length < 5 || len < 60 || 1514 < len || len < o + bs.length
    || t.ethTxLen.any (fun n => n ≠ len) || ptpType data then (refuse stRange, s)
  else if t.ethBusy then (refuse stBusy 1, s)
  else if s.tf 0 0 ≠ 1 || !t.linkUp then (refuse stState, s)
  else
    let whole := (List.range len).all (fun i => (kvGet data i).isSome)
    let s := { s with time := { t with ethTx := data, ethTxLen := some len, ethBusy := whole } }
    ({}, if whole then s.send (.eth ((List.range len).map (fun i => (kvGet data i).getD 0))) else s)

/-- ETH_RECV: a response that returns the frame's last byte removes the frame. -/
def ethRecv (s : State) (r : Req) : Verdict × State :=
  if !isNoneT r.target.toNat || r.payload.length ≠ 2 then (refuse stRange, s)
  else
    let o := le r.payload 0 2
    match s.time.ethRx with
    | [] => ({ rsp := toLe 2 0 ++ toLe 2 o ++ toLe 2 0 ++ [0, 0] }, s)
    | f :: rest =>
      let part := (f.drop o).take 232
      let last := decide (o < f.length) && decide (f.length ≤ o + part.length)
      ({ rsp := toLe 2 f.length ++ toLe 2 o ++ toLe 2 (rest.length + 1) ++ [0, 0] ++ part },
       if last then { s with time := { s.time with ethRx := rest } } else s)

/-! ### Watermark (R463, R466) -/

/-- A byte that WATERMARK_PROGRAM may blow (R466, Table 11.5): LANE_DENY, FUSE_FLAGS[1] and the four sets. -/
def fuseMask (o : Nat) : Byte := if o = 5 then 0xFF else if o = 4 then 0x02 else if 0x80 ≤ o ∧ o < 0x280 then 0xFF else 0

/-- WATERMARK_READ. -/
def checkWatermarkRead (s : State) (r : Req) : Verdict :=
  let o := le r.payload 0 2
  let n := byteAt r.payload 2
  if !isNoneT r.target.toNat || r.payload.length ≠ 3 || n < 1 || 224 < n || 2048 < o + n then refuse stRange
  else { rsp := s.fuses o n }

/-- WATERMARK_PROGRAM: a fuse changes only from 0 to 1. -/
def watermarkProgram (s : State) (r : Req) : Verdict × State :=
  let o := le r.payload 0 2
  let n := byteAt r.payload 2
  let bs := r.payload.drop 4
  if !isNoneT r.target.toNat || r.payload.length ≠ 4 + n || n < 1 || 200 < n || 2048 < o + n then (refuse stRange, s)
  else if bit (s.fuses 4 1 |>.headD 0).toNat 1 then (refuse stDenied, s)
  else if (List.range n).any (fun i => bs.getD i 0 &&& ~~~(fuseMask (o + i)) ≠ 0) then (refuse stDenied, s)
  else if !s.stopped then (refuse stState, s)
  else
    let w := (List.range n).foldl (fun w i =>
      let v := (kvGet w (o + i)).getD 0 ||| bs.getD i 0
      if v = 0 then w else kvSet w (o + i) v) s.safety.watermark
    let s := { s with safety := { s.safety with watermark := w } }
    ({ rsp := s.fuses o n }, s)

/-! ### Store, firmware and standby (R588 to R590, R599, R619) -/

/-- STORE_STATUS (Table 15.14). -/
def checkStoreStatus (s : State) (r : Req) : Verdict :=
  if !plainReq r then refuse stRange
  else
    let p := s.power
    let flags := b2n p.saving.isSome + 2 * b2n (p.fw.any (fun f => !f.checking)) + 4 * b2n (p.fw.any (·.checking))
    { rsp := [BitVec.ofNat 8 flags, BitVec.ofNat 8 ((s.newest (fun _ => true)).getD 0xFF), BitVec.ofNat 8 (p.running.getD 0xFF), p.lastResult]
        ++ toLe 4 p.lastSave.toNat ++ toLe 2 (p.slots.getD 0 {}).release.toNat ++ toLe 2 (p.slots.getD 1 {}).release.toNat }

/-- FW_OPEN. -/
def fwOpen (s : State) (r : Req) : Verdict × State :=
  let n := le r.payload 0 4
  if !isNoneT r.target.toNat || r.payload.length ≠ 4 || n < 1 || 2097152 < n then (refuse stRange, s)
  else if s.power.fw.isSome then (refuse stBusy (Config.retryAfter s.clock.cycle), s)
  else
    let (k, s) := s.draw
    ({}, { s with power := { s.power with fw := some { length := n, last := s.clock.cycle, id := k } } })

/-- FW_WRITE. -/
def fwWrite (s : State) (r : Req) : Verdict × State :=
  let o := le r.payload 0 4
  let bs := r.payload.drop 4
  if !isNoneT r.target.toNat || r.payload.length < 5 then (refuse stRange, s)
  else match s.power.fw with
    | none => (refuse stState, s)
    | some f =>
      if f.checking then (refuse stState, s)
      else if f.length < o + bs.length then (refuse stRange, s)
      else
        let d := (List.range bs.length).foldl (fun d i => kvSet d (o + i) (bs.getD i 0)) f.data
        ({}, { s with power := { s.power with fw := some { f with data := d, last := s.clock.cycle } } })

/-- FW_CLOSE: the CRC over the image; a byte that no part gave is free. -/
def fwClose (s : State) (r : Req) : Verdict × State :=
  if !isNoneT r.target.toNat || r.payload.length ≠ 4 then (refuse stRange, s)
  else match s.power.fw with
    | none => (refuse stState, s)
    | some f =>
      let img := (List.range f.length).map (fun i => (kvGet f.data i).getD (Config.openByte f.id i))
      if f.checking then (refuse stState, s)
      else if crc32 img ≠ le r.payload 0 4 then (refuse stIntegrity, { s with power := { s.power with lastResult := 4 } })
      else ({ status := stAccepted }, { s with power := { s.power with fw := some { f with checking := true } } })

/-- STANDBY: served while the cluster is stopped; entry follows 1 ms after the response. -/
def standby (s : State) (r : Req) : Verdict × State :=
  if !plainReq r then (refuse stRange, s)
  else if !s.stopped then (refuse stState, s)
  else ({}, { s with power := { s.power with standbyDue := true } })

/-! ### Lane and cluster (R262, R372) -/

/-- CLUSTER_START. -/
def clusterStart (s : State) (r : Req) : Verdict × State :=
  if !plainReq r then (refuse stRange, s)
  else if s.stopped && s.power.steward then
    ({}, { s with net := { s.net with spareWokenThisStart := false } }.startCluster)
  else (refuse stState, s)

/-- LANE_REJOIN (R372): the lane is couched; COUCH_REQ carries the CRCs of the kernels it holds. -/
def laneRejoin (s : State) (r : Req) : Verdict × State :=
  if !plainReq r then (refuse stRange, s)
  else if s.lanes.role != .removed && s.lanes.role != .isolated then (refuse stState, s)
  else if s.lanes.couch.active then (refuse stBusy (Config.retryAfter s.clock.cycle), s)
  else ({ status := stAccepted }, s.beginCouch s.couchSource [])

end Sys2Proof.Machine
end

