-- ==== Sys2Proof/Machine/Vote.lean ====
section
/-!
DEFINITION. The output vote: digests, VOTE and EXCHANGE, the two evaluations, realignment, and lanes that are lost or isolated
(R337 to R344, R350 to R354).
-/
namespace Sys2Proof.Machine

/-! ### Digests (R337, R338) -/

/-- An axis under realignment is left out of every digest (R343). -/
def State.realigning (s : State) (n : Nat) : Bool := s.lanes.realign.any (fun p => p.1 == n)

/-- What an engine digest covers of an axis: its output area and the hardware part of its snapshot entry. -/
def State.axisContent (s : State) (a : Axis) : List Byte :=
  (wordsN 0 a.out 0 0x1C).flatMap (fun w => toBe 4 w.toNat) ++ s.hwPart a

/-- The digest of an engine: its due axes in slot order (R337). -/
def State.engineDigest (s : State) (e : Nat) : BitVec 64 :=
  Config.openDigest ((sortBy (fun (a : Axis) => a.place.slot)
    (s.axes.filter (fun a => s.due a && a.place.engine == e && !s.realigning a.entry.axis))).flatMap s.axisContent)

/-- The bytes of a field value list, for digests. -/
def fieldBytes (l : List (FieldKey × BitVec 64)) : List Byte :=
  l.flatMap (fun p => toBe 2 p.1.target ++ toBe 2 p.1.table ++ [BitVec.ofNat 8 p.1.row, BitVec.ofNat 8 p.1.elem, BitVec.ofNat 8 p.1.unit,
    BitVec.ofNat 8 p.1.lane] ++ toBe 8 p.2.toNat)

/-- CONTENT_CRC of the settings copy restored at the last start, 0 for factory defaults (R615). -/
def State.restoredCrc (s : State) : BitVec 64 :=
  match s.power.restored.bind (fun i => s.power.copies[i]?) with
  | some c => Config.openDigest (fieldBytes c.cfg.active)
  | none => 0

/-- What the steward digest covers (R337, R615): the bytes it adds to the downlinks, the records and snapshot header of the cycle,
the command order as far as it is applied, kernel outcomes, and in the first cycle of a voting lane the settings it restored. -/
def State.stewardContent (s : State) : List Byte :=
  (s.cfg.map.nodes.filter (fun e => s.nodeActive (nodeIndex e))).flatMap (fun e =>
      (s.downPayload e).take 4 ++ (List.range 32).flatMap (fun k => toLe 8 (s.fld (nodeTgt e) 0x060E 8 k)))
    ++ s.events.fresh.flatMap EvRec.bytes ++ s.snapHeader 0 0 160 ++ toBe 8 s.order.nextSeq
    ++ s.kernels.held.flatMap (fun k => [BitVec.ofNat 8 k.id] ++ toBe 8 k.verifiedAt ++ toBe 4 (crc32 k.image))
    ++ (if s.clock.cycle ≤ 5 then toBe 8 s.restoredCrc.toNat else [])

/-- The steward digest. -/
def State.stewardDigest (s : State) : BitVec 64 := Config.openDigest s.stewardContent

/-- The total digest: CRC-64 of the 16 engine digests, then the steward digest (R337). -/
def State.totalDigest (s : State) : BitVec 64 :=
  crc64 ((List.range 16).flatMap (fun e => toBe 8 (s.engineDigest e).toNat) ++ toBe 8 s.stewardDigest.toNat)

/-- VOTE payload (Table 8.10). -/
def State.votePayload (s : State) : List Byte :=
  toBe 8 s.totalDigest.toNat ++ (List.range 16).flatMap (fun e => toBe 2 ((s.engineDigest e).toNat % 65536))
    ++ toBe 2 (s.stewardDigest.toNat % 65536)
    ++ [BitVec.ofNat 8 (laneMask (s.lanes.maps.map (·.1))), BitVec.ofNat 8 (laneMask s.lanes.vset)] ++ toBe 2 s.lanes.epoch.toNat

/-- VOTE_SEND (R337, R338): the own VOTE joins those of the cycle. -/
def State.sendVote (s : State) : State :=
  let v := s.votePayload
  let s := { s with lanes := { s.lanes with votes := s.lanes.votes.filter (fun p => p.lane != s.lane) ++ [{ lane := s.lane, vote := v }] } }
  if s.simplex then s else s.weirSend 0x04 none v

/-! ### Judgement (R339) -/

/-- Values of component `c` in a VOTE: engines 0 to 15, the steward tag 16. -/
def voteTag (v : List Byte) (c : Nat) : Nat := be v (8 + 2 * c) 2
def voteTotal (v : List Byte) : Nat := be v 0 8

/-- The VOTEs of the voting set. -/
def State.ballots (s : State) : List Present := s.lanes.votes.filter (fun p => p.lane ∈ s.lanes.vset)

/-- The TOTALs differ. -/
def State.differs (s : State) : Bool := decide (1 < (dedup' (s.ballots.map (fun p => voteTotal p.vote))).length)

/-- The majority value of a list of values. -/
def majorityOf (l : List Nat) : Option Nat := l.find? (fun v => decide (l.length < 2 * (l.filter (· == v)).length))

/-- Divergent lanes and whether it is undecided, for a component. -/
def State.judge (s : State) (c : Nat) : List Lane × Bool :=
  let bs := s.ballots
  if !s.differs then ([], false)
  else if (List.range 17).all (fun c => decide ((dedup' (bs.map (fun p => voteTag p.vote c))).length ≤ 1)) then ([], decide (c < 16))
  else match majorityOf (bs.map (fun p => voteTag p.vote c)) with
    | some v => ((bs.filter (fun p => voteTag p.vote c != v)).map (·.lane), false)
    | none => ([], true)

/-! ### VOTE, EXCHANGE (R339, R342) -/

/-- The digest of an axis in EXCHANGE. -/
def State.axisDigest (s : State) (a : Axis) : BitVec 64 := Config.openDigest (s.axisContent a)

/-- After the first mismatch of a cycle the lane marks it and sends EXCHANGE. -/
def State.mismatchFound (s : State) : State :=
  if s.lanes.mismatch || !s.differs then s
  else
    let was := s.lanes.divSeen
    let own := s.axes.map (fun a => (s.lane, a.entry.axis, s.axisDigest a))
    let s := { s with lanes := { s.lanes with mismatch := true, divSeen := true, exch := s.lanes.exch ++ own } }.irq7 was
    s.weirSend 0x08 none (own.flatMap (fun p => [BitVec.ofNat 8 p.2.1] ++ toBe 8 p.2.2.toNat))

/-- VOTE_RECEIVED (R326, R339, R342, R353): the VOTE of another lane of the voting set, or the trial of a lane that joins. A voice
lane that learns of a newer epoch, or of another voice of its own epoch at a lower address, stops its downlinks. -/
def execVoteReceived (port : Nat) (bytes : List Byte) (s : State) : Host.Outcome State Fault Refusal :=
  .next (match s.weirMsg 0x04 bytes with
    | some (l, count, p) =>
      if p.length = 46 ∧ count = s.clock.cycle % 65536 ∧ s.computing ∧ port ∉ s.lanes.weirWrong ∧ l ≠ s.lane
          ∧ (l ∈ s.lanes.vset ∨ (s.lanes.couch.trial ∧ s.lanes.couch.joiner = some l)) ∧ !(s.lanes.votes.any (fun v => v.lane == l)) then
        let s := { s with lanes := { s.lanes with votes := s.lanes.votes ++ [{ lane := l, vote := p }] } }
        let e := BitVec.ofNat 16 (be p 44 2)
        let stop := s.isVoice && (epochNewer e s.lanes.epoch
          || (e == s.lanes.epoch && l ∈ s.lanes.claims && decide (Lane.num l < Lane.num s.lane)))
        let s := if stop then { s with lanes := { s.lanes with voiceStop := true } } else s
        if l ∈ s.lanes.vset then s.mismatchFound else s
      else s
    | none => s)

/-- EXCHANGE_RECEIVED (R342). -/
def execExchangeReceived (port : Nat) (bytes : List Byte) (s : State) : Host.Outcome State Fault Refusal :=
  .next (match s.weirMsg 0x08 bytes with
    | some (l, _, p) =>
      if s.computing ∧ l ∈ s.lanes.vset ∧ l ≠ s.lane ∧ port ∉ s.lanes.weirWrong ∧ p.length % 9 = 0 then
        let new := (List.range (p.length / 9)).map (fun i => (l, byteAt p (9 * i), BitVec.ofNat 64 (be p (9 * i + 1) 8)))
        { s with lanes := { s.lanes with exch := s.lanes.exch.filter (fun x => x.1 != l) ++ new } }
      else s
    | none => s)

/-- Divergent lanes and whether an axis is undecided, by the exchange (R341, R342). -/
def State.judgeAxis (s : State) (n : Nat) : List Lane × Bool :=
  let l := (s.lanes.exch.filter (fun x => x.2.1 == n && x.1 ∈ s.lanes.vset)).map (fun x => (x.1, x.2.2.toNat))
  if (dedup' (l.map (·.2))).length ≤ 1 then ([], false)
  else match majorityOf (l.map (·.2)) with
    | some v => ((l.filter (fun x => x.2 != v)).map (·.1), false)
    | none => ([], true)

/-! ### Quick evaluation (R340, R350, R351, R354, R356) -/

/-- Lanes of the voting set whose VOTE of the cycle is here, this lane included (R350). -/
def State.heardNow (s : State) : List Lane := laneSort (s.lane :: s.ballots.map (·.lane))

/-- QUICK_EVALUATION: what the voice lane withholds, and the passing of voice. -/
def execQuickEvaluation (s : State) : Host.Outcome State Fault Refusal :=
  .next (if s.simplex || !s.voting || s.stopped then s
    else
      let s := s.mismatchFound
      let bad := (List.range 16).filter (fun e => let j := s.judge e; s.lane ∈ j.1 || j.2)
      let s := if s.isVoice then { s with lanes := { s.lanes with withheld := bad } } else s
      let here := s.heardNow
      match s.lanes.voice with
      | some v =>
        if v == s.lane || v ∈ here then s
        else if s.majority here then
          (match lowest here with | some w => s.passVoice w 1 | none => s)
        else if s.lanes.voiceAbsent && decide (s.lanes.holdN < s.lanes.holdH) then s.passVoice s.lane 3
        else s
      | none => s)

/-! ### Final evaluation (R341, R350, R354, R364, R370) -/

/-- Lanes present at the final evaluation: their VOTE came, or a VOTE says that they were heard (R350). -/
def State.heardFinal (s : State) : List Lane :=
  laneSort (s.heardNow ++ s.lanes.vset.filter (fun l => s.ballots.any (fun p => bit (byteAt p.vote 42) (Lane.num l))))

/-- A fault that every voting lane decides is passed on by the lowest address that stays (R341, R350). -/
def State.reportStay (s : State) (r : FaultRep) : State :=
  if lowest (s.lanes.vset.filter (fun l => !(s.lanes.leaving.any (fun p => p.1 == l)))) = some s.lane then
    { s with faults := { s.faults with reports := s.faults.reports ++ [{ r with lane := none }] } }
  else s

/-- Slots of an engine whose axes the exchange found divergent, or undecided, as masks. -/
def State.slotMasks (s : State) (e : Nat) : Nat × Nat :=
  (s.axes.filter (fun a => a.place.engine == e)).foldl (fun m a =>
    let j := s.judgeAxis a.entry.axis
    (m.1 + (if j.1.isEmpty then 0 else 2 ^ a.place.slot), m.2 + (if j.2 then 2 ^ a.place.slot else 0))) (0, 0)

/-- The outcome of the vote (R341, R342). -/
def State.voteOutcome (s : State) : State :=
  if !s.differs then s
  else
    let js := (List.range 17).map (fun c => (c, s.judge c))
    let found := js.filter (fun j => !j.2.1.isEmpty || j.2.2)
    let s := (found.filter (fun j => j.1 < 16)).foldl (fun s j =>
      let m := s.slotMasks j.1
      s.event 0x502 0xFF ([BitVec.ofNat 8 j.1, BitVec.ofNat 8 (laneMask j.2.1)] ++ toLe 2 m.1 ++ toLe 2 m.2)) s
    let lanes := laneSort (js.flatMap (fun j => j.2.1))
    let und := js.any (fun j => j.2.2)
    match lanes, und with
    | [l], false => (s.decideLeave l .removed 1).reportStay (mkFault 0x240 (locLane l))
    | _, _ =>
      let axes := (s.axes.map (·.entry.axis)).filter (fun n => let j := s.judgeAxis n; !j.1.isEmpty || j.2)
      let s := axes.foldl (fun s n =>
        (s.updAxis n (fun a => { a with divergent := true })).reportStay (mkFault 0x244 (locAxis n))) s
      if found.any (fun j => j.1 == 16) then s.reportStay (mkFault 0x245) else s

/-- The trial VOTE of a lane that joins: agreement with the majority in every component makes it vote from the next cycle (R370). -/
def State.trialResult (s : State) : State :=
  match s.lanes.couch.joiner with
  | some l =>
    if !s.lanes.couch.trial then s
    else match s.lanes.votes.find? (fun p => p.lane == l) with
      | some p =>
        let ok := (List.range 17).all (fun c => majorityOf (s.ballots.map (fun b => voteTag b.vote c)) == some (voteTag p.vote c))
        let s := { s with lanes := { s.lanes with couch := { s.lanes.couch with trial := false } } }
        if ok then
          let s := (s.decideJoin l).eventBody (s.couchBody l 4 0 [])
          { s with lanes := { s.lanes with couch := { s.lanes.couch with active := false, joiner := none },
                                           spareState := if l = .s then .voting else s.lanes.spareState } }
        else if l = s.lane then s.recouch
        else s
      | none => s
  | none => s

/-- FINAL_EVALUATION: presence, the vote's outcome, lanes that a lone voice lane drops, and a lane that joins. -/
def execFinalEvaluation (s : State) : Host.Outcome State Fault Refusal :=
  .next (if s.simplex || !s.computing then s
    else
      let here := s.heardFinal
      let maj := s.majority here
      let abs := s.lanes.vset.map (fun l => (l, if l ∈ here then 0 else (kvGet s.lanes.absent l).getD 0 + 1))
      let s := { s with lanes := { s.lanes with
        present := here, absent := abs, noMajority := if maj then 0 else s.lanes.noMajority + 1,
        voiceAbsent := (match s.lanes.voice with | some v => decide (v ∉ here) | none => true) } }
      let s := if s.isVoice && decide (2 ≤ s.lanes.noMajority) then
          (s.lanes.vset.filter (fun l => decide (l ∉ here))).foldl (fun s l =>
            (s.decideLeave l .removed 2).reportStay (mkFault 0x241 (locLane l))) s
        else s
      (s.mismatchFound.voteOutcome).trialResult)

/-- LANE_LOST (R350): absent in 2 consecutive final evaluations. -/
def execLaneLost (lane : Lane) (s : State) : Host.Outcome State Fault Refusal :=
  .next (if s.voting && lane != s.lane && decide (lane ∈ s.lanes.vset) && decide (2 ≤ (kvGet s.lanes.absent lane).getD 0)
      && !(s.lanes.leaving.any (fun p => p.1 == lane)) && (s.majority s.lanes.present || s.isVoice) then
      (s.decideLeave lane .removed 2).reportStay (mkFault 0x241 (locLane lane))
    else s)

/-- LANE_ISOLATED (R354): no majority at two final evaluations, and not voice. -/
def execLaneIsolated (s : State) : Host.Outcome State Fault Refusal :=
  .next (if s.voting && !s.isVoice && decide (2 ≤ s.lanes.noMajority) then
      (s.decideLeave s.lane .isolated 6).report (mkFault 0x242 (locLane s.lane))
    else s)

/-- REALIGN_RECEIVED (R343): the axis's state, kept for its adoption. -/
def execRealignReceived (axis : Nat) (image : AxisImage) (s : State) : Host.Outcome State Fault Refusal :=
  .next (if s.computing && !s.isVoice && s.realigning axis then
      { s with lanes := { s.lanes with realignData := kvSet s.lanes.realignData axis image } }
    else s)

/-- The state of an axis that REALIGN and a couch carry. -/
def Axis.image (a : Axis) : AxisImage := { law := a.law, coef := a.coef, ctx := a.ctx, dec := a.dec, mot := a.mot }

/-- The voice lane sends the state of an axis under realignment and names the adoption cycle, the second cycle after this one
(R343); every lane notes it. -/
def State.startRealign (s : State) (n : Nat) : State :=
  let s := { s with lanes := { s.lanes with realign := kvSet s.lanes.realign n (s.clock.cycle + 2) } }
  match s.axis? n with
  | some a => if s.isVoice then s.send (.realign n a.image) else s
  | none => s

/-- An adoption cycle has come: the axis runs on the state that REALIGN brought (R343). -/
def State.adopt (s : State) : State :=
  let now := (s.lanes.realign.filter (fun p => p.2 ≤ s.clock.cycle)).map (·.1)
  let s := now.foldl (fun s n =>
    match kvGet s.lanes.realignData n with
    | some i => s.updAxis n (fun a => { a with law := i.law, coef := i.coef, ctx := i.ctx, dec := i.dec, mot := i.mot, divergent := false })
    | none => s.updAxis n (fun a => { a with divergent := false })) s
  { s with lanes := { s.lanes with realign := s.lanes.realign.filter (fun p => s.clock.cycle < p.2),
                                   realignData := s.lanes.realignData.filter (fun p => decide (p.1 ∉ now)) } }

/-- The vote of the cycle that ends is done with. -/
def State.voteCycleEnd (s : State) : State :=
  { s with lanes := { s.lanes with votes := [], mismatch := false, exch := [], withheld := [] } }

end Sys2Proof.Machine
end

