-- ==== Sys2Proof/Machine/Commands.lean ====
section
/-!
DEFINITION. Mailbox commands from the doorbell to their effect: the checks of the lane that owns the mailbox (R542), local commands
(R563, R564), acceptance at the command cut (R29 to R33, R543, R544), what acceptance holds, the final response (R546), and the
effect at the effective cycle (R30).
-/
namespace Sys2Proof.Machine

/-! ### Opcodes (Tables 15.5 to 15.14, R561) -/

/-- Class of an opcode, whether it is a local command, and whether that is a status read. -/
structure OpInfo where
  cls : Nat
  loc : Bool
  rd : Bool
deriving DecidableEq, Repr

/-- Local read, local command, and a command of the command order. -/
def opRead : OpInfo := ⟨3, true, true⟩
def opLocal : OpInfo := ⟨3, true, false⟩
def opOrder (c : Nat) : OpInfo := ⟨c, false, false⟩

/-- Every opcode of the CN160. -/
def opInfo (op : Nat) : Option OpInfo :=
  match op with
  | 0x0001 => some opRead | 0x0002 => some (opOrder 2) | 0x0003 => some opRead | 0x0004 => some (opOrder 2) | 0x0005 => some (opOrder 2)
  | 0x0006 => some opLocal | 0x0007 => some (opOrder 2) | 0x0008 => some (opOrder 0) | 0x0009 => some (opOrder 1) | 0x000A => some opRead
  | 0x000B => some (opOrder 2) | 0x000C => some (opOrder 3)
  | 0x0100 => some (opOrder 2) | 0x0101 => some (opOrder 2) | 0x0102 => some (opOrder 1) | 0x0103 => some (opOrder 1)
  | 0x0104 => some (opOrder 0) | 0x0105 => some (opOrder 0) | 0x0106 => some (opOrder 0) | 0x0107 => some (opOrder 1) | 0x0108 => some (opOrder 1)
  | 0x0110 => some (opOrder 2) | 0x0111 => some (opOrder 2) | 0x0112 => some (opOrder 2) | 0x0118 => some (opOrder 2) | 0x0119 => some opRead
  | 0x0120 => some (opOrder 3) | 0x0121 => some (opOrder 3) | 0x0122 => some (opOrder 3) | 0x0123 => some (opOrder 3) | 0x0124 => some opRead
  | 0x0200 => some (opOrder 1) | 0x0201 => some (opOrder 1) | 0x0202 => some (opOrder 1) | 0x0203 => some (opOrder 1)
  | 0x0204 => some (opOrder 1) | 0x0205 => some (opOrder 1) | 0x0206 => some (opOrder 1)
  | 0x0300 => some opRead
  | 0x0400 => some (opOrder 2) | 0x0401 => some (opOrder 3) | 0x0402 => some (opOrder 3) | 0x0403 => some opRead | 0x0404 => some opRead
  | 0x0405 => some opRead
  | 0x0500 => some (opOrder 2) | 0x0501 => some (opOrder 3) | 0x0502 => some (opOrder 2) | 0x0503 => some opLocal
  | 0x0600 => some opRead | 0x0601 => some opLocal | 0x0602 => some opRead
  | 0x0700 => some (opOrder 2) | 0x0701 => some (opOrder 2) | 0x0702 => some (opOrder 2) | 0x0703 => some (opOrder 1) | 0x0704 => some (opOrder 0)
  | 0x0800 => some (opOrder 1) | 0x0801 => some (opOrder 0) | 0x0802 => some (opOrder 0) | 0x0803 => some opRead | 0x0804 => some opLocal
  | 0x0900 => some (opOrder 3) | 0x0901 => some opRead | 0x0902 => some opLocal | 0x0903 => some opLocal | 0x0904 => some opLocal
  | 0x0905 => some opLocal
  | _ => none

/-! ### Responses (R539, R546) -/

/-- The mailbox a command came from at this lane. -/
def Req.box (r : Req) : Option Nat := match r.origin with | .mailbox n => some n | _ => none

/-- The response area of a command (Table 14.10), over what it held. -/
def responseBytes (old : List Byte) (r : Req) (v : Verdict) (eff : Nat) : List Byte :=
  patch (patch old 0 (toLe 2 r.opcode ++ [BitVec.ofNat 8 v.status, 0] ++ toLe 4 r.tag.toNat ++ toLe 2 v.rsp.length ++ toLe 2 v.aux ++ toLe 4 eff))
    16 v.rsp

/-- The final response: it is written, the mailbox enters DONE, and vector 0 is raised, in that order (R546). -/
def State.respond (s : State) (r : Req) (v : Verdict) (eff : Nat) : State :=
  match r.box with
  | some n =>
    let done (b : Mailbox) : Mailbox := { b with st := .done, rsp := responseBytes b.rsp r v eff }
    { s with host := { s.host with boxes := modAt s.host.boxes n done } }.irq 0
  | none => s

/-- A mailbox enters WAIT (Table 14.12). -/
def State.boxWait (s : State) (r : Req) : State :=
  match r.box with
  | some n => let w (b : Mailbox) : Mailbox := { b with st := .wait }; { s with host := { s.host with boxes := modAt s.host.boxes n w } }
  | none => s

/-- A refusal: the final response here, or passed back to the lane that forwarded the command (R545). -/
def State.turnAway (s : State) (h : Held) (v : Verdict) (eff : Nat) : State :=
  match h.req.origin with
  | .mailbox _ => s.respond h.req v eff
  | .forwarded l n => s.send (.refusal l n (BitVec.ofNat 8 v.status) v.aux v.rsp eff)
  | .internal => s

/-! ### Checks at acceptance (R29, R33, R538) -/

/-- The requested effective cycle (R538). -/
def askedCycle (now : Nat) (c : BitVec 32) : Int :=
  let d := (c - BitVec.ofNat 32 now).toNat
  if d ≤ 2 ^ 31 then (now + d : Nat) else (now : Int) + d - 2 ^ 32

/-- The effective cycle of a command accepted before the cut of this cycle (R31, R33); none for a request that comes too late. -/
def State.effOf (s : State) (r : Req) : Option Nat :=
  let first := s.clock.cycle + 1
  if r.cls = 0 || !r.flags.getLsbD 0 then some first
  else
    let c := askedCycle s.clock.cycle r.cycle
    if (first : Int) ≤ c then some c.toNat else none

/-- CLUSTER_STOP checked: every axis is OFF at the effective cycle (Table 15.5). -/
def checkClusterStop (s : State) (r : Req) (eff : Nat) : Verdict :=
  if !plainReq r then refuse stRange
  else if s.axes.all (fun a => s.stateAt a.entry.axis eff == .off) then {} else refuse stState

/-- FAULT_ACK checked: only its form (R509). -/
def checkFaultAck (r : Req) : Verdict := if isNoneT r.target.toNat && r.payload.length == 4 then {} else refuse stRange

/-- FAULT_CLEAR checked (R514). -/
def checkFaultClear (s : State) (r : Req) : Verdict :=
  if !plainReq r then refuse stRange else if s.clearBlocked then refuse stFaultLock else {}

/-- FAULT_RAISE checked (R520). -/
def checkFaultRaise (r : Req) : Verdict :=
  if (isAxisT r.target.toNat || isNoneT r.target.toNat) && r.payload.length == 1 && decide (byteAt r.payload 0 ≤ 1) then {} else refuse stRange

/-- The lane that a TARGET names. -/
def laneT (r : Req) : Lane := laneOf (tNum r.target.toNat)

/-- VOICE_MOVE checked (R355, Table 15.10). -/
def checkVoiceMove (s : State) (r : Req) : Verdict :=
  if !isLaneT r.target.toNat || r.payload.length ≠ 0 then refuse stRange
  else if laneT r ∈ s.lanes.vset ∧ s.lanes.voice ≠ some (laneT r) then {} else refuse stState

/-- SPARE_REFRESH checked (R361, Table 15.10). -/
def checkSpareRefresh (s : State) (r : Req) : Verdict :=
  if !plainReq r then refuse stRange
  else if s.config ≠ 3 ∨ s.lanes.spareState ≠ .dormant then refuse stState
  else if s.lanes.couch.active then refuse stBusy (Config.retryAfter s.clock.cycle)
  else {}

/-- SPARE_TAKEOVER checked (R583). -/
def checkSpareTakeover (s : State) (r : Req) : Verdict :=
  let t := r.target.toNat
  if !(isLaneT t || isNoneT t) || r.payload.length ≠ 0 then refuse stRange
  else if s.config ≠ 3 ∨ !(s.lanes.spareState == .dormant || s.lanes.spareState == .refresh) then refuse stState
  else if isLaneT t ∧ (laneT r ∉ s.lanes.vset ∨ s.lanes.voice = some (laneT r)) then refuse stState
  else {}

/-- SDO_RELEASE checked (R454). USE and lock-out are known of the own lane. -/
def checkSdoRelease (s : State) (r : Req) : Verdict :=
  let m := byteAt r.payload 0
  let own := laneT r == s.lane
  if !isLaneT r.target.toNat || r.payload.length ≠ 1 || 16 ≤ m then refuse stRange
  else if own && (List.range 4).any (fun i => bit m i && !s.sdoSafe i) then refuse stRange
  else if (own && s.lockedOut) || s.faults.sysF2 || s.faults.f3 then refuse stFaultLock
  else {}

/-- SDO_APPLY checked: RANGE only for a mask of 0 (Table 15.13). -/
def checkSdoApply (r : Req) : Verdict :=
  if (isLaneT r.target.toNat || isNoneT r.target.toNat) && r.payload.length == 1 && decide (byteAt r.payload 0 % 16 ≠ 0) then {} else refuse stRange

/-- SAFETY_ACK checked (R471). The lock-out is known of the own lane. -/
def checkSafetyAck (s : State) (r : Req) : Verdict :=
  if !isLaneT r.target.toNat || r.payload.length ≠ 1 then refuse stRange
  else if laneT r ≠ s.lane then { status := stAccepted }
  else if !s.lockedOut then refuse stState
  else if byteAt r.payload 0 ≠ s.safety.lockoutId.toNat then refuse stRange
  else { status := stAccepted }

/-- A save runs at an effective cycle. -/
def State.savesAt (s : State) (eff : Nat) : Bool := s.power.saving.isSome || (s.before eff).any (fun p => p.2.opcode == 0x0900)

/-- SETTINGS_SAVE checked (R589). -/
def checkSettingsSave (s : State) (r : Req) (eff : Nat) : Verdict :=
  if !plainReq r then refuse stRange
  else if s.savesAt eff then refuse stBusy (Config.retryAfter s.clock.cycle) else {}

/-- The steward's checks of a command of the command order, by its opcode's own rules (R542). -/
def State.checkOp (s : State) (r : Req) (eff : Nat) : Verdict :=
  match r.opcode with
  | 0x0002 => checkFieldWrite s r eff
  | 0x0004 => checkCommit s r eff
  | 0x0005 => checkDiscard r
  | 0x0007 => checkClusterStop s r eff
  | 0x0008 => checkFaultAck r
  | 0x0009 => checkFaultClear s r
  | 0x000B => checkFaultRaise r
  | 0x0110 => checkMapAxis s r
  | 0x0111 => checkMapNode r
  | 0x0112 => checkMapRemove r
  | 0x0118 => checkCoeffWrite s r eff
  | 0x0120 => checkKernelOpen s r eff
  | 0x0121 => checkKernelWrite s r eff
  | 0x0122 => checkKernelClose s r eff
  | 0x0123 => checkKernelRemove s r
  | 0x0200 => checkProfileMove s r eff
  | 0x0201 => checkProfileVelocity s r eff
  | 0x0202 => checkTableAppend s r eff
  | 0x0203 => checkTable s r eff
  | 0x0204 => checkTable s r eff
  | 0x0205 => checkGroupMove s r eff
  | 0x0206 => checkRefSet s r eff
  | 0x0400 => checkBranchCtrl s r
  | 0x0401 => checkNodeParam s r
  | 0x0402 => checkNodeParam s r
  | 0x0500 => checkVoiceMove s r
  | 0x0501 => checkSpareRefresh s r
  | 0x0502 => checkSpareTakeover s r
  | 0x0700 => checkAcqArm s r eff
  | 0x0701 => checkAcqRun s r eff
  | 0x0702 => checkAcqRun s r eff
  | 0x0703 => checkInjStart s r eff
  | 0x0704 => checkInjStop r
  | 0x0800 => checkSdoRelease s r
  | 0x0801 => checkSdoApply r
  | 0x0802 => checkSafetyAck s r
  | 0x0900 => checkSettingsSave s r eff
  | _ => checkAxisOp s r eff

/-! ### Acceptance -/

/-- Values that acceptance captures: those a FIELD_WRITE brings later, and the staging copy that a COMMIT of the acquisition set-up
applies (R37, R569). -/
def State.captures (s : State) (r : Req) : List (FieldKey × BitVec 64) :=
  if r.opcode = 0x0002 then (s.splitItems r).2 else if r.opcode = 0x0004 ∧ isAcqT r.target.toNat then s.acqStaged else []

/-- What acceptance changes at once: staging copies, the map that comes, coefficient queues (R37, R47, R92). -/
def State.acceptOp (s : State) (r : Req) (eff : Nat) : State :=
  match r.opcode with
  | 0x0002 => acceptFieldWrite s r
  | 0x0004 => acceptCommit s r eff
  | 0x0005 => effectDiscard s r.target.toNat
  | 0x0110 => acceptMapAxis s r
  | 0x0111 => acceptMapNode s r
  | 0x0112 => acceptMapRemove s r
  | 0x0118 => acceptCoeffWrite s r eff
  | _ => s

/-- A command or lane report takes its place in the command order (R29). -/
def State.accept (s : State) (a : Accepted) : State :=
  let s := match a.body with | .cmd r => s.acceptOp r a.eff | _ => s
  { s with order := { s.order with accepted := s.order.accepted ++ [a] } }

/-- The place of an accepted command: its effective cycle, and what its response will carry. -/
def State.place (s : State) (h : Held) (seq eff : Nat) (v : Verdict) : Accepted :=
  match h.body with
  | some b => { seq := seq, body := b, lane := h.lane, eff := eff }
  | none => { seq := seq, body := .cmd h.req, lane := h.lane, eff := eff, status := BitVec.ofNat 8 v.status, aux := v.aux, rsp := v.rsp,
              captured := s.captures h.req }

/-- EFFECTIVE of the response of an accepted command (R34, R94): of a COEFF_WRITE, its first element's effective cycle. -/
def State.effField (s : State) (a : Accepted) : Nat :=
  match a.body with
  | .cmd r => if r.opcode = 0x0118 then ((checkCoeffWrite s r a.eff).eff).getD a.eff else a.eff
  | _ => a.eff

/-! ### Effects at the effective cycle (R30) -/

/-- SPARE_WAKE is driven low for 1.5 ms, and lane S refreshes (R361, R600). -/
def State.wakeRefresh (s : State) : State :=
  if s.config = 3 ∧ s.lane ≠ .s ∧ s.lanes.spareState = .dormant then
    ({ s with lanes := { s.lanes with spareState := .refresh } }).send (.wakeLow 1500)
  else s

/-- A COMMIT takes effect: the acquisition set-up takes its staged values and its comparators start anew (R36, R416); for the axis
map the new schedules of the changed nodes are distributed (R235). -/
def State.commitEffect (s : State) (r : Req) (cap : List (FieldKey × BitVec 64)) : State :=
  if isAcqT r.target.toNat then
    let same (p : FieldKey × BitVec 64) : Bool := cap.any (fun q => q == p)
    { s with
      cfg := { s.cfg with active := cap.foldl (fun l p => kvSet l p.1 p.2) s.cfg.active, staged := s.cfg.staged.filter (fun p => !same p) },
      acq := { s.acq with cmps := List.replicate 4 {} } }
  else
    match s.order.mapPending with
    | none => s
    | some p =>
      let again (x : NodeRt) : NodeRt :=
        { x with schedId := x.schedId + 1, actMatrix := BitVec.ofNat 8 (p.at_ / 64), schedPending := true, confirmed := false, schedSeq := none }
      p.changed.foldl (fun s n =>
        let s := if (s.node? n).isSome then s else { s with nodes := sortBy (·.node) ({ node := n } :: s.nodes) }
        s.updNode n again) s

/-- SPARE_TAKEOVER takes effect (R364, R583): S is woken, and a lane named leaves as one removed under R341 does. -/
def State.takeover (s : State) (r : Req) : State :=
  let s := s.wakeSpare
  if isLaneT r.target.toNat ∧ laneT r ∈ s.lanes.vset then
    ((s.decideLeave (laneT r) .removed 1).reportStay (mkFault 0x240 (locLane (laneT r)))).applyLeaving
  else s

/-- A command that names no single axis takes effect. `cap` holds what acceptance captured. -/
def State.effectOp (s : State) (r : Req) (cap : List (FieldKey × BitVec 64)) : State :=
  match r.opcode with
  | 0x0002 => s.applyFields cap
  | 0x0004 => s.commitEffect r cap
  | 0x0007 => s.stopCluster
  | 0x0008 => if s.faults.f3 then s else s.ack (le r.payload 0 4)
  | 0x0009 => s.faultClear r.tag
  | 0x000B => s.faultRaise (if isAxisT r.target.toNat then some r.target.toNat else none) (byteAt r.payload 0)
  | 0x0120 => s.kernelEffect r
  | 0x0121 => s.kernelEffect r
  | 0x0122 => s.kernelEffect r
  | 0x0123 => s.kernelEffect r
  | 0x0205 => s.groupMoveEffect r
  | 0x0400 => s.branchCtrlEffect r
  | 0x0401 => s.nodeParamEffect r
  | 0x0402 => s.nodeParamEffect r
  | 0x0500 => if laneT r ∈ s.lanes.vset ∧ s.lanes.voice ≠ some (laneT r) then s.passVoice (laneT r) 4 else s
  | 0x0501 => s.wakeRefresh
  | 0x0502 => s.takeover r
  | 0x0700 => s.acqArm
  | 0x0701 => s.acqStop
  | 0x0702 => s.acqForce
  | 0x0800 => if laneT r = s.lane then s.sdoRelease (byteAt r.payload 0) else s
  | 0x0801 => if isNoneT r.target.toNat ∨ laneT r = s.lane then s.sdoApply (byteAt r.payload 0) else s
  | 0x0802 => if laneT r = s.lane then s.safetyAck (byteAt r.payload 0) else s
  | 0x0900 => ({ s with power := { s.power with saving := some {}, saveAt := s.clock.cycle } }).saveBegin
  | _ => s

/-- A command whose axis is gone is void (R61, R155, R591); `st` is the coded axis state it finds. -/
def State.voidOn (s : State) (n : Nat) (r : Req) (st : Nat) : State :=
  if neverVoid r.opcode ∨ r.opcode = 0x0704 then s
  else if isMotionOp r.opcode then s.profileVoid n r.tag r.opcode 1 else s.axisVoid n r.tag r.opcode st

/-- A command that acts on axes, each in its first due cycle at or after the effective cycle (R60): at once on an axis that is due,
and otherwise it waits there. -/
def State.effectOnAxes (s : State) (a : Accepted) (r : Req) : State :=
  (axesOf r).foldl (fun s n =>
    match s.axis? n with
    | none => s.voidOn n r 0xF
    | some x =>
      let cap := if r.opcode = 0x0703 then s.injFields n else a.captured
      if s.due x then s.axisEffect r n cap
      else s.updAxis n (fun y => { y with waiting := y.waiting ++ [{ a with captured := cap }] })) s

/-- A lane report takes effect; an F2 it brings acts after every command of the cycle (R63), and is answered. -/
def State.effectBody (s : State) (a : Accepted) : State × List FaultRep :=
  match a.body with
  | .fault r =>
    let (s, l) := s.takeFault r
    (s, l)
  | .f3 r =>
    let (s, _) := s.takeFault r
    (s, [])
  | .event e => (let s := s.eventBody e (some a.lane); (if e.code = 0x506 ∧ a.lane = .s then { s with lanes := { s.lanes with spareState := .dormant } } else s), [])
  | .evtRd v =>
    let d := (v - s.events.r).toNat
    (if 1 ≤ d ∧ d ≤ (s.events.w - s.events.r).toNat then { s with events := { s.events with r := v } } else s, [])
  | .timeMap m => ({ s with time := { s.time with mapNext := some m } }, [])
  | .sourceEnded code loc =>
    let s := s.endSource code loc
    (if 0x300 ≤ code ∧ code < 0x308 ∧ !s.systemF2Active then ({ s with faults := { s.faults with sysF2 := false } }).settle else s, [])
  | .safetyDemand n e =>
    let s := s.eventBody e (some a.lane)
    let act := s.fld tgtCluster 0x0B07 0 n
    let axes := (s.axes.map (·.entry.axis)).filter (fun x => bit (s.fld (tgtAxis x) 0x0B07 1 0) n)
    let cmd (x : Nat) : Req := { opcode := if act = 1 then 0x0105 else 0x0106, target := BitVec.ofNat 16 x }
    (if act = 0 then s else axes.foldl (fun s x => s.effectOnAxes { a with body := .cmd (cmd x) } (cmd x)) s, [])
  | .acqDone l e => (s.acqDone l e, [])
  | .kernelOutcome _ ok e => (s.kernelOutcome ok e, [])
  | .cmd _ => (s, [])

/-- One place of the command order takes effect, with the F2s that are still to act. -/
def State.effectOne (s : State) (a : Accepted) : State × List FaultRep :=
  match a.body with
  | .cmd r => (if isAxisOp r.opcode then s.effectOnAxes a r else s.effectOp r a.captured, [])
  | _ => s.effectBody a

/-! ### The lane that owns the mailbox (R330, R515, R542, R564) -/

/-- An opcode that is answered OK after an F3 in a lane that stays in VOTING: it changes nothing then (R515). -/
def harmless (op : Nat) : Bool := op == 0x0104 || op == 0x0105 || op == 0x0106 || op == 0x0704 || op == 0x0801 || op == 0x0008

/-- R564 lists the command. -/
def listed (r : Req) (i : OpInfo) : Bool :=
  i.loc || i.cls == 0 || (r.opcode == 0x0002 && (tKind r.target.toNat == 0xA || tKind r.target.toNat == 0x9))

/-- The command acts on this lane alone, at once (R330, R564). -/
def State.alone (s : State) : Bool := s.stopped || s.lanes.role == .unassigned

/-- Checks 1 to 5 of R542: a refusal, or none. -/
def State.laneCheck (s : State) (r : Req) : Option Verdict :=
  match opInfo r.opcode with
  | none => some (refuse stUnknownOp)
  | some i =>
    if 240 < r.payload.length ∨ r.cls ≠ i.cls ∨ 2 ≤ r.flags.toNat ∨ (r.box.any (fun n => decide (n < 2)) ∧ i.cls ≠ 0) then some (refuse stRange)
    else if s.power.noImage then
      (if r.opcode = 0x0001 ∨ (0x0901 ≤ r.opcode ∧ r.opcode ≤ 0x0904) then none else some (refuse stDenied))
    else if s.faults.f3 ∧ !i.rd then
      (if r.opcode = 0x0905 then some (refuse stFaultLock)
       else if !s.voting then some (refuse stDenied)
       else if harmless r.opcode then none else some (refuse stFaultLock))
    else if i.rd then none
    else if r.opcode = 0x000C then some (refuse stDenied)
    else if !s.voting ∧ r.opcode ≠ 0x0503 ∧ !(s.alone && listed r i) then some (refuse stDenied)
    else if s.stopped ∧ r.opcode ≠ 0x0503 ∧ !listed r i then some (refuse stState)
    else none

/-- The header is malformed, and raises the mailbox-malformed F0 as well (R542). -/
def headerBad (r : Req) : Bool :=
  match opInfo r.opcode with
  | none => false
  | some i => decide (240 < r.payload.length) || r.cls != i.cls || decide (2 ≤ r.flags.toNat) || (r.box.any (fun n => decide (n < 2)) && i.cls != 0)

/-- A local command is served (R563). -/
def State.serveLocal (s : State) (r : Req) : Verdict × State :=
  match r.opcode with
  | 0x0001 => (checkIdentify s r, s)
  | 0x0003 => (checkFieldRead s r, s)
  | 0x0006 => clusterStart s r
  | 0x000A => (checkFaultList s r, s)
  | 0x0119 => (checkCoeffRead s r, s)
  | 0x0124 => (checkKernelInfo s r, s)
  | 0x0300 => (checkFeedbackStatus s r, s)
  | 0x0403 => (checkNodeResult s r, s)
  | 0x0404 => (checkNodeReport s r, s)
  | 0x0405 => (checkNodeEvents s r, s)
  | 0x0503 => laneRejoin s r
  | 0x0600 => timeRead s r
  | 0x0601 => ethSend s r
  | 0x0602 => ethRecv s r
  | 0x0803 => (checkWatermarkRead s r, s)
  | 0x0804 => watermarkProgram s r
  | 0x0901 => (checkStoreStatus s r, s)
  | 0x0902 => fwOpen s r
  | 0x0903 => fwWrite s r
  | 0x0904 => fwClose s r
  | 0x0905 => standby s r
  | _ => (refuse stUnknownOp, s)

/-- A command of R564 acts on the owning lane alone, from its response on, with EFFECTIVE 0. -/
def State.serveAlone (s : State) (r : Req) : Verdict × State :=
  match r.opcode with
  | 0x0002 =>
    let v := checkFieldWrite s r s.clock.cycle
    (v, if v.ok then (acceptFieldWrite s r).applyFields (s.splitItems r).2 else s)
  | 0x0008 =>
    let v := checkFaultAck r
    (v, if v.ok then s.ack (le r.payload 0 4) else s)
  | 0x0801 =>
    let v := checkSdoApply r
    (v, if v.ok then s.sdoApply (byteAt r.payload 0) else s)
  | 0x0802 =>
    let v := if isLaneT r.target.toNat ∧ laneT r ≠ s.lane then refuse stState else checkSafetyAck s r
    (v, if v.ok then s.safetyAck (byteAt r.payload 0) else s)
  | 0x0704 => (checkInjStop r, s)
  | _ => (checkAxisOp s r s.clock.cycle, s)

/-- The lane that owns the mailbox serves a command that its host has submitted: it answers it, or holds it for the command cut, or
passes it on with the next consensus interval (R345, R542, R544, R563, R564). -/
def State.serve (s : State) (r : Req) : State :=
  match s.laneCheck r with
  | some v => (if headerBad r then s.found (mkFault 0x107) else s).respond r v 0
  | none =>
    let h : Held := { req := r, lane := s.lane }
    if (opInfo r.opcode).any (·.loc) then
      let (v, s) := s.serveLocal r
      s.respond r v 0
    else if s.alone then
      let (v, s) := s.serveAlone r
      s.respond r v 0
    else if s.isVoice then { s with order := { s.order with held := s.order.held ++ [h] } }
    else { s with order := { s.order with forward := s.order.forward ++ [h] } }

/-! ### Mailboxes (R537, R541) -/

/-- The host port of the lane works: PD_HOST is powered, and standby has not stopped it (R599, R603). -/
def State.hostOn (s : State) : Bool := s.power.refValid && s.power.pwrEn && (s.power.steward || s.power.noImage)

/-- The command in a mailbox (Table 14.9). -/
def Mailbox.req (b : Mailbox) (n : Nat) : Req :=
  let c := padTo 256 b.cmd
  { origin := .mailbox n, opcode := le c 0 2, cls := byteAt c 2, flags := BitVec.ofNat 8 (byteAt c 3), tag := BitVec.ofNat 32 (le c 4 4),
    target := BitVec.ofNat 16 (le c 10 2), cycle := BitVec.ofNat 32 (le c 12 4), payload := padTo (le c 8 2) (c.drop 16) }

/-- A doorbell or release that the mailbox's state does not take. -/
def State.bellIgnored (s : State) (n : Nat) : State :=
  let f (b : Mailbox) : Mailbox := { b with ignored := true }
  { s with host := { s.host with boxes := modAt s.host.boxes n f } }

/-- A command is submitted in mailbox `n`: the lane copies it, sets STATUS to 0xFF, and serves it (R541). -/
def State.submit (s : State) (n : Nat) (r : Req) : State :=
  match s.host.boxes[n]? with
  | none => s
  | some b =>
    if !s.hostOn then s
    else if b.st != .idle then s.bellIgnored n
    else
      let f (b : Mailbox) : Mailbox := { b with st := .busy, rsp := patch b.rsp 2 [0xFF] }
      ({ s with host := { s.host with boxes := modAt s.host.boxes n f } }).serve { r with origin := .mailbox n }

/-- DOORBELL (R541 to R545, R563, R564). -/
def execDoorbell (box : Nat) (s : State) : Host.Outcome State Fault Refusal :=
  .next (match s.host.boxes[box]? with | some b => s.submit box (b.req box) | none => s)

/-- A mailbox in DONE returns to IDLE (Table 14.12). -/
def State.releaseBox (s : State) (n : Nat) : State :=
  match s.host.boxes[n]? with
  | none => s
  | some b =>
    if !s.hostOn then s
    else if b.st != .done then s.bellIgnored n
    else
      let f (b : Mailbox) : Mailbox := { b with st := .idle }
      { s with host := { s.host with boxes := modAt s.host.boxes n f } }

/-- RELEASE (R541). -/
def execRelease (box : Nat) (s : State) : Host.Outcome State Fault Refusal := .next (s.releaseBox box)

/-! ### A command's own step -/

/-- A CLUSTER_STOP, which acts at the end of its effective cycle (R262). -/
def Body.stops : Body → Bool
  | .cmd r => r.opcode == 0x0007
  | _ => false

/-- An accepted command whose effective cycle has come takes effect, when it is the next to do so (R30). BASIC_CYCLE_START does this
for every one of its cycle but CLUSTER_STOP, which stays until that cycle's end. -/
def State.takeEffect (s : State) (r : Req) : State :=
  match s.order.accepted.find? (fun a => decide (a.eff ≤ s.clock.cycle) && (!a.body.stops || r.opcode == 0x0007)) with
  | some a =>
    if a.body = .cmd r then
      let s := { s with order := { s.order with accepted := s.order.accepted.erase a } }
      let (s, l) := s.effectOne a
      l.foldl State.actF2 s
    else s
  | none => s

/-- The step of an opcode: in its service phase the command is submitted in the mailbox it names, a forwarded one is held by the
voice lane; in its effect phase it takes effect. -/
def State.opRow (s : State) (op : Nat) (ph : Phase) (r : Req) : State :=
  let r := { r with opcode := op }
  match ph with
  | .effect => s.takeEffect r
  | .service =>
    match r.origin with
    | .mailbox n => s.submit n r
    | .forwarded l _ => if s.isVoice && !s.stopped then { s with order := { s.order with held := s.order.held ++ [{ req := r, lane := l }] } } else s
    | .internal => s

end Sys2Proof.Machine
end

