-- ==== Sys2Proof/Machine/Order.lean ====
section
/-!
DEFINITION. The command order across lanes (R29 to R33, R345 to R349, R543 to R545): the command cut, SEAL and CONFIRM, bodies, and a
seal that is applied or void.
-/
namespace Sys2Proof.Machine

/-! ### Bodies as BODY_CRC covers them -/

/-- A location in bytes. -/
def Loc.bytes (l : Loc) : List Byte := toLe 2 l.word ++ toLe 2 (l.axis.getD 0xFFFF)

/-- An event body in bytes. -/
def EvBody.bytes (e : EvBody) : List Byte := toLe 2 e.code ++ [BitVec.ofNat 8 e.axis] ++ toLe 2 e.payload.length ++ e.payload

/-- A fault report in bytes. -/
def FaultRep.bytes (r : FaultRep) : List Byte :=
  toLe 2 r.code ++ [BitVec.ofNat 8 r.cls.num] ++ r.loc.bytes ++ [BitVec.ofNat 8 ((r.lane.map Lane.num).getD 0xFF)]
    ++ (match r.event with | some e => e.bytes | none => [])

/-- The header and payload of a command in bytes (Table 14.9). -/
def Req.bytes (r : Req) : List Byte :=
  toLe 2 r.opcode ++ [BitVec.ofNat 8 r.cls, r.flags] ++ toLe 4 r.tag.toNat ++ toLe 2 r.payload.length ++ toLe 2 r.target.toNat
    ++ toLe 4 r.cycle.toNat ++ r.payload

/-- A body in bytes, in the model's own form: the manual gives none. -/
def Body.bytes : Body → List Byte
  | .cmd r => 0 :: r.bytes
  | .fault r => 1 :: r.bytes
  | .event e => 2 :: e.bytes
  | .evtRd v => 3 :: toLe 4 v.toNat
  | .timeMap m => 4 :: (toLe 8 m.baseCount ++ toLe 8 m.vtBase.toNat ++ toLe 8 (ofSigned 64 m.ratio)
      ++ [BitVec.ofNat 8 (b2n m.valid + 2 * b2n m.holdover + 4 * b2n m.step)])
  | .sourceEnded code loc => 5 :: (toLe 2 code ++ loc.bytes)
  | .safetyDemand n e => 6 :: (BitVec.ofNat 8 n :: e.bytes)
  | .acqDone l e => 7 :: (BitVec.ofNat 8 (Lane.num l) :: e.bytes)
  | .kernelOutcome tag ok e => 8 :: (toLe 4 tag.toNat ++ [BitVec.ofNat 8 (b2n ok)] ++ e.bytes)
  | .f3 r => 9 :: r.bytes

/-- What a held command or report is. -/
def Held.what (h : Held) : Body := h.body.getD (.cmd h.req)

/-- A body with its lane and mailbox. -/
def Held.bytes (h : Held) : List Byte :=
  let box := match h.req.origin with | .mailbox n => n | .forwarded _ n => n | .internal => 0xFF
  BitVec.ofNat 8 (Lane.num h.lane) :: BitVec.ofNat 8 box :: h.what.bytes

/-- A place of the command order, held again. -/
def Accepted.held (a : Accepted) : Held :=
  match a.body with
  | .cmd r => { req := r, lane := a.lane }
  | b => { lane := a.lane, body := some b }

/-- BODY_CRC over bodies in order. -/
def bodyCrc (l : List Held) : BitVec 64 := Config.openDigest (l.flatMap Held.bytes)

/-! ### The command cut (R31, R543, R544) -/

/-- The class in which the steward takes what it holds; a lane report ranks with class 0 (R62). -/
def Held.cls (h : Held) : Nat := if h.body.isSome then 0 else h.req.cls

/-- The cut under way: the state as acceptance leaves it, the lane itself, what is accepted, what stays held, and the counts of
class 1 and of classes 2 and 3. -/
structure Cut where
  view : State
  real : State
  out : List Accepted
  left : List Held
  n1 : Nat
  n23 : Nat

/-- One command or report is accepted. -/
def Cut.take (c : Cut) (h : Held) (eff : Nat) (v : Verdict) : Cut :=
  let a := c.view.place h (c.real.order.nextSeq + c.out.length) eff v
  { c with view := c.view.accept a, real := if h.body.isNone then c.real.boxWait h.req else c.real, out := c.out ++ [a],
           n1 := c.n1 + b2n (h.body.isNone && h.req.cls == 1), n23 := c.n23 + b2n (h.body.isNone && decide (2 ≤ h.req.cls)) }

/-- One command or report is considered. -/
def Cut.step (c : Cut) (h : Held) : Cut :=
  let first := c.real.clock.cycle + 1
  match h.body with
  | some _ => c.take h first {}
  | none =>
    if h.req.cls = 1 ∧ 32 ≤ c.n1 then { c with left := c.left ++ [h] }
    else if 2 ≤ h.req.cls ∧ 8 ≤ c.n23 then { c with real := c.real.turnAway h (refuse stBusy 1) 0 }
    else match c.real.effOf h.req with
      | none => { c with real := c.real.turnAway h (refuse stRange) first }
      | some eff =>
        let v := c.view.checkOp h.req eff
        if v.ok then c.take h eff v else { c with real := c.real.turnAway h v 0 }

/-- The voice lane's steward takes what it holds in class order, and within a class in order of arrival. -/
def State.cut (s : State) : Cut :=
  let own : List Held := s.faults.reports.map (fun r => { lane := s.lane, body := some (if r.cls = .f3 then .f3 r else .fault r) })
  let s := { s with faults := { s.faults with reports := [] } }
  let all := sortBy Held.cls (s.order.held ++ own)
  all.foldl Cut.step { view := s, real := { s with order := { s.order with held := [] } }, out := [], left := [], n1 := 0, n23 := 0 }

/-- SEAL payload (Table 8.4). -/
def Seal.bytes (m : Seal) : List Byte := toBe 8 m.seq0 ++ toBe 2 m.n ++ toBe 8 m.crc.toNat ++ toBe 2 m.epoch.toNat

/-- CONFIRM payload (Table 8.4). -/
def Seal.confirm (m : Seal) (ok : Bool) : List Byte := toBe 8 m.seq0 ++ toBe 2 m.n ++ toBe 8 m.crc.toNat ++ [if ok then 0 else 1]

/-- The seal of the cycle is formed, and it and its bodies are sent. -/
def State.sealCut (s : State) : State :=
  let c := s.cut
  let s := c.real
  let hs := c.out.map Accepted.held
  let m : Seal := { seq0 := s.order.nextSeq, n := c.out.length, crc := bodyCrc hs, epoch := s.lanes.epoch, cycle := s.clock.cycle,
                    confirms := [s.lane], complete := true, bodies := c.out }
  let s := { s with order := { s.order with held := c.left, sealMsg := some m } }
  if s.simplex then s
  else
    let s := hs.foldl (fun s h =>
      s.send (.body none (match h.req.origin with | .mailbox n => n | .forwarded _ n => n | .internal => 0xFF) h.what)) s
    s.weirSend 0x06 none m.bytes

/-- COMMAND_CUT (R31, R337, R543, R544, R346): the voice lane accepts and seals, and every voting lane forms its digests and votes; so
does a lane on trial (R370). -/
def execCommandCut (s : State) : Host.Outcome State Fault Refusal :=
  .next (if !s.computing then s
    else
      let s := { s with clock := { s.clock with interval := .assembly } }
      let s := if s.isVoice && !(s.order.sealMsg.any (fun m => decide (m.cycle = s.clock.cycle))) then s.sealCut else s
      if s.voting || s.lanes.couch.trial then s.sendVote else s)

/-! ### SEAL, CONFIRM, BODY (R345, R346, R545) -/

/-- The bodies that a seal names take their places as this lane's steward works them out. -/
def State.placeAll (s : State) (seq0 : Nat) (hs : List Held) : List Accepted :=
  (hs.foldl (fun (p : State × List Accepted) h =>
    let eff := if h.body.isSome then p.1.clock.cycle + 1 else (p.1.effOf h.req).getD (p.1.clock.cycle + 1)
    let v := if h.body.isSome then {} else p.1.checkOp h.req eff
    let a := p.1.place h (seq0 + p.2.length) eff (if v.ok then v else {})
    (p.1.accept a, p.2 ++ [a])) (s, [])).2

/-- SEAL_RECEIVED (R326, R346): the seal of the voice lane, answered with CONFIRM. -/
def execSealReceived (port : Nat) (bytes : List Byte) (s : State) : Host.Outcome State Fault Refusal :=
  .next (match s.weirMsg 0x06 bytes with
    | some (l, count, p) =>
      if p.length = 20 ∧ count = s.clock.cycle % 65536 ∧ s.computing ∧ !s.isVoice ∧ s.lanes.voice = some l ∧ port ∉ s.lanes.weirWrong then
        let n := be p 8 2
        let hs := s.order.bodies.take n
        let m : Seal := { seq0 := be p 0 8, n := n, crc := BitVec.ofNat 64 (be p 10 8), epoch := BitVec.ofNat 16 (be p 18 2), cycle := s.clock.cycle }
        let ok := decide (hs.length = n) && bodyCrc hs == m.crc && m.seq0 == s.order.nextSeq
        let early := match s.order.sealMsg with
          | some x => if x.seq0 = m.seq0 ∧ x.n = n ∧ x.crc = m.crc then x.confirms else []
          | none => []
        let m := { m with complete := ok, confirms := laneSort (early ++ (if ok then [s.lane] else [])), bodies := s.placeAll m.seq0 hs }
        let s := { s with order := { s.order with bodies := s.order.bodies.drop n, sealMsg := some m } }
        if s.voting then s.weirSend 0x07 none (m.confirm ok) else s
      else s
    | none => s)

/-- CONFIRM_RECEIVED (R326, R346): a complete confirmation counts for the seal it names, also one that comes ahead of the seal. -/
def execConfirmReceived (port : Nat) (bytes : List Byte) (s : State) : Host.Outcome State Fault Refusal :=
  .next (match s.weirMsg 0x07 bytes with
    | some (l, count, p) =>
      if p.length = 19 ∧ count = s.clock.cycle % 65536 ∧ s.computing ∧ l ∈ s.lanes.vset ∧ port ∉ s.lanes.weirWrong ∧ byteAt p 18 = 0 then
        let x : Seal := { seq0 := be p 0 8, n := be p 8 2, crc := BitVec.ofNat 64 (be p 10 8), cycle := s.clock.cycle, complete := false, confirms := [l] }
        let m := match s.order.sealMsg with
          | some m => if m.seq0 = x.seq0 ∧ m.n = x.n ∧ m.crc = x.crc then { m with confirms := laneSort (l :: m.confirms) } else m
          | none => x
        { s with order := { s.order with sealMsg := some m } }
      else s
    | none => s)

/-- A report of a lane that does not vote, sent to this lane to be passed on (R363, R369): the lane asked is the couch source. -/
def State.passesOn (s : State) (h : Held) : Bool :=
  decide (h.lane ∉ s.lanes.vset) && s.couchSource == some s.lane && h.body.isSome
    && !((s.order.forward ++ s.order.forwarded).any (fun x => x.lane == h.lane && x.what == h.what))

/-- BODY_RECEIVED (R326, R345, R349): the voice lane holds what another lane passes to it; another lane keeps what the voice lane
sends until a seal names it, and passes on the report of a lane that does not vote. -/
def execBodyReceived (lane : Lane) (mailbox : Nat) (body : Body) (s : State) : Host.Outcome State Fault Refusal :=
  let h : Held := match body with
    | .cmd r => { req := { r with origin := if lane = s.lane then .mailbox mailbox else .forwarded lane mailbox }, lane := lane }
    | b => { lane := lane, body := some b }
  .next (if !s.computing || s.simplex then s
    else if s.isVoice then (if lane = s.lane then s else { s with order := { s.order with held := s.order.held ++ [h] } })
    else if s.passesOn h then { s with order := { s.order with forward := s.order.forward ++ [h] } }
    else { s with order := { s.order with bodies := s.order.bodies ++ [h] } })

/-- FORWARD_REFUSAL_RECEIVED (R545): the refusal becomes the final response. -/
def execForwardRefusalReceived (box : Nat) (tag : BitVec 32) (status : BitVec 8) (aux : Nat) (rsp : List Byte) (effective : BitVec 32) (s : State) :
    Host.Outcome State Fault Refusal :=
  let mine (h : Held) : Bool := h.body.isNone && h.req.box == some box && h.req.tag == tag
  .next (match s.order.forwarded.find? mine with
    | some h =>
      let s := { s with order := { s.order with forwarded := s.order.forwarded.filter (fun x => !mine x) } }
      s.respond h.req { status := status.toNat, aux := aux, rsp := rsp } effective.toNat
    | none => s)

/-! ### The end of the cycle (R346, R347) -/

/-- A complete CONFIRM of every voting lane other than the voice lane is here (R346). -/
def State.confirmed (s : State) (m : Seal) : Bool :=
  m.complete && m.cycle == s.clock.cycle
    && s.lanes.vset.all (fun l => s.lanes.voice == some l || decide (l ∈ m.confirms))

/-- A body that this lane passed on is among those that a seal named. -/
def namedIn (l : List Accepted) (h : Held) : Bool := l.any (fun a => a.lane == h.lane && a.body == h.what)

/-- The seal is applied: its commands take their places, and this lane answers those of its own mailboxes (R346, R348). -/
def State.applySeal (s : State) (m : Seal) : State :=
  let me := s.lane
  let s := m.bodies.foldl (fun s a =>
    let e := s.effField a
    let s := s.accept a
    match a.body with
    | .cmd r => if a.lane = me then s.respond r { status := a.status.toNat, aux := a.aux, rsp := a.rsp } e else s
    | _ => s) s
  { s with order := { s.order with nextSeq := m.seq0 + m.n, forwarded := s.order.forwarded.filter (fun h => !namedIn m.bodies h) } }

/-- The seal is void: each lane sends again what it forwarded, and the lane that sealed holds its own again (R347). -/
def State.voidSeal (s : State) (m : Seal) : State :=
  let me := s.lane
  let back := s.order.forwarded.filter (namedIn m.bodies)
  let own := (m.bodies.filter (fun a => a.lane == me && !(back.any (fun h => a.body == h.what)))).map Accepted.held
  { s with order := { s.order with
      forward := back ++ s.order.forward, forwarded := s.order.forwarded.filter (fun h => !namedIn m.bodies h),
      held := own ++ s.order.held } }

/-- Voice was taken in this cycle: what was forwarded to the old voice lane is passed on again (R347, R545). -/
def State.voiceMoved (s : State) : State :=
  if s.lanes.voiceAt ≠ s.clock.cycle then s
  else
    let o := s.order
    { s with order :=
        (if s.isVoice then { o with held := o.forwarded ++ o.forward ++ o.held, forwarded := [], forward := [], bodies := [] }
         else { o with forward := o.forwarded ++ o.forward, forwarded := [], bodies := [] }) }

/-- The seal of the cycle that ends is applied or void. -/
def State.sealEnd (s : State) : State :=
  let s := match s.order.sealMsg with
    | none => s
    | some m =>
      let s := { s with order := { s.order with sealMsg := none } }
      if s.confirmed m then s.applySeal m else s.voidSeal m
  s.voiceMoved

end Sys2Proof.Machine
end

