-- ==== Sys2Proof/Machine/Couch.lean ====
section
/-!
DEFINITION. Couching as the voting lanes do their part of it (R365 to R367, R370, R372, R616): the request, the checkpoint and its
image, the replay messages, stored frames, and JOIN.
-/
namespace Sys2Proof.Machine

/-! ### The image (Table 8.13) -/

/-- Bytes of a part of the image. -/
def State.partBytes (s : State) : CouchPart → Nat
  | .axis a => ((s.kinfo? a.entry.kernel).map (·.ctxBytes)).getD 0 + 256 + 16 * a.mot.points.length
  | .kernel k => k.image.length
  | .steward _ => 68 * 1024

/-- Image size in KB. -/
def State.imageKb (s : State) (l : List CouchPart) : Nat := ceilDiv (l.map s.partBytes).sum 1024

/-- The steward's part: nothing that is a lane's own. -/
def State.stewardImage (s : State) : StewardImage :=
  { cfg := s.cfg, order := { accepted := s.order.accepted, nextSeq := s.order.nextSeq, mapPending := s.order.mapPending },
    coupling := s.coupling, groups := s.groups, nodes := s.nodes,
    events := { s.events with fresh := [], ring := [], localWr := 0, ownSeq := 0, rewrite := false },
    faults := { s.faults with reports := [], computed := [], lostSeen := false, escSeen := false, f2Seen := false, f3Prev := false, f3PrevCode := 0 },
    services := s.services, voice := s.lanes.voice, epoch := s.lanes.epoch, vset := s.lanes.vset, cycle := s.clock.cycle,
    timeMap := s.time.map, steer := s.clock.steer, target := s.time.target, acqRunning := s.acq.running }

/-- An axis's part, without the marks of this lane's own run. -/
def Axis.couched (a : Axis) : Axis := { a with overrun := false, dispatched := false, divergent := false }

/-- The image of the present moment, with the kernels that the joining lane lacks. -/
def State.couchImage (s : State) (kernels : List CouchPart) : List CouchPart :=
  s.axes.map (fun a => .axis a.couched) ++ kernels ++ [.steward s.stewardImage]

/-- COUCH_CONFIRM: checkpoint, epoch and CRC, in the model's own form. -/
def confirmBytes (cycle epoch : Nat) (crc : BitVec 64) : List Byte := toBe 8 cycle ++ toBe 2 epoch ++ toBe 8 crc.toNat

/-! ### COUCH_REQ, checkpoint, REPLAY -/

/-- COUCH_REQ_RECEIVED (R366): the present cycle is checkpoint k in every voting lane; the couch source reports the start, and first
sends REFRESH_DATA to a lane that rejoins (R616). A request of the same lane after an abandoned couch goes to another source (R369). -/
def execCouchReqReceived (lane : Lane) (kernelCrcs : List (BitVec 32)) (s : State) : Host.Outcome State Fault Refusal :=
  let c := s.lanes.couch
  .next (if !s.voting || s.stopped || s.simplex || decide (lane ∈ s.lanes.vset) || (c.active && c.joiner != some lane) then s
    else
      let src := if c.active then lowest (s.lanes.vset.filter (fun l => c.source ≠ some l)) else s.couchSource
      let lack := (s.kernels.held.filter (fun k => decide (BitVec.ofNat 32 (crc32 k.image) ∉ kernelCrcs))).map CouchPart.kernel
      let s := { s with lanes := { s.lanes with
        couchWait := false, spareWake := false, spareState := if lane = .s then .joining else s.lanes.spareState,
        couch := { active := true, source := src, joiner := some lane, checkpoint := some s.clock.cycle, parts := lack } } }
      if src = some s.lane then
        let s := if lane = .s then s else s.send (.refresh (s.capture 2))
        s.reportEvent (s.couchBody lane 1 (s.imageKb (s.couchImage lack)) [])
      else s)

/-- CHECKPOINT_CAPTURE (R366, R368): at the end of cycle k the image is captured; the source streams it, and every voting lane sends
COUCH_CONFIRM. -/
def State.captureCouch (s : State) : State :=
  let c := s.lanes.couch
  match c.joiner with
  | some j =>
    if c.active && s.voting && j != s.lane && c.checkpoint == some s.clock.cycle && !c.captured then
      let img := s.couchImage c.parts
      let crc := Config.imageCrc img
      let s := { s with lanes := { s.lanes with couch := { c with parts := img, captured := true, imageCrc := some crc } } }
      let s := if c.source = some s.lane then (s.send (.couch 0x0B j img)).weirSend 0x0D (some j) (toBe 8 crc.toNat) else s
      s.weirSend 0x0E (some j) (confirmBytes s.clock.cycle s.lanes.epoch.toNat crc)
    else s
  | none => s

/-- REPLAY (R367): of each cycle after k, the source sends the agreed inputs, the applied seal with its bodies, the voice epoch and
the voting set that follow from it. -/
def State.sendReplay (s : State) (cycle : Nat) (agreed : List (Nat × List Byte)) (bodies : List Accepted) : State :=
  let c := s.lanes.couch
  match c.joiner with
  | some j =>
    if c.active && s.voting && c.captured && c.source == some s.lane && c.checkpoint.any (fun k => decide (k < cycle)) then
      s.send (.replay j { cycle := cycle, agreed := agreed, bodies := bodies, epoch := s.lanes.epoch, vset := s.lanes.vset })
    else s
  | none => s

/-- FRAME_REQUEST (R367): a voting lane returns an agreed frame of the last 256 basic cycles. -/
def execFrameRequest (lane : Lane) (cycle node : Nat) (s : State) : Host.Outcome State Fault Refusal :=
  .next (if !s.voting || s.simplex then s
    else match (kvGet s.lanes.past cycle).bind (fun l => kvGet l node) with
      | some p => s.weirSend 0x11 (some lane) p
      | none => s)

/-- JOIN_RECEIVED (R370): the next VOTE of the lane is a trial. -/
def execJoinReceived (lane : Lane) (s : State) : Host.Outcome State Fault Refusal :=
  .next (if s.voting && s.lanes.couch.active && s.lanes.couch.joiner == some lane then
      { s with lanes := { s.lanes with couch := { s.lanes.couch with trial := true } } }
    else s)

end Sys2Proof.Machine
end

