-- ==== Sys2Proof/Machine/CycleStart.lean ====
section
/-!
DEFINITION. The start of a basic cycle (R227): what the end of the last one leaves to be done, the matrix cycle and its axis map (R47,
R48, R99, R235 to R237), commands and reports taking effect (R30, R60 to R65), coefficients (R92) and set-points (R147).
-/
namespace Sys2Proof.Machine

/-! ### The end of the cycle before -/

/-- SETTINGS_SAVE captures the content at the end of its effective cycle (R609). -/
def State.captureSave (s : State) : State :=
  match s.power.saving with
  | some c => if !c.valid && decide (s.power.saveAt ≤ s.clock.cycle) then { s with power := { s.power with saving := some (s.capture 1) } } else s
  | none => s

/-- The bodies of the seal that is about to be applied. -/
def State.sealedBodies (s : State) : List Accepted :=
  match s.order.sealMsg with
  | some m => if s.confirmed m then m.bodies else []
  | none => []

/-- A cycle ends: its seal, a checkpoint and a save, the network, the star, the vote and the inputs; and a CLUSTER_STOP of this cycle
stops the cluster (R262). -/
def State.endCycle (s : State) : State :=
  let s := s.sealEnd
  let stop (a : Accepted) : Bool := a.body.stops && decide (a.eff ≤ s.clock.cycle)
  let s := (s.captureCouch.captureSave.netCycleEnd.starCycleEnd.voteCycleEnd).inputCycleEnd
  if s.order.accepted.any stop then
    { s with order := { s.order with accepted := s.order.accepted.filter (fun a => !stop a) } }.stopCluster
  else s

/-! ### The matrix cycle (R47, R48, R99, R199, R235 to R237) -/

/-- What an axis that is removed, or created anew, leaves: an event for each discarded element, and void commands (R61, R99). -/
def State.leaveAxis (s : State) (a : Axis) : State :=
  let n := a.entry.axis
  let s := a.coef.queue.foldl (fun s e =>
    s.event 0x402 n (toLe 4 e.tag.toNat ++ [BitVec.ofNat 8 e.block, BitVec.ofNat 8 e.row, BitVec.ofNat 8 e.col])) s
  a.waiting.foldl (fun s w => match w.body with | .cmd r => s.voidOn n r (axisStCode a.st) | _ => s) s

/-- FB_FORM or FB_SOURCE changed: the next agreed record is a reference record (R199). -/
def State.formChanged (s : State) (n : Nat) : State := s.updDec n (fun d => { d with refNeeded := d.refNeeded.or (some 6) })

/-- A pending map comes into force. -/
def State.mapInto (s : State) (p : PendingMap) : State :=
  let old := s.axes
  let axes := (sortBy (fun (e : AxisEntry) => e.axis) p.map.axes).map (p.axis old)
  let gone := old.filter (fun a => !(p.map.axes.any (fun e => e == a.entry)))
  let form (s : State) (n : Nat) : Nat × Nat := (s.fld (tgtAxis n) 0x0508 0 0, s.fld (tgtAxis n) 0x0508 1 0)
  let before := axes.map (fun a => (a.entry.axis, form s a.entry.axis))
  let node (e : NodeEntry) : NodeRt := (s.node? (nodeIndex e)).getD { node := nodeIndex e }
  let s := { s with
    axes := axes, nodes := (sortBy nodeIndex p.map.nodes).map node, order := { s.order with mapPending := none },
    cfg := { s.cfg with map := p.map, nodes := p.nodes,
                        staged := s.cfg.staged.filter (fun q => !(p.fields.any (fun x => x == q))) } }
  let s := gone.foldl State.leaveAxis s
  let s := s.applyFields p.fields
  (before.foldl (fun s b => if form s b.1 = b.2 then s else s.formChanged b.1) s).loadScheds

/-- A changed node that has not confirmed its SCHEDULE when ACT_MATRIX begins (R237). -/
def State.lateSchedules (s : State) : State :=
  (s.nodes.filter (fun r => r.schedPending && !r.confirmed && r.actMatrix == BitVec.ofNat 8 s.matrix)).foldl (fun s r =>
    let b := r.node / 8
    let p := r.node % 8
    s.reportAll { (mkFault 0x205 (locNode 0 b p)) with event := some { code := 0x4C3, payload :=
      [0, BitVec.ofNat 8 b, BitVec.ofNat 8 p, r.schedId, r.actMatrix] } }) s

/-- A COMMIT of the axis map. -/
def Accepted.commits (a : Accepted) : Option Req :=
  match a.body with
  | .cmd r => if r.opcode = 0x0004 ∧ isMapT r.target.toNat then some r else none
  | _ => none

/-- MATRIX_CYCLE_START (R47). A COMMIT that takes effect in this very cycle sets its schedules going first. -/
def State.matrixStart (s : State) : State :=
  if s.clock.cycle % 64 ≠ 0 then s
  else
    let s := match s.order.mapPending with
      | some p =>
        if p.at_ ≤ s.clock.cycle then
          let due := s.order.accepted.filterMap (fun (a : Accepted) => if a.eff ≤ s.clock.cycle then a.commits else none)
          (due.foldl (fun (s : State) r => s.commitEffect r []) s).mapInto p
        else s
      | none => s
    s.lateSchedules

/-! ### Commands and reports take effect (R30, R60 to R63) -/

/-- What waited at an axis that is due acts, in its order. -/
def State.takeWaiting (s : State) (n : Nat) : State :=
  match s.axis? n with
  | none => s
  | some a =>
    let s := s.updAxis n (fun x => { x with waiting := [] })
    a.waiting.foldl (fun s w => match w.body with | .cmd r => s.axisEffect r n w.captured | _ => s.faultAxis n) s

/-- What a lane report of another lane's decision brings besides its record: an input-deficient lane leaves the voting set (R335). -/
def State.afterReport (s : State) (a : Accepted) : State :=
  match a.body with
  | .fault r => if r.code = 0x243 then s.decideLeave a.lane .removed 3 else s
  | _ => s

/-- An F2 acts after every command of the cycle (R63); an output divergence is then realigned (R343). -/
def State.lateF2 (s : State) (r : FaultRep) : State :=
  let s := s.actF2 r
  match r.code, r.loc.axis with
  | 0x244, some n => s.startRealign n
  | _, _ => s

/-- Every accepted place whose effective cycle has come takes effect, in the command order; then the F2s. -/
def State.takeAccepted (s : State) : State :=
  let now (a : Accepted) : Bool := decide (a.eff ≤ s.clock.cycle) && !a.body.stops
  let l := s.order.accepted.filter now
  let s := { s with order := { s.order with accepted := s.order.accepted.filter (fun a => !now a) } }
  let (s, f2) := l.foldl (fun (p : State × List FaultRep) a =>
    let (s, f) := p.1.effectOne a
    (s.afterReport a, p.2 ++ f)) (s, [])
  f2.foldl State.lateF2 s

/-- The coupling table's buffers swap (R21). -/
def State.swapCoupling (s : State) : State := { s with coupling := { s.coupling with rd := s.coupling.wr } }

/-- Lane S refreshes once after each CLUSTER_START (R361). -/
def State.refreshAtStart (s : State) : State :=
  if s.voting && s.net.st == .sync && !s.net.spareWokenThisStart then
    { s with net := { s.net with spareWokenThisStart := true } }.wakeRefresh
  else s

/-- The part of a cycle's start that every lane which computes goes through alike. -/
def State.startCycle (s : State) : State :=
  let s := s.swapCoupling.adopt.matrixStart
  let due := (s.axes.filter s.due).map (·.entry.axis)
  let s := due.foldl State.beginDue s
  let s := due.foldl State.takeWaiting s
  s.takeAccepted.releaseQueue.coefSteps.formSetpoints

/-! ### BASIC_CYCLE_START -/

/-- The count rises, and the PHC is latched (R227, R393). -/
def State.nextCount (s : State) (clk : Int) : State :=
  let k := s.clock.cycle + 1
  { s with clock := { s.clock with cycle := k, interval := .lead },
           time := { s.time with latches := ((k, s.phc clk) :: s.time.latches).take 32, capReports := 0 } }

/-- The next VOTE of a lane that has reached the live cycle is a trial (R370). -/
def State.beginTrial (s : State) : State :=
  if s.lanes.role == .joining && s.lanes.couch.live && !s.lanes.couch.trial then
    { s with lanes := { s.lanes with couch := { s.lanes.couch with trial := true } } }
  else s

/-- BASIC_CYCLE_START (R227): `clk` is the local time of the start in ns, `samples` what the local channels converted at their
sampling instants. -/
def execBasicCycleStart (clk : Int) (samples : List LocalSample) (s : State) : Host.Outcome State Fault Refusal :=
  .next (if !s.power.steward then s
    else
      let bodies := s.sealedBodies
      let agreed := s.lanes.agreed
      let k := s.clock.cycle
      let s := (({ s with tx := [] } : State).endCycle).nextCount clk
      let s := (s.acqCycleStart.takeSamples samples).applyLeaving
      let s := (s.sendReplay k agreed bodies).beginTrial
      if s.computing then s.startCycle.refreshAtStart else s)

end Sys2Proof.Machine
end

