-- ==== Sys2Proof/Machine/EngineIsa.lean ====
section
/-!
DEFINITION. The slot operations as commands to an engine (Tables 3.8 to 3.10): a MAC-slot operation opens the bundle, a
MOVE-slot operation joins it, an ADDRESS-slot operation closes it (R121). An access that the address map does not allow ends
in Fault.engineAddress (R103).
-/
namespace Sys2Proof.Machine

/-- An operation of an engine as an outcome: its new engine, or the fault of an access outside Table 3.2 (R103). -/
def State.engineDo (s : State) (n : Nat) (f : (Nat → BitVec 32) → Engine → Except Nat Engine) : Host.Outcome State Fault Refusal :=
  match s.engines[n]? with
  | none => .next s
  | some e => match f (s.ctxOf e) e with
    | .ok e' => .next (s.updEngine n (fun _ => e'))
    | .error w => .fault (.engineAddress w)

/-- A MAC-slot operation opens the bundle. -/
def State.macSlot (s : State) (n : Nat) (op : SlotOp) : Host.Outcome State Fault Refusal :=
  s.engineDo n (fun ctx e => e.openBundle.slot true op ctx)

/-- A MOVE-slot operation joins the bundle. -/
def State.movSlot (s : State) (n : Nat) (op : SlotOp) : Host.Outcome State Fault Refusal :=
  s.engineDo n (fun ctx e => e.slot false op ctx)

/-- An ADDRESS-slot operation closes the bundle. -/
def State.adrSlot (s : State) (n : Nat) (op : AddrOp) : Host.Outcome State Fault Refusal :=
  s.engineDo n (fun _ e => .ok (e.address op))

/-- MNOP: no operation in the MAC slot (Table 3.8). -/
def execMnop (engine : Fin 16) (s : State) : Host.Outcome State Fault Refusal :=
  s.macSlot engine {}

/-- MUL4: four products with consecutive words into ACC0 to ACC3 (Table 3.8, R124). -/
def execMul4 (engine : Fin 16) (dx : Fin 32) (aj : Fin 8) (pm : Bool) (sci : Fin 32) (pred : Fin 4) (s : State) : Host.Outcome State Fault Refusal :=
  s.macSlot engine (macMem .set 4 dx aj pm 0 sci pred)

/-- MAC4: four products with consecutive words into ACC0 to ACC3 (Table 3.8, R124). -/
def execMac4 (engine : Fin 16) (dx : Fin 32) (aj : Fin 8) (pm : Bool) (sci : Fin 32) (pred : Fin 4) (s : State) : Host.Outcome State Fault Refusal :=
  s.macSlot engine (macMem .add 4 dx aj pm 0 sci pred)

/-- MSU4: four products with consecutive words into ACC0 to ACC3 (Table 3.8, R124). -/
def execMsu4 (engine : Fin 16) (dx : Fin 32) (aj : Fin 8) (pm : Bool) (sci : Fin 32) (pred : Fin 4) (s : State) : Host.Outcome State Fault Refusal :=
  s.macSlot engine (macMem .sub 4 dx aj pm 0 sci pred)

/-- MUL1: one product with a memory word (Table 3.8, R124). -/
def execMul1 (engine : Fin 16) (dx : Fin 32) (aj : Fin 8) (pm : Bool) (acc : Fin 4) (sci : Fin 32) (pred : Fin 4) (s : State) : Host.Outcome State Fault Refusal :=
  s.macSlot engine (macMem .set 1 dx aj pm acc sci pred)

/-- MAC1: one product with a memory word (Table 3.8, R124). -/
def execMac1 (engine : Fin 16) (dx : Fin 32) (aj : Fin 8) (pm : Bool) (acc : Fin 4) (sci : Fin 32) (pred : Fin 4) (s : State) : Host.Outcome State Fault Refusal :=
  s.macSlot engine (macMem .add 1 dx aj pm acc sci pred)

/-- MSU1: one product with a memory word (Table 3.8, R124). -/
def execMsu1 (engine : Fin 16) (dx : Fin 32) (aj : Fin 8) (pm : Bool) (acc : Fin 4) (sci : Fin 32) (pred : Fin 4) (s : State) : Host.Outcome State Fault Refusal :=
  s.macSlot engine (macMem .sub 1 dx aj pm acc sci pred)

/-- MULR: one product of two registers (Table 3.8, R124). -/
def execMulr (engine : Fin 16) (dx dy : Fin 32) (acc : Fin 4) (sci : Fin 32) (pred : Fin 4) (s : State) : Host.Outcome State Fault Refusal :=
  s.macSlot engine (macReg .set dx dy acc sci pred)

/-- MACR: one product of two registers (Table 3.8, R124). -/
def execMacr (engine : Fin 16) (dx dy : Fin 32) (acc : Fin 4) (sci : Fin 32) (pred : Fin 4) (s : State) : Host.Outcome State Fault Refusal :=
  s.macSlot engine (macReg .add dx dy acc sci pred)

/-- MSUR: one product of two registers (Table 3.8, R124). -/
def execMsur (engine : Fin 16) (dx dy : Fin 32) (acc : Fin 4) (sci : Fin 32) (pred : Fin 4) (s : State) : Host.Outcome State Fault Refusal :=
  s.macSlot engine (macReg .sub dx dy acc sci pred)

/-- ACCL: a register times 2^31 (Table 3.8, R124). -/
def execAccl (engine : Fin 16) (dx : Fin 32) (acc : Fin 4) (sci : Fin 32) (pred : Fin 4) (s : State) : Host.Outcome State Fault Refusal :=
  s.macSlot engine (macLoad .set dx acc sci pred)

/-- ACCA: a register times 2^31 (Table 3.8, R124). -/
def execAcca (engine : Fin 16) (dx : Fin 32) (acc : Fin 4) (sci : Fin 32) (pred : Fin 4) (s : State) : Host.Outcome State Fault Refusal :=
  s.macSlot engine (macLoad .add dx acc sci pred)

/-- CLR4: the accumulators become 0 (Table 3.8). -/
def execClr4 (engine : Fin 16) (s : State) : Host.Outcome State Fault Refusal :=
  s.macSlot engine macClear

/-- VNOP: no operation in the MOVE slot (Table 3.9). -/
def execVnop (engine : Fin 16) (s : State) : Host.Outcome State Fault Refusal :=
  s.movSlot engine {}

/-- MOVS: an accumulator moved, rounded and held (R125, R126). -/
def execMovs (engine : Fin 16) (dd : Fin 32) (acc : Fin 4) (mode : MovsMode) (pred : Fin 4) (s : State) : Host.Outcome State Fault Refusal :=
  s.movSlot engine (movMovs dd acc mode pred)

/-- LD: a word loaded (Table 3.9). -/
def execLd (engine : Fin 16) (dd : Fin 32) (aj : Fin 8) (pm : Bool) (off : Fin 64) (pred : Fin 4) (s : State) : Host.Outcome State Fault Refusal :=
  s.movSlot engine (movLd dd aj pm off pred)

/-- ST: a word stored (Table 3.9). -/
def execSt (engine : Fin 16) (dd : Fin 32) (aj : Fin 8) (pm : Bool) (off : Fin 64) (pred : Fin 4) (s : State) : Host.Outcome State Fault Refusal :=
  s.movSlot engine (movSt dd aj pm off pred)

/-- MOV: a register copied (Table 3.9). -/
def execMov (engine : Fin 16) (dd ds : Fin 32) (pred : Fin 4) (s : State) : Host.Outcome State Fault Refusal :=
  s.movSlot engine (mov1 dd ds pred (fun x => (x, false)))

/-- LDI: an immediate, sign-extended (Table 3.9). -/
def execLdi (engine : Fin 16) (dd : Fin 32) (imm : BitVec 12) (s : State) : Host.Outcome State Fault Refusal :=
  s.movSlot engine (movLdi dd imm)

/-- ADD: saturating sum (Table 3.9, R125). -/
def execAdd (engine : Fin 16) (dd ds dt : Fin 32) (pred : Fin 4) (s : State) : Host.Outcome State Fault Refusal :=
  s.movSlot engine (mov2 dd ds dt pred opAdd)

/-- SUB: saturating difference (Table 3.9, R125). -/
def execSub (engine : Fin 16) (dd ds dt : Fin 32) (pred : Fin 4) (s : State) : Host.Outcome State Fault Refusal :=
  s.movSlot engine (mov2 dd ds dt pred opSub)

/-- ADDW: sum modulo 2^32 (Table 3.9, R125). -/
def execAddw (engine : Fin 16) (dd ds dt : Fin 32) (pred : Fin 4) (s : State) : Host.Outcome State Fault Refusal :=
  s.movSlot engine (mov2 dd ds dt pred (fun x y => (x + y, false)))

/-- SUBW: difference modulo 2^32 (Table 3.9, R125). -/
def execSubw (engine : Fin 16) (dd ds dt : Fin 32) (pred : Fin 4) (s : State) : Host.Outcome State Fault Refusal :=
  s.movSlot engine (mov2 dd ds dt pred (fun x y => (x - y, false)))

/-- MIN: smaller of two, signed (Table 3.9, R125). -/
def execMin (engine : Fin 16) (dd ds dt : Fin 32) (pred : Fin 4) (s : State) : Host.Outcome State Fault Refusal :=
  s.movSlot engine (mov2 dd ds dt pred opMin)

/-- MAX: larger of two, signed (Table 3.9, R125). -/
def execMax (engine : Fin 16) (dd ds dt : Fin 32) (pred : Fin 4) (s : State) : Host.Outcome State Fault Refusal :=
  s.movSlot engine (mov2 dd ds dt pred opMax)

/-- IMUL: low 32 bits of a product (Table 3.9, R125). -/
def execImul (engine : Fin 16) (dd ds dt : Fin 32) (pred : Fin 4) (s : State) : Host.Outcome State Fault Refusal :=
  s.movSlot engine (mov2 dd ds dt pred (fun x y => (x * y, false)))

/-- SAT: a register limited to a width (Table 3.9, R125). -/
def execSat (engine : Fin 16) (dd ds : Fin 32) (count : Fin 32) (pred : Fin 4) (s : State) : Host.Outcome State Fault Refusal :=
  s.movSlot engine (mov1 dd ds pred (opSat count))

/-- CLAMP: a register limited by two registers (Table 3.9). -/
def execClamp (engine : Fin 16) (dd ds t : Fin 32) (pred : Fin 4) (s : State) : Host.Outcome State Fault Refusal :=
  s.movSlot engine (movClamp dd ds t pred)

/-- SINCOS: sine and cosine of an angle in turns (R127). -/
def execSincos (engine : Fin 16) (dd ds : Fin 32) (pred : Fin 4) (s : State) : Host.Outcome State Fault Refusal :=
  s.movSlot engine (movSincos dd ds pred)

/-- RCP: reciprocal and its exponent (R128). -/
def execRcp (engine : Fin 16) (dd ds : Fin 32) (pred : Fin 4) (s : State) : Host.Outcome State Fault Refusal :=
  s.movSlot engine (movRcp dd ds pred)

/-- RSQ: square root (R128). -/
def execRsq (engine : Fin 16) (dd ds : Fin 32) (pred : Fin 4) (s : State) : Host.Outcome State Fault Refusal :=
  s.movSlot engine (movRsq dd ds pred)

/-- ASR: arithmetic shift right (Table 3.9). -/
def execAsr (engine : Fin 16) (dd ds : Fin 32) (count : Fin 32) (pred : Fin 4) (s : State) : Host.Outcome State Fault Refusal :=
  s.movSlot engine (mov1 dd ds pred (fun x => (x.sshiftRight count.val, false)))

/-- SHL: saturating shift left (Table 3.9, R125). -/
def execShl (engine : Fin 16) (dd ds : Fin 32) (count : Fin 32) (pred : Fin 4) (s : State) : Host.Outcome State Fault Refusal :=
  s.movSlot engine (mov1 dd ds pred (opShl count))

/-- CMP: a predicate set from a signed comparison (Table 3.9). -/
def execCmp (engine : Fin 16) (cond : CmpCond) (p3 : Bool) (ds dt : Fin 32) (pred : Fin 4) (s : State) : Host.Outcome State Fault Refusal :=
  s.movSlot engine (movCmp cond p3 ds dt pred)

/-- XRD: NX, SF or the predicates read (Table 3.9). -/
def execXrd (engine : Fin 16) (dd : Fin 32) (src : XrdSrc) (pred : Fin 4) (s : State) : Host.Outcome State Fault Refusal :=
  s.movSlot engine (movXrd dd src pred)

/-- SFCLR: the sticky flag cleared (Table 3.9). -/
def execSfclr (engine : Fin 16) (s : State) : Host.Outcome State Fault Refusal :=
  s.movSlot engine movSfclr

/-- ANOP: no operation in the ADDRESS slot (Table 3.10). -/
def execAnop (engine : Fin 16) (s : State) : Host.Outcome State Fault Refusal :=
  s.adrSlot engine .nop

/-- ASETL: address in local data (Table 3.10). -/
def execAsetl (engine : Fin 16) (j : Fin 8) (op : BitVec 11) (s : State) : Host.Outcome State Fault Refusal :=
  s.adrSlot engine (.setA j (asetlV op))

/-- ASETC: address in the context window (Table 3.10). -/
def execAsetc (engine : Fin 16) (j : Fin 8) (op : BitVec 11) (s : State) : Host.Outcome State Fault Refusal :=
  s.adrSlot engine (.setA j (asetcV op))

/-- ASETI: address in the input and output areas (Table 3.10). -/
def execAseti (engine : Fin 16) (j : Fin 8) (op : BitVec 11) (s : State) : Host.Outcome State Fault Refusal :=
  s.adrSlot engine (.setA j (asetiV op))

/-- AADD: signed operand added to an address (Table 3.10). -/
def execAadd (engine : Fin 16) (j : Fin 8) (op : BitVec 11) (s : State) : Host.Outcome State Fault Refusal :=
  s.adrSlot engine (.addA j (op11 op))

/-- MSET: modify register set (Table 3.10). -/
def execMset (engine : Fin 16) (j : Fin 8) (op : BitVec 11) (s : State) : Host.Outcome State Fault Refusal :=
  s.adrSlot engine (.setM j (op11 op))

/-- AMOD: a modify register added to its address register (Table 3.10). -/
def execAmod (engine : Fin 16) (j : Fin 8) (s : State) : Host.Outcome State Fault Refusal :=
  s.adrSlot engine (.modA j)

/-- LOOP: the operands are the fields [13:6], count − 1, and [5:0], length − 1 (R123). -/
def execLoop (engine : Fin 16) (count : Fin 256) (length : Fin 64) (s : State) : Host.Outcome State Fault Refusal :=
  s.adrSlot engine (.loop count length)

/-- END: completes the run (R107). -/
def execEnd (engine : Fin 16) (s : State) : Host.Outcome State Fault Refusal :=
  s.adrSlot engine .end_

end Sys2Proof.Machine
end

