-- ==== Sys2Proof/Machine/Flags.lean ====
section
/-!
DEFINITION. The flags a host reads: the status words of Table 14.5 (Tables 7.5, 8.16, 9.7, 10.9, 11.8, 12.4 and 13.3), the bits of
them that a write of 1 clears, and the level of MSPI_INT.
-/
namespace Sys2Proof.Machine

/-- A mask of the indexes below `n` that satisfy `p`. -/
def maskBits (n : Nat) (p : Nat → Bool) : Nat := ((List.range n).map (fun i => if p i then 2 ^ i else 0)).sum

/-- Lane status words (Table 8.16). -/
def State.laneStatus (s : State) : List Nat :=
  let l := s.lanes
  let path (n : Nat) : Nat := (kvGet l.weirPath n).getD 0
  [ (l.addr.map Lane.num).getD 0 + 4 * b2n l.addr.isSome + 8 * b2n s.isVoice + 16 * roleCode l.role + 2 ^ 8 * laneMask l.vset
      + 2 ^ 12 * laneMask l.present + 2 ^ 16 * maskBits 3 (fun n => decide (n ∈ l.weirUp))
      + 2 ^ 19 * maskBits 3 (fun n => path n == 1 || path n == 2) + 2 ^ 22 * (s.config % 4) + 2 ^ 24 * b2n l.couch.active
      + 2 ^ 25 * b2n l.divSeen + 2 ^ 26 * b2n l.voiceSeen,
    l.epoch.toNat ]

/-- Time status words (Table 9.7). -/
def State.timeStatus (s : State) : List Nat :=
  let t := s.time
  [ servoCode t.servo + 4 * b2n t.map.valid + 8 * b2n (decide (s.clock.steerHeld ≠ 0)) + 16 * t.portState.toNat
      + 2 ^ 8 * maskBits 4 (fun n => s.ppsMode n != 0) + 2 ^ 12 * maskBits 4 (fun n => !(t.fifo.getD n []).isEmpty)
      + 2 ^ 16 * b2n t.linkUp + 2 ^ 17 * b2n t.speed1000 + 2 ^ 24 * b2n t.stepSeen + 2 ^ 25 * b2n t.capOvf + 2 ^ 26 * b2n t.pulseSeen,
    ofSigned 32 (clampI (-(2 ^ 31 - 1)) (2 ^ 31 - 1) t.offset) ]

/-- State code of the acquisition unit (Table 10.9). -/
def acqCode : AcqState → Nat
  | .idle => 0 | .filling => 1 | .armed => 2 | .post => 3 | .complete => 4

/-- Injections running. -/
def State.injRunning (s : State) : Nat := (s.axes.filter (fun a => a.inj.any (·.started))).length

/-- Acquisition status words (Table 10.9). -/
def State.acqStatus (s : State) : List Nat :=
  let q := s.acq
  [ acqCode q.st + 16 * (q.segment % 64) + 2 ^ 16 * b2n q.trigSeen + 2 ^ 17 * b2n q.missedSeen + 2 ^ 18 * b2n s.recording,
    s.injRunning % 32, q.missedTotal % 2 ^ 32 ]

/-- The F3 in force is one of a list. -/
def State.f3Of (s : State) (codes : List Nat) : Bool := s.faults.f3 && codes.contains s.faults.f3Code.toNat

/-- The safety processor runs with no F3 (Table 13.15). -/
def State.procOk (s : State) : Bool := s.safety.proc.ok && !s.f3Of [0x320, 0x321, 0x322, 0x323]

/-- The dyke's heartbeat is there and it has no F3. -/
def State.dykeOk (s : State) : Bool := s.safety.dyke.ok && !s.safety.proc.beatLost && !s.f3Of [0x320, 0x321, 0x324]

/-- Safety status words (Table 11.8), as the processor writes them. -/
def State.safetyStatus (s : State) : List Nat :=
  let f := s.safety
  let inp (c : Chan) (n : Nat) : SafeIn := c.ins.getD n {}
  let held (n : Nat) : Bool := let st := (inp f.proc n).st; st == .demand || st == .waitRestart
  [ f.sealStart.toNat % 4 + 4 * b2n (f.sealStart.getLsbD 2) + 8 * (f.sealStart.toNat / 8) + 2 ^ 8 * b2n f.startDone
      + 2 ^ 9 * b2n s.lockedOut + 2 ^ 10 * b2n s.procOk + 2 ^ 11 * b2n s.dykeOk + 2 ^ 12 * maskBits 4 s.sdoOn
      + 2 ^ 16 * maskBits 8 (fun n => s.siEnabled n && held n) + 2 ^ 24 * maskBits 8 s.discrepant,
    maskBits 8 (fun n => (inp f.proc n).pin) + 2 ^ 8 * maskBits 8 (fun n => (inp f.dyke n).pin)
      + 2 ^ 16 * maskBits 4 (fun m => f.release.getD m false) + 2 ^ 20 * maskBits 4 s.sdoSafe + 2 ^ 24 * b2n f.safeReset,
    f.lockoutId.toNat + 2 ^ 8 * f.lockoutBy.toNat + 2 ^ 16 * f.lockoutCause.toNat + 2 ^ 28 * b2n f.demandSeen
      + 2 ^ 29 * b2n f.supersededSeen + 2 ^ 30 * b2n f.resetRefused,
    f.passed.toNat + 2 ^ 16 * 0x0104 ]

/-- HIGHEST of Table 13.3: the highest class active or under handling. -/
def State.highest (s : State) : Nat :=
  let f := s.faults
  if f.f3 then 3
  else if f.sysF2 || f.active.any (fun a => a.cls == .f2) then 2
  else if !f.timers.isEmpty || f.active.any (fun a => a.cls == .f1) then 1 else 0

/-- Fault status words (Table 13.3). -/
def State.faultStatus (s : State) : List Nat :=
  let f := s.faults
  [ s.highest + 4 * b2n f.sysF2 + 8 * b2n f.f3 + 16 * heldAt 255 f.timers.length + 2 ^ 12 * heldAt 32 f.queue.length
      + 2 ^ 18 * b2n f.f3Prev + 2 ^ 22 * b2n f.lostSeen + 2 ^ 23 * b2n f.escSeen + 2 ^ 24 * b2n f.f2Seen,
    f.f3Code.toNat + 2 ^ 16 * f.f3PrevCode.toNat, f.inst.toNat ]

/-- Status word of one output (Table 12.4). -/
def sdoWord (o : Sdo) : Nat :=
  b2n o.hs.on + 2 * b2n o.ls.on + 4 * b2n o.hs.proven + 8 * b2n o.ls.proven + 2 ^ 4 * (o.hs.strOn % 16) + 2 ^ 8 * (o.hs.strOff % 16)
    + 2 ^ 12 * (o.ls.strOn % 16) + 2 ^ 16 * (o.ls.strOff % 16) + 2 ^ 20 * b2n o.shortSeen + 2 ^ 21 * b2n o.underSeen
    + 2 ^ 22 * b2n o.stuckSeen + 2 ^ 23 * b2n o.limitSeen

/-- Output status words (Table 12.4). -/
def State.outputStatus (s : State) : List Nat :=
  let d := s.drivers
  (List.range 4).map (fun m => sdoWord (d.outs.getD m {}))
    ++ [d.vbrgMv.toNat + 2 ^ 16 * d.vcpMv.toNat + 2 ^ 28 * b2n d.supplyOn + 2 ^ 29 * b2n d.vbrgOk + 2 ^ 30 * b2n d.cpOk]

/-- LINK of a port: the worst state of those of its links that the lane uses, OFF where it uses none. -/
def State.worstLink (s : State) (codes : List Nat) : Nat :=
  match (codes.filter s.linkEnabled).map (fun c => linkCode (s.linkSt c)) with
  | [] => 0
  | l => l.foldl min 3

/-- Status word of a branch port (Table 7.5). -/
def State.branchWord (s : State) (b : Nat) : Nat :=
  let r := s.branches.getD b {}
  let pos (p : Nat) : Position := r.poss.getD p {}
  s.worstLink [b] + 4 * b2n r.closed + 8 * b2n r.hostClosed + 2 ^ 8 * maskBits 8 (fun p => (pos p).present)
    + 2 ^ 16 * maskBits 8 (fun p => (pos p).closed || (pos p).hostClosed) + 2 ^ 24 * b2n r.lateSeen + 2 ^ 25 * b2n r.babbleSeen
    + 2 ^ 26 * b2n r.dropSeen

/-- Port codes of the links of T0, T1, W0, W1 and W2 (Table 15.1). -/
def portCodes : List (List Nat) :=
  [(List.range 8).map (0x10 + ·), (List.range 8).map (0x20 + ·), (List.range 4).map (0x40 + ·) ++ (List.range 8).map (0x30 + ·),
   (List.range 4).map (0x44 + ·), (List.range 4).map (0x48 + ·)]

/-- Port status words (Table 7.5): B0 to B7, then T0, T1, W0, W1 and W2. -/
def State.portStatus (s : State) : List Nat :=
  (List.range 8).map s.branchWord
    ++ (List.range 5).map (fun i => s.worstLink (portCodes.getD i []) + 2 ^ 26 * b2n (s.trunkDrop.getD i false))

/-! ### Write-1-to-clear bits (R10) -/

/-- A bit after a write: 1 clears it. -/
def clr (b : Bool) (v : BitVec 32) (n : Nat) : Bool := b && !v.getLsbD n

/-- The W1C bits of a word at a BAR0 offset after a write of `v` (Tables 7.5 to 13.3, 14.4). -/
def State.w1c (s : State) (o : Nat) (v : BitVec 32) : State :=
  if o = 0x0040 then { s with host := { s.host with irqStatus := s.host.irqStatus &&& ~~~(v.setWidth 8) } }
  else if 0x0100 ≤ o ∧ o < 0x0140 then
    let f (b : Mailbox) : Mailbox := { b with ignored := clr b.ignored v 16 }
    { s with host := { s.host with boxes := modAt s.host.boxes ((o - 0x0100) / 4) f } }
  else if o = 0x0200 then { s with lanes := { s.lanes with divSeen := clr s.lanes.divSeen v 25, voiceSeen := clr s.lanes.voiceSeen v 26 } }
  else if o = 0x0208 then
    { s with time := { s.time with stepSeen := clr s.time.stepSeen v 24, capOvf := clr s.time.capOvf v 25, pulseSeen := clr s.time.pulseSeen v 26 } }
  else if o = 0x0210 then { s with acq := { s.acq with trigSeen := clr s.acq.trigSeen v 16, missedSeen := clr s.acq.missedSeen v 17 } }
  else if o = 0x0228 then
    { s with safety := { s.safety with demandSeen := clr s.safety.demandSeen v 28, supersededSeen := clr s.safety.supersededSeen v 29,
                                       resetRefused := clr s.safety.resetRefused v 30 } }
  else if o = 0x0230 then
    { s with faults := { s.faults with lostSeen := clr s.faults.lostSeen v 22, escSeen := clr s.faults.escSeen v 23, f2Seen := clr s.faults.f2Seen v 24 } }
  else if 0x0240 ≤ o ∧ o < 0x0250 then
    s.updSdo ((o - 0x0240) / 4) (fun d => { d with
      shortSeen := clr d.shortSeen v 20, underSeen := clr d.underSeen v 21, stuckSeen := clr d.stuckSeen v 22, limitSeen := clr d.limitSeen v 23 })
  else if 0x0260 ≤ o ∧ o < 0x0280 then
    s.updBranch ((o - 0x0260) / 4) (fun b => { b with
      lateSeen := clr b.lateSeen v 24, babbleSeen := clr b.babbleSeen v 25, dropSeen := clr b.dropSeen v 26 })
  else if 0x0280 ≤ o ∧ o < 0x0294 then { s with trunkDrop := modAt s.trunkDrop ((o - 0x0280) / 4) (fun b => clr b v 26) }
  else s

/-! ### MSPI_INT (R528) -/

/-- MSPI_INT is driven low. -/
def State.mspiIntLow (s : State) : Bool := s.host.mspiIntEn && (s.host.irqStatus &&& s.host.irqEnable) != 0

end Sys2Proof.Machine
end

