-- ==== Sys2Proof/Machine/Host.lean ====
section
/-!
DEFINITION. The host port (R526 to R536, R552): BAR0 and BAR2 as both ports read them, register writes, and MSPI.
-/
namespace Sys2Proof.Machine

/-! ### BAR0, read (Tables 14.3 to 14.6) -/

/-- One of the four capture registers of an input (Table 14.6). -/
def State.captureReg (s : State) (n w : Nat) : Nat :=
  match s.time.fifo.getD n [] with
  | [] => 0
  | c :: _ =>
    match w with
    | 0 => c.cycle % 2 ^ 32
    | 1 => c.off % 2 ^ 30 + 2 ^ 30 * b2n c.rising + 2 ^ 31
    | 2 => (c.phc / 1000000000).toNat % 2 ^ 32
    | _ => (c.phc % 1000000000).toNat % 2 ^ 30

/-- State code of a mailbox (Table 14.12). -/
def mbCode : MbState → Nat
  | .idle => 0 | .busy => 1 | .wait => 2 | .done => 3

/-- A register of the block at 0x0000 to 0x013F (Table 14.4). The boot ROM alone shows steward release 0x0000 (R619). -/
def State.ctrlReg (s : State) (o : Nat) : Nat :=
  if 0x0100 ≤ o ∧ o < 0x0140 then (match s.host.boxes[(o - 0x0100) / 4]? with | some b => mbCode b.st + 2 ^ 16 * b2n b.ignored | none => 0)
  else match o with
    | 0x0000 => 0x0160 + 2 ^ 16 * 0xB0
    | 0x0004 => (if s.power.noImage then 0 else 0x0302) + 2 ^ 16 * 0x0104
    | 0x0010 => s.clock.cycle % 2 ^ 32
    | 0x0014 => s.host.countHi.toNat
    | 0x001C => s.host.scratch.toNat
    | 0x0020 => b2n s.host.mspiIntEn
    | 0x0040 => s.host.irqStatus.toNat
    | 0x0044 => s.host.irqEnable.toNat
    | 0x0080 => s.events.localWr.toNat
    | 0x0084 => s.events.w.toNat
    | 0x0088 => s.events.r.toNat
    | 0x008C => s.events.dropped.toNat
    | 0x00C0 => s.host.snapSeq.toNat
    | 0x00C4 => s.host.snapSkipped.toNat
    | 0x00C8 => s.host.snapHold.toNat
    | _ => 0

/-- A status word of the block at 0x0200 to 0x02FF (Table 14.5). -/
def State.statusReg (s : State) (o : Nat) : Nat :=
  if o < 0x0208 then s.laneStatus.getD ((o - 0x0200) / 4) 0
  else if o < 0x0210 then s.timeStatus.getD ((o - 0x0208) / 4) 0
  else if o < 0x0220 then s.acqStatus.getD ((o - 0x0210) / 4) 0
  else if o < 0x0230 then s.safetyStatus.getD ((o - 0x0220) / 4) 0
  else if o < 0x0240 then s.faultStatus.getD ((o - 0x0230) / 4) 0
  else if o < 0x0260 then s.outputStatus.getD ((o - 0x0240) / 4) 0
  else s.portStatus.getD ((o - 0x0260) / 4) 0

/-- A byte of the on-chip ring: record i lies at 0x2000 + 32 × (i mod 256) (R550). -/
def State.ringByte (s : State) (o : Nat) : Nat :=
  let place := (o - 0x2000) / 32
  let back := (s.events.localWr.toNat + 255 - place) % 256
  match s.events.ring[back]? with
  | some r => byteAt r.bytes ((o - 0x2000) % 32)
  | none => 0

/-- A byte of a mailbox's areas (Table 14.3). -/
def State.boxByte (s : State) (o : Nat) : Nat :=
  match s.host.boxes[(o - 0x8000) / 0x200]? with
  | some b =>
    let k := (o - 0x8000) % 0x200
    if k < 0x100 then byteAt b.cmd k else byteAt b.rsp (k - 0x100)
  | none => 0

/-- A byte of a 32-bit register. -/
def byteOf (v k : Nat) : Nat := v / 2 ^ (8 * k) % 256

/-- A byte of BAR0; an address that no table names reads 0 (R529). -/
def State.bar0 (s : State) (o : Nat) : Byte :=
  BitVec.ofNat 8 (
    if o < 0x0140 then byteOf (s.ctrlReg (o / 4 * 4)) (o % 4)
    else if 0x0200 ≤ o ∧ o < 0x0300 then byteOf (s.statusReg (o / 4 * 4)) (o % 4)
    else if 0x0300 ≤ o ∧ o < 0x0340 then byteOf (s.captureReg ((o - 0x0300) / 16) (o / 4 % 4)) (o % 4)
    else if 0x2000 ≤ o ∧ o < 0x4000 then s.ringByte o
    else if 0x8000 ≤ o ∧ o < 0xA000 then s.boxByte o
    else if 0xF000 ≤ o ∧ o < 0xF080 ∨ 0xF800 ≤ o ∧ o < 0xF808 then (memRead s.host.msix o).toNat
    else 0)

/-! ### BAR2, read (Tables 14.8, 10.6) -/

/-- A segment descriptor in bytes (Table 10.6). -/
def Descr.bytes (d : Descr) : List Byte :=
  toLe 4 d.trigCount.toNat ++ toLe 4 (ofSigned 32 d.trigOff) ++ toLe 8 d.trigTime.toNat ++ [d.placement, d.source]
    ++ toLe 2 d.firstRec ++ toLe 2 d.preActual ++ toLe 2 d.postActual ++ toLe 4 (heldAt 0xFFFFFFFF d.deadNs) ++ toLe 4 (heldAt 0xFFFFFFFF d.missed)

/-- A byte of BAR2. -/
def State.bar2 (s : State) (o : Nat) : Byte :=
  if o < 0x8000 then s.host.snap.getD o 0
  else if o < 0x10000 then s.host.heldSnap.getD (o - 0x8000) 0
  else if 0x100000 ≤ o ∧ o < 0x100800 then
    (match kvGet s.acq.descrs ((o - 0x100000) / 32) with | some d => d.bytes.getD (o % 32) 0 | none => 0)
  else if 0x200000 ≤ o ∧ o < 0x400000 then memRead s.acq.mem (o - 0x200000)
  else 0

/-! ### Registers with behaviour of their own -/

/-- COUNT_HI is latched by a read of COUNT_LO (R530). -/
def State.latchCount (s : State) : State := { s with host := { s.host with countHi := BitVec.ofNat 32 (s.clock.cycle / 2 ^ 32) } }

/-- A read of capture word 3 removes the oldest capture (R532). -/
def State.popCapture (s : State) (n : Nat) : State := { s with time := { s.time with fifo := modAt s.time.fifo n (fun l => l.drop 1) } }

/-- A write of EVT_RD is passed to the voice lane as a lane report, in a voting lane (R552). -/
def State.evtRd (s : State) (v : BitVec 32) : State := if s.voting then (s.reportBody (.evtRd v)).collectOwn else s

/-- A write of SNAP_HOLD requests a held snapshot (R536). -/
def State.askHold (s : State) : State := { s with host := { s.host with holdReq := true } }

/-- A write of WDT restarts the host watchdog: it runs anew, and host-watchdog is no longer active (R521). -/
def State.restartWdt (s : State) : State := { s with host := { s.host with wdtRun := s.host.wdtRun + 1 } }.foundEnd 0x108 {}

/-- MB_CTRL: BELL_IGNORED is cleared by a 1, then a doorbell acts, then a release. -/
def State.mbCtrl (s : State) (n : Nat) (v : BitVec 32) : State :=
  let s := s.w1c (0x0100 + 4 * n) v
  let s := if v.getLsbD 8 then (match s.host.boxes[n]? with | some b => s.submit n (b.req n) | none => s) else s
  if v.getLsbD 9 then s.releaseBox n else s

/-! ### Writes of BAR0 (R529) -/

/-- A whole word written to a register of BAR0. -/
def State.wordWrite (s : State) (o : Nat) (v : BitVec 32) : State :=
  if 0x0100 ≤ o ∧ o < 0x0140 then s.mbCtrl ((o - 0x0100) / 4) v
  else if o = 0x0018 then s.restartWdt
  else if o = 0x001C then { s with host := { s.host with scratch := v } }
  else if o = 0x0020 then { s with host := { s.host with mspiIntEn := v.getLsbD 0 } }
  else if o = 0x0044 then { s with host := { s.host with irqEnable := v.setWidth 8 } }
  else if o = 0x0088 then s.evtRd v
  else if o = 0x00C8 then s.askHold
  else if 0xF000 ≤ o ∧ o < 0xF080 then { s with host := { s.host with msix := memWriteN s.host.msix o (toLe 4 v.toNat) } }
  else s.w1c o v

/-- The command area of a mailbox at a BAR0 offset: mailbox and place. -/
def cmdArea (o : Nat) : Option (Nat × Nat) :=
  if 0x8000 ≤ o ∧ o < 0xA000 ∧ (o - 0x8000) % 0x200 < 0x100 then some ((o - 0x8000) / 0x200, (o - 0x8000) % 0x200) else none

/-- Bytes written to a command area; ignored while the mailbox is not in IDLE (R541). -/
def State.cmdWrite (s : State) (n k : Nat) (bs : List Byte) : State :=
  let f (b : Mailbox) : Mailbox := if b.st == .idle then { b with cmd := (patch b.cmd k bs).take 256 } else b
  { s with host := { s.host with boxes := modAt s.host.boxes n f } }

/-- Words written from an offset upward. -/
def State.wordsWrite (s : State) (o : Nat) : List (BitVec 32) → State
  | [] => s
  | v :: r =>
    (match cmdArea o with
     | some (n, k) => s.cmdWrite n k (toLe 4 v.toNat)
     | none => s.wordWrite o v).wordsWrite (o + 4) r

/-- The whole 4-byte words of a list of bytes. -/
def wholeWords (bs : List Byte) : List (BitVec 32) := (List.range (bs.length / 4)).map (fun i => BitVec.ofNat 32 (le bs (4 * i) 4))

/-- A write of BAR0: 4 or 8 bytes at a multiple of 4, or any width in a command area; another form is not accepted. -/
def State.regWrite (s : State) (o : Nat) (bs : List Byte) : State :=
  match cmdArea o with
  | some (n, k) => s.cmdWrite n k bs
  | none => if (bs.length = 4 ∨ bs.length = 8) ∧ o % 4 = 0 then s.wordsWrite o (wholeWords bs) else s

/-- REGISTER_WRITE (R10, R11, R529, R530). -/
def execRegisterWrite (offset : Nat) (data : List Byte) (s : State) : Host.Outcome State Fault Refusal :=
  .next (if s.hostOn then s.regWrite offset data else s)

/-- W1C_WRITE (R10). -/
def execW1cWrite (offset : Nat) (value : BitVec 32) (s : State) : Host.Outcome State Fault Refusal :=
  .next (if s.hostOn then s.w1c offset value else s)

/-- EVT_RD_WRITE (R552). -/
def execEvtRdWrite (value : BitVec 32) (s : State) : Host.Outcome State Fault Refusal := .next (if s.hostOn then s.evtRd value else s)

/-- SNAP_HOLD_WRITE (R536): the value written means nothing. -/
def execSnapHoldWrite (_value : BitVec 32) (s : State) : Host.Outcome State Fault Refusal := .next (if s.hostOn then s.askHold else s)

/-- WDT_WRITE (R521): the value written means nothing. -/
def execWdtWrite (_value : BitVec 32) (s : State) : Host.Outcome State Fault Refusal := .next (if s.hostOn then s.restartWdt else s)

/-- CAPTURE_POP (R532). -/
def execCapturePop (input : Nat) (s : State) : Host.Outcome State Fault Refusal := .next (if s.hostOn then s.popCapture input else s)

/-- COUNT_LO_READ (R530). -/
def execCountLoRead (s : State) : Host.Outcome State Fault Refusal := .next (if s.hostOn then s.latchCount else s)

/-! ### MSPI (R527, Table 14.2) -/

/-- ERR: whether the transaction that ended was refused. -/
def State.mspiResult (s : State) (refused : Bool) : State := { s with host := { s.host with mspiErr := refused } }

/-- MSPI_WRITE: whole words to BAR0; a BAR2 address and one that is no multiple of 4 are refused. An address with [22:16] other than
0 names no register. -/
def execMspiWrite (addr : BitVec 24) (data : List Byte) (s : State) : Host.Outcome State Fault Refusal :=
  let a := addr.toNat
  .next (if !s.hostOn then s
    else if addr.getLsbD 23 || a % 4 != 0 then s.mspiResult true
    else (if a < 0x10000 then s.wordsWrite a (wholeWords data) else s).mspiResult false)

/-- What reading a byte changes besides: a register is read when its first byte is. -/
def State.readEffect (s : State) (a : Nat) : State :=
  if a = 0x0010 then s.latchCount
  else if 0x0300 ≤ a ∧ a < 0x0340 ∧ a % 16 = 12 then s.popCapture ((a - 0x0300) / 16)
  else s

/-- Bytes read over MSPI from an address upward, with what each read changes; a register is returned as it stood when its first byte
was read. -/
def State.mspiBytes (s : State) (a : Nat) : Nat → List Byte × State
  | 0 => ([], s)
  | n + 1 =>
    let b := if a < 0x10000 then s.bar0 a else if 0x800000 ≤ a then s.bar2 (a - 0x800000) else 0
    let s' := if a % 4 = 3 ∨ n = 0 then s.readEffect (a / 4 * 4) else s
    let (bs, t) := s'.mspiBytes (a + 1) n
    (b :: bs, t)

/-- MSPI_READ. -/
def execMspiRead (addr : BitVec 24) (length : Nat) (s : State) : Host.Outcome State Fault Refusal :=
  .next (if !s.hostOn then s
    else
      let (bs, t) := s.mspiBytes addr.toNat length
      (t.mspiResult false).send (.read bs))

/-- MSPI_STATUS: IRQ, the level that MSPI_INT would drive, and ERR; the read clears ERR. -/
def execMspiStatus (s : State) : Host.Outcome State Fault Refusal :=
  .next (if !s.hostOn then s
    else (s.send (.read [BitVec.ofNat 8 (b2n (!s.mspiIntLow) + 2 * b2n s.host.mspiErr)])).mspiResult false)

end Sys2Proof.Machine
end

