-- ==== Sys2Proof/Machine/Joiner.lean ====
section
/-!
DEFINITION. Couching as the lane that is couched does its part (R365 to R371): the image, its commit, the replay of the cycles since
the checkpoint, and reaching the live cycle.
-/
namespace Sys2Proof.Machine

/-! ### Commit (R368) -/

/-- An axis part of an image. -/
def CouchPart.axis? : CouchPart → Option Axis
  | .axis a => some a
  | _ => none

/-- A kernel part. -/
def CouchPart.kernel? : CouchPart → Option Kernel
  | .kernel k => some k
  | _ => none

/-- The steward part. -/
def CouchPart.steward? : CouchPart → Option StewardImage
  | .steward i => some i
  | _ => none

/-- The image takes the place of this lane's state; what is a lane's own stays (Table 8.13, R366). -/
def State.install (s : State) (l : List CouchPart) : State :=
  let new := l.filterMap CouchPart.kernel?
  let keep := s.kernels.held.filter (fun k => !(new.any (fun q => q.id == k.id)))
  let s := { s with axes := l.filterMap CouchPart.axis?, kernels := { held := sortBy (fun (k : Kernel) => k.id) (keep ++ new) } }
  match (l.filterMap CouchPart.steward?).head? with
  | none => s
  | some i =>
    let e := s.events
    let f := s.faults
    { s with
      cfg := i.cfg, order := { s.order with accepted := i.order.accepted, nextSeq := i.order.nextSeq, mapPending := i.order.mapPending, bodies := [], sealMsg := none },
      coupling := i.coupling, groups := i.groups, nodes := i.nodes, services := i.services,
      events := { i.events with ring := e.ring, localWr := e.localWr, ownSeq := e.ownSeq },
      faults := { i.faults with reports := f.reports, lostSeen := f.lostSeen, escSeen := f.escSeen, f2Seen := f.f2Seen, f3 := f.f3, f3Code := f.f3Code,
                                f3Prev := f.f3Prev, f3PrevCode := f.f3PrevCode },
      lanes := { s.lanes with voice := i.voice, epoch := i.epoch, vset := i.vset },
      time := { s.time with map := i.timeMap, target := i.target }, clock := { s.clock with steer := i.steer },
      acq := { s.acq with running := i.acqRunning, st := .idle } }.loadScheds

/-! ### Replay (R367, R370) -/

/-- The state a step answers, or the present one where it stops. -/
def nextOr (s : State) : Host.Outcome State Fault Refusal → State
  | .next t => t
  | _ => s

/-- An engine runs its due axes to the end; at most 16 axes stand on one (R43). -/
def State.runEngine (s : State) (e : Fin 16) : Nat → State
  | 0 => s
  | n + 1 => (nextOr s (execAxisRunEnd e s)).runEngine e n

/-- Every engine runs out. -/
def State.runEngines (s : State) : State := (List.finRange 16).foldl (fun s e => s.runEngine e 16) s

/-- One cycle of the log is replayed: its commands, its agreed inputs, its computation and its applied seal, with nothing sent. The
lane's own clock, network and ports stand aside. -/
def State.replayOne (s : State) (r : Replay) : State :=
  let t := { s with
    clock := { s.clock with cycle := r.cycle },
    lanes := { s.lanes with agreed := [], copies := [], acycCopies := [], resolved := false, couch := { s.lanes.couch with live := true } } }
  let t := t.startCycle
  let t := r.agreed.foldl (fun t p => if p.1 < 64 then t.agreeNode p.1 .x p.2 else t.nodeService (p.1 - 64) p.2) t
  let t := t.closeInputs
  let t := (nextOr t (execComputeWindowOpen t)).runEngines
  let t := nextOr t (execComputeWindowClose t)
  let t := nextOr t (execSnapshotSwitch t)
  let t := r.bodies.foldl State.accept t
  { t with
    clock := s.clock, net := s.net, tx := s.tx, faults := { t.faults with reports := s.faults.reports },
    order := { s.order with accepted := t.order.accepted, mapPending := t.order.mapPending, nextSeq := s.order.nextSeq + r.bodies.length },
    lanes := { s.lanes with epoch := r.epoch, vset := r.vset, couch := { s.lanes.couch with replayed := some r.cycle } } }

/-- The log is replayed in order as far as it reaches without a gap. -/
def State.replayLog (s : State) : Nat → State
  | 0 => s
  | n + 1 =>
    match s.lanes.couch.replayed with
    | none => s
    | some k => match s.lanes.couch.log.find? (fun r => r.cycle == k + 1) with
      | none => s
      | some r =>
        let s := { s with lanes := { s.lanes with couch := { s.lanes.couch with log := s.lanes.couch.log.filter (fun q => q.cycle ≠ k + 1) } } }
        (s.replayOne r).replayLog n

/-- The image is committed where this lane's own CRC matches COUCH_END and two voting lanes, the source among them, confirmed the same
checkpoint, epoch and CRC (R368); the log is then replayed. -/
def State.tryCommit (s : State) : State :=
  let c := s.lanes.couch
  match c.imageCrc, c.confirms.find? (fun x => c.source == some x.1) with
  | some crc, some src =>
    let same := c.confirms.filter (fun x => x.2 == src.2 && decide (x.1 ∈ s.lanes.vset))
    if c.committed || Config.imageCrc c.parts != crc || src.2.1 != crc || decide (same.length < 2) then s
    else
      let diff := (c.confirms.filter (fun x => x.2 != src.2)).map (·.1)
      let k := src.2.2.2
      let kb := s.imageKb c.parts
      let s := (s.install c.parts)
      let s := { s with lanes := { s.lanes with couch := { c with committed := true, checkpoint := some k, replayed := some k, parts := [] } } }
      (s.sendReport (.event (s.couchBody s.lane 2 kb diff))).replayLog s.lanes.couch.log.length
  | _, _ => s

/-- The lane that is couched, before the commit. -/
def State.couching (s : State) : Bool := s.lanes.role == .joining && s.lanes.couch.active && s.lanes.couch.joiner == some s.lane

/-- COUCH_DATA_RECEIVED (R366). -/
def execCouchDataReceived (part : CouchPart) (s : State) : Host.Outcome State Fault Refusal :=
  .next (if s.couching && !s.lanes.couch.committed then
      { s with lanes := { s.lanes with couch := { s.lanes.couch with parts := s.lanes.couch.parts ++ [part] } } }
    else s)

/-- COUCH_END_RECEIVED (R368). -/
def execCouchEndReceived (crc : BitVec 64) (s : State) : Host.Outcome State Fault Refusal :=
  .next (if s.couching && !s.lanes.couch.committed then
      { s with lanes := { s.lanes with couch := { s.lanes.couch with imageCrc := some crc } } }.tryCommit
    else s)

/-- COUCH_CONFIRM_RECEIVED (R368). -/
def execCouchConfirmReceived (lane : Lane) (checkpoint : Nat) (epoch : BitVec 16) (crc : BitVec 64) (s : State) : Host.Outcome State Fault Refusal :=
  .next (if s.couching && !s.lanes.couch.committed then
      let l := s.lanes.couch.confirms.filter (fun x => x.1 != lane) ++ [(lane, crc, epoch, checkpoint)]
      { s with lanes := { s.lanes with couch := { s.lanes.couch with confirms := l } } }.tryCommit
    else s)

/-- REPLAY_RECEIVED (R367, R370): the cycle joins the log, and is replayed once the image is committed. -/
def execReplayReceived (replay : Replay) (s : State) : Host.Outcome State Fault Refusal :=
  .next (if s.couching && !s.lanes.couch.live then
      let s := { s with lanes := { s.lanes with couch := { s.lanes.couch with log := s.lanes.couch.log ++ [replay] } } }
      if s.lanes.couch.committed then s.replayLog s.lanes.couch.log.length else s
    else s)

/-- COUCH_ABANDON (R369): before the commit. -/
def execCouchAbandon (s : State) : Host.Outcome State Fault Refusal :=
  .next (if s.couching && !s.lanes.couch.committed then s.recouch else s)

/-- CATCH_UP_COMPLETE (R370): the cycle before the live one is replayed; the lane takes up the live cycle and sends JOIN. -/
def execCatchUpComplete (s : State) : Host.Outcome State Fault Refusal :=
  let c := s.lanes.couch
  .next (if s.couching && c.committed && !c.live && decide (c.replayed.any (fun k => k + 1 == s.clock.cycle)) then
      let s := { s with lanes := { s.lanes with couch := { c with live := true } } }
      s.startCycle.weirSend 0x0F none [BitVec.ofNat 8 (Lane.num s.lane)]
    else s)

end Sys2Proof.Machine
end

