-- ==== Sys2Proof/Machine/Opcodes.lean ====
section
/-!
DEFINITION. One meaning per opcode of Tables 15.5 to 15.14. In its service phase a row is the submission of the command at this lane,
in its effect phase the command taking effect (R541 to R546, R30, R563, R564); the checks and effects of each opcode stand under its
number in `laneCheck`, `checkOp`, `serveLocal`, `serveAlone`, `acceptOp`, `effectOp` and `axisEffect`.
-/
namespace Sys2Proof.Machine

/-- IDENTIFY (opcode 0x0001, R571). -/
def execIdentify (ph : Phase) (req : Req) (s : State) : Host.Outcome State Fault Refusal := .next (s.opRow 0x0001 ph req)

/-- FIELD_WRITE (opcode 0x0002, R569). -/
def execFieldWrite (ph : Phase) (req : Req) (s : State) : Host.Outcome State Fault Refusal := .next (s.opRow 0x0002 ph req)

/-- FIELD_READ (opcode 0x0003, R570). -/
def execFieldRead (ph : Phase) (req : Req) (s : State) : Host.Outcome State Fault Refusal := .next (s.opRow 0x0003 ph req)

/-- COMMIT (opcode 0x0004, R36). -/
def execCommit (ph : Phase) (req : Req) (s : State) : Host.Outcome State Fault Refusal := .next (s.opRow 0x0004 ph req)

/-- DISCARD (opcode 0x0005, R38). -/
def execDiscard (ph : Phase) (req : Req) (s : State) : Host.Outcome State Fault Refusal := .next (s.opRow 0x0005 ph req)

/-- CLUSTER_START (opcode 0x0006, R262). -/
def execClusterStart (ph : Phase) (req : Req) (s : State) : Host.Outcome State Fault Refusal := .next (s.opRow 0x0006 ph req)

/-- CLUSTER_STOP (opcode 0x0007, R262). -/
def execClusterStop (ph : Phase) (req : Req) (s : State) : Host.Outcome State Fault Refusal := .next (s.opRow 0x0007 ph req)

/-- FAULT_ACK (opcode 0x0008, R509). -/
def execFaultAck (ph : Phase) (req : Req) (s : State) : Host.Outcome State Fault Refusal := .next (s.opRow 0x0008 ph req)

/-- FAULT_CLEAR (opcode 0x0009, R514). -/
def execFaultClear (ph : Phase) (req : Req) (s : State) : Host.Outcome State Fault Refusal := .next (s.opRow 0x0009 ph req)

/-- FAULT_LIST (opcode 0x000A, R572). -/
def execFaultList (ph : Phase) (req : Req) (s : State) : Host.Outcome State Fault Refusal := .next (s.opRow 0x000A ph req)

/-- FAULT_RAISE (opcode 0x000B, R520). -/
def execFaultRaise (ph : Phase) (req : Req) (s : State) : Host.Outcome State Fault Refusal := .next (s.opRow 0x000B ph req)

/-- FAULT_INJECT (opcode 0x000C, R519). -/
def execFaultInject (ph : Phase) (req : Req) (s : State) : Host.Outcome State Fault Refusal := .next (s.opRow 0x000C ph req)

/-- AXIS_ON (opcode 0x0100, R64). -/
def execAxisOn (ph : Phase) (req : Req) (s : State) : Host.Outcome State Fault Refusal := .next (s.opRow 0x0100 ph req)

/-- AXIS_OFF (opcode 0x0101, R57). -/
def execAxisOff (ph : Phase) (req : Req) (s : State) : Host.Outcome State Fault Refusal := .next (s.opRow 0x0101 ph req)

/-- AXIS_ENABLE (opcode 0x0102, R57). -/
def execAxisEnable (ph : Phase) (req : Req) (s : State) : Host.Outcome State Fault Refusal := .next (s.opRow 0x0102 ph req)

/-- AXIS_RUN (opcode 0x0103, R57). -/
def execAxisRun (ph : Phase) (req : Req) (s : State) : Host.Outcome State Fault Refusal := .next (s.opRow 0x0103 ph req)

/-- AXIS_STOP (opcode 0x0104, R59). -/
def execAxisStop (ph : Phase) (req : Req) (s : State) : Host.Outcome State Fault Refusal := .next (s.opRow 0x0104 ph req)

/-- QUICK_STOP (opcode 0x0105, R59). -/
def execQuickStop (ph : Phase) (req : Req) (s : State) : Host.Outcome State Fault Refusal := .next (s.opRow 0x0105 ph req)

/-- AXIS_COAST (opcode 0x0106, R59). -/
def execAxisCoast (ph : Phase) (req : Req) (s : State) : Host.Outcome State Fault Refusal := .next (s.opRow 0x0106 ph req)

/-- AXIS_DISABLE (opcode 0x0107, R57). -/
def execAxisDisable (ph : Phase) (req : Req) (s : State) : Host.Outcome State Fault Refusal := .next (s.opRow 0x0107 ph req)

/-- AXIS_RESET (opcode 0x0108, R57). -/
def execAxisReset (ph : Phase) (req : Req) (s : State) : Host.Outcome State Fault Refusal := .next (s.opRow 0x0108 ph req)

/-- MAP_AXIS (opcode 0x0110, R574). -/
def execMapAxis (ph : Phase) (req : Req) (s : State) : Host.Outcome State Fault Refusal := .next (s.opRow 0x0110 ph req)

/-- MAP_NODE (opcode 0x0111, R574). -/
def execMapNode (ph : Phase) (req : Req) (s : State) : Host.Outcome State Fault Refusal := .next (s.opRow 0x0111 ph req)

/-- MAP_REMOVE (opcode 0x0112, R574). -/
def execMapRemove (ph : Phase) (req : Req) (s : State) : Host.Outcome State Fault Refusal := .next (s.opRow 0x0112 ph req)

/-- COEFF_WRITE (opcode 0x0118, R91). -/
def execCoeffWrite (ph : Phase) (req : Req) (s : State) : Host.Outcome State Fault Refusal := .next (s.opRow 0x0118 ph req)

/-- COEFF_READ (opcode 0x0119, R98). -/
def execCoeffRead (ph : Phase) (req : Req) (s : State) : Host.Outcome State Fault Refusal := .next (s.opRow 0x0119 ph req)

/-- KERNEL_OPEN (opcode 0x0120, R142). -/
def execKernelOpen (ph : Phase) (req : Req) (s : State) : Host.Outcome State Fault Refusal := .next (s.opRow 0x0120 ph req)

/-- KERNEL_WRITE (opcode 0x0121, R142). -/
def execKernelWrite (ph : Phase) (req : Req) (s : State) : Host.Outcome State Fault Refusal := .next (s.opRow 0x0121 ph req)

/-- KERNEL_CLOSE (opcode 0x0122, R142). -/
def execKernelClose (ph : Phase) (req : Req) (s : State) : Host.Outcome State Fault Refusal := .next (s.opRow 0x0122 ph req)

/-- KERNEL_REMOVE (opcode 0x0123, R145). -/
def execKernelRemove (ph : Phase) (req : Req) (s : State) : Host.Outcome State Fault Refusal := .next (s.opRow 0x0123 ph req)

/-- KERNEL_INFO (opcode 0x0124, R573). -/
def execKernelInfo (ph : Phase) (req : Req) (s : State) : Host.Outcome State Fault Refusal := .next (s.opRow 0x0124 ph req)

/-- PROFILE_MOVE (opcode 0x0200, R158). -/
def execProfileMove (ph : Phase) (req : Req) (s : State) : Host.Outcome State Fault Refusal := .next (s.opRow 0x0200 ph req)

/-- PROFILE_VELOCITY (opcode 0x0201, R160). -/
def execProfileVelocity (ph : Phase) (req : Req) (s : State) : Host.Outcome State Fault Refusal := .next (s.opRow 0x0201 ph req)

/-- TABLE_APPEND (opcode 0x0202, R165). -/
def execTableAppend (ph : Phase) (req : Req) (s : State) : Host.Outcome State Fault Refusal := .next (s.opRow 0x0202 ph req)

/-- TABLE_START (opcode 0x0203, R167). -/
def execTableStart (ph : Phase) (req : Req) (s : State) : Host.Outcome State Fault Refusal := .next (s.opRow 0x0203 ph req)

/-- TABLE_CLEAR (opcode 0x0204, R170). -/
def execTableClear (ph : Phase) (req : Req) (s : State) : Host.Outcome State Fault Refusal := .next (s.opRow 0x0204 ph req)

/-- GROUP_MOVE (opcode 0x0205, R179). -/
def execGroupMove (ph : Phase) (req : Req) (s : State) : Host.Outcome State Fault Refusal := .next (s.opRow 0x0205 ph req)

/-- REF_SET (opcode 0x0206, R171). -/
def execRefSet (ph : Phase) (req : Req) (s : State) : Host.Outcome State Fault Refusal := .next (s.opRow 0x0206 ph req)

/-- FEEDBACK_STATUS (opcode 0x0300, R576). -/
def execFeedbackStatus (ph : Phase) (req : Req) (s : State) : Host.Outcome State Fault Refusal := .next (s.opRow 0x0300 ph req)

/-- BRANCH_CTRL (opcode 0x0400, R578). -/
def execBranchCtrl (ph : Phase) (req : Req) (s : State) : Host.Outcome State Fault Refusal := .next (s.opRow 0x0400 ph req)

/-- NODE_PARAM_READ (opcode 0x0401, R579). -/
def execNodeParamRead (ph : Phase) (req : Req) (s : State) : Host.Outcome State Fault Refusal := .next (s.opRow 0x0401 ph req)

/-- NODE_PARAM_WRITE (opcode 0x0402, R579). -/
def execNodeParamWrite (ph : Phase) (req : Req) (s : State) : Host.Outcome State Fault Refusal := .next (s.opRow 0x0402 ph req)

/-- NODE_RESULT (opcode 0x0403, R579). -/
def execNodeResult (ph : Phase) (req : Req) (s : State) : Host.Outcome State Fault Refusal := .next (s.opRow 0x0403 ph req)

/-- NODE_REPORT_READ (opcode 0x0404, R580). -/
def execNodeReportRead (ph : Phase) (req : Req) (s : State) : Host.Outcome State Fault Refusal := .next (s.opRow 0x0404 ph req)

/-- NODE_EVENTS_READ (opcode 0x0405, R581). -/
def execNodeEventsRead (ph : Phase) (req : Req) (s : State) : Host.Outcome State Fault Refusal := .next (s.opRow 0x0405 ph req)

/-- VOICE_MOVE (opcode 0x0500, R355). -/
def execVoiceMove (ph : Phase) (req : Req) (s : State) : Host.Outcome State Fault Refusal := .next (s.opRow 0x0500 ph req)

/-- SPARE_REFRESH (opcode 0x0501, R361). -/
def execSpareRefresh (ph : Phase) (req : Req) (s : State) : Host.Outcome State Fault Refusal := .next (s.opRow 0x0501 ph req)

/-- SPARE_TAKEOVER (opcode 0x0502, R583). -/
def execSpareTakeover (ph : Phase) (req : Req) (s : State) : Host.Outcome State Fault Refusal := .next (s.opRow 0x0502 ph req)

/-- LANE_REJOIN (opcode 0x0503, R372). -/
def execLaneRejoin (ph : Phase) (req : Req) (s : State) : Host.Outcome State Fault Refusal := .next (s.opRow 0x0503 ph req)

/-- TIME_READ (opcode 0x0600, R584). -/
def execTimeRead (ph : Phase) (req : Req) (s : State) : Host.Outcome State Fault Refusal := .next (s.opRow 0x0600 ph req)

/-- ETH_SEND (opcode 0x0601, R585). -/
def execEthSend (ph : Phase) (req : Req) (s : State) : Host.Outcome State Fault Refusal := .next (s.opRow 0x0601 ph req)

/-- ETH_RECV (opcode 0x0602, R585). -/
def execEthRecv (ph : Phase) (req : Req) (s : State) : Host.Outcome State Fault Refusal := .next (s.opRow 0x0602 ph req)

/-- ACQ_ARM (opcode 0x0700, R423). -/
def execAcqArm (ph : Phase) (req : Req) (s : State) : Host.Outcome State Fault Refusal := .next (s.opRow 0x0700 ph req)

/-- ACQ_STOP (opcode 0x0701, R429). -/
def execAcqStop (ph : Phase) (req : Req) (s : State) : Host.Outcome State Fault Refusal := .next (s.opRow 0x0701 ph req)

/-- ACQ_FORCE (opcode 0x0702, R418). -/
def execAcqForce (ph : Phase) (req : Req) (s : State) : Host.Outcome State Fault Refusal := .next (s.opRow 0x0702 ph req)

/-- INJ_START (opcode 0x0703, R433). -/
def execInjStart (ph : Phase) (req : Req) (s : State) : Host.Outcome State Fault Refusal := .next (s.opRow 0x0703 ph req)

/-- INJ_STOP (opcode 0x0704, R433). -/
def execInjStop (ph : Phase) (req : Req) (s : State) : Host.Outcome State Fault Refusal := .next (s.opRow 0x0704 ph req)

/-- SDO_RELEASE (opcode 0x0800, R453). -/
def execSdoRelease (ph : Phase) (req : Req) (s : State) : Host.Outcome State Fault Refusal := .next (s.opRow 0x0800 ph req)

/-- SDO_APPLY (opcode 0x0801, R453). -/
def execSdoApply (ph : Phase) (req : Req) (s : State) : Host.Outcome State Fault Refusal := .next (s.opRow 0x0801 ph req)

/-- SAFETY_ACK (opcode 0x0802, R470). -/
def execSafetyAck (ph : Phase) (req : Req) (s : State) : Host.Outcome State Fault Refusal := .next (s.opRow 0x0802 ph req)

/-- WATERMARK_READ (opcode 0x0803, R587). -/
def execWatermarkRead (ph : Phase) (req : Req) (s : State) : Host.Outcome State Fault Refusal := .next (s.opRow 0x0803 ph req)

/-- WATERMARK_PROGRAM (opcode 0x0804, R466). -/
def execWatermarkProgram (ph : Phase) (req : Req) (s : State) : Host.Outcome State Fault Refusal := .next (s.opRow 0x0804 ph req)

/-- SETTINGS_SAVE (opcode 0x0900, R589). -/
def execSettingsSave (ph : Phase) (req : Req) (s : State) : Host.Outcome State Fault Refusal := .next (s.opRow 0x0900 ph req)

/-- STORE_STATUS (opcode 0x0901, R588). -/
def execStoreStatus (ph : Phase) (req : Req) (s : State) : Host.Outcome State Fault Refusal := .next (s.opRow 0x0901 ph req)

/-- FW_OPEN (opcode 0x0902, R590). -/
def execFwOpen (ph : Phase) (req : Req) (s : State) : Host.Outcome State Fault Refusal := .next (s.opRow 0x0902 ph req)

/-- FW_WRITE (opcode 0x0903, R590). -/
def execFwWrite (ph : Phase) (req : Req) (s : State) : Host.Outcome State Fault Refusal := .next (s.opRow 0x0903 ph req)

/-- FW_CLOSE (opcode 0x0904, R620). -/
def execFwClose (ph : Phase) (req : Req) (s : State) : Host.Outcome State Fault Refusal := .next (s.opRow 0x0904 ph req)

/-- STANDBY (opcode 0x0905, R590). -/
def execStandby (ph : Phase) (req : Req) (s : State) : Host.Outcome State Fault Refusal := .next (s.opRow 0x0905 ph req)

end Sys2Proof.Machine
end

