-- ==== Sys2Proof/Machine/Dispatch.lean ====
section
/-!
DEFINITION. The meaning of every command, one arm per constructor.
-/
namespace Sys2Proof.Machine

def exec (i : Instr) (s : State) : Host.Outcome State Fault Refusal :=
  match i with
  | .basicCycleStart clk samples => Sys2Proof.Machine.execBasicCycleStart clk samples s
  | .ratePeriodStart => Sys2Proof.Machine.execRatePeriodStart s
  | .rateLimitReached => Sys2Proof.Machine.execRateLimitReached s
  | .mapFormation => Sys2Proof.Machine.execMapFormation s
  | .steeringLimitReached => Sys2Proof.Machine.execSteeringLimitReached s
  | .laneFrameSend => Sys2Proof.Machine.execLaneFrameSend s
  | .laneFrameReceived port bytes codeOk arrival => Sys2Proof.Machine.execLaneFrameReceived port bytes codeOk arrival s
  | .listenTimeout => Sys2Proof.Machine.execListenTimeout s
  | .coldstartComplete => Sys2Proof.Machine.execColdstartComplete s
  | .integrateComplete => Sys2Proof.Machine.execIntegrateComplete s
  | .layoutMismatchReached => Sys2Proof.Machine.execLayoutMismatchReached s
  | .outvotedLimit => Sys2Proof.Machine.execOutvotedLimit s
  | .uplinkFrameArrival branch bytes codeOk sof eof stray => Sys2Proof.Machine.execUplinkFrameArrival branch bytes codeOk sof eof stray s
  | .nodeClosed branch pos => Sys2Proof.Machine.execNodeClosed branch pos s
  | .nodeReopened branch pos => Sys2Proof.Machine.execNodeReopened branch pos s
  | .frameErrorLimit branch => Sys2Proof.Machine.execFrameErrorLimit branch s
  | .branchClosed branch => Sys2Proof.Machine.execBranchClosed branch s
  | .branchReopened branch => Sys2Proof.Machine.execBranchReopened branch s
  | .laneLinkDropLimit branch lane => Sys2Proof.Machine.execLaneLinkDropLimit branch lane s
  | .uplinkCopyReceived ch own bytes codeOk complete stamp => Sys2Proof.Machine.execUplinkCopyReceived ch own bytes codeOk complete stamp s
  | .consensusSend => Sys2Proof.Machine.execConsensusSend s
  | .consensusReceived port bytes => Sys2Proof.Machine.execConsensusReceived port bytes s
  | .consensusResolution => Sys2Proof.Machine.execConsensusResolution s
  | .indexPolicyAction axis => Sys2Proof.Machine.execIndexPolicyAction axis s
  | .realignShiftApply axis => Sys2Proof.Machine.execRealignShiftApply axis s
  | .feedbackSignalLimit axis => Sys2Proof.Machine.execFeedbackSignalLimit axis s
  | .feedbackSerialLimit axis => Sys2Proof.Machine.execFeedbackSerialLimit axis s
  | .feedbackTransitionLimit axis => Sys2Proof.Machine.execFeedbackTransitionLimit axis s
  | .feedbackSensorLimit axis => Sys2Proof.Machine.execFeedbackSensorLimit axis s
  | .inputDigestReceived port bytes => Sys2Proof.Machine.execInputDigestReceived port bytes s
  | .inputDeficient => Sys2Proof.Machine.execInputDeficient s
  | .bodyReceived lane mailbox body => Sys2Proof.Machine.execBodyReceived lane mailbox body s
  | .computeWindowOpen => Sys2Proof.Machine.execComputeWindowOpen s
  | .axisRunEnd engine => Sys2Proof.Machine.execAxisRunEnd engine s
  | .sampleLossLimit axis => Sys2Proof.Machine.execSampleLossLimit axis s
  | .followingError axis => Sys2Proof.Machine.execFollowingError axis s
  | .numericPersist axis => Sys2Proof.Machine.execNumericPersist axis s
  | .engineEccCorrected engine => Sys2Proof.Machine.execEngineEccCorrected engine s
  | .engineEccUncorrectable engine => Sys2Proof.Machine.execEngineEccUncorrectable engine s
  | .computeWindowClose => Sys2Proof.Machine.execComputeWindowClose s
  | .acqPreFilled => Sys2Proof.Machine.execAcqPreFilled s
  | .acqPostComplete => Sys2Proof.Machine.execAcqPostComplete s
  | .commandCut => Sys2Proof.Machine.execCommandCut s
  | .sealReceived port bytes => Sys2Proof.Machine.execSealReceived port bytes s
  | .confirmReceived port bytes => Sys2Proof.Machine.execConfirmReceived port bytes s
  | .voteReceived port bytes => Sys2Proof.Machine.execVoteReceived port bytes s
  | .quickEvaluation => Sys2Proof.Machine.execQuickEvaluation s
  | .finalEvaluation => Sys2Proof.Machine.execFinalEvaluation s
  | .laneLost lane => Sys2Proof.Machine.execLaneLost lane s
  | .laneIsolated => Sys2Proof.Machine.execLaneIsolated s
  | .exchangeReceived port bytes => Sys2Proof.Machine.execExchangeReceived port bytes s
  | .realignReceived axis image => Sys2Proof.Machine.execRealignReceived axis image s
  | .snapshotSwitch => Sys2Proof.Machine.execSnapshotSwitch s
  | .mirrorComplete => Sys2Proof.Machine.execMirrorComplete s
  | .downlinkSlot branch pos frames => Sys2Proof.Machine.execDownlinkSlot branch pos frames s
  | .arbitratingWindowStart => Sys2Proof.Machine.execArbitratingWindowStart s
  | .acycDownForward branch lane bytes start => Sys2Proof.Machine.execAcycDownForward branch lane bytes start s
  | .acycUpAdmit branch bytes codeOk sof eof => Sys2Proof.Machine.execAcycUpAdmit branch bytes codeOk sof eof s
  | .nodeRequestTimeout tag => Sys2Proof.Machine.execNodeRequestTimeout tag s
  | .networkIdleStart => Sys2Proof.Machine.execNetworkIdleStart s
  | .linkSignalDetect port => Sys2Proof.Machine.execLinkSignalDetect port s
  | .linkAligned port => Sys2Proof.Machine.execLinkAligned port s
  | .linkSignalLost port => Sys2Proof.Machine.execLinkSignalLost port s
  | .linkCodeErrors port => Sys2Proof.Machine.execLinkCodeErrors port s
  | .portDownLimit port => Sys2Proof.Machine.execPortDownLimit port s
  | .probeSend port pos => Sys2Proof.Machine.execProbeSend port pos s
  | .probeAnswer port pos roundTrip => Sys2Proof.Machine.execProbeAnswer port pos roundTrip s
  | .probeTimeout port pos => Sys2Proof.Machine.execProbeTimeout port pos s
  | .probeIntervalExpiry branch => Sys2Proof.Machine.execProbeIntervalExpiry branch s
  | .identReceived port bytes => Sys2Proof.Machine.execIdentReceived port bytes s
  | .weirLinkDown port => Sys2Proof.Machine.execWeirLinkDown port s
  | .lchTrainReceived pulses => Sys2Proof.Machine.execLchTrainReceived pulses s
  | .lchTrainSend => Sys2Proof.Machine.execLchTrainSend s
  | .addressTimeout => Sys2Proof.Machine.execAddressTimeout s
  | .spareRefreshTimer => Sys2Proof.Machine.execSpareRefreshTimer s
  | .wakeClassify lowUs => Sys2Proof.Machine.execWakeClassify lowUs s
  | .refreshDataReceived settings crc => Sys2Proof.Machine.execRefreshDataReceived settings crc s
  | .refreshFailed => Sys2Proof.Machine.execRefreshFailed s
  | .couchReqReceived lane kernelCrcs => Sys2Proof.Machine.execCouchReqReceived lane kernelCrcs s
  | .couchDataReceived part => Sys2Proof.Machine.execCouchDataReceived part s
  | .couchEndReceived crc => Sys2Proof.Machine.execCouchEndReceived crc s
  | .couchConfirmReceived lane checkpoint epoch crc => Sys2Proof.Machine.execCouchConfirmReceived lane checkpoint epoch crc s
  | .replayReceived replay => Sys2Proof.Machine.execReplayReceived replay s
  | .frameRequest lane cycle node => Sys2Proof.Machine.execFrameRequest lane cycle node s
  | .couchAbandon => Sys2Proof.Machine.execCouchAbandon s
  | .catchUpComplete => Sys2Proof.Machine.execCatchUpComplete s
  | .spareWakeTimeout => Sys2Proof.Machine.execSpareWakeTimeout s
  | .ptpSyncReceived msg stamp => Sys2Proof.Machine.execPtpSyncReceived msg stamp s
  | .ptpMessageReceived kind msg stamp => Sys2Proof.Machine.execPtpMessageReceived kind msg stamp s
  | .servoLocked => Sys2Proof.Machine.execServoLocked s
  | .servoOutliers => Sys2Proof.Machine.execServoOutliers s
  | .timeSourceLost => Sys2Proof.Machine.execTimeSourceLost s
  | .holdoverExpired => Sys2Proof.Machine.execHoldoverExpired s
  | .phcFrequencyLimit => Sys2Proof.Machine.execPhcFrequencyLimit s
  | .ppsEdge output clk cluster => Sys2Proof.Machine.execPpsEdge output clk cluster s
  | .pulseMissed output count => Sys2Proof.Machine.execPulseMissed output count s
  | .capEdge input rising clk cycle ns => Sys2Proof.Machine.execCapEdge input rising clk cycle ns s
  | .ethFrameReceived bytes => Sys2Proof.Machine.execEthFrameReceived bytes s
  | .ethLinkDownLimit => Sys2Proof.Machine.execEthLinkDownLimit s
  | .dlEdge line rising stamp => Sys2Proof.Machine.execDlEdge line rising stamp s
  | .safetyInputChange chan input level => Sys2Proof.Machine.execSafetyInputChange chan input level s
  | .offDelayExpiry chan input => Sys2Proof.Machine.execOffDelayExpiry chan input s
  | .discrepancyTimeout chan input => Sys2Proof.Machine.execDiscrepancyTimeout chan input s
  | .safeResetRelease procMs dykeMs => Sys2Proof.Machine.execSafeResetRelease procMs dykeMs s
  | .sealPoll chan word => Sys2Proof.Machine.execSealPoll chan word s
  | .testPulseDue output => Sys2Proof.Machine.execTestPulseDue output s
  | .darkPulseEnd output high provenP provenD us => Sys2Proof.Machine.execDarkPulseEnd output high provenP provenD us s
  | .testGapExpiry output => Sys2Proof.Machine.execTestGapExpiry output s
  | .testMissing output => Sys2Proof.Machine.execTestMissing output s
  | .heartbeatToggle chan => Sys2Proof.Machine.execHeartbeatToggle chan s
  | .heartbeatLoss chan => Sys2Proof.Machine.execHeartbeatLoss chan s
  | .safetyStartComplete word procOk dykeOk romOk => Sys2Proof.Machine.execSafetyStartComplete word procOk dykeOk romOk s
  | .romCrcCheck ok => Sys2Proof.Machine.execRomCrcCheck ok s
  | .crossMismatch chan output => Sys2Proof.Machine.execCrossMismatch chan output s
  | .vdykRange => Sys2Proof.Machine.execVdykRange s
  | .safeSupply => Sys2Proof.Machine.execSafeSupply s
  | .safetyReset procMs dykeMs procCause dykeCause => Sys2Proof.Machine.execSafetyReset procMs dykeMs procCause dykeCause s
  | .pwmPeriodStart => Sys2Proof.Machine.execPwmPeriodStart s
  | .interlockRelease output high => Sys2Proof.Machine.execInterlockRelease output high s
  | .gateStuck output high => Sys2Proof.Machine.execGateStuck output high s
  | .shortDetect output high vbrg => Sys2Proof.Machine.execShortDetect output high vbrg s
  | .shuntShortDetect output vbrg => Sys2Proof.Machine.execShuntShortDetect output vbrg s
  | .sdoShort => Sys2Proof.Machine.execSdoShort s
  | .supplyMonitorTrip kind reading => Sys2Proof.Machine.execSupplyMonitorTrip kind reading s
  | .supplyConditionEnd => Sys2Proof.Machine.execSupplyConditionEnd s
  | .gateUnder output high => Sys2Proof.Machine.execGateUnder output high s
  | .driverSupplyReady => Sys2Proof.Machine.execDriverSupplyReady s
  | .switchingEventEnd output high turnOn time => Sys2Proof.Machine.execSwitchingEventEnd output high turnOn time s
  | .gateLimit output high turnOn => Sys2Proof.Machine.execGateLimit output high turnOn s
  | .offCheckProven output high => Sys2Proof.Machine.execOffCheckProven output high s
  | .handlingTimerExpiry instNo => Sys2Proof.Machine.execHandlingTimerExpiry instNo s
  | .f3Detect code => Sys2Proof.Machine.execF3Detect code s
  | .collectorCompare => Sys2Proof.Machine.execCollectorCompare s
  | .collectorLine => Sys2Proof.Machine.execCollectorLine s
  | .hostWatchdogExpiry => Sys2Proof.Machine.execHostWatchdogExpiry s
  | .supplyOutOfRange supply near => Sys2Proof.Machine.execSupplyOutOfRange supply near s
  | .temperatureThreshold sensor celsius => Sys2Proof.Machine.execTemperatureThreshold sensor celsius s
  | .pllLockLoss => Sys2Proof.Machine.execPllLockLoss s
  | .referenceClockLoss => Sys2Proof.Machine.execReferenceClockLoss s
  | .aonClockStop => Sys2Proof.Machine.execAonClockStop s
  | .sramEccError corrected => Sys2Proof.Machine.execSramEccError corrected s
  | .stewardEccError corrected => Sys2Proof.Machine.execStewardEccError corrected s
  | .stewardLockstep => Sys2Proof.Machine.execStewardLockstep s
  | .stewardDeadline => Sys2Proof.Machine.execStewardDeadline s
  | .pcieLinkDown => Sys2Proof.Machine.execPcieLinkDown s
  | .pcieUncorrectable => Sys2Proof.Machine.execPcieUncorrectable s
  | .wakeQualified => Sys2Proof.Machine.execWakeQualified s
  | .vdykInRange => Sys2Proof.Machine.execVdykInRange s
  | .suppliesInRange => Sys2Proof.Machine.execSuppliesInRange s
  | .referenceValid => Sys2Proof.Machine.execReferenceValid s
  | .bootRomComplete pass0 pass1 => Sys2Proof.Machine.execBootRomComplete pass0 pass1 s
  | .settingsRestore kernelsOk0 kernelsOk1 => Sys2Proof.Machine.execSettingsRestore kernelsOk0 kernelsOk1 s
  | .vddCorePor => Sys2Proof.Machine.execVddCorePor s
  | .vaonPor => Sys2Proof.Machine.execVaonPor s
  | .vdykPor => Sys2Proof.Machine.execVdykPor s
  | .resetNAssert => Sys2Proof.Machine.execResetNAssert s
  | .pciePerstnAssert => Sys2Proof.Machine.execPciePerstnAssert s
  | .standbyEntry => Sys2Proof.Machine.execStandbyEntry s
  | .settingsSaveComplete ok => Sys2Proof.Machine.execSettingsSaveComplete ok s
  | .fwCheckComplete ok => Sys2Proof.Machine.execFwCheckComplete ok s
  | .fwLoadLapse => Sys2Proof.Machine.execFwLoadLapse s
  | .kernelVerified => Sys2Proof.Machine.execKernelVerified s
  | .kernelLoadLapse => Sys2Proof.Machine.execKernelLoadLapse s
  | .mspiWrite addr data => Sys2Proof.Machine.execMspiWrite addr data s
  | .mspiRead addr length => Sys2Proof.Machine.execMspiRead addr length s
  | .mspiStatus => Sys2Proof.Machine.execMspiStatus s
  | .doorbell box => Sys2Proof.Machine.execDoorbell box s
  | .release box => Sys2Proof.Machine.execRelease box s
  | .w1cWrite offset value => Sys2Proof.Machine.execW1cWrite offset value s
  | .evtRdWrite value => Sys2Proof.Machine.execEvtRdWrite value s
  | .snapHoldWrite value => Sys2Proof.Machine.execSnapHoldWrite value s
  | .wdtWrite value => Sys2Proof.Machine.execWdtWrite value s
  | .capturePop input => Sys2Proof.Machine.execCapturePop input s
  | .countLoRead => Sys2Proof.Machine.execCountLoRead s
  | .registerWrite offset data => Sys2Proof.Machine.execRegisterWrite offset data s
  | .identify ph req => Sys2Proof.Machine.execIdentify ph req s
  | .fieldWrite ph req => Sys2Proof.Machine.execFieldWrite ph req s
  | .fieldRead ph req => Sys2Proof.Machine.execFieldRead ph req s
  | .commit ph req => Sys2Proof.Machine.execCommit ph req s
  | .discard ph req => Sys2Proof.Machine.execDiscard ph req s
  | .clusterStart ph req => Sys2Proof.Machine.execClusterStart ph req s
  | .clusterStop ph req => Sys2Proof.Machine.execClusterStop ph req s
  | .faultAck ph req => Sys2Proof.Machine.execFaultAck ph req s
  | .faultClear ph req => Sys2Proof.Machine.execFaultClear ph req s
  | .faultList ph req => Sys2Proof.Machine.execFaultList ph req s
  | .faultRaise ph req => Sys2Proof.Machine.execFaultRaise ph req s
  | .faultInject ph req => Sys2Proof.Machine.execFaultInject ph req s
  | .axisOn ph req => Sys2Proof.Machine.execAxisOn ph req s
  | .axisOff ph req => Sys2Proof.Machine.execAxisOff ph req s
  | .axisEnable ph req => Sys2Proof.Machine.execAxisEnable ph req s
  | .axisRun ph req => Sys2Proof.Machine.execAxisRun ph req s
  | .axisStop ph req => Sys2Proof.Machine.execAxisStop ph req s
  | .quickStop ph req => Sys2Proof.Machine.execQuickStop ph req s
  | .axisCoast ph req => Sys2Proof.Machine.execAxisCoast ph req s
  | .axisDisable ph req => Sys2Proof.Machine.execAxisDisable ph req s
  | .axisReset ph req => Sys2Proof.Machine.execAxisReset ph req s
  | .mapAxis ph req => Sys2Proof.Machine.execMapAxis ph req s
  | .mapNode ph req => Sys2Proof.Machine.execMapNode ph req s
  | .mapRemove ph req => Sys2Proof.Machine.execMapRemove ph req s
  | .coeffWrite ph req => Sys2Proof.Machine.execCoeffWrite ph req s
  | .coeffRead ph req => Sys2Proof.Machine.execCoeffRead ph req s
  | .kernelOpen ph req => Sys2Proof.Machine.execKernelOpen ph req s
  | .kernelWrite ph req => Sys2Proof.Machine.execKernelWrite ph req s
  | .kernelClose ph req => Sys2Proof.Machine.execKernelClose ph req s
  | .kernelRemove ph req => Sys2Proof.Machine.execKernelRemove ph req s
  | .kernelInfo ph req => Sys2Proof.Machine.execKernelInfo ph req s
  | .profileMove ph req => Sys2Proof.Machine.execProfileMove ph req s
  | .profileVelocity ph req => Sys2Proof.Machine.execProfileVelocity ph req s
  | .tableAppend ph req => Sys2Proof.Machine.execTableAppend ph req s
  | .tableStart ph req => Sys2Proof.Machine.execTableStart ph req s
  | .tableClear ph req => Sys2Proof.Machine.execTableClear ph req s
  | .groupMove ph req => Sys2Proof.Machine.execGroupMove ph req s
  | .refSet ph req => Sys2Proof.Machine.execRefSet ph req s
  | .feedbackStatus ph req => Sys2Proof.Machine.execFeedbackStatus ph req s
  | .branchCtrl ph req => Sys2Proof.Machine.execBranchCtrl ph req s
  | .nodeParamRead ph req => Sys2Proof.Machine.execNodeParamRead ph req s
  | .nodeParamWrite ph req => Sys2Proof.Machine.execNodeParamWrite ph req s
  | .nodeResult ph req => Sys2Proof.Machine.execNodeResult ph req s
  | .nodeReportRead ph req => Sys2Proof.Machine.execNodeReportRead ph req s
  | .nodeEventsRead ph req => Sys2Proof.Machine.execNodeEventsRead ph req s
  | .voiceMove ph req => Sys2Proof.Machine.execVoiceMove ph req s
  | .spareRefresh ph req => Sys2Proof.Machine.execSpareRefresh ph req s
  | .spareTakeover ph req => Sys2Proof.Machine.execSpareTakeover ph req s
  | .laneRejoin ph req => Sys2Proof.Machine.execLaneRejoin ph req s
  | .timeRead ph req => Sys2Proof.Machine.execTimeRead ph req s
  | .ethSend ph req => Sys2Proof.Machine.execEthSend ph req s
  | .ethRecv ph req => Sys2Proof.Machine.execEthRecv ph req s
  | .acqArm ph req => Sys2Proof.Machine.execAcqArm ph req s
  | .acqStop ph req => Sys2Proof.Machine.execAcqStop ph req s
  | .acqForce ph req => Sys2Proof.Machine.execAcqForce ph req s
  | .injStart ph req => Sys2Proof.Machine.execInjStart ph req s
  | .injStop ph req => Sys2Proof.Machine.execInjStop ph req s
  | .sdoRelease ph req => Sys2Proof.Machine.execSdoRelease ph req s
  | .sdoApply ph req => Sys2Proof.Machine.execSdoApply ph req s
  | .safetyAck ph req => Sys2Proof.Machine.execSafetyAck ph req s
  | .watermarkRead ph req => Sys2Proof.Machine.execWatermarkRead ph req s
  | .watermarkProgram ph req => Sys2Proof.Machine.execWatermarkProgram ph req s
  | .settingsSave ph req => Sys2Proof.Machine.execSettingsSave ph req s
  | .storeStatus ph req => Sys2Proof.Machine.execStoreStatus ph req s
  | .fwOpen ph req => Sys2Proof.Machine.execFwOpen ph req s
  | .fwWrite ph req => Sys2Proof.Machine.execFwWrite ph req s
  | .fwClose ph req => Sys2Proof.Machine.execFwClose ph req s
  | .standby ph req => Sys2Proof.Machine.execStandby ph req s
  | .mnop engine => Sys2Proof.Machine.execMnop engine s
  | .mul4 engine dx aj pm sci pred => Sys2Proof.Machine.execMul4 engine dx aj pm sci pred s
  | .mac4 engine dx aj pm sci pred => Sys2Proof.Machine.execMac4 engine dx aj pm sci pred s
  | .msu4 engine dx aj pm sci pred => Sys2Proof.Machine.execMsu4 engine dx aj pm sci pred s
  | .mul1 engine dx aj pm acc sci pred => Sys2Proof.Machine.execMul1 engine dx aj pm acc sci pred s
  | .mac1 engine dx aj pm acc sci pred => Sys2Proof.Machine.execMac1 engine dx aj pm acc sci pred s
  | .msu1 engine dx aj pm acc sci pred => Sys2Proof.Machine.execMsu1 engine dx aj pm acc sci pred s
  | .mulr engine dx dy acc sci pred => Sys2Proof.Machine.execMulr engine dx dy acc sci pred s
  | .macr engine dx dy acc sci pred => Sys2Proof.Machine.execMacr engine dx dy acc sci pred s
  | .msur engine dx dy acc sci pred => Sys2Proof.Machine.execMsur engine dx dy acc sci pred s
  | .accl engine dx acc sci pred => Sys2Proof.Machine.execAccl engine dx acc sci pred s
  | .acca engine dx acc sci pred => Sys2Proof.Machine.execAcca engine dx acc sci pred s
  | .clr4 engine => Sys2Proof.Machine.execClr4 engine s
  | .vnop engine => Sys2Proof.Machine.execVnop engine s
  | .movs engine dd acc mode pred => Sys2Proof.Machine.execMovs engine dd acc mode pred s
  | .ld engine dd aj pm off pred => Sys2Proof.Machine.execLd engine dd aj pm off pred s
  | .st engine dd aj pm off pred => Sys2Proof.Machine.execSt engine dd aj pm off pred s
  | .mov engine dd ds pred => Sys2Proof.Machine.execMov engine dd ds pred s
  | .ldi engine dd imm => Sys2Proof.Machine.execLdi engine dd imm s
  | .add engine dd ds dt pred => Sys2Proof.Machine.execAdd engine dd ds dt pred s
  | .sub engine dd ds dt pred => Sys2Proof.Machine.execSub engine dd ds dt pred s
  | .addw engine dd ds dt pred => Sys2Proof.Machine.execAddw engine dd ds dt pred s
  | .subw engine dd ds dt pred => Sys2Proof.Machine.execSubw engine dd ds dt pred s
  | .min engine dd ds dt pred => Sys2Proof.Machine.execMin engine dd ds dt pred s
  | .max engine dd ds dt pred => Sys2Proof.Machine.execMax engine dd ds dt pred s
  | .sat engine dd ds count pred => Sys2Proof.Machine.execSat engine dd ds count pred s
  | .clamp engine dd ds t pred => Sys2Proof.Machine.execClamp engine dd ds t pred s
  | .sincos engine dd ds pred => Sys2Proof.Machine.execSincos engine dd ds pred s
  | .rcp engine dd ds pred => Sys2Proof.Machine.execRcp engine dd ds pred s
  | .rsq engine dd ds pred => Sys2Proof.Machine.execRsq engine dd ds pred s
  | .imul engine dd ds dt pred => Sys2Proof.Machine.execImul engine dd ds dt pred s
  | .asr engine dd ds count pred => Sys2Proof.Machine.execAsr engine dd ds count pred s
  | .shl engine dd ds count pred => Sys2Proof.Machine.execShl engine dd ds count pred s
  | .cmp engine cond p3 ds dt pred => Sys2Proof.Machine.execCmp engine cond p3 ds dt pred s
  | .xrd engine dd src pred => Sys2Proof.Machine.execXrd engine dd src pred s
  | .sfclr engine => Sys2Proof.Machine.execSfclr engine s
  | .anop engine => Sys2Proof.Machine.execAnop engine s
  | .asetl engine j op => Sys2Proof.Machine.execAsetl engine j op s
  | .asetc engine j op => Sys2Proof.Machine.execAsetc engine j op s
  | .aseti engine j op => Sys2Proof.Machine.execAseti engine j op s
  | .aadd engine j op => Sys2Proof.Machine.execAadd engine j op s
  | .mset engine j op => Sys2Proof.Machine.execMset engine j op s
  | .amod engine j => Sys2Proof.Machine.execAmod engine j s
  | .loop engine count length => Sys2Proof.Machine.execLoop engine count length s
  | .end_ engine => Sys2Proof.Machine.execEnd engine s
  | .pciePerstnRelease => Sys2Proof.Machine.execPciePerstnRelease s
  | .pcieLinkUp => Sys2Proof.Machine.execPcieLinkUp s
  | .sgmiiLinkChange up speed1000 => Sys2Proof.Machine.execSgmiiLinkChange up speed1000 s
  | .ptpIntervalExpiry kind stamp => Sys2Proof.Machine.execPtpIntervalExpiry kind stamp s
  | .ethTransmitComplete => Sys2Proof.Machine.execEthTransmitComplete s
  | .laneChainHead => Sys2Proof.Machine.execLaneChainHead s
  | .joinReceived lane => Sys2Proof.Machine.execJoinReceived lane s
  | .testStartAfterOn output => Sys2Proof.Machine.execTestStartAfterOn output s
  | .vaonPowerOn => Sys2Proof.Machine.execVaonPowerOn s
  | .aonClockRestart => Sys2Proof.Machine.execAonClockRestart s
  | .supplyReturnToRange supply => Sys2Proof.Machine.execSupplyReturnToRange supply s
  | .localFeedbackEdge channel edge at_ => Sys2Proof.Machine.execLocalFeedbackEdge channel edge at_ s
  | .forwardRefusalReceived box tag status aux rsp effective => Sys2Proof.Machine.execForwardRefusalReceived box tag status aux rsp effective s

end Sys2Proof.Machine
end

