-- ==== Sys2Proof/Safety.lean ====
section
/-!
DEFINITION. What counts as a safe step and a reachable state, in the terms the statements use.
-/
namespace Sys2Proof

/-- The step from `s` neither faults nor is refused. -/
def StepsOn (s : Machine.State) : Prop := ∃ t, Machine.step s = .next t

/-- States that steps lead to from `s`, the environment being free to queue any command between two steps. -/
inductive Reaches : Machine.State → Machine.State → Prop where
  | here (s : Machine.State) : Reaches s s
  | queue {s t : Machine.State} (c : Instr) (h : Reaches s t) : Reaches s { t with pending := t.pending ++ [c] }
  | step {s t u : Machine.State} (h : Reaches s t) (hs : Machine.step t = .next u) : Reaches s u

/-- The memories keep their one canonical form and the fixed lists their length: what every step keeps. -/
def Shape (s : Machine.State) : Prop :=
  Machine.Memory.wf s.acq.mem = true ∧ Machine.Memory.wf s.host.msix = true ∧ s.events.ring.length ≤ 256 ∧
  s.engines.length = 16 ∧ s.host.boxes.length = 16 ∧ s.branches.length = 8

/-- A source is neither active in the collector nor reported already (R504). -/
def Quiet (s : Machine.State) (code : Nat) (loc : Machine.Loc) : Prop :=
  s.isActive code loc = false ∧ s.faults.reports.any (fun q => q.code == code && q.loc == loc) = false

/-- `s` with one more lane report waiting for the command order (R349, R506), and nothing else changed. -/
def reported (s : Machine.State) (code : Nat) (cls : Machine.FClass) (loc : Machine.Loc) (ev : Option Machine.EvBody := none) :
    Machine.State :=
  { s with faults := { s.faults with
    reports := s.faults.reports ++ [{ code := code, cls := cls, loc := loc, lane := some s.lane, event := ev }] } }

/-- `s` with one more body of this lane waiting for the command order (R349), and nothing else changed. -/
def withBody (s : Machine.State) (b : Machine.Body) : Machine.State :=
  { s with order := { s.order with held := s.order.held ++ [{ req := {}, lane := s.lane, body := some b }] } }

/-- Every switch of the four safe drive outputs is off (R452, R480). -/
def AllOff (s : Machine.State) : Prop :=
  ∀ m < 4, ∀ o, s.drivers.outs[m]? = some o → o.hs.cmd = false ∧ o.hs.on = false ∧ o.ls.cmd = false ∧ o.ls.on = false

/-- What an F3 of a code leaves of the lane `s` that detects it (R515, R516): its code kept unless an F3 came before, every
switch off, pulse outputs, Ethernet and SPARE_WAKE quiet, every axis FAULTED in Simplex and the lane REMOVED otherwise; the
time base, the configuration, the kernels, the acquisition memory and the queue as they were. -/
def F3Stopped (s t : Machine.State) (code : Nat) : Prop :=
  t.faults.f3 = true ∧
  (s.faults.f3 = false → t.faults.f3Code = BitVec.ofNat 12 code ∧
    t.power = { s.power with f3Record := some (BitVec.ofNat 12 code, BitVec.ofNat 32 s.clock.cycle), f3Reg := true }) ∧
  (s.faults.f3 = true → t.faults.f3Code = s.faults.f3Code ∧ t.power = s.power) ∧
  AllOff t ∧
  t.time = { s.time with pps := s.time.pps.map (fun p => { p with level := false }), ethBusy := false } ∧ t.lanes.spareWake = false ∧
  (s.simplex = true → ∀ a ∈ t.axes, a.st = .faulted) ∧ (s.simplex = false → t.lanes.role = .removed) ∧
  t.clock = s.clock ∧ t.cfg = s.cfg ∧ t.kernels = s.kernels ∧ t.acq.mem = s.acq.mem ∧ t.pending = s.pending

/-- What a safety F2 of a code leaves of the lane `s` (R469, R513): both channels locked out with that cause, every switch off,
every enabled input in DEMAND, the release requests cleared, the system F2 line set, one lane report with its LOCKOUT event; only
the safety unit, the drivers, the collector, the command order and the counter of free values differ. -/
def LockedOut (s t : Machine.State) (code : Nat) (loc : Machine.Loc) : Prop :=
  t = { s with safety := t.safety, drivers := t.drivers, faults := t.faults, order := t.order, free := t.free } ∧
  t.safety.proc.lockout = true ∧ t.safety.dyke.lockout = true ∧ t.safety.lockoutCause = BitVec.ofNat 12 code ∧
  t.safety.release = List.replicate 4 false ∧ t.safety.ackPending = none ∧
  (∀ n < 8, s.siEnabled n = true →
    (t.safety.proc.ins.getD n {}).st = .demand ∧ (t.safety.dyke.ins.getD n {}).st = .demand) ∧
  AllOff t ∧
  ∃ ev : Machine.EvBody, ev.code = 0x5C3 ∧ t.faults = { s.faults with
    sysF2 := true,
    reports := s.faults.reports ++ [{ code := code, cls := .f2, loc := loc, lane := some s.lane, event := some ev }] }

/-- A well-formed command of class 3 that the host submits in an idle mailbox of its own from number 2 upward (R537, R541, R542). -/
def Submits (s : Machine.State) (n : Nat) (r : Machine.Req) : Prop :=
  s.hostOn = true ∧ s.power.noImage = false ∧ 2 ≤ n ∧ r.cls = 3 ∧ r.origin = .mailbox n ∧ r.payload.length ≤ 240 ∧ r.flags.toNat < 2 ∧
  ∃ b, s.host.boxes[n]? = some b ∧ b.st = .idle

/-- The final response of a command stands in its mailbox, in DONE, with the interrupt cause 0 set, and no other mailbox changed
(R546, Table 14.10). -/
def Answer (s t : Machine.State) (n : Nat) (r : Machine.Req) (op status : Nat) (rsp : List Byte) : Prop :=
  (∃ b, t.host.boxes[n]? = some b ∧ b.st = .done ∧ Machine.le b.rsp 0 2 = op ∧ Machine.byteAt b.rsp 2 = status ∧
    Machine.le b.rsp 4 4 = r.tag.toNat ∧ Machine.le b.rsp 8 2 = rsp.length ∧ (b.rsp.drop 16).take rsp.length = rsp) ∧
  t.host.irqStatus.getLsbD 0 = true ∧ ∀ m, m ≠ n → t.host.boxes[m]? = s.host.boxes[m]?

/-- The local command `i` of request `r` is served at once in mailbox `n` of `s` (R563): it is answered with `status` and `rsp`, and
nothing but that answer and its interrupt tells the state after it from `t0`. -/
def Serves (i : Instr) (s : Machine.State) (n : Nat) (r : Machine.Req) (op status : Nat) (rsp : List Byte) (t0 : Machine.State) : Prop :=
  ∃ t, Machine.exec i s = .next t ∧ Answer s t n r op status rsp ∧
    t = { t0 with host := { s.host with boxes := t.host.boxes, irqStatus := s.host.irqStatus ||| 1 }, tx := t.tx }

/-- The rows of the commands that take their place in the command order (R563, Tables 15.5 to 15.14): opcode, class, row. -/
def orderRows : List (Nat × Nat × (Machine.Phase → Machine.Req → Instr)) :=
  [(0x0002, 2, .fieldWrite), (0x0004, 2, .commit), (0x0005, 2, .discard), (0x0007, 2, .clusterStop), (0x0008, 0, .faultAck),
   (0x0009, 1, .faultClear), (0x000B, 2, .faultRaise), (0x0100, 2, .axisOn), (0x0101, 2, .axisOff), (0x0102, 1, .axisEnable),
   (0x0103, 1, .axisRun), (0x0104, 0, .axisStop), (0x0105, 0, .quickStop), (0x0106, 0, .axisCoast), (0x0107, 1, .axisDisable),
   (0x0108, 1, .axisReset), (0x0110, 2, .mapAxis), (0x0111, 2, .mapNode), (0x0112, 2, .mapRemove), (0x0118, 2, .coeffWrite),
   (0x0120, 3, .kernelOpen), (0x0121, 3, .kernelWrite), (0x0122, 3, .kernelClose), (0x0123, 3, .kernelRemove)] ++
  [(0x0200, 1, .profileMove), (0x0201, 1, .profileVelocity), (0x0202, 1, .tableAppend), (0x0203, 1, .tableStart), (0x0204, 1, .tableClear),
   (0x0205, 1, .groupMove), (0x0206, 1, .refSet), (0x0400, 2, .branchCtrl), (0x0401, 3, .nodeParamRead), (0x0402, 3, .nodeParamWrite),
   (0x0500, 2, .voiceMove), (0x0501, 3, .spareRefresh), (0x0502, 2, .spareTakeover), (0x0700, 2, .acqArm), (0x0701, 2, .acqStop),
   (0x0702, 2, .acqForce), (0x0703, 1, .injStart), (0x0704, 0, .injStop), (0x0800, 1, .sdoRelease), (0x0801, 0, .sdoApply),
   (0x0802, 0, .safetyAck), (0x0900, 3, .settingsSave)]

/-- The rows of the commands of Table 2.3. -/
def axisOps : List (Nat × (Machine.Phase → Machine.Req → Instr)) :=
  [(0x0100, .axisOn), (0x0101, .axisOff), (0x0102, .axisEnable), (0x0103, .axisRun), (0x0104, .axisStop), (0x0105, .quickStop),
   (0x0106, .axisCoast), (0x0107, .axisDisable), (0x0108, .axisReset)]

/-- Table 2.3: opcode, row, state before, state after. -/
def axisRows : List (Nat × (Machine.Phase → Machine.Req → Instr) × Machine.AxisSt × Machine.AxisSt) :=
  [(0x0100, .axisOn, .off, .ready), (0x0101, .axisOff, .ready, .off), (0x0102, .axisEnable, .ready, .hold), (0x0102, .axisEnable, .coast, .hold),
   (0x0103, .axisRun, .hold, .run), (0x0103, .axisRun, .coast, .run), (0x0104, .axisStop, .run, .stopRamp),
   (0x0105, .quickStop, .hold, .stopRamp), (0x0105, .quickStop, .run, .stopRamp), (0x0105, .quickStop, .stopRamp, .stopRamp),
   (0x0106, .axisCoast, .hold, .coast), (0x0106, .axisCoast, .run, .coast), (0x0106, .axisCoast, .stopRamp, .coast),
   (0x0107, .axisDisable, .hold, .ready), (0x0107, .axisDisable, .coast, .ready), (0x0108, .axisReset, .faulted, .ready)]

/-- One record of an event joined the records of the cycle, and nothing else tells `t` from `s` (R547, R550). -/
def recorded (s t : Machine.State) (code axis : Nat) (payload : List Byte) : Prop :=
  ∃ e : Machine.EvRec, e.kind.toNat = code ∧ e.axis.toNat = axis ∧ e.payload = Machine.padTo 12 payload ∧
    t = { s with events := { s.events with fresh := s.events.fresh ++ [e] } }

/-- `a`, a command of request `r`, is the first place of the command order, its effective cycle has come, and `rest` follows
(R30). -/
def TakesNext (s : Machine.State) (a : Machine.Accepted) (rest : List Machine.Accepted) (r : Machine.Req) (op : Nat) : Prop :=
  s.order.accepted = a :: rest ∧ a.body = .cmd r ∧ r.opcode = op ∧ a.eff ≤ s.clock.cycle

/-- `s` with the places `rest` left in the command order, and nothing else changed. -/
def withPlaces (s : Machine.State) (rest : List Machine.Accepted) : Machine.State :=
  { s with order := { s.order with accepted := rest } }

/-- `v` is the exact value `z` held at the nearer end of the range of a data register, and `lim` says whether that changed it
(R125). -/
def Held32 (v : BitVec 32) (lim : Bool) (z : Int) : Prop :=
  v.toInt = max (-(2 ^ 31)) (min (2 ^ 31 - 1) z) ∧ (lim = true ↔ z < -(2 ^ 31) ∨ 2 ^ 31 ≤ z)

/-- The same for an accumulator (R124). -/
def Held80 (v : BitVec 80) (lim : Bool) (z : Int) : Prop :=
  v.toInt = max (-(2 ^ 79)) (min (2 ^ 79 - 1) z) ∧ (lim = true ↔ z < -(2 ^ 79) ∨ 2 ^ 79 ≤ z)

/-- `i` runs on engine `n` of `s`, which is `e`: the open bundle takes the writes `c`, or those it had (`none_`) with its predicate
at 0; no register and no memory word changes before the bundle closes (R121). -/
def SlotRuns (i : Instr) (s : Machine.State) (n : Fin 16) (e : Machine.Engine) (pred : Nat) (none_ c : Machine.Commit) : Prop :=
  ∃ b, Machine.exec i s =
    .next (s.updEngine n (fun _ => { e with bundle := b, commit := if e.pr pred then c else none_ }))

/-- A MOVE-slot operation with no post-modify runs, its bundle being open. -/
def MoveRuns (i : Instr) (s : Machine.State) (n : Fin 16) (e : Machine.Engine) (pred : Nat) (c : Machine.Commit) : Prop :=
  SlotRuns i s n e pred e.commit c

/-- A MAC-slot operation with no post-modify runs and opens its bundle. -/
def MacRuns (i : Instr) (s : Machine.State) (n : Fin 16) (e : Machine.Engine) (pred : Nat) (c : Machine.Commit) : Prop :=
  SlotRuns i s n e pred {} c

/-- `q` is the product `p` shifted by the scale `sc` (R124). -/
def ShiftedBy (p sc q : Int) : Prop := (0 ≤ sc → q = p * 2 ^ sc.toNat) ∧ (sc < 0 → q = p / 2 ^ (-sc).toNat)

/-- The writes of a slot's post-modify, which no predicate stops (R120, R121). -/
def postMod (e : Machine.Engine) (j : Nat) (pm : Bool) (c : Machine.Commit) : Machine.Commit :=
  if pm then { c with aregs := Machine.kvSet c.aregs j (e.ar j + e.mr j) } else c

/-- The word address of an access through an address register with an offset (R120). -/
def accessAddr (e : Machine.Engine) (j off : Nat) : Nat := ((e.ar j).toNat + off) % 65536

/-- A four-lane MAC-slot operation `i` runs: accumulator k takes `f old q`, q the shifted product of Dx with the k-th word (R124). -/
def FourLanes (i : Instr) (f : Int → Int → Int) (s : Machine.State) (n : Fin 16) (e : Machine.Engine) (dx : Fin 32) (aj : Fin 8)
    (pm : Bool) (sci : Fin 32) (pred : Fin 4) (w : Nat → BitVec 32) : Prop :=
  ∃ (v : Nat → BitVec 80) (lim : Nat → Bool),
    (∀ k < 4, ∃ q, ShiftedBy ((e.dr dx).toInt * (w k).toInt) (e.scale sci) q ∧ Held80 (v k) (lim k) (f (e.ac k).toInt q)) ∧
    SlotRuns i s n e pred (postMod e aj pm {})
      { postMod e aj pm {} with accs := [(0, v 0), (1, v 1), (2, v 2), (3, v 3)],
                                sf := if lim 0 || lim 1 || lim 2 || lim 3 then some true else none }

/-- A one-accumulator MAC-slot operation `i` with the unshifted product `p` runs: the accumulator takes `f old q` (R124). -/
def OneLane (i : Instr) (f : Int → Int → Int) (p : Int) (s : Machine.State) (n : Fin 16) (e : Machine.Engine) (acc : Fin 4) (sci : Fin 32)
    (pred : Fin 4) (c : Machine.Commit) : Prop :=
  ∃ (q : Int) (v : BitVec 80) (lim : Bool), ShiftedBy p (e.scale sci) q ∧ Held80 v lim (f (e.ac acc).toInt q) ∧
    SlotRuns i s n e pred c { c with accs := [(acc.val, v)], sf := if lim then some true else none }

/-- A MOVE-slot operation `i` runs and writes the exact result `z` of a saturating operation, held in 32 bits (R125). -/
def MovesHeld (i : Instr) (s : Machine.State) (n : Fin 16) (e : Machine.Engine) (dd : Fin 32) (pred : Fin 4) (z : Int) : Prop :=
  ∃ (v : BitVec 32) (lim : Bool), Held32 v lim z ∧ MoveRuns i s n e pred (e.commit.put dd v lim)

/-- `x` rounded to the nearest integer, ties to even, is `z` (R125). -/
def NearestEven (x : Rat) (z : Int) : Prop :=
  (z : Rat) - 1 / 2 ≤ x ∧ x ≤ (z : Rat) + 1 / 2 ∧ (x = (z : Rat) - 1 / 2 ∨ x = (z : Rat) + 1 / 2 → z % 2 = 0)

/-- The last write to a register among the writes of a bundle, or its value before (R121). -/
def lastWrite {w : Nat} (l : List (Nat × BitVec w)) (r : Nat) (old : BitVec w) : BitVec w := (Machine.kvGet l.reverse r).getD old

/-- The bundle of `e` has closed and left `t`: every register and flag holds the last write of the bundle to it, or its value
before; `ad` and `md` are the writes to the address and modify registers (R121). -/
def Closed (e t : Machine.Engine) (ad md : List (Nat × BitVec 16)) : Prop :=
  (∀ r < 32, t.dr r = lastWrite e.commit.dregs r (e.dr r)) ∧ (∀ r < 4, t.ac r = lastWrite e.commit.accs r (e.ac r)) ∧
  (∀ r < 8, t.ar r = lastWrite ad r (e.ar r)) ∧ (∀ r < 8, t.mr r = lastWrite md r (e.mr r)) ∧
  t.p1 = e.p1 ∧ t.p2 = e.commit.p2.getD e.p2 ∧ t.p3 = e.commit.p3.getD e.p3 ∧ t.nx = e.commit.nx.getD e.nx ∧
  t.sf = e.commit.sf.getD e.sf ∧ t.sc = e.sc ∧ t.inp = e.inp ∧ t.axis = e.axis ∧ t.commit = {} ∧ t.bundle = {} ∧
  let m := e.commit.mem.foldl (fun e p => e.store p.1 p.2) e
  t.localMem = m.localMem ∧ t.ctxWrites = m.ctxWrites ∧ t.out = m.out

/-- An ADDRESS-slot operation `i` runs and closes the bundle (R121): the bundle issues when the operands of all three slots are ready,
those of this slot at `wait` (R122), takes its length and one cycle more when both slots access one region (R123), and the run goes on
or ends as `next` says of the bundle index, the loops and completion. -/
def AddressRuns (i : Instr) (s : Machine.State) (n : Fin 16) (e : Machine.Engine) (wait : Nat) (ad md : List (Nat × BitVec 16))
    (next : Machine.Engine → Prop) : Prop :=
  ∃ t, Machine.exec i s = .next (s.updEngine n (fun _ => t)) ∧ Closed e t ad md ∧ next t ∧
    t.cyc = max (max e.cyc e.bundle.startMin) wait + e.bundle.len +
      (if e.bundle.macRegion ≠ none ∧ e.bundle.macRegion = e.bundle.movRegion then 1 else 0)

/-- The run goes on where the loops in progress lead (R123). -/
def goesOn (e t : Machine.Engine) : Prop := (t.pc, t.loops) = Machine.nextPc e.loops e.pc ∧ t.done = e.done

/-- A slot command as its engine and its field of the bundle, bits [63:40] (Table 3.6): none for a command of another slot. -/
def encodeMac : Instr → Option (Fin 16 × Nat)
  | .mnop n => some (n, 0)
  | .mul4 n dx aj pm sci pred => some (n, memField 1 dx aj pm 0 sci pred)
  | .mac4 n dx aj pm sci pred => some (n, memField 2 dx aj pm 0 sci pred)
  | .msu4 n dx aj pm sci pred => some (n, memField 3 dx aj pm 0 sci pred)
  | .mul1 n dx aj pm acc sci pred => some (n, memField 4 dx aj pm acc sci pred)
  | .mac1 n dx aj pm acc sci pred => some (n, memField 5 dx aj pm acc sci pred)
  | .msu1 n dx aj pm acc sci pred => some (n, memField 6 dx aj pm acc sci pred)
  | .mulr n dx dy acc sci pred => some (n, regField 7 dx dy acc sci pred)
  | .macr n dx dy acc sci pred => some (n, regField 8 dx dy acc sci pred)
  | .msur n dx dy acc sci pred => some (n, regField 9 dx dy acc sci pred)
  | .accl n dx acc sci pred => some (n, regField 10 dx 0 acc sci pred)
  | .acca n dx acc sci pred => some (n, regField 11 dx 0 acc sci pred)
  | .clr4 n => some (n, 12 * 2 ^ 59)
  | _ => none
where
  memField (mop : Nat) (dx : Fin 32) (aj : Fin 8) (pm : Bool) (acc : Nat) (sci : Fin 32) (pred : Fin 4) : Nat :=
    mop * 2 ^ 59 + dx.val * 2 ^ 54 + aj.val * 2 ^ 51 + pm.toNat * 2 ^ 50 + acc * 2 ^ 48 + sci.val * 2 ^ 43 + pred.val * 2 ^ 40
  regField (mop : Nat) (dx dy : Fin 32) (acc : Fin 4) (sci : Fin 32) (pred : Fin 4) : Nat :=
    mop * 2 ^ 59 + dx.val * 2 ^ 54 + dy.val * 2 ^ 49 + acc.val * 2 ^ 47 + sci.val * 2 ^ 42 + pred.val * 2 ^ 40

/-- The same for the MOVE slot, bits [39:18] (Table 3.7), for the operands that Table 3.9 gives. -/
def encodeMove : Instr → Option (Fin 16 × Nat)
  | .vnop n => some (n, 0)
  | .movs n dd acc (.shift sh) pred =>
    if -32 ≤ sh ∧ sh ≤ 31 then some (n, accField dd acc 0 (sh % 64).toNat pred) else none
  | .movs n dd acc (.scale sc) pred => some (n, accField dd acc 1 sc pred)
  | .movs n dd acc .normalise pred => some (n, accField dd acc 2 0 pred)
  | .ld n dd aj pm off pred => some (n, memField 2 dd aj pm off pred)
  | .st n dd aj pm off pred => some (n, memField 3 dd aj pm off pred)
  | .mov n dd ds pred => some (n, field 4 dd ds 0 pred)
  | .ldi n dd imm => some (n, 5 * 2 ^ 35 + dd.val * 2 ^ 30 + imm.toNat * 2 ^ 18)
  | .add n dd ds dt pred => some (n, field 6 dd ds dt pred)
  | .sub n dd ds dt pred => some (n, field 7 dd ds dt pred)
  | .addw n dd ds dt pred => some (n, field 8 dd ds dt pred)
  | .subw n dd ds dt pred => some (n, field 9 dd ds dt pred)
  | .min n dd ds dt pred => some (n, field 10 dd ds dt pred)
  | .max n dd ds dt pred => some (n, field 11 dd ds dt pred)
  | .sat n dd ds cnt pred => if cnt.val ≤ 30 then some (n, field 12 dd ds cnt pred) else none
  | .clamp n dd ds t pred => if t.val % 2 = 0 then some (n, field 13 dd ds t pred) else none
  | .sincos n dd ds pred => if dd.val % 2 = 0 then some (n, field 14 dd ds 0 pred) else none
  | .rcp n dd ds pred => some (n, field 15 dd ds 0 pred)
  | .rsq n dd ds pred => some (n, field 16 dd ds 0 pred)
  | .imul n dd ds dt pred => some (n, field 17 dd ds dt pred)
  | .asr n dd ds cnt pred => some (n, field 18 dd ds cnt pred)
  | .shl n dd ds cnt pred => some (n, field 19 dd ds cnt pred)
  | .cmp n cond p3 ds dt pred => some (n, 20 * 2 ^ 35 + (condCode cond * 8 + p3.toNat) * 2 ^ 30 + ds.val * 2 ^ 25 + dt.val * 2 ^ 20 + pred.val * 2 ^ 18)
  | .xrd n dd src pred => some (n, field 21 dd (srcCode src) 0 pred)
  | .sfclr n => some (n, 22 * 2 ^ 35)
  | _ => none
where
  accField (dd : Fin 32) (acc : Fin 4) (mode shift : Nat) (pred : Fin 4) : Nat :=
    1 * 2 ^ 35 + dd.val * 2 ^ 30 + acc.val * 2 ^ 28 + mode * 2 ^ 26 + shift * 2 ^ 20 + pred.val * 2 ^ 18
  memField (vop : Nat) (dd : Fin 32) (aj : Fin 8) (pm : Bool) (off : Fin 64) (pred : Fin 4) : Nat :=
    vop * 2 ^ 35 + dd.val * 2 ^ 30 + aj.val * 2 ^ 27 + pm.toNat * 2 ^ 26 + off.val * 2 ^ 20 + pred.val * 2 ^ 18
  field (vop : Nat) (dd ds dt : Fin 32) (pred : Fin 4) : Nat :=
    vop * 2 ^ 35 + dd.val * 2 ^ 30 + ds.val * 2 ^ 25 + dt.val * 2 ^ 20 + pred.val * 2 ^ 18
  condCode : Machine.CmpCond → Nat
    | .less => 0 | .lessEq => 1 | .equal => 2 | .notEqual => 3
  srcCode : Machine.XrdSrc → Fin 32
    | .nx => 0 | .sf => 1 | .preds => 2

/-- The same for the ADDRESS slot, bits [17:0] (R118, Table 3.10). -/
def encodeAddress : Instr → Option (Fin 16 × Nat)
  | .anop n => some (n, 0)
  | .asetl n j op => some (n, field 1 j op)
  | .asetc n j op => some (n, field 2 j op)
  | .aseti n j op => if op.toNat ≤ 0xBF then some (n, field 3 j op) else none
  | .aadd n j op => some (n, field 4 j op)
  | .mset n j op => some (n, field 5 j op)
  | .amod n j => some (n, field 6 j 0)
  | .loop n cnt len => some (n, 7 * 2 ^ 14 + cnt.val * 2 ^ 6 + len.val)
  | .end_ n => some (n, 15 * 2 ^ 14)
  | _ => none
where
  field (aop : Nat) (j : Fin 8) (op : BitVec 11) : Nat := aop * 2 ^ 14 + j.val * 2 ^ 11 + op.toNat

end Sys2Proof
end

