-- ==== Sys2Proof/Certificates/Slice0/Obligations.lean ====
section
/-!
DEFINITION. The statements for the provers.
-/
open Sys2Proof

/-- A step with a command at the front of the queue is that command carried out with the queue's rest; with an empty queue the block
idles (log entry 2). -/
def Obligations.StepRunsTheFrontCommand : Prop :=
  (∀ (c : Instr) (rest : List Instr) (s : Machine.State),
    Machine.step { s with pending := c :: rest } = Machine.exec c { s with pending := rest }) ∧
  (∀ s : Machine.State, Machine.step { s with pending := [] } = .next { s with pending := [] })

/-- R124 and Table 3.8: the four-lane products with consecutive words at a multiple of 4 that the address map allows. The words of one
access are those the engine reads at the bundle's start; a post-modify takes place whatever the predicate. R124 and Table 3.8: the
products into one accumulator, with a memory word, with a register, with 2^31. -/
def Obligations.ProductsAccumulate : Prop :=
  (∀ (s : Machine.State) (n : Fin 16) (e : Machine.Engine) (dx : Fin 32) (aj : Fin 8) (pm : Bool) (sci : Fin 32) (pred : Fin 4)
     (w : Nat → BitVec 32), s.engines[n.val]? = some e → accessAddr e aj 0 % 4 = 0 →
     (∀ k < 4, e.load (s.ctxOf e) ((accessAddr e aj 0 + k) % 65536) = .ok (w k)) →
     FourLanes (.mul4 n dx aj pm sci pred) (fun _ q => q) s n e dx aj pm sci pred w ∧
     FourLanes (.mac4 n dx aj pm sci pred) (fun a q => a + q) s n e dx aj pm sci pred w ∧
     FourLanes (.msu4 n dx aj pm sci pred) (fun a q => a - q) s n e dx aj pm sci pred w) ∧
  (∀ (s : Machine.State) (n : Fin 16) (e : Machine.Engine) (dx dy : Fin 32) (aj : Fin 8) (pm : Bool) (acc : Fin 4) (sci : Fin 32)
     (pred : Fin 4), s.engines[n.val]? = some e →
     (∀ w, e.load (s.ctxOf e) (accessAddr e aj 0) = .ok w →
       OneLane (.mul1 n dx aj pm acc sci pred) (fun _ q => q) ((e.dr dx).toInt * w.toInt) s n e acc sci pred (postMod e aj pm {}) ∧
       OneLane (.mac1 n dx aj pm acc sci pred) (fun a q => a + q) ((e.dr dx).toInt * w.toInt) s n e acc sci pred (postMod e aj pm {}) ∧
       OneLane (.msu1 n dx aj pm acc sci pred) (fun a q => a - q) ((e.dr dx).toInt * w.toInt) s n e acc sci pred (postMod e aj pm {})) ∧
     OneLane (.mulr n dx dy acc sci pred) (fun _ q => q) ((e.dr dx).toInt * (e.dr dy).toInt) s n e acc sci pred {} ∧
     OneLane (.macr n dx dy acc sci pred) (fun a q => a + q) ((e.dr dx).toInt * (e.dr dy).toInt) s n e acc sci pred {} ∧
     OneLane (.msur n dx dy acc sci pred) (fun a q => a - q) ((e.dr dx).toInt * (e.dr dy).toInt) s n e acc sci pred {} ∧
     OneLane (.accl n dx acc sci pred) (fun _ q => q) ((e.dr dx).toInt * 2 ^ 31) s n e acc sci pred {} ∧
     OneLane (.acca n dx acc sci pred) (fun a q => a + q) ((e.dr dx).toInt * 2 ^ 31) s n e acc sci pred {} ∧
     MacRuns (.mnop n) s n e 0 {} ∧
     MacRuns (.clr4 n) s n e 0 { accs := [(0, 0), (1, 0), (2, 0), (3, 0)] })

/-- Table 3.9 and R125: the operations of format R on 32-bit words; only the saturating ones ever set SF. -/
def Obligations.WordOperationsOfTheMoveSlot : Prop :=
  ∀ (s : Machine.State) (n : Fin 16) (e : Machine.Engine) (dd ds dt : Fin 32) (cnt : Fin 32) (imm : BitVec 12) (pred : Fin 4),
    s.engines[n.val]? = some e →
    let x := e.dr ds
    let y := e.dr dt
    MovesHeld (.add n dd ds dt pred) s n e dd pred (x.toInt + y.toInt) ∧
    MovesHeld (.sub n dd ds dt pred) s n e dd pred (x.toInt - y.toInt) ∧
    MovesHeld (.shl n dd ds cnt pred) s n e dd pred (x.toInt * 2 ^ cnt.val) ∧
    MoveRuns (.addw n dd ds dt pred) s n e pred (e.commit.put dd (x + y)) ∧
    MoveRuns (.subw n dd ds dt pred) s n e pred (e.commit.put dd (x - y)) ∧
    MoveRuns (.imul n dd ds dt pred) s n e pred (e.commit.put dd (x * y)) ∧
    (∃ v, v.toInt = min x.toInt y.toInt ∧ MoveRuns (.min n dd ds dt pred) s n e pred (e.commit.put dd v)) ∧
    (∃ v, v.toInt = max x.toInt y.toInt ∧ MoveRuns (.max n dd ds dt pred) s n e pred (e.commit.put dd v)) ∧
    (∃ v, v.toInt = x.toInt / 2 ^ cnt.val ∧ MoveRuns (.asr n dd ds cnt pred) s n e pred (e.commit.put dd v)) ∧
    (cnt.val ≤ 30 → ∃ v lim, v.toInt = max (-(2 ^ cnt.val)) (min (2 ^ cnt.val - 1) x.toInt) ∧
      (lim = true ↔ x.toInt < -(2 ^ cnt.val) ∨ 2 ^ cnt.val ≤ x.toInt) ∧
      MoveRuns (.sat n dd ds cnt pred) s n e pred (e.commit.put dd v lim)) ∧
    (dt.val % 2 = 0 → ∃ v, (y.toInt ≤ (e.dr (dt.val + 1)).toInt → v.toInt = max y.toInt (min (e.dr (dt.val + 1)).toInt x.toInt)) ∧
      MoveRuns (.clamp n dd ds dt pred) s n e pred (e.commit.put dd v)) ∧
    MoveRuns (.mov n dd ds pred) s n e pred (e.commit.put dd x) ∧
    (∃ v, v.toInt = imm.toInt ∧ MoveRuns (.ldi n dd imm) s n e 0 (e.commit.put dd v)) ∧
    MoveRuns (.vnop n) s n e 0 e.commit

/-- Table 3.9: a load and a store of a word that the address map allows, with their post-modify; the stored word is that of the
form's own address. An access that the map does not allow stops the run, as no kernel that passed verification makes one (R103). -/
def Obligations.LoadsAndStoresOfTheMoveSlot : Prop :=
  ∀ (s : Machine.State) (n : Fin 16) (e : Machine.Engine) (dd : Fin 32) (aj : Fin 8) (pm : Bool) (off : Fin 64) (pred : Fin 4),
    s.engines[n.val]? = some e →
    (∀ w, e.load (s.ctxOf e) (accessAddr e aj off) = .ok w →
      SlotRuns (.ld n dd aj pm off pred) s n e pred (postMod e aj pm e.commit) ((postMod e aj pm e.commit).put dd w)) ∧
    (Machine.storeAllowed (accessAddr e aj off) = true →
      SlotRuns (.st n dd aj pm off pred) s n e pred (postMod e aj pm e.commit)
        { postMod e aj pm e.commit with mem := e.commit.mem ++ [(accessAddr e aj off, e.dr dd)] }) ∧
    (accessAddr e aj off < 0x50C0 → ∃ w, e.load (s.ctxOf e) (accessAddr e aj off) = .ok w) ∧
    (0x50C0 ≤ accessAddr e aj off → e.pr pred = true →
      Machine.exec (.ld n dd aj pm off pred) s = .fault (.engineAddress (accessAddr e aj off))) ∧
    (Machine.storeAllowed (accessAddr e aj off) = false → e.pr pred = true →
      Machine.exec (.st n dd aj pm off pred) s = .fault (.engineAddress (accessAddr e aj off)))

/-- R125 and R126: an accumulator moved with the shift of the slot, with a scale register, and normalised. R128: the reciprocal and the
square root within their bounds, whatever their free low bits; the operands at which the manual fixes the result. -/
def Obligations.AccumulatorsReciprocalsAndRoots : Prop :=
  (∀ (s : Machine.State) (n : Fin 16) (e : Machine.Engine) (dd : Fin 32) (acc : Fin 4) (sh : Int) (sc : Fin 32) (pred : Fin 4),
     s.engines[n.val]? = some e → -32 ≤ sh → sh ≤ 31 →
     (∃ z, NearestEven (((e.ac acc).toInt : Rat) * (2 : Rat) ^ (sh - 31)) z ∧ MovesHeld (.movs n dd acc (.shift sh) pred) s n e dd pred z) ∧
     (∃ z, NearestEven (((e.ac acc).toInt : Rat) * (2 : Rat) ^ (e.scale sc - 31)) z ∧
       MovesHeld (.movs n dd acc (.scale sc) pred) s n e dd pred z) ∧
     (e.ac acc = 0 → MoveRuns (.movs n dd acc .normalise pred) s n e pred { e.commit.put dd 0 with nx := some 0 }) ∧
     (e.ac acc ≠ 0 → ∃ (k : Int) (z : Int) (v : BitVec 32), -64 ≤ k ∧ k ≤ 63 ∧
       NearestEven (((e.ac acc).toInt : Rat) * (2 : Rat) ^ (k - 31)) z ∧ v.toInt = z ∧
       (∀ k' z', k < k' → k' ≤ 63 → NearestEven (((e.ac acc).toInt : Rat) * (2 : Rat) ^ (k' - 31)) z' → z' < -(2 ^ 31) ∨ 2 ^ 31 ≤ z') ∧
       MoveRuns (.movs n dd acc .normalise pred) s n e pred { e.commit.put dd v with nx := some (BitVec.ofInt 7 k) })) ∧
  (∀ (s : Machine.State) (n : Fin 16) (e : Machine.Engine) (dd ds : Fin 32) (pred : Fin 4), s.engines[n.val]? = some e →
     let x := (e.dr ds).toInt
     (x ≠ 0 → ∃ (v : BitVec 32) (nx : Int), -64 ≤ nx ∧ nx ≤ 63 ∧ 2 ^ 30 ≤ v.toInt.natAbs ∧ v.toInt.natAbs ≤ 2 ^ 31 - 1 ∧
       |(v.toInt : Rat) - (2 : Rat) ^ (62 - nx) / (x : Rat)| ≤ 2 ∧
       MoveRuns (.rcp n dd ds pred) s n e pred { e.commit.put dd v with nx := some (BitVec.ofInt 7 nx) }) ∧
     (x = 0 → MoveRuns (.rcp n dd ds pred) s n e pred { e.commit.put dd 0x7FFFFFFF true with nx := some 63 }) ∧
     (0 ≤ x → ∃ v : BitVec 32, (1 ≤ v.toInt → (v.toInt - 1) ^ 2 ≤ x * 2 ^ 31) ∧ -1 ≤ v.toInt ∧ x * 2 ^ 31 ≤ (v.toInt + 1) ^ 2 ∧
       MoveRuns (.rsq n dd ds pred) s n e pred (e.commit.put dd v)) ∧
     (x < 0 → MoveRuns (.rsq n dd ds pred) s n e pred (e.commit.put dd 0 true)))

/-- Table 3.9: a comparison sets its predicate, XRD reads NX, SF and the predicates, SFCLR clears SF, SINCOS writes two registers. -/
def Obligations.PredicatesFlagsAndAngles : Prop :=
  ∀ (s : Machine.State) (n : Fin 16) (e : Machine.Engine) (dd ds dt : Fin 32) (p3 : Bool) (pred : Fin 4), s.engines[n.val]? = some e →
    let x := (e.dr ds).toInt
    let y := (e.dr dt).toInt
    let sets (b : Bool) : Machine.Commit := if p3 then { e.commit with p3 := some b } else { e.commit with p2 := some b }
    MoveRuns (.cmp n .less p3 ds dt pred) s n e pred (sets (decide (x < y))) ∧
    MoveRuns (.cmp n .lessEq p3 ds dt pred) s n e pred (sets (decide (x ≤ y))) ∧
    MoveRuns (.cmp n .equal p3 ds dt pred) s n e pred (sets (decide (x = y))) ∧
    MoveRuns (.cmp n .notEqual p3 ds dt pred) s n e pred (sets (decide (x ≠ y))) ∧
    (∃ v : BitVec 32, v.toInt = e.nx.toInt ∧ MoveRuns (.xrd n dd .nx pred) s n e pred (e.commit.put dd v)) ∧
    (∃ v : BitVec 32, v.toNat = (if e.sf then 1 else 0) ∧ MoveRuns (.xrd n dd .sf pred) s n e pred (e.commit.put dd v)) ∧
    (∃ v : BitVec 32, (v.getLsbD 0 = true ∧ v.getLsbD 1 = e.p1 ∧ v.getLsbD 2 = e.p2 ∧ v.getLsbD 3 = e.p3 ∧ v.toNat < 16) ∧
      MoveRuns (.xrd n dd .preds pred) s n e pred (e.commit.put dd v)) ∧
    MoveRuns (.sfclr n) s n e 0 { e.commit with sf := some false } ∧
    (dd.val % 2 = 0 → ∃ sn cs : BitVec 32,
      MoveRuns (.sincos n dd ds pred) s n e pred ((e.commit.put dd sn).put (dd.val + 1) cs))

/-- Table 3.10 and R121: an ADDRESS-slot operation closes the bundle; every slot's write is made then, and LOOP and END say where the
run goes. -/
def Obligations.AddressOperationsCloseTheBundle : Prop :=
  ∀ (s : Machine.State) (n : Fin 16) (e : Machine.Engine) (j : Fin 8) (op : BitVec 11) (cnt : Fin 256) (len : Fin 64),
    s.engines[n.val]? = some e →
    let ad := e.commit.aregs
    let md := e.commit.mregs
    AddressRuns (.anop n) s n e 0 ad md (goesOn e) ∧
    (∃ v : BitVec 16, v.toNat = op.toNat * 8 ∧ AddressRuns (.asetl n j op) s n e 0 (ad ++ [(j.val, v)]) md (goesOn e)) ∧
    (∃ v : BitVec 16, v.toNat = 0x4000 + op.toNat * 2 ∧ AddressRuns (.asetc n j op) s n e 0 (ad ++ [(j.val, v)]) md (goesOn e)) ∧
    (∃ v : BitVec 16, v.toNat = 0x5000 + op.toNat ∧ AddressRuns (.aseti n j op) s n e 0 (ad ++ [(j.val, v)]) md (goesOn e)) ∧
    AddressRuns (.aadd n j op) s n e (e.ready.at (.a j)) (ad ++ [(j.val, e.ar j + BitVec.signExtend 16 op)]) md (goesOn e) ∧
    AddressRuns (.mset n j op) s n e 0 ad (md ++ [(j.val, BitVec.signExtend 16 op)]) (goesOn e) ∧
    AddressRuns (.amod n j) s n e (max (e.ready.at (.a j)) (e.ready.at (.m j))) (ad ++ [(j.val, e.ar j + e.mr j)]) md (goesOn e) ∧
    AddressRuns (.loop n cnt len) s n e 0 ad md (fun t => t.pc = e.pc + 1 ∧ t.done = e.done ∧
      t.loops = { first := e.pc + 1, last := e.pc + 1 + len.val, left := cnt.val } :: e.loops) ∧
    AddressRuns (.end_ n) s n e 0 ad md (fun t => t.done = true)

/-- R127: the results of SINCOS lie within 5 × 10^−6 of the true sine and cosine of Ds turns, whatever the free low bits (log entry 5). -/
def Obligations.SineAndCosineWithinTheirBound : Prop :=
  ∀ (s : Machine.State) (n : Fin 16) (e : Machine.Engine) (dd ds : Fin 32) (pred : Fin 4), s.engines[n.val]? = some e → dd.val % 2 = 0 →
    ∃ sn cs : BitVec 32,
      |(sn.toInt : ℝ) / 2 ^ 31 - Real.sin (2 * Real.pi * ((e.dr ds).toNat : ℝ) / 2 ^ 32)| ≤ 5 / 10 ^ 6 ∧
      |(cs.toInt : ℝ) / 2 ^ 31 - Real.cos (2 * Real.pi * ((e.dr ds).toNat : ℝ) / 2 ^ 32)| ≤ 5 / 10 ^ 6 ∧
      MoveRuns (.sincos n dd ds pred) s n e pred ((e.commit.put dd sn).put (dd.val + 1) cs)

/-- R114 to R118 and Tables 3.6 to 3.10: a bundle built from the fields of three slot commands decodes to exactly the three
operations that those commands carry out, whatever stands in the fields of the other slots. -/
def Obligations.BundlesDecodeToTheirSlotCommands : Prop :=
  ∀ (im iv ia : Instr) (n : Fin 16) (wm wv wa : Nat),
    encodeMac im = some (n, wm) → encodeMove iv = some (n, wv) → encodeAddress ia = some (n, wa) →
    ∃ (om ov : Machine.SlotOp) (oa : Machine.AddrOp),
      Machine.decodeMac (wm + wv + wa) = some om ∧ Machine.decodeMove (wm + wv + wa) = some ov ∧
      Machine.decodeAddr (wm + wv + wa) = some oa ∧
      ∀ s : Machine.State, Machine.exec im s = s.macSlot n om ∧ Machine.exec iv s = s.movSlot n ov ∧
        Machine.exec ia s = s.adrSlot n oa

/-- R119: a bundle with a reserved opcode in any slot is none, and so is one in which two slots write the same register. -/
def Obligations.ReservedBundlesAreRefused : Prop :=
  ∀ w : Nat,
    (0x0D ≤ Machine.bits w 63 59 ∨ 0x17 ≤ Machine.bits w 39 35 ∨ (8 ≤ Machine.bits w 17 14 ∧ Machine.bits w 17 14 ≤ 14) →
      Machine.decodeBundle w = none) ∧
    (∀ m v a, Machine.decodeBundle w = some (m, v, a) → ∀ r : Machine.Res,
      ¬(r ∈ m.info.writes ∧ r ∈ v.info.writes) ∧ ¬(r ∈ m.info.writes ∧ r ∈ a.info.writes) ∧ ¬(r ∈ v.info.writes ∧ r ∈ a.info.writes))

/-- R469, R513 and Table 11.9: each safety F2 locks the lane out: both channels, every switch off, every enabled input in DEMAND, no
release request, the system-F2 line set at once, and one lane report that carries the LOCKOUT event. Stated for a lane whose records
belong to the common sequence and a source that is not active yet (R504). -/
def Obligations.SafetyF2LocksTheLaneOut : Prop :=
  ∀ (s : Machine.State) (c : Machine.SafeChan) (n : Nat) (word : BitVec 8), s.common = true →
    (s.siEnabled n = true → s.discrepant n = true → Quiet s 0x300 (Machine.locInput n) →
      ∃ t, Machine.exec (.discrepancyTimeout c n) s = .next t ∧ LockedOut s t 0x300 (Machine.locInput n)) ∧
    (s.testsEnabled = true → s.sdoSafe n = true → s.sdoOn n = true → Quiet s 0x302 (Machine.locSdo n) →
      ∃ t, Machine.exec (.testMissing n) s = .next t ∧ LockedOut s t 0x302 (Machine.locSdo n)) ∧
    (s.safety.startDone = true → word ≠ s.safety.sealStart → Quiet s 0x303 Machine.locNone →
      ∃ t, Machine.exec (.sealPoll c word) s = .next t ∧ LockedOut s t 0x303 Machine.locNone ∧ t.safety.sealNow = word) ∧
    ((s.chan c).started = true → Quiet s 0x304 Machine.locNone →
      ∃ t, Machine.exec (.heartbeatLoss c) s = .next t ∧ LockedOut s t 0x304 Machine.locNone ∧ (t.chan c).beatLost = true) ∧
    (s.safety.startDone = true →
      (match c with | .proc => s.safety.dyke.off.getD n true | .dyke => s.safety.proc.off.getD n true) = true →
      Quiet s 0x305 (Machine.locSdo n) →
      ∃ t, Machine.exec (.crossMismatch c n) s = .next t ∧ LockedOut s t 0x305 (Machine.locSdo n)) ∧
    (Quiet s 0x306 Machine.locNone → ∃ t, Machine.exec .vdykRange s = .next t ∧ LockedOut s t 0x306 Machine.locNone) ∧
    (Quiet s 0x307 Machine.locNone → ∃ t, Machine.exec .safeSupply s = .next t ∧ LockedOut s t 0x307 Machine.locNone)

/-- R443 and R446, Table 11.3: the state of an enabled input of a started lane follows the two pins in both channels at once; the other
inputs stay, and while the new state is DEMAND or WAIT_RESTART in the processor's copy every safe output that the input holds is off.
R446: a channel whose delay timer reaches OFF_DELAY while a pin still demands takes the input to DEMAND and turns the outputs that the
input holds off. -/
def Obligations.InputStatesFollowThePins : Prop :=
  (∀ (s : Machine.State) (c : Machine.SafeChan) (n : Nat) (level : Bool), s.common = true → s.siEnabled n = true →
     s.safety.startDone = true → s.lockedOut = false → n < s.safety.proc.ins.length → n < s.safety.dyke.ins.length → n < 8 →
     let pin : Bool := match c with
       | .proc => !level
       | .dyke => if s.siAntivalent n then level else !level
     let other : Bool := match c with
       | .proc => (s.safety.dyke.ins.getD n {}).pin
       | .dyke => (s.safety.proc.ins.getD n {}).pin
     ∃ t, Machine.exec (.safetyInputChange c n level) s = .next t ∧
       ((t.chan c).ins.getD n {}).pin = pin ∧ ((t.chan c).ins.getD n {}).lowNow = level ∧
       (∀ k : Machine.SafeChan,
         let old := ((s.chan k).ins.getD n {}).st
         let new := ((t.chan k).ins.getD n {}).st
         (old = .clear → pin = false → other = false → new = .clear) ∧
         (old = .clear → (pin = true ∨ other = true) → new = if s.siOffDelay n = 0 then .demand else .delay) ∧
         (old = .delay → new = .delay) ∧
         (old = .demand → (pin = true ∨ other = true) → new = .demand) ∧
         (old = .demand → pin = false → other = false → new = if s.siManual n then .waitRestart else .clear) ∧
         (old = .waitRestart → (pin = true ∨ other = true) → new = .demand) ∧
         (old = .waitRestart → pin = false → other = false → new = .waitRestart) ∧
         ∀ m, m ≠ n → (t.chan k).ins[m]? = (s.chan k).ins[m]?) ∧
       (∀ m < 4, s.siHolds n m = true → s.sdoSafe m = true →
         ((t.safety.proc.ins.getD n {}).st = .demand ∨ (t.safety.proc.ins.getD n {}).st = .waitRestart) →
         ∀ o, t.drivers.outs[m]? = some o → o.hs.cmd = false ∧ o.hs.on = false ∧ o.ls.cmd = false ∧ o.ls.on = false) ∧
       t = { s with safety := t.safety, drivers := t.drivers, order := t.order, host := t.host, tx := t.tx, free := t.free }) ∧
  (∀ (s : Machine.State) (c : Machine.SafeChan) (n m : Nat), s.common = true → n < (s.chan c).ins.length →
     ((s.chan c).ins.getD n {}).st = .delay → s.demanded n = true → s.siEnabled n = true → n < 8 →
     ∃ t, Machine.exec (.offDelayExpiry c n) s = .next t ∧ ((t.chan c).ins.getD n {}).st = .demand ∧
       (m < 4 → s.siHolds n m = true → s.sdoSafe m = true →
         ∀ o, t.drivers.outs[m]? = some o → o.hs.cmd = false ∧ o.hs.on = false ∧ o.ls.cmd = false ∧ o.ls.on = false))

/-- R447: a hold of SAFE_RESET that both channels time at 50 ms to 400 ms takes every input in WAIT_RESTART that neither pin demands to
CLEAR, and no other input changes; a hold that either channel times outside that range restarts nothing. R470, step 2: each channel
keeps a hold of 0.5 s to 3 s. -/
def Obligations.RestartPulseActsOnWaitingInputs : Prop :=
  ∀ (s : Machine.State) (p d : Nat), s.common = true →
    ∃ t, Machine.exec (.safeResetRelease p d) s = .next t ∧
      t.safety.proc.holdOk = (if 500 ≤ p ∧ p ≤ 3000 then some p else none) ∧
      t.safety.dyke.holdOk = (if 500 ≤ d ∧ d ≤ 3000 then some d else none) ∧
      t.safety.safeReset = true ∧ t.safety.resetSince = some p ∧
      (50 ≤ p ∧ p ≤ 400 ∧ 50 ≤ d ∧ d ≤ 400 → ∀ n < 8,
        ((s.safety.proc.ins.getD n {}).st = .waitRestart → s.demanded n = false →
          (t.safety.proc.ins.getD n {}).st = .clear ∧ (t.safety.dyke.ins.getD n {}).st ≠ .waitRestart) ∧
        ((s.safety.proc.ins.getD n {}).st ≠ .waitRestart ∨ s.demanded n = true →
          t.safety.proc.ins[n]? = s.safety.proc.ins[n]? ∧ t.safety.dyke.ins[n]? = s.safety.dyke.ins[n]?)) ∧
      (¬(50 ≤ p ∧ p ≤ 400 ∧ 50 ≤ d ∧ d ≤ 400) →
        t.safety.proc.ins = s.safety.proc.ins ∧ t.safety.dyke.ins = s.safety.dyke.ins ∧ t.drivers = s.drivers ∧ t.order = s.order) ∧
      t = { s with safety := t.safety, drivers := t.drivers, order := t.order, free := t.free }

/-- R456 and R457: the parts of a test in order on a released output that nothing holds off: the high side off, the gap, the low side
off, and the test passed; and a pulse that a channel found not proven locks the lane out after its TEST_PULSE event. -/
def Obligations.TestPulsesRunTheirParts : Prop :=
  ∀ (s : Machine.State) (m : Nat) (us : Nat), s.common = true → s.voting = true → m < 4 → s.sdoSafe m = true →
    m < s.drivers.outs.length → m < s.safety.tests.length → m < s.safety.proc.dark.length → m < s.safety.dyke.dark.length →
    s.offP m = false → s.offD m = false → s.driverFree m = true →
    let test (t : Machine.State) := (t.safety.tests.getD m {}).phase
    (s.testsEnabled = true → test s = 0 → s.sdoOn m = true → s.safety.dyke.dark.getD m false = false →
      ∃ t, Machine.exec (.testPulseDue m) s = .next t ∧ test t = 1 ∧ (t.sdoOf m).hs.on = false ∧ (t.sdoOf m).ls.on = true) ∧
    (s.testsEnabled = true → test s = 0 → s.sdoOn m = false →
      ∃ t, Machine.exec (.testPulseDue m) s = .next t ∧ test t = 0 ∧ (t.safety.tests.getD m {}).due = true ∧ t.drivers = s.drivers) ∧
    ((s.safety.tests.getD m {}).due = true → test s = 0 → s.sdoOn m = true → s.safety.dyke.dark.getD m false = false →
      ∃ t, Machine.exec (.testStartAfterOn m) s = .next t ∧ test t = 1 ∧ (t.sdoOf m).hs.on = false ∧ (t.sdoOf m).ls.on = true) ∧
    (test s = 1 → s.safety.dyke.dark.getD m false = false →
      ∃ t, Machine.exec (.darkPulseEnd m true true true us) s = .next t ∧ test t = 2 ∧ (t.sdoOf m).hs.on = true ∧ (t.sdoOf m).ls.on = true) ∧
    (test s = 2 → ∃ t, Machine.exec (.testGapExpiry m) s = .next t ∧ test t = 3 ∧ (t.sdoOf m).ls.on = false) ∧
    (test s = 3 → s.safety.proc.dark.getD m false = false →
      ∃ t, Machine.exec (.darkPulseEnd m false true true us) s = .next t ∧ test t = 0 ∧ t.safety.passed = s.safety.passed + 1 ∧
        (t.sdoOf m).hs.on = true ∧ (t.sdoOf m).ls.on = true) ∧
    (∀ pp pd : Bool, (pp && pd) = false → test s = 1 → Quiet s 0x301 (Machine.locSdo m) →
      ∃ t, Machine.exec (.darkPulseEnd m true pp pd us) s = .next t ∧ LockedOut s t 0x301 (Machine.locSdo m) ∧ test t = 0)

/-- R443: a heartbeat toggles the channel's line, and the other channel has seen it. R470, R471: a deliberate reset whose steps both
channels find met ends the lock-out, and any other leaves it in place with the reset-refused F0 and its SAFETY_RESET event. -/
def Obligations.HeartbeatAndDeliberateReset : Prop :=
  ∀ (s : Machine.State) (p d id : Nat) (pc dc : Bool), s.common = true →
    (Machine.exec (.heartbeatToggle .proc) s =
      .next { s with safety := { s.safety with proc := { s.safety.proc with beat := !s.safety.proc.beat },
                                               dyke := { s.safety.dyke with beatLost := false } } }) ∧
    (Machine.exec (.heartbeatToggle .dyke) s =
      .next { s with safety := { s.safety with dyke := { s.safety.dyke with beat := !s.safety.dyke.beat },
                                               proc := { s.safety.proc with beatLost := false } } }) ∧
    (s.safety.ackPending = some id →
      let ok := pc = false ∧ dc = false ∧ s.causeStands .proc = false ∧ s.causeStands .dyke = false ∧
        s.safety.proc.holdOk ≠ none ∧ s.safety.dyke.holdOk ≠ none ∧ p ≤ 5000 ∧ d ≤ 5000
      ∃ t, Machine.exec (.safetyReset p d pc dc) s = .next t ∧ t.safety.ackPending = none ∧ t.safety.resetSince = none ∧
        t.safety.proc.holdOk = none ∧ t.safety.dyke.holdOk = none ∧
        (ok → t.safety.proc.lockout = false ∧ t.safety.dyke.lockout = false ∧ t.safety.resetRefused = s.safety.resetRefused) ∧
        (¬ok → t.safety.proc.lockout = s.safety.proc.lockout ∧ t.safety.dyke.lockout = s.safety.dyke.lockout ∧
          t.safety.resetRefused = true ∧ t.drivers = s.drivers ∧
          ∃ ev : Machine.EvBody, ev.code = 0x5C4 ∧ t.faults.reports = s.faults.reports ++
            [{ code := 0x330, cls := .f0, loc := {}, lane := some s.lane, event := some ev }]))

/-- R461, R464, R465 and R467: a safety start of both channels with a sound watermark and the set that the seal word selects leaves no
lock-out, takes every enabled input to DEMAND, and from there as its pins stand; a check that fails raises its F3. -/
def Obligations.SafetyStartBeginsInDemand : Prop :=
  ∀ (s : Machine.State) (word : BitVec 8), s.safety.vdykIn = true → s.safety.safeSupplyIn = true →
    s.safety.proc.started = false → s.safety.dyke.started = false →
    let set := s.fuses (0x80 + word.toNat % 4 * 0x80) 0x80
    (s.watermarkOk = true → Machine.setOk set word = true → s.faults.reports = [] → s.order.held = [] →
      ∃ t, Machine.exec (.safetyStartComplete word true true true) s = .next t ∧ t.safety.startDone = true ∧
        t.safety.setInForce = set ∧ t.safety.sealStart = word ∧
        t.safety.proc.lockout = false ∧ t.safety.dyke.lockout = false ∧ t.safety.proc.started = true ∧ t.safety.dyke.started = true ∧
        t.safety.proc.setCrc = t.safety.dyke.setCrc ∧ t.cfg = s.cfg ∧ t.axes = s.axes ∧
        ∀ n < 8, t.siEnabled n = true → ∀ k : Machine.SafeChan, ((t.chan k).ins.getD n {}).st =
          if s.demanded n then .demand else if t.siManual n then .waitRestart else .clear) ∧
    (s.watermarkOk = false → s.isActive 0x321 (Machine.locLane s.lane) = false →
      ∃ t, Machine.exec (.safetyStartComplete word true true true) s = .next t ∧ F3Stopped s t 0x321) ∧
    (s.watermarkOk = true → Machine.setOk set word = false → s.isActive 0x320 (Machine.locLane s.lane) = false →
      ∃ t, Machine.exec (.safetyStartComplete word true true true) s = .next t ∧ F3Stopped s t 0x320) ∧
    (∃ t, Machine.exec (.safetyStartComplete word true true false) s = .next t ∧ F3Stopped s t 0x323) ∧
    (∃ t, Machine.exec (.safetyStartComplete word false true true) s = .next t ∧ F3Stopped s t 0x322) ∧
    (∃ t, Machine.exec (.safetyStartComplete word true false true) s = .next t ∧ F3Stopped s t 0x324)

/-- R481 to R483: at a PWM period each running bridge begins with the side its duty gives; a share below 100 ns is not given, a turn-on
waits for the other gate, and no period commands both switches on. Outputs that do not run as a bridge stay as they are. R483: a waiting
turn-on of a running bridge proceeds once the other switch is commanded off and its gate measures below 1.0 V. -/
def Obligations.BridgesInterlockTheirSwitches : Prop :=
  (∀ s : Machine.State, ∃ t, Machine.exec .pwmPeriodStart s = .next t ∧ t = { s with drivers := { s.drivers with outs := t.drivers.outs } } ∧
     t.drivers.outs.length = s.drivers.outs.length ∧
     ∀ m < 4, ∀ o, s.drivers.outs[m]? = some o →
       (s.bridgeRuns m = false → t.drivers.outs[m]? = some o) ∧
       (s.bridgeRuns m = true → ∃ o', t.drivers.outs[m]? = some o' ∧
         let duty : Rat := max 0 (min 1 (Machine.f32D (s.sdoFld 3 m)))
         (o'.hs.cmd && o'.ls.cmd) = false ∧
         (duty * s.pwmPeriod < 100 → o'.hs.cmd = false ∧ o'.hs.on = false ∧ (o'.ls.cmd || o'.ls.waiting) = true) ∧
         (100 ≤ duty * s.pwmPeriod → (1 - duty) * s.pwmPeriod < 100 →
           o'.ls.cmd = false ∧ o'.ls.on = false ∧ (o'.hs.cmd || o'.hs.waiting) = true) ∧
         (100 ≤ duty * s.pwmPeriod → 100 ≤ (1 - duty) * s.pwmPeriod →
           o'.hs.cmd = false ∧ (o'.ls.cmd || o'.ls.waiting) = true))) ∧
  (∀ (s : Machine.State) (m : Nat) (high : Bool) (o : Machine.Sdo), s.drivers.outs[m]? = some o → (o.sw high).waiting = true →
     s.bridgeRuns m = true →
     ∃ t o', Machine.exec (.interlockRelease m high) s = .next t ∧ t.drivers.outs[m]? = some o' ∧
       (o'.sw high).cmd = true ∧ (o'.sw high).on = true ∧ (o'.sw (!high)).cmd = false ∧ (o'.sw (!high)).on = false ∧
       (∀ k, k ≠ m → t.drivers.outs[k]? = s.drivers.outs[k]?) ∧ t = { s with drivers := { s.drivers with outs := t.drivers.outs } })

/-- R484, R487, R491 and R501: a stuck gate and a gate under 7.0 V turn their output off, raise their system F2 with its SDO_GATE event
and hold every switch off; a strength 16 events at its end raises the gate-limit F0 and starts its run again. R491: with GATE_ADAPT an
event's switching time moves the strength it used by at most one step, the limits compared exactly.
R497: a switch that is off is proven off. -/
def Obligations.GatesAreWatchedAndAdapted : Prop :=
  (∀ (s : Machine.State) (m : Nat) (high turnOn : Bool) (o : Machine.Sdo), s.common = true → m < 4 → s.drivers.outs[m]? = some o →
     let ev (kind : Nat) : Machine.EvBody := { code := 0x601, payload :=
       [BitVec.ofNat 8 (Machine.Lane.num s.lane), BitVec.ofNat 8 m, if high then 1 else 2, BitVec.ofNat 8 kind] }
     let raised (t : Machine.State) (code : Nat) (cls : Machine.FClass) (kind : Nat) : Prop :=
       t.faults.reports = s.faults.reports ++ [{ code := code, cls := cls, loc := Machine.locSdo m, lane := some s.lane, event := some (ev kind) }] ∧
       t.cfg = s.cfg ∧ t.axes = s.axes ∧ t.power = s.power ∧ t.clock = s.clock ∧ t.pending = s.pending
     ((o.sw high).cmd = false → (o.sw high).low = false →
       ∃ t, Machine.exec (.gateStuck m high) s = .next t ∧ raised t 0x342 .f2 2 ∧ t.faults.sysF2 = true ∧ AllOff t ∧
         ∃ o', t.drivers.outs[m]? = some o' ∧ o'.failed = true ∧ o'.stuckSeen = true) ∧
     ((o.sw high).cmd = true →
       ∃ t, Machine.exec (.gateUnder m high) s = .next t ∧ raised t 0x341 .f2 1 ∧ t.faults.sysF2 = true ∧ AllOff t ∧
         ∃ o', t.drivers.outs[m]? = some o' ∧ o'.failed = true ∧ o'.underSeen = true) ∧
     (16 ≤ (if turnOn then (o.sw high).onHeld else (o.sw high).offHeld) →
       ∃ t, Machine.exec (.gateLimit m high turnOn) s = .next t ∧ raised t 0x346 .f0 3 ∧
         ∃ o', t.drivers.outs[m]? = some o' ∧ o'.limitSeen = true ∧ (if turnOn then (o'.sw high).onHeld else (o'.sw high).offHeld) = 0 ∧
           (o'.sw high).cmd = (o.sw high).cmd ∧ (o'.sw high).on = (o.sw high).on)) ∧
  (∀ (s : Machine.State) (m : Nat) (high turnOn : Bool) (time : Nat) (o : Machine.Sdo), s.drivers.outs[m]? = some o →
     (s.sdoFld 7 m = 1 →
       let target : Rat := s.sdoFld 5 m
       let step := if turnOn then (o.sw high).strOn else (o.sw high).strOff
       (turnOn = true ∨ (o.sw high).soft = false) →
       ∃ t o', Machine.exec (.switchingEventEnd m high turnOn (some time)) s = .next t ∧
         t = { s with drivers := { s.drivers with outs := t.drivers.outs } } ∧ t.drivers.outs[m]? = some o' ∧
         (∀ k, k ≠ m → t.drivers.outs[k]? = s.drivers.outs[k]?) ∧ o'.sw (!high) = o.sw (!high) ∧
         (if turnOn then (o'.sw high).strOn else (o'.sw high).strOff) =
           (if 1125 / 1000 * target < time ∧ step < 15 then step + 1 else if (time : Rat) < 875 / 1000 * target ∧ 0 < step then step - 1 else step)) ∧
     (Machine.exec (.switchingEventEnd m high turnOn none) s = .next s) ∧
     ((o.sw high).cmd = false →
       ∃ t o', Machine.exec (.offCheckProven m high) s = .next t ∧ t = { s with drivers := { s.drivers with outs := t.drivers.outs } } ∧
         t.drivers.outs[m]? = some o' ∧ (o'.sw high).proven = true ∧ (o'.sw high).low = true ∧ o'.sw (!high) = o.sw (!high)))

/-- R486, R488 and Table 12.5: a supply monitor turns every switch off and raises its system F2 with SDO_SUPPLY's event; the end of the
condition lets the block work again; the block is ready 2 ms after SDO_SUPPLY became 1. -/
def Obligations.DriverSuppliesHoldTheOutputs : Prop :=
  ∀ (s : Machine.State) (kind : Nat) (v : BitVec 16), s.common = true →
    let ev : Machine.EvBody := { code := 0x602, payload :=
      [BitVec.ofNat 8 (Machine.Lane.num s.lane), BitVec.ofNat 8 kind] ++ Machine.toLe 2 v.toNat }
    (s.sdoFld 0 0xFF = 1 → 1 ≤ kind → kind ≤ 3 → Quiet s (0x342 + kind) Machine.locNone →
      ∃ t, Machine.exec (.supplyMonitorTrip kind v) s = .next t ∧ AllOff t ∧ t.faults.sysF2 = true ∧
        t.drivers.vbrgOk = (if kind = 3 then s.drivers.vbrgOk else false) ∧ t.drivers.cpOk = (if kind = 3 then false else s.drivers.cpOk) ∧
        t.faults.reports = s.faults.reports ++ [{ code := 0x342 + kind, cls := .f2, loc := {}, lane := some s.lane, event := some ev }]) ∧
    (∃ t, Machine.exec .supplyConditionEnd s = .next t ∧ t.drivers.vbrgOk = true ∧ t.drivers.cpOk = true ∧
      t.drivers.supplyOn = s.drivers.supplyOn ∧
      ∀ c, c = 0x343 ∨ c = 0x344 ∨ c = 0x345 → s.isActive c Machine.locNone = true →
        ∃ h ∈ t.order.held, h.body = some (.sourceEnded c Machine.locNone) ∧ h.lane = s.lane) ∧
    (s.sdoFld 0 0xFF = 1 → s.drivers.supplyOn = false →
      ∃ t, Machine.exec .driverSupplyReady s = .next t ∧ t.drivers.supplyOn = true ∧
        t.drivers.vbrgOk = (!s.isActive 0x343 Machine.locNone && !s.isActive 0x344 Machine.locNone) ∧
        t.drivers.cpOk = !s.isActive 0x345 Machine.locNone ∧ t.faults = s.faults)

/-- R493, R494 and R496: a short of a switch that conducts turns both switches of its output off, holds every output off at once and
joins the event being collected; the event closes with the SDO-short F2 and the masks of what it holds. -/
def Obligations.ShortsTurnEveryOutputOff : Prop :=
  ∀ (s : Machine.State) (m : Nat) (high : Bool) (v : BitVec 16) (o : Machine.Sdo), s.common = true → m < 4 → s.drivers.outs[m]? = some o →
    m < s.drivers.legs.length →
    let ev (w : BitVec 16) : Machine.EvBody := { code := 0x600, payload :=
      [BitVec.ofNat 8 (Machine.Lane.num s.lane), BitVec.ofNat 8 (Machine.maskOf ((List.range 4).filter (fun k => s.drivers.legs.getD k false))),
       BitVec.ofNat 8 (Machine.maskOf s.drivers.sws), BitVec.ofNat 8 (Machine.maskOf s.drivers.shunts)] ++ Machine.toLe 2 w.toNat }
    let found (t : Machine.State) (hi : Bool) : Prop := AllOff t ∧ t.faults = { s.faults with sysF2 := true } ∧
      t.drivers.legs[m]? = some true ∧ (2 * m + (if hi then 0 else 1)) ∈ t.drivers.sws ∧ t.drivers.shortVbrg ≠ none ∧
      ∃ o', t.drivers.outs[m]? = some o' ∧ o'.shorted = true ∧ o'.shortSeen = true ∧ (o'.sw hi).soft = true
    ((o.sw high).cmd = true ∨ (o.sw high).low = false → ∃ t, Machine.exec (.shortDetect m high v) s = .next t ∧ found t high) ∧
    (s.sdoFld 10 m = 1 → ∃ t, Machine.exec (.shuntShortDetect m v) s = .next t ∧ found t true ∧ m ∈ t.drivers.shunts) ∧
    (s.sdoFld 10 m = 2 → ∃ t, Machine.exec (.shuntShortDetect m v) s = .next t ∧ found t false ∧ m ∈ t.drivers.shunts) ∧
    (∀ w, s.drivers.shortVbrg = some w → ∃ t n, Machine.exec .sdoShort s = .next t ∧ t.drivers.shortVbrg = none ∧
      t.drivers.legs = List.replicate 4 false ∧ t.drivers.sws = [] ∧ t.drivers.shunts = [] ∧ t.faults.sysF2 = true ∧ AllOff t ∧
      t.faults.reports = s.faults.reports ++ [{ code := 0x340, cls := .f2, loc := Machine.locSdo n, lane := some s.lane, event := some (ev w) }])

/-- R515 and R516: every source of class F3 stops the lane that detects it: its code kept for the next start unless another F3 came
first, every switch off, pulse outputs, Ethernet and SPARE_WAKE quiet, every axis FAULTED in Simplex and the lane REMOVED otherwise. A
kind L source that is active already raises nothing new (R504). -/
def Obligations.F3SourcesStopTheLane : Prop :=
  ∀ (s : Machine.State),
    let here (code : Nat) : Prop := s.isActive code (Machine.locLane s.lane) = false
    (∀ code i, Machine.faultInfo code = some i → i.cls = .f3 → (i.kindL = true → here code) →
      ∃ t, Machine.exec (.f3Detect code) s = .next t ∧ F3Stopped s t code) ∧
    (∃ t, Machine.exec .collectorCompare s = .next t ∧ F3Stopped s t 0x3C0) ∧
    (∃ t, Machine.exec .collectorLine s = .next t ∧ F3Stopped s t 0x3C1) ∧
    (∃ t, Machine.exec (.romCrcCheck false) s = .next t ∧ F3Stopped s t 0x323) ∧
    (Machine.exec (.romCrcCheck true) s = .next s) ∧
    (here 0x384 → ∃ t, Machine.exec .pllLockLoss s = .next t ∧ F3Stopped s t 0x384) ∧
    (here 0x385 → ∃ t, Machine.exec .referenceClockLoss s = .next t ∧ F3Stopped s t 0x385) ∧
    (∃ t, Machine.exec .stewardLockstep s = .next t ∧ F3Stopped s t 0x100) ∧
    (∃ t, Machine.exec .stewardDeadline s = .next t ∧ F3Stopped s t 0x103) ∧
    (∃ t, Machine.exec (.stewardEccError false) s = .next t ∧ F3Stopped s t 0x102)

/-- Tables 13.5 and 13.15, R504 and R506: a fault that one lane alone detects becomes a lane report of that lane, and nothing else
changes but what the row itself says; a kind L source that stands already reports nothing new. A SYSTEM F2 sets the system-F2 line at
once, and with it every switch goes off (R513). -/
def Obligations.FaultsOfOneLaneAreReported : Prop :=
  ∀ (s : Machine.State) (sup : Nat), s.common = true →
    let none_ := Machine.locNone
    let atOnce (t : Machine.State) (p : Machine.Power) (code : Nat) : Prop := AllOff t ∧ t.faults.sysF2 = true ∧
      t.faults.reports = (reported s code .f2 none_).faults.reports ∧ t.power = p ∧ t.axes = s.axes ∧ t.cfg = s.cfg ∧ t.clock = s.clock
    let bad (v : Nat) : Machine.Power := { s.power with badSupplies := Machine.kvSet s.power.badSupplies sup v }
    (Quiet s 0x108 none_ → s.fld Machine.tgtCluster 0x0D02 1 0 ≠ 0 →
      Machine.exec .hostWatchdogExpiry s = .next (reported s 0x108 .f1 none_)) ∧
    (s.fld Machine.tgtCluster 0x0D02 1 0 = 0 → Machine.exec .hostWatchdogExpiry s = .next s) ∧
    (Quiet s 0x386 none_ → Machine.exec .aonClockStop s = .next (reported s 0x386 .f0 none_)) ∧
    Machine.exec (.sramEccError true) s = .next (reported s 0x38A .f0 none_) ∧
    (∃ t, Machine.exec (.sramEccError false) s = .next t ∧ atOnce t s.power 0x38B) ∧
    Machine.exec (.stewardEccError true) s = .next (reported s 0x101 .f0 none_) ∧
    Machine.exec .pcieUncorrectable s = .next (reported s 0x105 .f1 none_) ∧
    (Quiet s 0x104 none_ → s.host.endpoint = true →
      Machine.exec .pcieLinkDown s = .next (reported { s with host := { s.host with linkUp := false } } 0x104 .f1 none_)) ∧
    (Quiet s 0x381 none_ →
      Machine.exec (.supplyOutOfRange sup true) s = .next (reported { s with power := bad 1 } 0x381 .f0 none_)) ∧
    (Quiet s 0x382 none_ → 2 ≤ sup → sup ≤ 4 →
      ∃ t, Machine.exec (.supplyOutOfRange sup false) s = .next t ∧ atOnce t (bad 2) 0x382) ∧
    (∀ code, (sup = 0 ∧ code = 0x380) ∨ (sup = 1 ∧ code = 0x383) → s.isActive code (Machine.locLane s.lane) = false →
      ∃ t, Machine.exec (.supplyOutOfRange sup false) s = .next t ∧ F3Stopped { s with power := bad 2 } t code)

/-- R504 and Table 13.15: the end of a condition that stands is passed to the command order once; a temperature fault begins at its
threshold and ends when every sensor reads 5 °C below it. -/
def Obligations.ConditionsEndThroughTheCommandOrder : Prop :=
  ∀ (s : Machine.State) (sup sensor : Nat) (c : Int), s.common = true → sensor < s.power.temps.length →
    let ended (s : Machine.State) (code : Nat) : Machine.State := withBody s (.sourceEnded code Machine.locNone)
    let left : Machine.State := { s with power := { s.power with badSupplies := Machine.kvDel s.power.badSupplies sup } }
    let read : Machine.State := { s with power := { s.power with temps := Machine.setAt s.power.temps sensor c } }
    (s.isActive 0x386 Machine.locNone = true → Machine.exec .aonClockRestart s = .next (ended s 0x386)) ∧
    (s.host.endpoint = true → s.isActive 0x104 Machine.locNone = true →
      Machine.exec .pcieLinkUp s =
        .next (ended { s with host := { s.host with linkUp := true, retry := !s.power.steward } } 0x104)) ∧
    (left.power.badSupplies = [] → s.isActive 0x381 Machine.locNone = true → Quiet s 0x382 Machine.locNone → s.order.held = [] →
      s.order.accepted = [] → Machine.exec (.supplyReturnToRange sup) s = .next (ended left 0x381)) ∧
    (left.power.badSupplies = [] → s.isActive 0x382 Machine.locNone = true → Quiet s 0x381 Machine.locNone → s.order.held = [] →
      s.order.accepted = [] → Machine.exec (.supplyReturnToRange sup) s = .next (ended left 0x382)) ∧
    (135 ≤ c → c < 140 → (∀ x ∈ s.power.temps, x < 140) → Quiet s 0x387 Machine.locNone → Quiet s 0x388 Machine.locNone →
      Quiet s 0x389 Machine.locNone → s.order.held = [] → s.order.accepted = [] →
      Machine.exec (.temperatureThreshold sensor c) s = .next (reported read 0x387 .f0 Machine.locNone)) ∧
    (150 ≤ c → Quiet s 0x387 Machine.locNone → Quiet s 0x388 Machine.locNone → Quiet s 0x389 Machine.locNone →
      ∃ t, Machine.exec (.temperatureThreshold sensor c) s = .next t ∧ AllOff t ∧ t.faults.sysF2 = true ∧ t.power = read.power ∧
        t.faults.reports.map (fun r => (r.code, r.cls)) = s.faults.reports.map (fun r => (r.code, r.cls)) ++ [(0x387, .f0), (0x388, .f1), (0x389, .f2)])

/-- R592, R598, R602, R603, R632 and R516: what each supply, reset and wake step leaves. A core power-on reset takes everything outside
PD_AON, the peat store, the dyke, the fuses, the straps and the pins to its reset value and leaves an F3. -/
def Obligations.SuppliesResetsAndWakes : Prop :=
  ∀ s : Machine.State,
    let fresh (t : Machine.State) : Prop := t.clock = {} ∧ t.net = {} ∧ t.axes = [] ∧ t.cfg = {} ∧ t.order = {} ∧ t.events = {} ∧ t.acq = {} ∧
      t.faults = {} ∧ t.drivers = {} ∧ t.kernels = {} ∧ t.time = {} ∧ t.engines = List.replicate 16 {} ∧ t.safety.proc = {} ∧
      t.safety.startDone = false ∧ t.lanes.addr = none ∧ t.power.booted = false ∧ t.power.steward = false ∧
      t.safety.dyke = s.safety.dyke ∧ t.safety.watermark = s.safety.watermark ∧ t.power.slots = s.power.slots ∧
      t.power.copies = s.power.copies ∧ t.power.f3Record = s.power.f3Record ∧ t.power.refreshRec = s.power.refreshRec ∧ t.pending = s.pending
    (∃ t, Machine.exec .vaonPowerOn s = .next t ∧ t.power.vaon = true ∧ t.power.mode = .standby ∧ t.power.pwrEn = false ∧
      t.power.f3Reg = false ∧ t.power.slots = s.power.slots ∧ t.power.copies = s.power.copies ∧ t.cfg = s.cfg) ∧
    (∃ t, Machine.exec .vaonPor s = .next t ∧ t.power.vaon = false ∧ t.power.pwrEn = false ∧ t.power.f3Reg = false ∧
      t.power.slots = s.power.slots ∧ t.power.copies = s.power.copies ∧ t.cfg = s.cfg) ∧
    (∃ t, Machine.exec .vddCorePor s = .next t ∧ fresh t ∧ t.power.f3Reg = false ∧ t.power.supplies = false ∧
      (s.power.pwrEn = false → t.power.mode = .standby)) ∧
    (s.power.mode ≠ .standby → ∃ t, Machine.exec .resetNAssert s = .next t ∧ fresh t ∧ t.power.f3Reg = s.power.f3Reg ∧
      t.power.mode = s.power.mode ∧ t.power.pwrEn = s.power.pwrEn ∧ t.power.supplies = s.power.supplies) ∧
    (s.power.mode = .standby → Machine.exec .resetNAssert s = .next s) ∧
    (∃ t, Machine.exec .vdykPor s = .next t ∧ AllOff t ∧ t.safety.vdykIn = false ∧ t.safety.dyke.lockout = true ∧
      t.safety.proc.ins = s.safety.proc.ins ∧ t.cfg = s.cfg ∧ t.faults = s.faults ∧ t.power = s.power) ∧
    (s.safety.vdykIn = false → ∃ t, Machine.exec .vdykInRange s = .next t ∧ AllOff t ∧ t.safety.vdykIn = true ∧
      t.safety.dyke.started = false ∧ t.safety.dyke.lockout = true ∧ t.faults = s.faults) ∧
    (s.power.vaon = true → s.power.mode = .standby → ∃ t, Machine.exec .wakeQualified s = .next t ∧ t.power.pwrEn = true ∧
      t.power.mode = .operating ∧ t.lanes.role = .unassigned ∧ t.cfg = s.cfg ∧ t.safety = s.safety) ∧
    (s.power.pwrEn = true → Machine.exec .suppliesInRange s = .next { s with power := { s.power with supplies := true } }) ∧
    (s.power.supplies = true → s.power.refValid = false → ∃ t, Machine.exec .referenceValid s = .next t ∧ AllOff t ∧
      t.power = { s.power with refValid := true } ∧ t.safety.safeSupplyIn = true ∧ t.safety.proc.started = false ∧
      t.safety.proc.lockout = true ∧ t.faults = s.faults) ∧
    (Machine.exec .pciePerstnAssert s =
      .next { s with host := { s.host with endpoint := false, linkUp := false, retry := true, msix := [] } }) ∧
    (Machine.exec .pciePerstnRelease s = .next { s with host := { s.host with endpoint := true, retry := !s.power.steward } })

/-- R619 and R602: the boot ROM checks first the VERIFIED slot of the higher SLOT_SEQ, falls back to the other one with Image-fallback
and the first marked BAD, and serves loading only, in its F3, where no slot passes. -/
def Obligations.BootRomSelectsAnImage : Prop :=
  ∀ (s : Machine.State) (p0 p1 : Bool) (a b : Machine.Slot), s.power.refValid = true → s.power.booted = false → s.power.slots = [a, b] →
    s.power.f3Reg = false →
    let run (i : Nat) (t : Machine.State) : Prop := t.power = { s.power with booted := true, running := some i } ∧ t.faults = s.faults ∧ t.cfg = s.cfg
    let fallback (i : Nat) (t : Machine.State) : Prop := t.power.running = some (1 - i) ∧ t.power.booted = true ∧ t.power.noImage = s.power.noImage ∧
      (t.power.slots[i]?).map (·.st) = some .bad ∧ t.power.slots[1 - i]? = s.power.slots[1 - i]? ∧
      t.power.pending = s.power.pending ++ [Machine.mkFault 0x38E] ∧ t.faults = s.faults
    ∃ t, Machine.exec (.bootRomComplete p0 p1) s = .next t ∧
      (a.st = .verified → (b.st = .verified → b.seq < a.seq) → p0 = true → run 0 t) ∧
      (b.st = .verified → (a.st = .verified → a.seq ≤ b.seq) → p1 = true → run 1 t) ∧
      (a.st = .verified → b.st = .verified → b.seq < a.seq → p0 = false → p1 = true → fallback 0 t) ∧
      (a.st = .verified → b.st = .verified → a.seq ≤ b.seq → p1 = false → p0 = true → fallback 1 t) ∧
      ((a.st = .verified → p0 = false) → (b.st = .verified → p1 = false) →
        t.power.noImage = true ∧ t.faults.f3 = true ∧ AllOff t ∧ t.power.running = s.power.running)

/-- R611 to R614 and R516: a restore takes the valid copy of the higher SAVE_SEQ, every axis of its map in OFF, staging equal to active,
generation counters 0, and no copy at all gives factory defaults; Settings-copy and Settings-default are held for the first cycle in
VOTING, and an F3 kept from before the power cycle shows as F3_PREVIOUS. -/
def Obligations.SettingsAreRestoredAtTheStart : Prop :=
  ∀ (s : Machine.State) (k0 k1 : Bool) (a b : Machine.Settings), s.power.booted = true → s.power.steward = false → s.power.noImage = false →
    s.power.copies = [a, b] → s.lanes.addr = none →
    let ok0 := (a.valid && k0) = true
    let ok1 := (b.valid && k1) = true
    let from_ (c : Machine.Settings) (i : Nat) (t : Machine.State) : Prop := t.cfg = c.cfg ∧ t.kernels.held = c.kernels ∧
      t.coupling.coef = c.groupCoefs ∧ t.power.restored = some i ∧ t.nodes.length = c.cfg.map.nodes.length ∧
      t.axes.length = c.cfg.map.axes.length ∧ ∀ x ∈ t.axes, x.st = .off ∧ x.law = {} ∧ x.entry ∈ c.cfg.map.axes
    ∃ t, Machine.exec (.settingsRestore k0 k1) s = .next t ∧ t.power.steward = true ∧
      (ok0 → (ok1 → b.saveSeq < a.saveSeq) → from_ a 0 t) ∧
      (ok1 → (ok0 → a.saveSeq ≤ b.saveSeq) → from_ b 1 t) ∧
      (¬ok0 → ¬ok1 → t.cfg = {} ∧ t.axes = [] ∧ t.kernels = {} ∧ t.power.restored = none ∧
        t.power.pending = s.power.pending ++ [Machine.mkFault 0x38D]) ∧
      (ok0 → ok1 → t.power.pending = s.power.pending) ∧
      ((ok0 ∧ ¬ok1) ∨ (¬ok0 ∧ ok1) → t.power.pending = s.power.pending ++ [Machine.mkFault 0x38C]) ∧
      (∀ code count, s.power.f3Record = some (code, count) → s.power.f3Reg = false → t.faults.f3Prev = true ∧ t.faults.f3PrevCode = code)

/-- R589, R609, R599, R590 and R620: a save that ends writes its target with the next SAVE_SEQ and leaves the other copy; a failure
raises Store-write; a checked firmware load becomes VERIFIED or BAD in the slot that does not run; an idle load lapses; standby takes
PWR_EN low with the driver block and the link off. -/
def Obligations.SavesFirmwareAndStandby : Prop :=
  ∀ (s : Machine.State) (c a b : Machine.Settings) (f : Machine.FwLoad), s.power.copies = [a, b] → s.common = true →
    let other := s.power.copies.getD (1 - s.saveTarget) {}
    (s.power.saving = some c → c.valid = true →
      (∃ t, Machine.exec (.settingsSaveComplete true) s = .next t ∧ t.power.saving = none ∧ t.power.lastResult = 1 ∧
        t.power.lastSave = BitVec.ofNat 32 s.clock.cycle ∧
        t.power.copies[s.saveTarget]? = some { c with valid := true, saveSeq := if other.valid then other.saveSeq + 1 else 1 } ∧
        t.power.copies[1 - s.saveTarget]? = s.power.copies[1 - s.saveTarget]? ∧ t = { s with power := t.power }) ∧
      (∃ t, Machine.exec (.settingsSaveComplete false) s = .next t ∧ t.power.saving = none ∧ t.power.lastResult = 2 ∧
        t.power.copies = s.power.copies ∧ t.faults.reports = (reported s 0x390 .f1 Machine.locNone).faults.reports ∧ t.cfg = s.cfg)) ∧
    (s.power.fw = some f → f.checking = true → s.loadSlot < s.power.slots.length →
      ∀ ok, ∃ t x, Machine.exec (.fwCheckComplete ok) s = .next t ∧ t = { s with power := t.power } ∧ t.power.fw = none ∧
        t.power.slots[s.loadSlot]? = some x ∧ x.st = (if ok then .verified else .bad) ∧
        (ok = true → x.seq = (s.power.slots.getD (1 - s.loadSlot) {}).seq + 1) ∧ t.power.lastResult = (if ok then 3 else 5) ∧
        ∀ i, i ≠ s.loadSlot → t.power.slots[i]? = s.power.slots[i]?) ∧
    (s.power.fw = some f → f.checking = false → f.last + 65536 ≤ s.clock.cycle →
      Machine.exec .fwLoadLapse s = .next { s with power := { s.power with fw := none } }) ∧
    (s.power.standbyDue = true →
      ∃ t, Machine.exec .standbyEntry s = .next t ∧ t.power.pwrEn = false ∧ t.power.standbyDue = false ∧ t.power.fw = none ∧
        t.power.saving = none ∧ t.drivers.supplyOn = false ∧ AllOff t ∧ t.host.linkUp = false ∧
        t.power.aonSpare = (s.lanes.addr == some .s) ∧ t.cfg = s.cfg)

/-- R10, R521, R529, R530, R532, R536 and R552: what each host access of BAR0 with a behaviour of its own does; an access that no table
names, and every access while the host port is down, changes nothing. -/
def Obligations.HostRegisterWritesAct : Prop :=
  ∀ (s : Machine.State) (v : BitVec 32) (o n k : Nat) (data : List Byte) (b : Machine.Mailbox), s.host.boxes[n]? = some b → n < 16 →
    let h := s.host
    let f := s.faults
    let word := Machine.toLe 4 v.toNat
    (s.hostOn = false → Machine.exec .countLoRead s = .next s ∧ Machine.exec (.snapHoldWrite v) s = .next s ∧
      Machine.exec (.capturePop n) s = .next s ∧ Machine.exec (.w1cWrite o v) s = .next s ∧ Machine.exec (.wdtWrite v) s = .next s ∧
      Machine.exec (.evtRdWrite v) s = .next s ∧ Machine.exec (.registerWrite o data) s = .next s) ∧
    (s.hostOn = true →
      Machine.exec .countLoRead s = .next { s with host := { h with countHi := BitVec.ofNat 32 (s.clock.cycle / 2 ^ 32) } } ∧
      Machine.exec (.snapHoldWrite v) s = .next { s with host := { h with holdReq := true } } ∧
      (∃ fifo, Machine.exec (.capturePop n) s = .next { s with time := { s.time with fifo := fifo } } ∧
        ∀ i, fifo[i]? = (s.time.fifo[i]?).map (fun l => if i = n then l.drop 1 else l)) ∧
      Machine.exec (.w1cWrite 0x0040 v) s = .next { s with host := { h with irqStatus := h.irqStatus &&& ~~~(v.setWidth 8) } } ∧
      Machine.exec (.w1cWrite 0x0230 v) s = .next { s with faults := { f with
        lostSeen := f.lostSeen && !v.getLsbD 22, escSeen := f.escSeen && !v.getLsbD 23, f2Seen := f.f2Seen && !v.getLsbD 24 } } ∧
      Machine.exec (.w1cWrite 0x0200 v) s = .next { s with lanes := { s.lanes with
        divSeen := s.lanes.divSeen && !v.getLsbD 25, voiceSeen := s.lanes.voiceSeen && !v.getLsbD 26 } } ∧
      (s.common = true → Quiet s 0x108 {} → s.order.held = [] → s.order.accepted = [] →
        Machine.exec (.wdtWrite v) s = .next { s with host := { h with wdtRun := h.wdtRun + 1 } }) ∧
      (s.common = true → s.isActive 0x108 {} = true →
        Machine.exec (.wdtWrite v) s = .next (withBody { s with host := { h with wdtRun := h.wdtRun + 1 } } (.sourceEnded 0x108 {}))) ∧
      (s.voting = true → s.common = true → Machine.exec (.evtRdWrite v) s = .next (withBody s (.evtRd v))) ∧
      (s.voting = false → Machine.exec (.evtRdWrite v) s = .next s) ∧
      Machine.exec (.registerWrite 0x001C word) s = .next { s with host := { h with scratch := v } } ∧
      Machine.exec (.registerWrite 0x0020 word) s = .next { s with host := { h with mspiIntEn := v.getLsbD 0 } } ∧
      Machine.exec (.registerWrite 0x0044 word) s = .next { s with host := { h with irqEnable := v.setWidth 8 } } ∧
      (k + data.length ≤ 256 → k < 256 → b.st = .idle → ∃ c, Machine.exec (.registerWrite (0x8000 + 0x200 * n + k) data) s =
          .next { s with host := { h with boxes := h.boxes.set n { b with cmd := c } } } ∧
        ∀ i < 256, c.getD i 0 = if k ≤ i ∧ i < k + data.length then data.getD (i - k) 0 else b.cmd.getD i 0) ∧
      (k + data.length ≤ 256 → k < 256 → b.st ≠ .idle → Machine.exec (.registerWrite (0x8000 + 0x200 * n + k) data) s = .next s) ∧
      (o < 0x8000 → (data.length ≠ 4 ∧ data.length ≠ 8) ∨ o % 4 ≠ 0 → Machine.exec (.registerWrite o data) s = .next s) ∧
      (o % 4 = 0 → (0x0300 ≤ o ∧ o + 4 ≤ 0x8000) ∨ (0x0048 ≤ o ∧ o < 0x0088) → Machine.exec (.registerWrite o word) s = .next s))

/-- R527, R528 and R530: an MSPI write acts as the same write of BAR0 and is refused at an address of BAR2 or that is no multiple of
4, setting ERR; 8 bytes read at COUNT_LO are one whole count; STATUS returns the MSPI_INT level and ERR, which that read clears. -/
def Obligations.MspiTransactionsAct : Prop :=
  ∀ (s : Machine.State) (v : BitVec 32) (addr : BitVec 24) (data : List Byte) (n : Nat), s.hostOn = true →
    let h := s.host
    let result (refused : Bool) : Machine.HostPort := { h with mspiErr := refused }
    (addr.getLsbD 23 = true ∨ addr.toNat % 4 ≠ 0 → Machine.exec (.mspiWrite addr data) s = .next { s with host := result true }) ∧
    Machine.exec (.mspiWrite 0x00001C (Machine.toLe 4 v.toNat)) s = .next { s with host := { h with scratch := v, mspiErr := false } } ∧
    (n ≤ 0x2000 → Machine.exec (.mspiRead 0x008000 n) s =
      .next { s with host := result false, tx := s.tx ++ [.read ((List.range n).map (fun i => s.bar0 (0x8000 + i)))] }) ∧
    Machine.exec (.mspiRead 0x000010 8) s =
      .next { s with host := { h with countHi := BitVec.ofNat 32 (s.clock.cycle / 2 ^ 32), mspiErr := false },
                     tx := s.tx ++ [.read (Machine.toLe 8 s.clock.cycle)] } ∧
    (∃ b : Byte, Machine.exec .mspiStatus s = .next { s with host := result false, tx := s.tx ++ [.read [b]] } ∧
      (b.getLsbD 0 = true ↔ ¬(h.mspiIntEn = true ∧ h.irqStatus &&& h.irqEnable ≠ 0)) ∧ b.getLsbD 1 = h.mspiErr)

/-- R541, R542, R561 and Table 14.12: a doorbell takes the command of an IDLE mailbox and a release returns a DONE mailbox to IDLE;
either is ignored, and marked, in any other state. An unassigned opcode is answered UNKNOWN_OP, and a malformed header RANGE with the
mailbox-malformed F0. A doorbell over an IDENTIFY is the service of IDENTIFY. -/
def Obligations.MailboxesFollowTheirStates : Prop :=
  ∀ (s : Machine.State) (n : Nat) (b : Machine.Mailbox) (r : Machine.Req), s.host.boxes[n]? = some b → s.hostOn = true →
    s.power.noImage = false →
    let with_ (x : Machine.Mailbox) : Machine.State := { s with host := { s.host with boxes := s.host.boxes.set n x } }
    (b.st = .done → Machine.exec (.release n) s = .next (with_ { b with st := .idle })) ∧
    (b.st ≠ .done → Machine.exec (.release n) s = .next (with_ { b with ignored := true })) ∧
    (b.st ≠ .idle → Machine.exec (.doorbell n) s = .next (with_ { b with ignored := true })) ∧
    (b.st = .idle → ∀ op, (b.req n).opcode = op → Machine.opInfo op = none → Serves (.doorbell n) s n (b.req n) op 9 [] s) ∧
    ((b.req n).opcode = 0x0001 → Machine.exec (.doorbell n) s = Machine.exec (.identify .service (b.req n)) s) ∧
    (b.st = .idle → r.origin = .mailbox n → (240 < r.payload.length ∨ r.cls ≠ 3 ∨ 2 ≤ r.flags.toNat ∨ n < 2) → s.common = true →
      Serves (.identify .service r) s n r 0x0001 5 [] (reported s 0x107 .f0 Machine.locNone))

/-- R544, R545 and R563: a well-formed command of the command order that the host submits leaves its mailbox BUSY, held for the
command cut by the voice lane and passed on by another voting lane; nothing else changes before the cut. -/
def Obligations.OrderedCommandsWaitForTheCut : Prop :=
  ∀ (s : Machine.State) (n : Nat) (b : Machine.Mailbox) (r : Machine.Req), s.host.boxes[n]? = some b → b.st = .idle → s.hostOn = true →
    s.power.noImage = false → s.faults.f3 = false → s.voting = true → s.stopped = false → r.origin = .mailbox n → r.payload.length ≤ 240 →
    r.flags.toNat < 2 →
    ∀ p ∈ orderRows, r.cls = p.2.1 → (n < 2 → r.cls = 0) →
      let h : Machine.Held := { req := { r with opcode := p.1 }, lane := s.lane }
      ∃ b', b'.st = .busy ∧ Machine.byteAt b'.rsp 2 = 0xFF ∧ b'.cmd = b.cmd ∧ b'.ignored = b.ignored ∧
        Machine.exec (p.2.2 .service r) s = .next { s with
          host := { s.host with boxes := s.host.boxes.set n b' },
          order := if s.isVoice then { s.order with held := s.order.held ++ [h] } else { s.order with forward := s.order.forward ++ [h] } }

/-- R563, R570 to R573, R576, R579 to R581, R584, R585, R587 and R588: each local read answers from the state at once and changes
nothing, but ETH_RECV, which removes a frame whose last byte it returned, and the counter of free values of TIME_READ. -/
def Obligations.LocalReadsAnswerAtOnce : Prop :=
  ∀ (s : Machine.State) (n : Nat) (r : Machine.Req), Submits s n r →
    let p := r.payload
    let t := r.target.toNat
    let plain := t = 0xFFFF ∧ p = []
    let reads (i : Machine.Phase → Machine.Req → Instr) (op : Nat) (rsp : List Byte) := Serves (i .service r) s n r op 0 rsp s
    let b8 (v : Nat) : List Byte := [BitVec.ofNat 8 v]
    let le (v : Nat) := Machine.toLe 4 v
    (plain → reads .identify 0x0001 (Machine.toLe 2 0x0160 ++ [0xB0, 0] ++ Machine.toLe 2 0x0302 ++ Machine.toLe 2 0x0104 ++
      b8 ((s.lanes.addr.map Machine.Lane.num).getD 0xFF) ++ b8 (Machine.roleCode s.lanes.role) ++ b8 s.config ++
      b8 (Machine.b2n s.lanes.spareEn + 2 * Machine.b2n s.power.head) ++ Machine.toLe 8 s.power.chipId.toNat)) ∧
    (∀ d k, p.length = 8 → k = Machine.keyAt t p 0 → Machine.refDef k = some d → s.unknownObject t = false → s.stagedOnly t = false →
      d.cls ≠ .staged → let v := Machine.toLe 8 (s.readValue (k.canon d)); reads .fieldRead 0x0003 (v ++ v)) ∧
    (t = 0xFFFF → p.length = 2 → let l := s.faultEntries; let part := (l.drop (Machine.le p 0 2)).take 19
      reads .faultList 0x000A (Machine.toLe 2 l.length ++ b8 part.length ++ part.flatten)) ∧
    (∀ a, t < 160 → s.axis? t = some a → p.length = 4 →
      let e := (Machine.byteAt p 0, Machine.byteAt p 1, Machine.byteAt p 2)
      let d := s.dimsOf (.axis t) e.1
      e.2.1 < d.1 → e.2.2 < d.2 → reads .coeffRead 0x0119 (le (s.coefOf (.axis t)).gen.toNat ++
        le (Machine.toF32 (((Machine.kvGet (s.coefOf (.axis t)).elems e).map (Machine.q31 (s.expNow (.axis t) e.1))).getD 0)).toNat)) ∧
    (∀ k, Machine.isKernelT t = true → p = [] → s.kinfo? (Machine.tNum t) = some k → reads .kernelInfo 0x0124
      (b8 (Machine.tNum t) ++ [0] ++ Machine.toLe 2 k.bundles ++ le k.cost ++ le k.localBytes ++ le k.ctxBytes ++ le k.crc.toNat ++
        b8 (s.cfg.map.axes.filter (fun a => a.kernel == Machine.tNum t)).length ++
        b8 (Machine.b2n (s.cfg.stagedMap.axes.any (fun a => a.kernel == Machine.tNum t))) ++ [0, 0])) ∧
    (∀ a, t < 160 → p = [] → s.axis? t = some a → let d := a.dec
      reads .feedbackStatus 0x0300 (le d.illTotal.toNat ++ b8 (min 255 (d.illWin.map (·.2)).sum) ++ b8 (min 255 d.misCount) ++
        b8 (Machine.b2n (d.dir ≠ 0) + 2 * Machine.b2n (0 < d.dir) + 4 * Machine.b2n d.deferred.isSome) ++ b8 d.lastRef ++
        le ((d.index.map (·.toNat)).getD 0) ++ le (d.pos.toNat / 65536) ++ Machine.toLe 2 (d.pos.toNat % 65536) ++
        Machine.toLe 2 (min 0xFFFF d.since) ++ le (Machine.ofSigned 32 d.speed))) ∧
    (t = 0xFFFF → p.length = 4 → (∀ q ∈ s.services.reqs, q.tag.toNat ≠ Machine.le p 0 4) → reads .nodeResult 0x0403 [0xFF, 0, 0, 0]) ∧
    (∀ q, t = 0xFFFF → p.length = 4 → s.services.reqs.find? (fun q => q.tag.toNat == Machine.le p 0 4) = some q →
      reads .nodeResult 0x0403 ([q.outcome] ++ b8 q.data.length ++ Machine.toLe 2 q.index.toNat ++ q.data.take 236)) ∧
    (∀ x, Machine.isNodeT t = true → p.length = 1 → s.node? (Machine.nodeOfT t) = some x →
      let d := (x.report.drop (Machine.byteAt p 0)).take 232
      reads .nodeReportRead 0x0404 (le (x.reportCycle.getD 0) ++ b8 d.length ++ [0, 0, 0] ++ d)) ∧
    (t = 0xFFFF → p.length = 4 → s.services.events = [] → reads .nodeEventsRead 0x0405 (le s.services.nextSeq.toNat ++ [0, 0, 0, 0])) ∧
    (∀ e rest, t = 0xFFFF → p.length = 4 → s.services.events = e :: rest → rest.length < 256 → e.bytes.length ≤ 28 →
      BitVec.ofNat 32 (Machine.le p 0 4) = s.services.nextSeq - 1 →
      reads .nodeEventsRead 0x0405 (le (e.seq + 1).toNat ++ [1, 0, 0, 0] ++ le e.seq.toNat ++ e.bytes)) ∧
    (plain → ∃ rsp off, off < max 1 s.tNs ∧ Serves (.timeRead .service r) s n r 0x0600 0 rsp { s with free := s.free + 2 } ∧
      Machine.le rsp 12 8 = s.clock.cycle % 2 ^ 64 ∧ Machine.le rsp 20 4 = off % 2 ^ 32 ∧ Machine.le rsp 24 8 = (s.mapped s.clock.cycle off).toNat) ∧
    (∀ f rest, t = 0xFFFF → p.length = 2 → Machine.le p 0 2 = 0 → s.time.ethRx = f :: rest → 0 < f.length → f.length ≤ 232 →
      Serves (.ethRecv .service r) s n r 0x0602 0 (Machine.toLe 2 f.length ++ Machine.toLe 2 0 ++ Machine.toLe 2 (rest.length + 1) ++ [0, 0] ++ f)
        { s with time := { s.time with ethRx := rest } }) ∧
    (t = 0xFFFF → p.length = 3 → let o := Machine.le p 0 2; let m := Machine.byteAt p 2
      1 ≤ m → m ≤ 224 → o + m ≤ 2048 → reads .watermarkRead 0x0803 (s.fuses o m)) ∧
    (plain → reads .storeStatus 0x0901 (b8 (Machine.b2n s.power.saving.isSome + 2 * Machine.b2n (s.power.fw.any (fun f => !f.checking)) +
        4 * Machine.b2n (s.power.fw.any (·.checking))) ++ b8 ((s.newest (fun _ => true)).getD 0xFF) ++ b8 (s.power.running.getD 0xFF) ++
      [s.power.lastResult] ++ le s.power.lastSave.toNat ++ Machine.toLe 2 (s.power.slots.getD 0 {}).release.toNat ++
      Machine.toLe 2 (s.power.slots.getD 1 {}).release.toNat))

/-- R262, R372, R466, R519, R585, R590, R599 and R620: what each local command that is no read does at once, with its answer. -/
def Obligations.LocalCommandsActAtOnce : Prop :=
  ∀ (s : Machine.State) (n : Nat) (r : Machine.Req) (f : Machine.FwLoad), Submits s n r → s.faults.f3 = false →
    let p := r.payload
    let here := s.voting = true ∨ s.alone = true
    let none_ := r.target.toNat = 0xFFFF ∧ here
    let o4 := Machine.le p 0 4
    let acts (i : Machine.Phase → Machine.Req → Instr) (op status : Nat) (rsp : List Byte) (t : Machine.State) : Prop :=
      Serves (i .service r) s n r op status rsp t
    let fw (x : Option Machine.FwLoad) : Machine.State := { s with power := { s.power with fw := x } }
    (here → acts .faultInject 0x000C 0xB [] s) ∧
    (none_ → p = [] → s.stopped = true → s.power.steward = true → acts .clusterStart 0x0006 0 [] { s with
      net := { s.net with st := .listen, listenCount := 0, cands := [], foreign := 0, spareWokenThisStart := false },
      lanes := { s.lanes with role := if s.lanes.role = .voting then .unassigned else s.lanes.role, vset := [], voice := none } }) ∧
    (none_ → p = [] → s.stopped = false → acts .clusterStart 0x0006 6 [] s) ∧
    (r.target.toNat = 0xFFFF → p = [] → s.lanes.role = .removed ∨ s.lanes.role = .isolated → s.lanes.couch.active = false →
      acts .laneRejoin 0x0503 1 [] { s with lanes := { s.lanes with
        role := .joining, couch := { active := true, source := s.couchSource, joiner := some s.lane, tried := [] } } }) ∧
    (none_ → 64 ≤ p.length → p.length = 4 + Machine.le p 0 2 → Machine.le p 2 2 = 0 → s.time.ethTx = [] → s.time.ethTxLen = none →
      s.time.ethBusy = false → ¬(p.getD 16 0 = 0x88 ∧ p.getD 17 0 = 0xF7) → s.tf 0 0 = 1 → s.time.linkUp = true →
      ∃ t d, Machine.exec (.ethSend .service r) s = .next t ∧ Answer s t n r 0x0601 0 [] ∧ Machine.Tx.eth (p.drop 4) ∈ t.tx ∧
        t.time = { s.time with ethTx := d, ethTxLen := some (Machine.le p 0 2), ethBusy := true } ∧
        t = { s with time := t.time, host := t.host, tx := t.tx }) ∧
    (none_ → let m := Machine.byteAt p 2; let o := Machine.le p 0 2
      p.length = 4 + m → 1 ≤ m → m ≤ 200 → o + m ≤ 2048 → (s.fuses 4 1).all (fun b => !b.getLsbD 1) = true →
      (∀ i < m, p.getD (4 + i) 0 &&& ~~~(Machine.fuseMask (o + i)) = 0) → s.stopped = true →
      ∃ w, acts .watermarkProgram 0x0804 0 (Machine.State.fuses { s with safety := { s.safety with watermark := w } } o m)
          { s with safety := { s.safety with watermark := w } } ∧
        ∀ a, (Machine.kvGet w a).getD 0 = (Machine.kvGet s.safety.watermark a).getD 0 ||| (if o ≤ a ∧ a < o + m then p.getD (4 + (a - o)) 0 else 0)) ∧
    (none_ → p.length = 4 → 1 ≤ o4 → o4 ≤ 2097152 → s.power.fw = none → acts .fwOpen 0x0902 0 []
      { s with free := s.free + 1, power := { s.power with fw := some { length := o4, last := s.clock.cycle, id := s.free } } }) ∧
    (none_ → 5 ≤ p.length → s.power.fw = some f → f.checking = false → o4 + (p.length - 4) ≤ f.length →
      ∃ d, acts .fwWrite 0x0903 0 [] (fw (some { f with data := d, last := s.clock.cycle })) ∧
        ∀ a, Machine.kvGet d a = if o4 ≤ a ∧ a < o4 + (p.length - 4) then some (p.getD (4 + (a - o4)) 0) else Machine.kvGet f.data a) ∧
    (none_ → p.length = 4 → s.power.fw = some f → f.checking = false →
      let img := (List.range f.length).map (fun i => (Machine.kvGet f.data i).getD (Machine.Config.openByte f.id i))
      (Machine.crc32 img = o4 → acts .fwClose 0x0904 1 [] (fw (some { f with checking := true }))) ∧
      (Machine.crc32 img ≠ o4 → acts .fwClose 0x0904 0xA [] { s with power := { s.power with lastResult := 4 } })) ∧
    (none_ → p = [] → s.stopped = true → acts .standby 0x0905 0 [] { s with power := { s.power with standbyDue := true } }) ∧
    (none_ → p = [] → s.stopped = false → acts .standby 0x0905 6 [] s)

/-- Table 2.3, R57 to R61 and R591: a command of Table 2.3 that takes effect changes the state of its axis in the axis's due cycle as the
table says, and waits at the axis until then; without a transition AXIS_STOP, QUICK_STOP and AXIS_COAST do nothing and every other one is
void, with AXIS_CMD_VOID. -/
def Obligations.AxisCommandsFollowTheirTable : Prop :=
  ∀ (s : Machine.State) (a : Machine.Accepted) (rest : List Machine.Accepted) (r : Machine.Req) (x : Machine.Axis),
    let n := r.target.toNat
    let s0 := withPlaces s rest
    let never (op : Nat) : Prop := op = 0x0104 ∨ op = 0x0105 ∨ op = 0x0106
    TakesNext s a rest r r.opcode → n < 160 → s.axis? n = some x → s.common = true →
    (∀ q ∈ axisOps, r.opcode = q.1 → s.due x = false →
      Machine.exec (q.2 .effect r) s = .next (s0.updAxis n (fun y => { y with waiting := y.waiting ++ [a] }))) ∧
    (∀ q ∈ axisRows, r.opcode = q.1 → s.due x = true → x.st = q.2.2.1 → (q.1 = 0x0108 → s.f2Active n = false ∧ s.faults.f3 = false) →
      ∃ t, Machine.exec (q.2.1 .effect r) s = .next t ∧ (t.axis? n).map (·.st) = some q.2.2.2 ∧ (∀ m, m ≠ n → t.axis? m = s.axis? m) ∧
        t = { s0 with axes := t.axes, coupling := t.coupling, groups := t.groups, events := t.events }) ∧
    (∀ q ∈ axisOps, r.opcode = q.1 → s.due x = true →
      (∀ p ∈ axisRows, p.1 = q.1 → p.2.2.1 = x.st → q.1 = 0x0108 ∧ (s.f2Active n = true ∨ s.faults.f3 = true)) →
      (never q.1 → Machine.exec (q.2 .effect r) s = .next s0) ∧
      (¬never q.1 → ∃ t, Machine.exec (q.2 .effect r) s = .next t ∧
        recorded s0 t 0x401 n (Machine.toLe 4 r.tag.toNat ++ Machine.toLe 2 q.1 ++ [BitVec.ofNat 8 (Machine.axisStCode x.st)])))

/-- R153 to R158, R165 to R171 and R591: a motion command on an axis in RUN replaces the motion in force, in HOLD, COAST and STOP_RAMP
waits as the pending motion, and in OFF, READY and FAULTED is void; points join the axis's table, and TABLE_START of an empty table is
void. -/
def Obligations.MotionCommandsComeIntoForce : Prop :=
  ∀ (s : Machine.State) (a : Machine.Accepted) (rest : List Machine.Accepted) (r : Machine.Req) (x : Machine.Axis),
    let n := r.target.toNat
    let s0 := withPlaces s rest
    let p := r.payload
    TakesNext s a rest r r.opcode → n < 160 → s.axis? n = some x → s.due x = true → s.common = true →
    let upd (i : Machine.Phase → Machine.Req → Instr) (f : Machine.MotionRt → Machine.MotionRt) : Prop :=
      Machine.exec (i .effect r) s = .next (s0.updAxis n (fun y => { y with mot := f y.mot }))
    let void (i : Machine.Phase → Machine.Req → Instr) (op reason : Nat) : Prop := ∃ t, Machine.exec (i .effect r) s = .next t ∧
      recorded s0 t 0x440 n (Machine.toLe 4 r.tag.toNat ++ Machine.toLe 2 op ++ [BitVec.ofNat 8 reason])
    let moves := x.st = .hold ∨ x.st = .coast ∨ x.st = .stopRamp
    let still := x.st = .off ∨ x.st = .ready ∨ x.st = .faulted
    let single := x.mot.motion ≠ some .table ∧ ∀ g, x.mot.motion ≠ some (.group g)
    let rel := Machine.bit (Machine.byteAt p 0) 0
    let d := (Machine.pos48 p 2).toInt
    let ps := Machine.pointsOf r
    let rows : List (Nat × (Machine.Phase → Machine.Req → Instr) × Machine.Motion) :=
      [(0x0200, .profileMove, .move (Machine.pos48 p 2)), (0x0201, .profileVelocity, .velocity (Machine.f32D (Machine.le p 0 4))),
       (0x0206, .refSet, .reference (Machine.f32D (Machine.le p 0 4)) (Machine.f32D (Machine.le p 4 4)))]
    (∀ q ∈ rows, r.opcode = q.1 → (q.1 = 0x0200 → rel = false) →
      (x.st = .run → single → upd q.2.1 (fun m => { m with motion := some q.2.2, replan := true, moveDone := false, seg := none })) ∧
      (moves → upd q.2.1 (fun m => { m with pend := some q.2.2, pendRel := none })) ∧ (still → void q.2.1 q.1 1)) ∧
    (r.opcode = 0x0200 → rel = true → moves →
      upd .profileMove (fun m => { m with pend := some (.move x.mot.o), pendRel := some (d, r.tag) })) ∧
    (∀ to_, r.opcode = 0x0200 → rel = true → x.st = .run → single → x.mot.relative d = some to_ →
      upd .profileMove (fun m => { m with motion := some (.move to_), replan := true, moveDone := false })) ∧
    (r.opcode = 0x0200 → rel = true → x.st = .run → x.mot.relative d = none → void .profileMove 0x0200 2) ∧
    (r.opcode = 0x0202 → (¬still → upd .tableAppend (fun m => { m with
        points := m.points ++ (List.range ps.length).map (fun i => { ps.getD i {} with seq := m.pointSeq + i })
        pointSeq := m.pointSeq + ps.length })) ∧ (still → void .tableAppend 0x0202 1)) ∧
    (r.opcode = 0x0203 → (moves → x.mot.points ≠ [] → upd .tableStart (fun m => { m with pend := some .table, pendRel := none })) ∧
      (x.st = .run → x.mot.points ≠ [] → single →
        upd .tableStart (fun m => { m with motion := some .table, replan := true, moveDone := false, seg := none })) ∧
      (x.st = .run → x.mot.points ≠ [] → x.mot.motion = some .table → Machine.exec (.tableStart .effect r) s = .next s0) ∧
      (¬still → x.mot.points = [] → void .tableStart 0x0203 3) ∧ (still → void .tableStart 0x0203 1)) ∧
    (r.opcode = 0x0204 → (moves → x.mot.points = [] → upd .tableClear (fun m => { m with points := [], seg := none })) ∧
      (moves → x.mot.points ≠ [] → ∃ t, Machine.exec (.tableClear .effect r) s = .next t ∧
        recorded (s0.updAxis n (fun y => { y with mot := { y.mot with points := [], seg := none } })) t 0x444 n
          (Machine.toLe 2 x.mot.points.length)) ∧ (still → void .tableClear 0x0204 1))

/-- R179, R184, R433, R434 and R436: a group move whose members can take it waits in its group, an aborting one alone and any other
after those before it, and is void otherwise; INJ_START gives its axis an injection in HOLD or RUN, and INJ_STOP marks it to end. -/
def Obligations.GroupMovesAndInjections : Prop :=
  ∀ (s : Machine.State) (a : Machine.Accepted) (rest : List Machine.Accepted) (r : Machine.Req),
    TakesNext s a rest r r.opcode → s.common = true →
    let s0 := withPlaces s rest
    let g := Machine.tNum r.target.toNat
    let ms := s.groupMembers g
    let mv : Machine.GroupMove := { targets := Machine.groupTargets ms r, eff := s.clock.cycle, tag := r.tag }
    let abort := Machine.bit (Machine.byteAt r.payload 0) 0
    let able := ms.length = Machine.byteAt r.payload 1 ∧
      ∀ n ∈ ms, ∃ x, s.axis? n = some x ∧ (x.st = .hold ∨ x.st = .run ∨ x.st = .coast ∨ x.st = .stopRamp)
    let groups (f : Machine.Group → Machine.Group) : Machine.State := { s0 with groups := Machine.modAt s.groups g f }
    (r.opcode = 0x0205 →
      (able → abort = false → Machine.exec (.groupMove .effect r) s = .next (groups (fun x => { x with waiting := x.waiting ++ [mv] }))) ∧
      (able → abort = true → (∀ x, s.groups[g]? = some x → x.run = none) →
        Machine.exec (.groupMove .effect r) s = .next (groups (fun x => { x with waiting := [mv] }))) ∧
      (¬able → ∃ t, Machine.exec (.groupMove .effect r) s = .next t ∧
        recorded s0 t 0x440 0xFF (Machine.toLe 4 r.tag.toNat ++ Machine.toLe 2 0x0205 ++ [1]))) ∧
    (∀ x, r.target.toNat < 160 → s.axis? r.target.toNat = some x → s.due x = true →
      let inj (j : Option Machine.Inj) : Machine.State := s0.updAxis r.target.toNat (fun y => { y with inj := j })
      (r.opcode = 0x0703 → x.st = .hold ∨ x.st = .run → x.inj = none →
        ∃ j, Machine.exec (.injStart .effect r) s = .next (inj (some j)) ∧ j.started = false ∧ j.stop = false ∧ j.n = 0) ∧
      (∀ j, r.opcode = 0x0704 → x.inj = some j → s.axes.filter (fun y => y.entry.axis == r.target.toNat) = [x] →
        Machine.exec (.injStop .effect r) s = .next (inj (some { j with stop := true }))))

/-- R35 to R38, R47, R61, R91 to R94 and R574: a FIELD_WRITE that takes effect gives every field it brought its value and leaves every
other one, and a COMMIT of the acquisition set-up applies what its acceptance captured. DISCARD, MAP_AXIS, MAP_NODE, MAP_REMOVE and
COEFF_WRITE act at their acceptance, on the staging copy and the coefficient queue, and only leave the order at their effective cycle. -/
def Obligations.FieldsMapsAndCoefficients : Prop :=
  ∀ (s : Machine.State) (a : Machine.Accepted) (rest : List Machine.Accepted) (r : Machine.Req),
    let s0 := withPlaces s rest
    let n := r.target.toNat
    let p := r.payload
    (TakesNext s a rest r r.opcode → s.common = true →
      (r.opcode = 0x0002 → ∃ t, Machine.exec (.fieldWrite .effect r) s = .next t ∧ ∀ k,
        Machine.kvGet t.cfg.active k = match a.captured.reverse.find? (fun q => q.1 == k) with
          | some q => some q.2 | none => Machine.kvGet s.cfg.active k) ∧
      (r.opcode = 0x0004 → n = 0x8000 → ∃ act, Machine.exec (.commit .effect r) s = .next { s0 with
          cfg := { s.cfg with active := act, staged := s.cfg.staged.filter (fun q => !a.captured.contains q) }
          acq := { s.acq with cmps := List.replicate 4 {} } } ∧
        ∀ k, Machine.kvGet act k = match a.captured.reverse.find? (fun q => q.1 == k) with
          | some q => some q.2 | none => Machine.kvGet s.cfg.active k) ∧
      (r.opcode = 0x0004 → n = 0xD000 → s.order.mapPending = none → Machine.exec (.commit .effect r) s = .next s0) ∧
      (r.opcode = 0x0005 → Machine.exec (.discard .effect r) s = .next s0) ∧
      (r.opcode = 0x0110 → Machine.exec (.mapAxis .effect r) s = .next s0) ∧
      (r.opcode = 0x0111 → Machine.exec (.mapNode .effect r) s = .next s0) ∧
      (r.opcode = 0x0112 → Machine.exec (.mapRemove .effect r) s = .next s0) ∧
      (r.opcode = 0x0118 → Machine.exec (.coeffWrite .effect r) s = .next s0)) ∧
    (∀ m : Machine.Seal, m.bodies = [a] → a.body = .cmd r →
      let t := s.applySeal m
      let old := s.cfg.stagedMap
      let new := t.cfg.stagedMap
      t.order.accepted = s.order.accepted ++ [a] ∧ t.order.nextSeq = m.seq0 + m.n ∧ t.cfg.map = s.cfg.map ∧ t.cfg.active = s.cfg.active ∧
      (r.opcode = 0x0005 → n = 0xD000 → new = s.cfg.map) ∧
      (r.opcode = 0x0110 → new.nodes = old.nodes ∧ ∃ e, e.axis = n ∧ e.kernel = Machine.byteAt p 1 ∧ e.divisor = Machine.byteAt p 2 ∧
        e.pinned = (if Machine.byteAt p 3 = 0xFF then none else some (Machine.byteAt p 3)) ∧ e.part = Machine.byteAt p 6 ∧
        ∀ y, y ∈ new.axes ↔ y = e ∨ (y ∈ old.axes ∧ y.axis ≠ n)) ∧
      (r.opcode = 0x0111 → new.axes = old.axes ∧ ∃ e, e.node = Machine.nodeOfT n ∧ e.pUp = Machine.le p 0 2 ∧ e.pDown = Machine.le p 2 2 ∧
        ∀ y, y ∈ new.nodes ↔ y = e ∨ (y ∈ old.nodes ∧ y.node ≠ Machine.nodeOfT n)) ∧
      (r.opcode = 0x0112 → n < 160 → new.nodes = old.nodes ∧ ∀ y, y ∈ new.axes ↔ y ∈ old.axes ∧ y.axis ≠ n) ∧
      (r.opcode = 0x0118 → n < 160 → s.order.mapPending = none → ∀ x, s.axis? n = some x →
        ∃ y es, t.axis? n = some y ∧ y.coef.queue = x.coef.queue ++ es ∧ es.length = p.length / 8 ∧ ∀ i e, es[i]? = some e →
          a.eff ≤ e.eff ∧ e.tag = r.tag ∧ e.block = Machine.byteAt p (8 * i) ∧ e.row = Machine.byteAt p (8 * i + 1) ∧
          e.col = Machine.byteAt p (8 * i + 2) ∧ e.value.toNat = Machine.le p (8 * i + 4) 4))

/-- R141 to R145, R247, R578 and R579: a kernel load opens, takes its parts, closes and lapses; the voice lane passes on what
verification gave; a node parameter request joins the requests, and after 8 windows is resent once and then ends without an answer;
BRANCH_CTRL closes and opens a branch of the star this lane hosts. -/
def Obligations.KernelsAndNodeRequests : Prop :=
  ∀ (s : Machine.State) (a : Machine.Accepted) (rest : List Machine.Accepted) (r : Machine.Req) (l : Machine.KernelLoad) (q : Machine.NodeReq)
    (br : Machine.Branch),
    let s0 := withPlaces s rest
    let n := r.target.toNat
    let p := r.payload
    let o4 := Machine.le p 0 4
    let ks (s : Machine.State) (k : Machine.Kernels) : Machine.State := { s with kernels := k }
    let asked (w : Bool) (data : List Byte) (t : Machine.State) : Prop := ∃ x : Machine.NodeReq, x.tag = r.tag ∧ x.node = Machine.nodeOfT n ∧
      x.write = w ∧ x.index = BitVec.ofNat 16 (Machine.le p 0 2) ∧ x.bytes = data ∧ x.sent = false ∧ x.outcome = 0xFE ∧
      t = { s0 with services := { s.services with reqs := (x :: s.services.reqs).take 32 } }
    (TakesNext s a rest r r.opcode →
      (r.opcode = 0x0120 → Machine.exec (.kernelOpen .effect r) s =
        .next (ks s0 { s.kernels with load := some { length := o4, last := s.clock.cycle, id := s.clock.cycle } })) ∧
      (r.opcode = 0x0121 → s.kernels.load = some l → ∃ d, Machine.exec (.kernelWrite .effect r) s =
          .next (ks s0 { s.kernels with load := some { l with data := d, last := s.clock.cycle } }) ∧
        ∀ k, Machine.kvGet d k = if o4 ≤ k ∧ k < o4 + (p.length - 4) then some (p.getD (4 + (k - o4)) 0) else Machine.kvGet l.data k) ∧
      (r.opcode = 0x0122 → s.kernels.load = some l → Machine.exec (.kernelClose .effect r) s =
        .next (ks s0 { s.kernels with load := some { l with closing := true, closeTag := r.tag } })) ∧
      (r.opcode = 0x0123 → Machine.exec (.kernelRemove .effect r) s =
        .next (ks s0 { s.kernels with held := s.kernels.held.filter (fun k => k.id ≠ Machine.tNum n) })) ∧
      (r.opcode = 0x0401 → ∃ t, Machine.exec (.nodeParamRead .effect r) s = .next t ∧ asked false [BitVec.ofNat 8 (Machine.byteAt p 2)] t) ∧
      (r.opcode = 0x0402 → ∃ t, Machine.exec (.nodeParamWrite .effect r) s = .next t ∧ asked true (p.drop 4) t) ∧
      (∀ ch b, r.opcode = 0x0400 → (ch = .x ∧ Machine.byteAt p 0 = 0 ∨ ch = .y ∧ Machine.byteAt p 0 = 1) → s.hosts ch = true →
        b = Machine.byteAt p 1 → s.branches[b]? = some br → br.poss.length = 8 →
        let to_ (x : Machine.Branch) : Prop := Machine.exec (.branchCtrl .effect r) s = .next { s0 with branches := s.branches.set b x }
        (Machine.byteAt p 2 = 1 → to_ { br with hostClosed := true }) ∧
        (Machine.byteAt p 2 = 2 → br.closed = false → to_ { br with hostClosed := false, quietRun := 0 }) ∧
        (Machine.byteAt p 2 = 3 → ∃ x, to_ x ∧ x = { br with poss := x.poss } ∧ ∀ i, x.poss[i]? = (br.poss[i]?).map (fun y =>
          if Machine.bit (Machine.byteAt p 3) i then { y with hostClosed := true, defer := 0 } else y)))) ∧
    (s.kernels.load = some l → l.closing = true → s.isVoice = true → ∃ ok e, e.code = (if ok then 0x403 else 0x404) ∧
      (ok = true ↔ ∃ cost, Machine.verifyImage s.kernels.held l.image = .ok cost) ∧
      Machine.exec .kernelVerified s = .next (withBody s (.kernelOutcome l.closeTag ok e))) ∧
    (s.kernels.load = some l → l.closing = false → l.last + 65536 ≤ s.clock.cycle →
      Machine.exec .kernelLoadLapse s = .next (ks s { s.kernels with load := none })) ∧
    (s.services.reqs.find? (fun y => y.tag == q.tag && y.outcome == 0xFE && y.sent) = some q →
      (q.windows < 8 → Machine.exec (.nodeRequestTimeout q.tag) s = .next s) ∧
      (8 ≤ q.windows → q.resent = true → ∃ l : List Machine.NodeReq, Machine.exec (.nodeRequestTimeout q.tag) s = .next { s with services := { s.services with reqs := l } } ∧
        ∀ (i : Nat) (y : Machine.NodeReq), s.services.reqs[i]? = some y → l[i]? = some (if y.tag = q.tag ∧ y.node = q.node ∧ y.outcome = 0xFE then { y with outcome := 0x03 } else y)) ∧
      (8 ≤ q.windows → q.resent = false → ∃ (l : List Machine.NodeReq) (tx : List Machine.Tx), Machine.exec (.nodeRequestTimeout q.tag) s =
          .next { s with services := { s.services with reqs := l }, tx := s.tx ++ tx } ∧
        ∀ (i : Nat) (y : Machine.NodeReq), s.services.reqs[i]? = some y →
          l[i]? = some (if y.tag = q.tag ∧ y.node = q.node ∧ y.outcome = 0xFE then { y with resent := true, windows := 0 } else y)))

/-- R262, R355, R361, R364, R418, R423, R429, R431, R453, R470 and R609: what each command of the lanes, of the acquisition set-up, of
the safe outputs, of the store and of the cluster does at its effective cycle. -/
def Obligations.SystemCommandsTakeEffect : Prop :=
  ∀ (s : Machine.State) (a : Machine.Accepted) (rest : List Machine.Accepted) (r : Machine.Req),
    TakesNext s a rest r r.opcode → s.common = true →
    let s0 := withPlaces s rest
    let lane := Machine.laneT r
    let mask := Machine.byteAt r.payload 0
    let q := s.acq
    let outs (t : Machine.State) : Prop := t = { s0 with safety := t.safety, drivers := t.drivers, order := t.order, free := t.free }
    let does (i : Machine.Phase → Machine.Req → Instr) (t : Machine.State) : Prop := Machine.exec (i .effect r) s = .next t
    (r.opcode = 0x0500 → lane ∈ s.lanes.vset → s.lanes.voice ≠ some lane → ∃ t e, does .voiceMove t ∧
      t = { s0 with events := t.events, host := t.host, tx := t.tx, lanes := { s.lanes with
        voice := some lane, epoch := s.lanes.epoch + 1, voiceSeen := true, voiceStop := false, voiceAt := s.clock.cycle } } ∧
      t.events.fresh = s.events.fresh ++ [e] ∧ e.kind = 0x501) ∧
    (r.opcode = 0x0501 → s.config = 3 → s.lane ≠ .s → s.lanes.spareState = .dormant →
      does .spareRefresh { s0 with lanes := { s.lanes with spareState := .refresh }, tx := s.tx ++ [.wakeLow 1500] }) ∧
    (r.opcode = 0x0502 → r.target = 0xFFFF → s.config = 3 → s.lane ≠ .s → s.lanes.spareState = .dormant ∨ s.lanes.spareState = .refresh →
      s.lanes.spareWake = false →
      does .spareTakeover { s0 with lanes := { s.lanes with spareWake := true, couchWait := true }, tx := s.tx ++ [.wakeLow 100] }) ∧
    (r.opcode = 0x0700 → ∃ t, does .acqArm t ∧ t = { s0 with acq := t.acq } ∧ t.acq.running = true ∧ t.acq.mem = q.mem ∧
      t.acq.openLanes = s.lanes.vset.filter (fun l => Machine.bit (s.aq 0 0) (Machine.Lane.num l)) ∧
      (s.voting = true → Machine.bit (s.aq 0 0) (Machine.Lane.num s.lane) = true → t.acq.st = .filling ∧ t.acq.segment = 0 ∧
        t.acq.written = 0 ∧ t.acq.descrs = [] ∧ t.acq.missedTotal = 0 ∧ t.acq.lastTrig = s.clock.cycle)) ∧
    (r.opcode = 0x0701 → ∃ t, does .acqStop t ∧ t = { s0 with acq := t.acq, order := t.order } ∧ t.acq.running = false ∧ t.acq.mem = q.mem ∧
      t.acq.openLanes = [] ∧ (s.recording = true → t.acq.st = .idle) ∧
      (s.recording = true → q.st = .idle ∨ q.st = .complete → t.order = s0.order)) ∧
    (r.opcode = 0x0702 → does .acqForce { s0 with acq := { q with force := true } }) ∧
    (r.opcode = 0x0800 → lane = s.lane → s.lockedOut = false → s.faults.sysF2 = false → s.faults.f3 = false → s.voting = true →
      ∃ t, does .sdoRelease t ∧ outs t ∧ t.safety.release =
        (List.range 4).map (fun m => s.safety.release.getD m false || (Machine.bit mask m && s.sdoSafe m))) ∧
    (r.opcode = 0x0801 → r.target = 0xFFFF ∨ lane = s.lane → ∃ t, does .sdoApply t ∧ outs t ∧ ∀ m < 4, Machine.bit mask m = true →
      t.safety.release.getD m false = false ∧ ∀ o : Machine.Sdo, s.sdoSafe m = true → t.drivers.outs[m]? = some o → o.hs.on = false ∧ o.ls.on = false) ∧
    (r.opcode = 0x0802 → lane = s.lane → s.lockedOut = true → s.safety.lockoutId.toNat = mask → ∃ t, does .safetyAck t ∧ outs t ∧
      t.safety.ackPending = some mask ∧ t.safety.release = List.replicate 4 false) ∧
    (r.opcode = 0x0900 → does .settingsSave { s0 with power := { s.power with
      saving := some {}, saveAt := s.clock.cycle, copies := Machine.setAt s.power.copies s.saveTarget {} } }) ∧
    (r.opcode = 0x0007 → does .clusterStop { s0 with
      net := { s.net with st := .config, cands := [], listenCount := 0 }, clock := { s.clock with running := false },
      branches := s.branches.map (fun b => { b with eBranch := none }) })

/-- R507 to R514, R520 and R591: FAULT_ACK stops the timers it names with a record each; FAULT_CLEAR ends the system F2 with what held
single outputs off, and is void while something blocks it; FAULT_RAISE is numbered, and as an F1 timed; a timer that expires escalates
its F1 to an F2 of its scope. -/
def Obligations.FaultCommandsAndTimers : Prop :=
  ∀ (s : Machine.State) (a : Machine.Accepted) (rest : List Machine.Accepted) (r : Machine.Req) (x : Machine.Timer), s.common = true →
    let s0 := withPlaces s rest
    let f := s.faults
    let inst := Machine.le r.payload 0 4
    let named (y : Machine.Timer) : Bool := inst == 0xFFFFFFFF || y.inst.toNat == inst
    let next := if f.inst = 0xFFFFFFFE then 1 else f.inst + 1
    (TakesNext s a rest r r.opcode → f.f3 = false →
      (r.opcode = 0x0008 → f.timers.Pairwise (fun y z => y.inst ≠ z.inst) → ∃ t l, Machine.exec (.faultAck .effect r) s = .next t ∧
        t = { s0 with faults := { f with timers := f.timers.filter (fun y => !named y) }, events := { s.events with fresh := s.events.fresh ++ l },
                      acq := t.acq } ∧ l.length = (f.timers.filter named).length) ∧
      (r.opcode = 0x0009 → s.clearBlocked = false → ∃ t, Machine.exec (.faultClear .effect r) s = .next t ∧ t.faults = { f with sysF2 := false } ∧
        (∃ e, t.events.fresh = s.events.fresh ++ [e]) ∧ t.axes = s.axes ∧ t.cfg = s.cfg ∧
        ∀ (m : Nat) (o : Machine.Sdo), t.drivers.outs[m]? = some o → o.shorted = false ∧ o.failed = false) ∧
      (r.opcode = 0x0009 → s.clearBlocked = true → ∃ t, Machine.exec (.faultClear .effect r) s = .next t ∧
        recorded s0 t 0x401 0xFF (Machine.toLe 4 r.tag.toNat ++ Machine.toLe 2 0x0009 ++ [0xFF])) ∧
      (r.opcode = 0x000B → r.target = 0xFFFF → f.timers = [] → ∃ t e y, Machine.exec (.faultRaise .effect r) s = .next t ∧
        t = { s0 with events := { s.events with fresh := s.events.fresh ++ [e] }, acq := t.acq,
                      faults := { f with inst := next, timers := if Machine.byteAt r.payload 0 = 0 then [] else [y] } } ∧
        y.inst = next ∧ y.rep.code = 0x13F ∧ y.start = s.clock.cycle ∧ y.expiry = s.clock.cycle + s.handlingCycles)) ∧
    (f.timers.find? (fun y => y.inst == x.inst && decide (y.expiry ≤ s.clock.cycle)) = some x →
      ∃ t, Machine.exec (.handlingTimerExpiry x.inst) s = .next t ∧ t.faults.timers = f.timers.filter (fun y => y.inst ≠ x.inst) ∧
        t.faults.escSeen = true ∧ t.faults.f2Seen = true ∧ s.events.fresh.length < t.events.fresh.length ∧ t.cfg = s.cfg ∧
        (∀ n z, x.rep.scope = 0 → x.rep.loc.axis = some n → s.axis? n = some z → s.due z = true → z.st ≠ .off →
          (t.axis? n).map (·.st) = some .faulted) ∧
        (x.rep.scope = 3 → t.faults.sysF2 = true ∧ AllOff t)) ∧
    (∀ i, f.timers.find? (fun y => y.inst == i && decide (y.expiry ≤ s.clock.cycle)) = none → Machine.exec (.handlingTimerExpiry i) s = .next s)

/-- R263 to R266, R272 and Table 6.11: the network states of a lane: LISTEN ends in COLDSTART at count 0 and epoch 1 with the lane as
voice; COLDSTART ends in SYNC after 4 cycles, the lane voting with those it heard; INTEGRATE ends in SYNC after 2 good LANE frames and
in LISTEN when one failed; a lane outvoted in 3 cycles leaves SYNC with the sync-left F1; 8 cycles of foreign frames alone raise the
layout-mismatch F1. Condition not met, nothing changes. -/
def Obligations.NetworkStatesChangeByTheirTable : Prop :=
  ∀ (s : Machine.State) (l : Machine.Lane),
    let ring2 (t : Machine.State) : List Nat := (t.events.ring.take 2).map (fun e => e.kind.toNat)
    (s.net.st = .listen → s.lanes.addr = some l → l ≠ .s → 8 + 4 * l.num ≤ s.net.listenCount →
      ∃ t, Machine.exec .listenTimeout s = .next t ∧ t.net.st = .coldstart ∧ t.net.coldCount = 0 ∧ t.clock.cycle = 0 ∧
        t.clock.running = true ∧ t.clock.kappa = 0 ∧ t.clock.steer = 0 ∧ t.events = { s.events with seq := 0 } ∧
        t.time = { s.time with map := {}, mapNext := none } ∧
        t = { s with net := t.net, clock := t.clock, events := t.events, time := t.time,
                     lanes := { s.lanes with epoch := 1, voice := some l } }) ∧
    ((s.net.st ≠ .listen ∨ s.lanes.addr = some .s ∨ s.net.listenCount < 8 + 4 * s.lane.num) →
      Machine.exec .listenTimeout s = .next s) ∧
    (s.net.st = .coldstart → 4 ≤ s.net.coldCount → s.lanes.role = .unassigned → s.addrAllowed = true → s.lane ≠ .s →
      ∃ t e, Machine.exec .coldstartComplete s = .next t ∧ t.net = { s.net with st := .sync } ∧ t.lanes.role = .voting ∧
        t.lanes.vset = Machine.laneSort (s.lane :: (s.net.laneIn ++ s.net.intOn.toList)) ∧ t.lanes.present = t.lanes.vset ∧
        t.power = { s.power with pending := [], fresh := false } ∧
        t.faults = { s.faults with reports := s.faults.reports ++ s.power.pending.map (fun r => { r with lane := some s.lane }) } ∧
        t.events = { s.events with fresh := s.events.fresh ++ [e] } ∧ e.kind.toNat = 0x4C0 ∧
        t.clock = s.clock ∧ t.axes = s.axes ∧ t.cfg = s.cfg ∧ t.branches = s.branches) ∧
    ((s.net.st ≠ .coldstart ∨ s.net.coldCount < 4) → Machine.exec .coldstartComplete s = .next s) ∧
    (s.net.st = .integrate → s.net.intBad = true → Machine.exec .integrateComplete s =
      .next { s with net := { s.net with st := .listen, listenCount := 0, intOn := none, cands := [] }, clock := { s.clock with running := false } }) ∧
    (s.net.st = .integrate → s.net.intBad = false → 2 ≤ s.net.intGood → s.lanes.role = .unassigned → s.addrAllowed = true → s.lane ≠ .s →
      ∃ t, Machine.exec .integrateComplete s = .next t ∧ t.net = { s.net with st := .sync } ∧
        t.lanes.role = (if s.net.intCold then .voting else .removed) ∧ t.clock = s.clock ∧ t.axes = s.axes ∧ t.cfg = s.cfg) ∧
    (s.net.st = .integrate → s.net.intBad = false → s.net.intGood < 2 → Machine.exec .integrateComplete s = .next s) ∧
    (s.net.st = .sync → 3 ≤ s.net.outvoted → s.faults.reports = [] → s.order.held = [] → s.faults.timers = [] →
      (∀ x ∈ s.safety.tests, x.phase = 0) →
      ∃ t, Machine.exec .outvotedLimit s = .next t ∧ t.net = { s.net with st := .listen, listenCount := 0, outvoted := 0, cands := [] } ∧
        t.lanes.role = .removed ∧ (s.lanes.role = .voting → s.lane ∉ t.lanes.vset) ∧ t.clock = { s.clock with running := false } ∧
        t.faults.timers.map (fun x => x.rep.code) = [0x200] ∧ ring2 t = [0x4C1, 0x5200] ∧ (∀ b ∈ t.branches, b.eBranch = none) ∧
        t.axes = s.axes ∧ t.cfg = s.cfg) ∧
    ((s.net.st ≠ .sync ∨ s.net.outvoted < 3) → Machine.exec .outvotedLimit s = .next s) ∧
    (s.net.st = .listen → 8 ≤ s.net.foreign → s.common = true → Quiet s 0x201 Machine.locNone →
      Machine.exec .layoutMismatchReached s = .next (reported s 0x201 .f1 Machine.locNone)) ∧
    (s.net.st = .listen → 8 ≤ s.net.foreign → s.common = false → Quiet s 0x201 Machine.locNone → s.faults.reports = [] →
      s.order.held = [] → s.faults.timers = [] →
      ∃ t, Machine.exec .layoutMismatchReached s = .next t ∧ t.isActive 0x201 Machine.locNone = true ∧
        t.faults.timers.map (fun x => x.rep.code) = [0x201] ∧ (ring2 t).head? = some 0x5201 ∧ t.net = s.net ∧ t.axes = s.axes)

/-- R244, R268, R269 and R277: a LANE frame leaves on every weir port whose L0 is up, with the count, the voice flag, the layout and the
steering value; one that arrives is counted by its LAYOUT_CRC, and within the acceptance window it adds its deviation. R270 and R271:
the offset correction is formed as the idle time starts; R277: the steering value that the voice lane sent in the eighth cycle applies
from the next rate period. R275, R399 and R394: the limits of both and the map that the voice lane forms. -/
def Obligations.LaneFramesCarryTheTimeBase : Prop :=
  ∀ (s : Machine.State) (port : Nat) (bytes : List Byte) (ok : Bool) (arr : Int),
    let h := Machine.Hdr.of bytes
    let p := Machine.payloadOf bytes
    let l := Machine.laneOf h.lane
    let delta := arr - (50 + s.inwardOf (0x40 + 4 * port))
    let took (dev : Bool) : Machine.State := { s with
      net := { s.net with ownNow := true, laneIn := s.net.laneIn ++ if dev then [l] else [], laneOut := s.net.laneOut ++ if dev then [] else [l] }
      clock := { s.clock with devs := s.clock.devs ++ if dev then [{ member := .lane l, delta := delta, isLane := true }] else [] } }
    let st := if s.isVoice then s.steerOut else s.clock.steer
    let f := Machine.frame { s.hdr 3 0 0 0 with sync := true, epoch := s.lanes.epoch.toNat, cold := s.net.st == .coldstart } (s.lanePayload st)
    (s.simplex = false → (s.net.st = .coldstart ∨ s.net.st = .sync) → ∃ c, Machine.exec .laneFrameSend s =
        .next { s with tx := s.tx ++ ((List.range 3).filter (fun n => s.linkSt (0x40 + 4 * n) == .up)).map (fun n => .frame (0x40 + 4 * n) f)
                       clock := { s.clock with steerNext := c } } ∧
      c = if s.isVoice = true ∧ s.clock.cycle % 16 = 7 then some st else s.clock.steerNext) ∧
    ((s.simplex = true ∨ s.net.st = .config ∨ s.net.st = .listen ∨ s.net.st = .integrate) → Machine.exec .laneFrameSend s = .next s) ∧
    ((s.simplex = true ∨ Machine.frameOk bytes ok = false) → Machine.exec (.laneFrameReceived port bytes ok arr) s = .next s) ∧
    (s.simplex = false → Machine.frameOk bytes ok = true → h.ty = 3 → h.len = 16 → port ∉ s.lanes.weirWrong →
      Machine.be p 9 4 ≠ s.layoutCrc →
      Machine.exec (.laneFrameReceived port bytes ok arr) s = .next { s with net := { s.net with foreignNow := true } }) ∧
    (s.simplex = false → Machine.frameOk bytes ok = true → h.ty = 3 → h.len = 16 → port ∉ s.lanes.weirWrong →
      Machine.be p 9 4 = s.layoutCrc → s.net.st = .sync → Machine.bit (Machine.byteAt p 8) 2 = false → 4 < s.clock.cycle →
      Machine.exec (.laneFrameReceived port bytes ok arr) s =
        .next (took (decide (delta.natAbs ≤ s.accWin ∧ Machine.be p 0 8 = s.clock.cycle)))) ∧
    (4 ≤ s.clock.kappaHeld → Quiet s 0x202 Machine.locNone →
      Machine.exec .rateLimitReached s = .next (reported s 0x202 .f1 Machine.locNone)) ∧
    (s.clock.kappaHeld < 4 → Machine.exec .rateLimitReached s = .next s) ∧
    (s.isVoice = true → 16 ≤ s.clock.steerHeld → s.common = true → Quiet s 0x284 Machine.locNone →
      Machine.exec .steeringLimitReached s = .next (reported s 0x284 .f0 Machine.locNone)) ∧
    ((s.isVoice = false ∨ s.clock.steerHeld < 16) → Machine.exec .steeringLimitReached s = .next s) ∧
    (s.isVoice = true → s.clock.cycle % 16 = 8 → ∃ (m : Machine.TimeMap) (tg : Int) (rs : List Int), Machine.exec .mapFormation s =
        .next (withBody { s with time := { s.time with rates := rs, target := tg } } (.timeMap m)) ∧
      m.baseCount = s.clock.cycle + 8 ∧ (m.valid = true → s.time.servo = .locked ∨ s.time.servo = .holdover) ∧
      (m.step = false → m.vtBase = s.mapped (s.clock.cycle + 8) 0) ∧ (m.valid = false → tg = s.clock.steer) ∧
      (s.clock.steer.natAbs ≤ 20 * 65536 → tg.natAbs ≤ 20 * 65536) ∧
      rs.length ≤ max 16 s.time.rates.length) ∧
    ((s.isVoice = false ∨ s.clock.cycle % 16 ≠ 8) → Machine.exec .mapFormation s = .next s)

/-- R227, R273 to R275, R277 and R21: the steward starts a basic cycle: the count rises by one, the lead interval begins and the PHC is
latched (R393); a lane whose cluster computes, with no axis, no map and nothing accepted, then swaps the buffers of the coupling table.
A rate period adds the rate of the period that ended to κ, held within ±250 ppm, and takes the steering value of the voice lane. -/
def Obligations.CyclesAndRatePeriodsBegin : Prop :=
  ∀ (s : Machine.State) (clk : Int) (xs : List Machine.LocalSample),
    (s.power.steward = false → Machine.exec (.basicCycleStart clk xs) s = .next s) ∧
    (s.power.steward = true → s.net.st ≠ .listen → s.lanes.role ≠ .voting → s.lanes.role ≠ .joining → s.lanes.leaving = [] →
      s.order.sealMsg = none → s.order.accepted = [] →
      ∃ t, Machine.exec (.basicCycleStart clk xs) s = .next t ∧ t.clock.cycle = s.clock.cycle + 1 ∧ t.clock.interval = .lead ∧
        t.time.latches = ((s.clock.cycle + 1, s.phc clk) :: s.time.latches).take 32 ∧ t.coupling = s.coupling) ∧
    (s.power.steward = true → s.net.st = .sync → s.net.spareWokenThisStart = true → s.lanes.role = .voting → s.lanes.leaving = [] →
      s.order.sealMsg = none → s.order.accepted = [] → s.order.mapPending = none → s.axes = [] → s.nodes = [] → s.lanes.couch = {} →
      s.lanes.realign = [] → s.simplex = true →
      ∃ t, Machine.exec (.basicCycleStart clk xs) s = .next t ∧ t.clock.cycle = s.clock.cycle + 1 ∧ t.clock.interval = .lead ∧
        t.coupling.rd = s.coupling.wr ∧ t.axes = []) ∧
    ((s.clock.running = false ∨ s.clock.cycle % 16 ≠ 0) → Machine.exec .ratePeriodStart s = .next s) ∧
    (s.clock.running = true → s.clock.cycle % 16 = 0 → s.time.mapNext = none → Quiet s 0x202 Machine.locNone → Quiet s 0x284 Machine.locNone →
      s.order.held = [] → s.order.accepted = [] → s.common = true →
      let k := max (-250000) (min 250000 (s.clock.kappa + s.rho))
      let v := if s.simplex then s.steerOut else s.clock.steerNext.getD s.clock.steer
      Machine.exec .ratePeriodStart s = .next { s with clock := { s.clock with
        kappa := k, kappaHeld := if k.natAbs = 250000 then s.clock.kappaHeld + 1 else 0, csum := 0, steer := v, steerNext := none
        steerHeld := if v.natAbs = 20 * 65536 then s.clock.steerHeld + 1 else 0 } })

/-- R289 to R294 and R300: a frame of a branch port, and of the arbitrating window, that fits an open entry and ends before the cut
passes whole to every lane link and clears the violation count; a closed position's frame only counts as good. R293 and R294: after 3
violations the position closes with the node-closed F1, and after REOPEN_COUNT good cycles opens again. R306 and R307: the same of a
branch that babbles; R308 and Table 6.15: the limits of discarded frames and of drops. -/
def Obligations.SluicesAdmitAndClose : Prop :=
  ∀ (s : Machine.State) (b p : Nat) (bytes : List Byte) (sof eof : Int) (ch : Machine.Channel) (w : BitVec 32), s.relaying = some ch →
    b < s.branches.length → p < (s.branches.getD b {}).poss.length →
    let br := s.branches.getD b {}
    let q := s.pos b p
    let h := Machine.Hdr.of bytes
    let j := s.clock.cycle % 64
    let matches_ := Machine.frameOk bytes true = true ∧ h.ty = 1 ∧ h.ch = Machine.chNum ch ∧ h.branch = b ∧ h.pos = p ∧ h.cycle = j ∧
      h.matrix = s.clock.cycle / 64 % 256
    let opens := br.sched.filter (fun w => Machine.entWin w == 0 && Machine.entActive w j) = [w] ∧ Machine.entPos w = p ∧
      (sof - (400 + 50 * Machine.entStart w)).natAbs ≤ s.accWin ∧
      eof ≤ 400 + 50 * Machine.entStart w + 50 * Machine.entLen w - s.accWin
    let bytes3 : List Byte := [BitVec.ofNat 8 (Machine.chNum ch), BitVec.ofNat 8 b, BitVec.ofNat 8 p]
    let up (t : Machine.State) : Prop := t.tx = s.tx ++ (s.laneLinks b).map (fun c => .up c bytes false sof)
    let babbled : Machine.EvBody :=
      { code := 0x4C8, payload := [BitVec.ofNat 8 (Machine.chNum ch), BitVec.ofNat 8 b, 0xFF] ++ Machine.toLe 2 br.babbleRun }
    let limit (row elem : Nat) : Nat := s.fld (Machine.tgtChan ch) 0x0704 row elem
    let rep (code : Nat) (loc : Machine.Loc) (ev : Option Machine.EvBody) : Machine.FaultRep :=
      { code := code, cls := if code = 0x206 ∨ code = 0x20B then .f0 else .f1, loc := loc, lane := some s.lane, event := ev }
    (matches_ → opens → q.shut = false → br.shut = false →
      ∃ t, Machine.exec (.uplinkFrameArrival b bytes true sof eof 0) s = .next t ∧ up t ∧
        t.pos b p = { q with goodNow := true, viol := if q.violNow then q.viol else 0, req := Machine.byteAt (Machine.payloadOf bytes) 2 % 8 } ∧
        t = { s with branches := t.branches, tx := t.tx } ∧ ∀ m, m ≠ b → t.branches[m]? = s.branches[m]?) ∧
    (matches_ → opens → (q.shut = true ∨ br.shut = true) → Machine.exec (.uplinkFrameArrival b bytes true sof eof 0) s =
      .next (s.updPos b p (fun q => { q with wouldNow := true }))) ∧
    (Machine.frameOk bytes true = true → h.ty = 6 → h.branch = b → h.pos = p → br.grant = p → h.cycle = j →
      h.matrix = s.clock.cycle / 64 % 256 → s.arbStartNs - s.accWin ≤ sof → eof ≤ s.arbEndNs - s.accWin → q.shut = false → br.shut = false →
      ∃ t, Machine.exec (.acycUpAdmit b bytes true sof eof) s = .next t ∧ up t ∧ t = { s with tx := t.tx }) ∧
    (3 ≤ q.viol → q.closed = false → Quiet s 0x208 (Machine.locNode (Machine.chNum ch) b p) →
      Machine.exec (.nodeClosed b p) s = .next { s.updPos b p (fun q => { q with closed := true, good := 0, defer := 0 }) with
        faults := { s.faults with reports := s.faults.reports ++
          [rep 0x208 (Machine.locNode (Machine.chNum ch) b p) (some { code := 0x4C6, payload := bytes3 })] } }) ∧
    ((q.viol < 3 ∨ q.closed = true) → Machine.exec (.nodeClosed b p) s = .next s) ∧
    (q.closed = true → q.hostClosed = false → limit 5 0 = 1 → limit 4 0 ≤ q.good →
      ∃ t, Machine.exec (.nodeReopened b p) s = .next t ∧ t.pos b p = { q with closed := false, viol := 0, good := 0 } ∧
        t = { s with branches := t.branches, order := t.order } ∧ t.order.held.length ≥ s.order.held.length + 1) ∧
    ((q.closed = false ∨ q.hostClosed = true ∨ limit 5 0 ≠ 1 ∨ q.good < limit 4 0) → Machine.exec (.nodeReopened b p) s = .next s) ∧
    (br.closed = false → limit 6 0 ≤ br.babbleRun → Quiet s 0x209 (Machine.locPort b) →
      Machine.exec (.branchClosed b) s = .next { s.updBranch b (fun r => { r with closed := true, quietRun := 0 }) with
        faults := { s.faults with reports := s.faults.reports ++ [rep 0x209 (Machine.locPort b) (some babbled)] } }) ∧
    (br.closed = true → br.hostClosed = false → limit 5 0 = 1 → 64 ≤ br.quietRun →
      ∃ t, Machine.exec (.branchReopened b) s = .next t ∧ t.branches[b]? = some { br with closed := false, quietRun := 0 } ∧
        t = { s with branches := t.branches, order := t.order } ∧ t.order.held.length ≥ s.order.held.length + 1) ∧
    ((br.closed = false ∨ br.hostClosed = true ∨ limit 5 0 ≠ 1 ∨ br.quietRun < 64) → Machine.exec (.branchReopened b) s = .next s) ∧
    (16 ≤ br.discards.length → Machine.exec (.frameErrorLimit b) s = .next { s.updBranch b (fun r => { r with discards := [] }) with
      faults := { s.faults with reports := s.faults.reports ++ [rep 0x206 (Machine.locPort b) none] } }) ∧
    (br.discards.length < 16 → Machine.exec (.frameErrorLimit b) s = .next s) ∧
    (∀ l : Machine.Lane, 16 ≤ (br.drops.filter (fun d => d.1 == l)).length → Machine.exec (.laneLinkDropLimit b l) s =
      .next { s.updBranch b (fun r => { r with drops := r.drops.filter (fun d => d.1 != l) }) with
        faults := { s.faults with reports := s.faults.reports ++ [rep 0x20B (Machine.locLane l) none] } })

/-- R296 to R303 and R261: while the star relays, a downlink slot lets out the one candidate of the newest epoch and then of the lowest
lane, and drops every other; a slot with no entry, and a frame of the window that does not fit, are dropped; a frame that fits waits for
the one before and leaves. A GRANT leaves on every branch port as the idle time starts, and the offset correction joins the sum of its
rate period (R270, R274). -/
def Obligations.DownwardFramesAndGrants : Prop :=
  ∀ (s : Machine.State) (b p : Nat) (l : Machine.Lane) (f : List Byte) (start : Int) (w : BitVec 32),
    let br := s.branches.getD b {}
    let h := Machine.Hdr.of f
    let due := 50 * (s.downStart + Machine.entStart w : Int) - s.guardNs
    (s.simplex = true → s.relaying = some .x → b < s.branches.length →
      br.sched.find? (fun w => Machine.entWin w == 1 && Machine.entPos w == p && Machine.entActive w (s.clock.cycle % 64)) = some w →
      s.speaks = false → (start - due).natAbs ≤ s.accWin → s.downFits 2 b f = true → h.pos = p →
      Machine.exec (.downlinkSlot b p [(l, start, f)]) s =
        .next { s.updBranch b (fun r => { r with eBranch := some (BitVec.ofNat 16 h.epoch) }) with tx := s.tx ++ [.down .x b p f] }) ∧
    (s.hosts .x = true → s.relaying = some .x → s.simplex = true → b < s.branches.length →
      (∀ w ∈ br.sched, (Machine.entWin w == 1 && Machine.entPos w == p && Machine.entActive w (s.clock.cycle % 64)) = false) →
      ∃ t, Machine.exec (.downlinkSlot b p [(l, start, f)]) s = .next t ∧ (t.branches.getD b {}).dropSeen = true ∧
        (t.branches.getD b {}).drops = br.drops ++ [(l, s.clock.cycle)] ∧ (t.branches.getD b {}).eBranch = br.eBranch) ∧
    (s.relaying = none → s.isVoice = false → Machine.exec (.downlinkSlot b p [(l, start, f)]) s = .next s) ∧
    (s.relaying = some .x → b < s.branches.length → s.downFits 5 b f = true → br.acycOut = [] →
      s.arbStartNs ≤ start + s.guardNs → start + s.guardNs + (h.len + 14) * 4 ≤ s.arbEndNs - s.accWin →
      Machine.byteAt (Machine.payloadOf f) 0 ≠ 1 →
      Machine.exec (.acycDownForward b l f start) s = .next { s.updBranch b (fun r =>
        { r with eBranch := some (BitVec.ofNat 16 h.epoch), acycOut := [(start + s.guardNs, start + s.guardNs + (h.len + 14) * 4)] }) with
          tx := s.tx ++ [.down .x b h.pos f] }) ∧
    (s.relaying = some .x → b < s.branches.length → s.downFits 5 b f = false →
      ∃ t, Machine.exec (.acycDownForward b l f start) s = .next t ∧ (t.branches.getD b {}).drops = br.drops ++ [(l, s.clock.cycle)] ∧
        (t.branches.getD b {}).eBranch = br.eBranch) ∧
    (s.relaying = none → Machine.exec (.acycDownForward b l f start) s = .next s) ∧
    ((s.net.st = .coldstart ∨ s.net.st = .sync) → s.branches.length = 8 → ∃ t, Machine.exec .networkIdleStart s = .next t ∧
      t.clock = { s.clock with interval := .idle, corr := s.offsetCorr
                               csum := if s.clock.cycle % 16 = 15 then s.clock.csum else s.clock.csum + s.offsetCorr } ∧
      t = { s with clock := t.clock, branches := t.branches, tx := t.tx } ∧
      t.tx.length = s.tx.length + (if s.relaying = none then 0 else 8) ∧ (s.relaying = none → t.branches = s.branches) ∧
      ∀ n < 8, s.relaying ≠ none → ∃ r, t.branches[n]? = some r ∧ (r.grant = 0xFF ∨ (r.poss.getD r.grant {}).shut = false)) ∧
    ((s.net.st = .config ∨ s.net.st = .listen ∨ s.net.st = .integrate) → Machine.exec .networkIdleStart s =
      .next { s with clock := { s.clock with interval := .idle } })

/-- R309, R310 and Table 7.3: a link in use trains from signal to ALIGN and to UP, and falls back on a lost signal or on code errors;
entering and leaving UP is PORT_STATE; 8 cycles out of UP raise port-down. R311, R312 and R314: a probe leaves on a link that is up, and
its answer in time gives the position's delay or the link's; a position that does not answer is absent, and the interval makes the
next window a probe window. -/
def Obligations.LinksTrainAndProbesMeasure : Prop :=
  ∀ (s : Machine.State) (c b p rt : Nat),
    let at_ (st : Machine.LinkState) (t : Machine.State) : Prop := t.linkSt c = st ∧ (∀ m, m ≠ c → t.linkSt m = s.linkSt m)
    let known := c < 8 ∧ c < s.branches.length ∨ ∃ k, s.link? c = some k
    let br := s.branches.getD b {}
    let q := s.pos b p
    let event (t : Machine.State) : Prop := ∃ h ∈ t.order.held, ∃ e : Machine.EvBody, h.body = some (.event e) ∧ e.code = 0x4CA ∧
      h.lane = s.lane
    (known → s.linkEnabled c = true → (s.linkSt c = .off ∨ s.linkSt c = .down) →
      ∃ t, Machine.exec (.linkSignalDetect c) s = .next t ∧ at_ .align t ∧ t.tx = s.tx ∧ t.order = s.order) ∧
    ((s.linkEnabled c = false ∨ s.linkSt c = .align ∨ s.linkSt c = .up) → Machine.exec (.linkSignalDetect c) s = .next s) ∧
    (known → s.linkEnabled c = true → s.linkSt c = .align →
      ∃ t, Machine.exec (.linkAligned c) s = .next t ∧ at_ .up t ∧ event t ∧ t.outCycles c = 0 ∧ t.clock = s.clock ∧ t.axes = s.axes) ∧
    ((s.linkEnabled c = false ∨ s.linkSt c ≠ .align) → Machine.exec (.linkAligned c) s = .next s) ∧
    (known → s.linkEnabled c = true → s.linkSt c = .up →
      (∃ t, Machine.exec (.linkSignalLost c) s = .next t ∧ at_ .down t ∧ event t ∧ t.clock = s.clock ∧ t.axes = s.axes) ∧
      (∃ t, Machine.exec (.linkCodeErrors c) s = .next t ∧ at_ .align t ∧ event t ∧ t.clock = s.clock ∧ t.axes = s.axes)) ∧
    ((s.linkEnabled c = false ∨ s.linkSt c = .off) → Machine.exec (.linkSignalLost c) s = .next s) ∧
    ((s.linkEnabled c = false ∨ s.linkSt c ≠ .up) → Machine.exec (.linkCodeErrors c) s = .next s) ∧
    (s.portMatters c = true → 8 ≤ s.outCycles c → Quiet s 0x20A (Machine.locPort c) →
      Machine.exec (.portDownLimit c) s = .next (reported s 0x20A .f1 (Machine.locPort c))) ∧
    ((s.portMatters c = false ∨ s.outCycles c < 8) → Machine.exec (.portDownLimit c) s = .next s) ∧
    (s.linkSt c ≠ .up → Machine.exec (.probeSend c p) s = .next s) ∧
    (8 ≤ c → s.linkSt c = .up → Machine.exec (.probeSend c p) s = .next { s with tx := s.tx ++ [.probe c 0x40] }) ∧
    (b < 8 → b < s.branches.length → s.linkSt b = .up → s.relaying = none → Machine.exec (.probeSend b p) s =
      .next { s.updBranch b (fun r => { r with probe := some p, probeNext := (p + 1) % 8, firstPass := r.firstPass && decide (p < 7),
                                               probeDue := false, probeWait := 0 }) with tx := s.tx ++ [.probe b p] }) ∧
    (8 ≤ c → Machine.exec (.probeAnswer c p rt) s = .next (s.updLink c (fun l => { l with delay := some (rt - 100) }))) ∧
    (b < 8 → s.hosted ≠ none → (br.probe ≠ some p ∨ 1100 < rt) → Machine.exec (.probeAnswer b p rt) s = .next s) ∧
    (b < 8 → b < s.branches.length → p < br.poss.length → s.hosted ≠ none → br.probe = some p → rt ≤ 1100 → q.inForce = none →
      let d := (s.outward b (rt - 100)).toNat
      ∃ t, Machine.exec (.probeAnswer b p rt) s = .next t ∧ t.pos b p = { q with present := decide (d ≤ 500), delay := some d } ∧
        (t.branches.getD b {}).probe = none ∧ t = { s with branches := t.branches }) ∧
    (b < s.branches.length → p < br.poss.length → br.probe = some p → ∃ t, Machine.exec (.probeTimeout b p) s = .next t ∧
      t.pos b p = { q with present := false } ∧ (t.branches.getD b {}).probe = none ∧ t = { s with branches := t.branches }) ∧
    (br.probe ≠ some p → Machine.exec (.probeTimeout b p) s = .next s) ∧
    (∀ ch, s.hosted = some ch → br.firstPass = false → s.fld (Machine.tgtChan ch) 0x0704 7 0 ≤ br.probeWait →
      Machine.exec (.probeIntervalExpiry b) s = .next (s.updBranch b (fun r => { r with probeDue := true }))) ∧
    ((s.computing = false ∨ s.net.st ≠ .sync) → Machine.exec .arbitratingWindowStart s =
      .next { s with clock := { s.clock with interval := .arbitrating } }) ∧
    (∀ r : Machine.NodeReq, s.computing = true → s.net.st = .sync → s.nodes = [] → s.services.reqs = [r] → r.outcome = 0xFE → r.sent = true →
      Machine.exec .arbitratingWindowStart s = .next { s with
        clock := { s.clock with interval := .arbitrating }
        services := { s.services with reqs := [{ r with windows := r.windows + 1 }] } })

/-- R331 to R336: a copy of a frame that passes and comes in time joins the copies of the cycle and is counted; a late one is counted
alone. The copy map goes to every voting lane, and a lane that is not voice passes its commands and reports on with it (R345); maps of
voting lanes are kept until the resolution, which takes for each active entry the copy that every map used holds, X before Y, closes the
input set and sends its digest; digests that differ are one INPUT_MISMATCH; a lane 3 cycles deficient raises its F1 and leaves. -/
def Obligations.InputConsensusTakesTheAgreedCopies : Prop :=
  ∀ (s : Machine.State) (ch : Machine.Channel) (own ok : Bool) (bytes : List Byte) (done stamp : Int) (port : Nat) (l : Machine.Lane)
    (cnt : Nat) (p : List Byte),
    let h := Machine.Hdr.of bytes
    let i := h.branch * 8 + h.pos
    let pay := Machine.payloadOf bytes
    let fits := h.ch = Machine.chNum ch ∧ h.cycle = s.clock.cycle % 64 ∧ h.matrix = s.clock.cycle / 64 % 256
    let end_ : Int := 50 * (8 + (s.uMt : Int)) + 200
    let good := s.net.st = .sync ∧ s.computing = true ∧ Machine.frameOk bytes ok = true ∧ h.ty = 1 ∧ fits ∧ s.nodeActive i = true ∧
      h.len = s.fld (Machine.tgtNode h.branch h.pos) 0x060E 7 0 ∧ s.syncNode i = false
    let recv := Instr.uplinkCopyReceived ch own bytes ok done stamp
    let counted (c : List Machine.Copy) (t : Machine.State) : Prop := ∃ n e, t = { s with lanes := { s.lanes with
      copies := c, uplinks := s.lanes.uplinks + 1, holdH := s.lanes.holdH + Machine.b2n (Machine.bit (Machine.byteAt pay 0) 1),
      holdN := n, otherEpoch := e } }
    let maps := s.lanes.maps.filter (fun q => q.1 != s.lane) ++ [(s.lane, s.copyMap)]
    let own_ : List Machine.Held := s.faults.reports.map (fun r =>
      { lane := s.lane, body := some (if r.cls = .f3 then .f3 r else .fault r) })
    ((s.net.st ≠ .sync ∨ s.computing = false) → Machine.exec recv s = .next s) ∧
    (good → s.simplex = false → s.lanes.resolved = false → done ≤ end_ →
      ∃ t, Machine.exec recv s = .next t ∧ counted (s.lanes.copies ++ [{ ch := ch, node := i, payload := pay, valid := true }]) t) ∧
    (good → (s.lanes.resolved = true ∨ end_ < done) → ∃ t, Machine.exec recv s = .next t ∧ counted s.lanes.copies t) ∧
    (s.net.st = .sync → s.computing = true → h.ty = 6 → Machine.hdrOk bytes = true → h.ch = Machine.chNum ch →
      ∃ v, Machine.exec recv s = .next { s with lanes := { s.lanes with
        acycCopies := s.lanes.acycCopies ++ [{ ch := ch, node := i, payload := pay, valid := v }] } } ∧
      (v = true ↔ Machine.frameOk bytes ok = true ∧ fits)) ∧
    ((s.simplex = true ∨ s.computing = false) → Machine.exec .consensusSend s = .next s) ∧
    (s.simplex = false → s.isVoice = true → s.computing = true → Machine.exec .consensusSend s = .next { s with
      clock := { s.clock with interval := .consensus }
      lanes := { s.lanes with maps := maps }
      tx := s.tx ++ [.weir 0x02 none (s.weirBytes 0x02 none s.copyMap)] }) ∧
    (s.simplex = false → s.isVoice = false → s.voting = true → s.computing = true → ∃ t, Machine.exec .consensusSend s = .next t ∧
      t.clock = { s.clock with interval := .consensus } ∧ t.lanes = { s.lanes with maps := maps } ∧ t.faults = { s.faults with reports := [] } ∧
      t.order = { s.order with forward := [], held := [], forwarded := s.order.forwarded ++ (s.order.forward ++ s.order.held ++ own_) } ∧
      t.tx.length = s.tx.length + 1 + (s.order.forward ++ s.order.held ++ own_).length ∧
      t = { s with clock := t.clock, lanes := t.lanes, faults := t.faults, order := t.order, tx := t.tx, host := t.host }) ∧
    (s.weirMsg 0x02 bytes = some (l, cnt, p) → p.length = 18 → cnt = s.clock.cycle % 65536 → l ∈ s.lanes.vset → s.lanes.resolved = false →
      port ∉ s.lanes.weirWrong → l ≠ s.lane → Machine.exec (.consensusReceived port bytes) s =
        .next { s with lanes := { s.lanes with maps := s.lanes.maps.filter (fun q => q.1 != l) ++ [(l, p)] } }) ∧
    ((s.weirMsg 0x02 bytes = none ∨ s.lanes.resolved = true ∨ port ∈ s.lanes.weirWrong) →
      Machine.exec (.consensusReceived port bytes) s = .next s) ∧
    ((s.computing = false ∨ s.lanes.resolved = true) → Machine.exec .consensusResolution s = .next s) ∧
    (s.computing = true → s.lanes.resolved = false → ∃ t, Machine.exec .consensusResolution s = .next t ∧ t.lanes.resolved = true ∧
      t.lanes.acycCopies = [] ∧ t.clock = s.clock ∧ t.cfg = s.cfg ∧ t.safety = s.safety ∧ t.pending = s.pending ∧
      (s.simplex = false →
        t.lanes.deficient = (if s.lacking.1 < 2 * s.lacking.2 then s.lanes.deficient + 1 else 0) ∧
        (∃ d, t.lanes.digests = s.lanes.digests ++ [(s.lane, d)]) ∧
        ∀ n c k, n < 64 → s.nodeActive n = true → Machine.agreedChannel s.mapsUsed n = some k →
          s.lanes.copies.find? (fun x => x.node == n && x.ch == k && x.valid) = some c → (n, c.payload) ∈ t.lanes.agreed)) ∧
    (s.weirMsg 0x03 bytes = some (l, cnt, p) → p.length = 8 → cnt = s.clock.cycle % 65536 → s.voting = true → l ∈ s.lanes.vset →
      port ∉ s.lanes.weirWrong → s.lanes.digests.any (fun d => d.1 == l) = false →
      let ds := s.lanes.digests ++ [(l, BitVec.ofNat 64 (Machine.be p 0 8))]
      ∃ t, Machine.exec (.inputDigestReceived port bytes) s = .next t ∧ t = { s with lanes := { s.lanes with digests := ds }, order := t.order } ∧
        ((ds.length ≠ s.lanes.vset.length ∨ ∀ x ∈ ds, ∀ y ∈ ds, x.2 = y.2) → t.order = s.order) ∧
        (ds.length = s.lanes.vset.length → (∃ x ∈ ds, ∃ y ∈ ds, x.2 ≠ y.2) → ∃ e : Machine.EvBody, e.code = 0x503 ∧
          t.order = (withBody s (.event e)).order)) ∧
    ((s.weirMsg 0x03 bytes = none ∨ s.voting = false) → Machine.exec (.inputDigestReceived port bytes) s = .next s) ∧
    (s.voting = true → 3 ≤ s.lanes.deficient → s.lane ∈ s.lanes.vset → s.lanes.leaving = [] →
      ∃ t, Machine.exec .inputDeficient s = .next t ∧ t.lanes.deficient = 0 ∧ t.lanes.leaving = [(s.lane, .removed)] ∧
        t.faults.reports = s.faults.reports ++ [{ code := 0x243, cls := .f1, loc := Machine.locLane s.lane, lane := some s.lane }] ∧
        t.order = s.order ∧ t.axes = s.axes ∧ t.clock = s.clock) ∧
    ((s.voting = false ∨ s.lanes.deficient < 3) → Machine.exec .inputDeficient s = .next s)

/-- R205, R207, R209, R211, R212 and Table 5.10: a mismatch count that was reached acts by INDEX_POLICY: nothing but the record, a shift
at once or deferred while the law is computed, or the feedback-index F2; a deferred shift takes effect in a due period outside those
states; a limit that is reached raises the F1 of its axis, once for transitions, and a serial one makes the next record a reference.
R193 to R195, R204, R219 and R220: an edge on the receivers of a local channel counts a quadrature step of its sense, counts as illegal
with the other level in one filter sample, latches the counter on the index, or tells that the signal is lost; an edge at or after the
sampling instant finds the record of the cycle latched first. No other channel changes. -/
def Obligations.FeedbackChannelsLimitsAndShifts : Prop :=
  (∀ (s : Machine.State) (n : Nat) (a : Machine.Axis), s.axis? n = some a →
     let shifted (t : Machine.State) (delta : Int) : Prop :=
       (t.axis? n).map (·.dec.pos) = some (a.dec.pos + BitVec.ofInt 48 (delta * 65536)) ∧
       (t.axis? n).map (·.dec.deferred) = some none ∧ (t.axis? n).map (·.st) = some a.st ∧ t.clock = s.clock ∧ t.faults = s.faults ∧
       t.cfg = s.cfg
     let found (code : Nat) (cls : Machine.FClass) : Machine.State := { s with faults := { s.faults with
       computed := [{ code := code, cls := cls, loc := Machine.locAxis n }] } }
     let calm (code : Nat) : Prop := s.isActive code (Machine.locAxis n) = false ∧ s.faults.timers = [] ∧ s.faults.computed = []
     (a.dec.policyDue = none → Machine.exec (.indexPolicyAction n) s = .next s) ∧
     (∀ delta, a.dec.policyDue = some delta →
       (s.fb n 21 = 0 → Machine.exec (.indexPolicyAction n) s = .next (s.updDec n (fun d => { d with policyDue := none }))) ∧
       (s.fb n 21 = 1 → a.st.computes = true →
         Machine.exec (.indexPolicyAction n) s = .next (s.updDec n (fun d => { d with policyDue := none, deferred := some delta }))) ∧
       (s.fb n 21 = 1 → a.st.computes = false → ∃ t, Machine.exec (.indexPolicyAction n) s = .next t ∧ shifted t delta) ∧
       (s.fb n 21 = 2 → calm 0x1C3 → a.st ≠ .off → a.st ≠ .faulted → ∃ t, Machine.exec (.indexPolicyAction n) s = .next t ∧
         (t.axis? n).map (·.st) = some .faulted ∧ t.faults = (found 0x1C3 .f2).faults)) ∧
     ((a.dec.deferred = none ∨ a.st.computes = true ∨ s.due a = false) → Machine.exec (.realignShiftApply n) s = .next s) ∧
     (∀ delta, a.dec.deferred = some delta → a.st.computes = false → s.due a = true →
       ∃ t, Machine.exec (.realignShiftApply n) s = .next t ∧ shifted t delta) ∧
     (s.fb n 15 ≤ max a.dec.ampCount a.dec.lossCount → calm 0x1C0 → Machine.exec (.feedbackSignalLimit n) s = .next (found 0x1C0 .f1)) ∧
     (max a.dec.ampCount a.dec.lossCount < s.fb n 15 → Machine.exec (.feedbackSignalLimit n) s = .next s) ∧
     (s.fb n 15 ≤ a.dec.sensCount → calm 0x1C4 → Machine.exec (.feedbackSensorLimit n) s = .next (found 0x1C4 .f1)) ∧
     (a.dec.sensCount < s.fb n 15 → Machine.exec (.feedbackSensorLimit n) s = .next s) ∧
     (s.fb n 12 ≤ a.dec.serCount → calm 0x1C2 → Machine.exec (.feedbackSerialLimit n) s =
       .next ((found 0x1C2 .f1).updDec n (fun d => { d with refNeeded := d.refNeeded.or (some 4) }))) ∧
     (a.dec.serCount < s.fb n 12 → Machine.exec (.feedbackSerialLimit n) s = .next s) ∧
     (s.fb n 16 ≤ a.dec.illCount → a.dec.illRaised = false → calm 0x1C1 → Machine.exec (.feedbackTransitionLimit n) s =
       .next ((found 0x1C1 .f1).updDec n (fun d => { d with illRaised := true }))) ∧
     ((a.dec.illCount < s.fb n 16 ∨ a.dec.illRaised = true) → Machine.exec (.feedbackTransitionLimit n) s = .next s)) ∧
  (∀ (s : Machine.State) (ch k : Nat) (c : Machine.LocalChan) (lv : Bool), s.locals[ch]? = some c →
     let upd (e : Machine.LocalEdge) (c' : Machine.LocalChan) : Prop :=
       Machine.exec (.localFeedbackEdge ch e k) s = .next { s with locals := Machine.setAt s.locals ch c' }
     let step (lead : Bool) : BitVec 16 := if lead then 1 else -1
     (k < s.lcInstant ch * 10 →
       (∀ b, upd (.lost b) { c with lost := b }) ∧ upd (.a c.a) c ∧ upd (.b c.b) c ∧ upd (.z c.z) c ∧
       (s.lcMode ch = 1 → c.prev = none → lv ≠ c.a → ∃ e, upd (.a lv) { c with
         a := lv, count := c.count + step (lv != c.b), prev := some (k, e, c.edgeAt), edgeAt := k / 10 }) ∧
       (s.lcMode ch = 1 → c.prev = none → lv ≠ c.b → ∃ e, upd (.b lv) { c with
         b := lv, count := c.count + step (lv == c.a), prev := some (k, e, c.edgeAt), edgeAt := k / 10 }) ∧
       (s.lcMode ch = 1 → c.prev = some (k, 1, 0) → lv ≠ c.b → upd (.b lv) { c with
         b := lv, count := c.count - 1, prev := some (k, 0, 0), edgeAt := 0, ill := c.ill + 1, illegal := true }) ∧
       (s.lcMode ch = 1 → s.localUser ch = none → c.z = false → upd (.z true) { c with
         z := true, latch := c.count, seen := true, multi := c.seen })) ∧
     (s.lcInstant ch * 10 ≤ k → c.latched = none → ∀ e, ∃ t c', Machine.exec (.localFeedbackEdge ch e k) s = .next t ∧
       t.locals[ch]? = some c' ∧
       c'.latched = some (s.clock.cycle, Machine.localRecord (s.lcMode ch) (s.lcInstant ch) (s.hallMap ch) c) ∧
       t = { s with locals := t.locals } ∧ ∀ m, m ≠ ch → t.locals[m]? = s.locals[m]?))

/-- R20, R53, R106, R107, R111 and R132: the compute window opens with the due axes of every engine in slot order, the first of them
dispatched; a run that ends hands its output area over and the next axis is dispatched; an access outside the map stops it (R103); the
window's close stops what still runs, marks it overrun and reports it, and takes the faults of the computation. -/
def Obligations.EnginesRunTheDueAxes : Prop :=
  ∀ (s : Machine.State) (i : Fin 16) (e : Machine.Engine), s.engines[i.val]? = some e →
    let late : List Nat := s.engines.flatMap (fun e => e.axis.toList ++ e.todo)
    (s.computing = false → Machine.exec .computeWindowOpen s = .next { s with clock := { s.clock with interval := .compute } }) ∧
    (s.computing = true → (s.simplex = false ∨ s.lanes.resolved = true) → ∃ t, Machine.exec .computeWindowOpen s = .next t ∧
      t = { s with clock := { s.clock with interval := .compute }, engines := t.engines, axes := t.axes } ∧
      t.axes.map (fun a => (a.entry, a.st, a.law)) = s.axes.map (fun a => (a.entry, a.st, a.law)) ∧
      (s.dueOn i = [] → t.engines[i.val]? = some { e with todo := [], used := 120, axis := none }) ∧
      ∀ n r a, s.dueOn i = n :: r → s.axis? n = some a → ∃ x, t.engines[i.val]? = some x ∧ x.axis = some n ∧ x.todo = r ∧ x.used = 120 ∧
        x.cyc = 4 ∧ x.p1 = a.st.computes ∧ x.bundle = {} ∧ x.commit = {} ∧ x.d = [] ∧ x.acc = [] ∧ x.pc = 0 ∧ x.done = false) ∧
    (e.axis = none → Machine.exec (.axisRunEnd i) s = .next s) ∧
    (∀ n a, e.axis = some n → s.axis? n = some a → s.kernel? a.entry.kernel = none →
      (e.stopped = true → Machine.exec (.axisRunEnd i) s = .next s) ∧
      (e.stopped = false → e.todo = [] →
        let r := ({ s with free := s.free + 1 } : Machine.State).lawStep n a s.free
        ∃ t, Machine.exec (.axisRunEnd i) s = .next t ∧ t.free = s.free + 1 ∧ (t.axis? n).map (fun a => (a.out, a.overrun, a.dispatched)) =
            some (r.out, false, false) ∧ (∃ x, t.engines[i.val]? = some x ∧ x.axis = none ∧ x.done = true ∧ x.out = r.out) ∧
          t.clock = s.clock ∧ t.cfg = s.cfg ∧ t.kernels = s.kernels)) ∧
    (∀ n a k, e.axis = some n → s.axis? n = some a → s.kernel? a.entry.kernel = some k →
      let run := Machine.runProgram k.image (s.ctxOf e) (4096 * 65536) e
      (∀ w, run = .error w → Machine.exec (.axisRunEnd i) s = .fault (.engineAddress w)) ∧
      (∀ x, run = .ok x → (x.done = false ∨ x.stopped = true) → Machine.exec (.axisRunEnd i) s = .next (s.updEngine i (fun _ => x))) ∧
      (∀ x, run = .ok x → x.done = true → x.stopped = false → x.todo = [] → ∃ t, Machine.exec (.axisRunEnd i) s = .next t ∧
        (t.axis? n).map (fun a => (a.out, a.overrun, a.dispatched)) = some (x.out, false, false) ∧
        t.engines[i.val]? = some { x with used := x.used + x.cyc, axis := none } ∧ t.clock = s.clock ∧ t.cfg = s.cfg)) ∧
    (s.engines.length = 16 → ∃ t, Machine.exec .computeWindowClose s = .next t ∧ t.clock = { s.clock with interval := .assembly } ∧
      t.cfg = s.cfg ∧ t.kernels = s.kernels ∧ (s.computing = false → t.engines = s.engines ∧ t.faults = s.faults) ∧
      (s.computing = true → (∀ x ∈ t.engines, x.axis = none ∧ x.todo = [] ∧ x.stopped = false) ∧ t.faults.computed = [] ∧
        t.faults.reports = s.faults.reports ++ late.map (fun n =>
          { code := 0x140, cls := .f1, loc := Machine.locAxis n, lane := some s.lane }) ∧
        ∀ n ∈ late, ∀ a, t.axis? n = some a → a.overrun = true ∧ a.dispatched = false))

/-- R69, R74, R89 and R105: the limits that the FLAGS word of a completed run reports raise the fault of the axis, the following error
as F2 with the axis FAULTED in the same cycle (R62); a corrected memory error costs 2 engine cycles and is an F0, an uncorrectable one
stops the run and is an F2 of the axis. -/
def Obligations.RunFlagsAndMemoryErrorsFault : Prop :=
  ∀ (s : Machine.State) (n : Nat) (i : Fin 16) (a : Machine.Axis), s.axis? n = some a → s.faults.timers = [] → s.faults.computed = [] →
    let calm (code : Nat) : Prop := s.isActive code (Machine.locAxis n) = false
    let found (code : Nat) (cls : Machine.FClass) (c : Instr) : Prop := ∃ t, Machine.exec c s = .next t ∧
      t.faults = { s.faults with computed := [{ code := code, cls := cls, loc := Machine.locAxis n }] } ∧
      (cls = .f1 → t = { s with faults := t.faults, axes := t.axes } ∧ (t.axis? n).map (·.st) = some a.st) ∧
      (cls = .f2 → a.st ≠ .off → (t.axis? n).map (·.st) = some .faulted)
    (s.runFlag n 1 = true → calm 0x141 → found 0x141 .f1 (.sampleLossLimit n)) ∧
    (s.runFlag n 0 = true → calm 0x142 → found 0x142 .f2 (.followingError n)) ∧
    (s.runFlag n 3 = true → calm 0x144 → found 0x144 .f1 (.numericPersist n)) ∧
    (s.runFlag n 1 = false → Machine.exec (.sampleLossLimit n) s = .next s) ∧
    (s.runFlag n 0 = false → Machine.exec (.followingError n) s = .next s) ∧
    (s.runFlag n 3 = false → Machine.exec (.numericPersist n) s = .next s) ∧
    (s.common = true → Machine.exec (.engineEccCorrected i) s =
      .next (reported (s.updEngine i (fun e => { e with cyc := e.cyc + 2, used := e.used + 2 })) 0x147 .f0 Machine.locNone)) ∧
    (∀ e, s.engines[i.val]? = some e → e.axis = none → Machine.exec (.engineEccUncorrectable i) s = .next s) ∧
    (∀ e, s.engines[i.val]? = some e → e.axis = some n → e.todo = [] → s.common = true → Machine.exec (.engineEccUncorrectable i) s =
      .next (reported ((s.updEngine i (fun e => { e with stopped := true, axis := none })).updAxis n
        (fun a => { a with overrun := true, dispatched := false })) 0x148 .f2 (Machine.locAxis n)))

/-- R408, R412, R414, R423, R424 and R427: while it records, the unit writes one record at the place of the present segment in each cycle
that ACQ_DIV selects, its first word the count, and no other byte of the acquisition memory changes; enough records arm the segment from
the next cycle; enough after the trigger close it, with its descriptor, and the last one completes the acquisition. A counted edge of a
digital line is stamped on that line alone. -/
def Obligations.AcquisitionWritesItsSegments : Prop :=
  ∀ (s : Machine.State) (k : Nat) (rising : Bool) (at_ : Int), Machine.Memory.wf s.acq.mem = true →
    let q := s.acq
    let a := (q.segment * s.acqC + q.written % s.acqC) * s.recSize
    let old := q.lines.getD k {}
    let edged : Machine.DigLine :=
      { old with level := rising, edge := true, rise := if rising then some at_ else old.rise, fall := if rising then old.fall else some at_ }
    let filled := s.recording = true ∧ q.st = .filling ∧ q.lastTrig + s.aq 8 0 ≤ s.clock.cycle ∧ (s.aq 7 0 = 1 ∨ s.aq 5 0 ≤ q.written)
    let posted := s.recording = true ∧ q.st = .post ∧ q.trigPending = false ∧ s.aq 6 0 ≤ q.post
    let descrs := Machine.kvSet q.descrs q.segment { q.cur with postActual := q.post }
    (∃ t, Machine.exec .computeWindowClose s = .next t ∧
      (∀ x, (x < a ∨ a + s.recSize ≤ x) → Machine.memRead t.acq.mem x = Machine.memRead q.mem x) ∧
      Machine.Memory.wf t.acq.mem = true ∧
      (s.recording = false → t.acq.mem = q.mem) ∧
      (s.recording = true → (q.st = .filling ∨ q.st = .armed) → s.clock.cycle % s.aq 3 0 = 0 → t.acq.written = q.written + 1 ∧
        Machine.memReadN t.acq.mem a 4 = Machine.toLe 4 (s.clock.cycle % 2 ^ 32))) ∧
    (filled → Machine.exec .acqPreFilled s =
      .next { s with acq := { q with st := .armed, armedAt := some (((s.clock.cycle + 1 : Nat) : Int) * s.tNs) } }) ∧
    (¬filled → Machine.exec .acqPreFilled s = .next s) ∧
    (posted → q.segment + 1 < s.aq 4 0 → Machine.exec .acqPostComplete s = .next { s with acq := { q with
      st := .filling, segment := q.segment + 1, written := 0, post := 0, armedAt := none, cur := {}, descrs := descrs } }) ∧
    (posted → s.aq 4 0 ≤ q.segment + 1 → s.common = true → ∃ e : Machine.EvBody, e.code = 0x581 ∧ Machine.exec .acqPostComplete s =
      .next (withBody { s with acq := { q with st := .complete, descrs := descrs } } (.acqDone s.lane e))) ∧
    (¬posted → Machine.exec .acqPostComplete s = .next s) ∧
    (k < q.lines.length →
      Machine.exec (.dlEdge k rising at_) s = .next { s with acq := { q with lines := Machine.setAt q.lines k edged } })

/-- R29, R31, R345 to R349, R543 to R545: at the command cut the voice lane takes what it holds and its own reports into one seal, in
numbered places, and every voting lane votes; a seal received takes the bodies it names and is confirmed; a matching confirmation joins
the seal; a body is held by the voice lane and kept by another; a refusal passed back is the command's final response. -/
def Obligations.SealsCarryTheCommandOrder : Prop :=
  ∀ (s : Machine.State) (port : Nat) (bytes : List Byte) (l : Machine.Lane) (cnt : Nat) (p : List Byte) (b : Machine.Body) (box : Nat),
    let now := cnt = s.clock.cycle % 65536 ∧ s.computing = true ∧ port ∉ s.lanes.weirWrong
    let held : Machine.Held := match b with
      | .cmd r => { req := { r with origin := if l = s.lane then .mailbox box else .forwarded l box }, lane := l }
      | b => { lane := l, body := some b }
    (s.computing = false → Machine.exec .commandCut s = .next s) ∧
    (s.isVoice = true → s.computing = true → s.order.sealMsg = none → ∃ t m, Machine.exec .commandCut s = .next t ∧
      t.order.sealMsg = some m ∧ m.seq0 = s.order.nextSeq ∧ m.n = m.bodies.length ∧ m.epoch = s.lanes.epoch ∧ m.cycle = s.clock.cycle ∧
      m.confirms = [s.lane] ∧ m.complete = true ∧ (∀ k a, m.bodies[k]? = some a → a.seq = s.order.nextSeq + k) ∧
      t.order.nextSeq = s.order.nextSeq ∧ t.order.accepted = s.order.accepted ∧ t.faults = { s.faults with reports := [] } ∧
      (s.order.held.length ≤ 8 → t.order.held = []) ∧ t.clock = { s.clock with interval := .assembly } ∧ t.axes = s.axes ∧ t.cfg = s.cfg) ∧
    (s.voting = true → s.computing = true → s.isVoice = false → ∃ v, Machine.exec .commandCut s = .next { s with
      clock := { s.clock with interval := .assembly }
      lanes := { s.lanes with votes := s.lanes.votes.filter (fun x => x.lane != s.lane) ++ [{ lane := s.lane, vote := v }] }
      tx := s.tx ++ (if s.simplex then [] else [.weir 0x04 none (s.weirBytes 0x04 none v)]) } ∧ v.length = 46) ∧
    (s.weirMsg 0x06 bytes = some (l, cnt, p) → p.length = 20 → now → s.isVoice = false → s.lanes.voice = some l → s.voting = true →
      let n := Machine.be p 8 2
      let hs := s.order.bodies.take n
      let ok := hs.length = n ∧ Machine.bodyCrc hs = BitVec.ofNat 64 (Machine.be p 10 8) ∧ Machine.be p 0 8 = s.order.nextSeq
      ∃ t m, Machine.exec (.sealReceived port bytes) s = .next t ∧ t = { s with order := t.order, tx := t.tx } ∧
        t.order = { s.order with bodies := s.order.bodies.drop n, sealMsg := some m } ∧ m.seq0 = Machine.be p 0 8 ∧ m.n = n ∧
        m.epoch = BitVec.ofNat 16 (Machine.be p 18 2) ∧ m.cycle = s.clock.cycle ∧ (m.complete = true ↔ ok) ∧ (ok → s.lane ∈ m.confirms) ∧
        m.bodies.length = hs.length ∧ t.tx = s.tx ++ [.weir 0x07 none (s.weirBytes 0x07 none (m.confirm m.complete))]) ∧
    (s.weirMsg 0x06 bytes = none → Machine.exec (.sealReceived port bytes) s = .next s) ∧
    (∀ m, s.weirMsg 0x07 bytes = some (l, cnt, p) → p.length = 19 → now → l ∈ s.lanes.vset → Machine.byteAt p 18 = 0 →
      s.order.sealMsg = some m → m.seq0 = Machine.be p 0 8 → m.n = Machine.be p 8 2 → m.crc = BitVec.ofNat 64 (Machine.be p 10 8) →
      Machine.exec (.confirmReceived port bytes) s =
        .next { s with order := { s.order with sealMsg := some { m with confirms := Machine.laneSort (l :: m.confirms) } } }) ∧
    ((s.weirMsg 0x07 bytes = none ∨ ∃ c, s.weirMsg 0x07 bytes = some (l, c, p) ∧ Machine.byteAt p 18 ≠ 0) →
      Machine.exec (.confirmReceived port bytes) s = .next s) ∧
    ((s.computing = false ∨ s.simplex = true) → Machine.exec (.bodyReceived l box b) s = .next s) ∧
    (s.computing = true → s.simplex = false → s.isVoice = true → l ≠ s.lane →
      Machine.exec (.bodyReceived l box b) s = .next { s with order := { s.order with held := s.order.held ++ [held] } }) ∧
    (s.computing = true → s.simplex = false → s.isVoice = false → s.passesOn held = false →
      Machine.exec (.bodyReceived l box b) s = .next { s with order := { s.order with bodies := s.order.bodies ++ [held] } }) ∧
    (s.computing = true → s.simplex = false → s.isVoice = false → s.passesOn held = true →
      Machine.exec (.bodyReceived l box b) s = .next { s with order := { s.order with forward := s.order.forward ++ [held] } }) ∧
    (∀ (tag : BitVec 32) (st : BitVec 8) (aux : Nat) (rsp : List Byte) (eff : BitVec 32),
      (s.order.forwarded = [] → Machine.exec (.forwardRefusalReceived box tag st aux rsp eff) s = .next s) ∧
      (∀ r : Machine.Req, s.order.forwarded = [{ req := r, lane := s.lane }] → r.origin = .mailbox box → r.tag = tag → r.opcode < 65536 →
        rsp.length < 65536 → box < s.host.boxes.length → ∃ t, Machine.exec (.forwardRefusalReceived box tag st aux rsp eff) s = .next t ∧
          Answer s t box r r.opcode st.toNat rsp ∧ t.order = { s.order with forwarded := [] } ∧
          t = { s with order := t.order, host := t.host, tx := t.tx }))

/-- R337 to R343, R350 to R354 and R370: a VOTE joins those of its cycle, and a newer epoch stops the downlinks of a voice lane; with the
voice lane not heard, voice passes to the lowest lane heard by a majority, under the next epoch; the final evaluation notes who is
present, and the one lane that differs leaves; a lane absent twice is lost, and one that has no majority twice isolates itself. -/
def Obligations.TheVoteKeepsTheVotingSet : Prop :=
  ∀ (s : Machine.State) (port : Nat) (bytes : List Byte) (l : Machine.Lane) (cnt : Nat) (p : List Byte),
    let valid := s.weirMsg 0x04 bytes = some (l, cnt, p) ∧ p.length = 46 ∧ cnt = s.clock.cycle % 65536 ∧ s.computing = true ∧
      port ∉ s.lanes.weirWrong ∧ l ≠ s.lane ∧ l ∈ s.lanes.vset ∧ s.lanes.votes.any (fun v => v.lane == l) = false
    let e := BitVec.ofNat 16 (Machine.be p 44 2)
    let stops := s.isVoice = true ∧ (Machine.epochNewer e s.lanes.epoch = true ∨ e = s.lanes.epoch ∧ l ∈ s.lanes.claims ∧ l.num < s.lane.num)
    let heard := s.heardFinal
    let maj := s.majority heard
    let leaves (t : Machine.State) (x : Machine.Lane) (r : Machine.Role) : Prop := t.lanes.leaving = [(x, r)] ∧ t.axes = s.axes ∧
      t.clock = s.clock ∧ t.cfg = s.cfg ∧ t.lanes.vset = s.lanes.vset ∧ t.lanes.voice = s.lanes.voice
    (valid → ∃ t, Machine.exec (.voteReceived port bytes) s = .next t ∧ t.lanes.votes = s.lanes.votes ++ [{ lane := l, vote := p }] ∧
      (stops → t.lanes.voiceStop = true) ∧ (¬stops → t.lanes.voiceStop = s.lanes.voiceStop) ∧
      t = { s with lanes := t.lanes, host := t.host, tx := t.tx }) ∧
    (s.weirMsg 0x04 bytes = none → Machine.exec (.voteReceived port bytes) s = .next s) ∧
    ((s.simplex = true ∨ s.voting = false ∨ s.stopped = true) → Machine.exec .quickEvaluation s = .next s) ∧
    (∀ v w, s.simplex = false → s.voting = true → s.stopped = false → s.lanes.voice = some v → v ≠ s.lane → v ∉ s.heardNow →
      s.majority s.heardNow = true → Machine.lowest s.heardNow = some w → ∃ t, Machine.exec .quickEvaluation s = .next t ∧
        t.lanes.voice = some w ∧ t.lanes.epoch = s.lanes.epoch + 1 ∧ t.lanes.voiceAt = s.clock.cycle ∧ t.lanes.voiceSeen = true ∧
        t.lanes.vset = s.lanes.vset ∧ t.axes = s.axes ∧ t.clock = s.clock) ∧
    (∀ v, s.simplex = false → s.voting = true → s.stopped = false → s.lanes.voice = some v → v ≠ s.lane → v ∈ s.heardNow →
      s.differs = false → Machine.exec .quickEvaluation s = .next s) ∧
    ((s.simplex = true ∨ s.computing = false) → Machine.exec .finalEvaluation s = .next s) ∧
    (s.simplex = false → s.computing = true → ∃ t, Machine.exec .finalEvaluation s = .next t ∧ t.lanes.present = heard ∧
      t.lanes.noMajority = (if maj then 0 else s.lanes.noMajority + 1) ∧ t.lanes.vset = s.lanes.vset ∧ t.clock = s.clock ∧
      ∀ x, s.isVoice = false → s.differs = true → s.lanes.leaving = [] → x ∈ s.lanes.vset →
        (∀ c < 17, s.judge c = ([], false) ∨ s.judge c = ([x], false)) → (∃ c < 17, s.judge c = ([x], false)) →
        (x, .removed) ∈ t.lanes.leaving) ∧
    (s.voting = true → l ≠ s.lane → l ∈ s.lanes.vset → 2 ≤ (Machine.kvGet s.lanes.absent l).getD 0 → s.lanes.leaving = [] →
      (s.majority s.lanes.present = true ∨ s.isVoice = true) → ∃ t, Machine.exec (.laneLost l) s = .next t ∧ leaves t l .removed) ∧
    ((s.voting = false ∨ l = s.lane ∨ l ∉ s.lanes.vset ∨ (Machine.kvGet s.lanes.absent l).getD 0 < 2) →
      Machine.exec (.laneLost l) s = .next s) ∧
    (s.voting = true → s.isVoice = false → 2 ≤ s.lanes.noMajority → s.lane ∈ s.lanes.vset → s.lanes.leaving = [] →
      ∃ t, Machine.exec .laneIsolated s = .next t ∧ leaves t s.lane .isolated ∧ t.faults.reports = s.faults.reports ++
        [{ code := 0x242, cls := .f1, loc := Machine.locLane s.lane, lane := some s.lane }]) ∧
    ((s.voting = false ∨ s.isVoice = true ∨ s.lanes.noMajority < 2) → Machine.exec .laneIsolated s = .next s) ∧
    (s.weirMsg 0x08 bytes = some (l, cnt, p) → s.computing = true → l ∈ s.lanes.vset → l ≠ s.lane → port ∉ s.lanes.weirWrong →
      p.length % 9 = 0 → ∃ x, Machine.exec (.exchangeReceived port bytes) s =
          .next { s with lanes := { s.lanes with exch := s.lanes.exch.filter (fun q => q.1 != l) ++ x } } ∧
        x.length = p.length / 9 ∧ ∀ q ∈ x, q.1 = l) ∧
    (s.weirMsg 0x08 bytes = none → Machine.exec (.exchangeReceived port bytes) s = .next s) ∧
    (∀ (n : Nat) (im : Machine.AxisImage),
      (s.computing = true → s.isVoice = false → s.realigning n = true → Machine.exec (.realignReceived n im) s =
        .next { s with lanes := { s.lanes with realignData := Machine.kvSet s.lanes.realignData n im } }) ∧
      ((s.computing = false ∨ s.isVoice = true ∨ s.realigning n = false) → Machine.exec (.realignReceived n im) s = .next s))

/-- R25 to R28, R536 and R550 to R559: the snapshot switch closes the snapshot of the cycle, gives the records of the cycle the next
sequence numbers in their order and the newest 256 their places in the ring on the chip, and answers a request for a held snapshot; a
lane that does not compute only changes its interval. A mirror that is complete is followed by its number and interrupt cause 2. -/
def Obligations.SnapshotSwitchNumbersTheRecords : Prop :=
  ∀ (s : Machine.State),
    let numbered := (List.range s.events.fresh.length).map (fun i =>
      { s.events.fresh.getD i {} with seq := s.events.seq + BitVec.ofNat 32 i })
    (s.common = false → Machine.exec .snapshotSwitch s = .next { s with clock := { s.clock with interval := .downlink } }) ∧
    (s.common = true → s.evtBase = 0 → s.events.dropped = 0 → ∃ t, Machine.exec .snapshotSwitch s = .next t ∧
      t.clock = { s.clock with interval := .downlink } ∧ t.events.fresh = [] ∧
      t.events.seq = s.events.seq + BitVec.ofNat 32 s.events.fresh.length ∧
      t.events.ring.take 256 = (numbered.reverse ++ s.events.ring).take 256 ∧
      t.host.snap.take 8 = Machine.toLe 8 s.clock.cycle ∧ t.host.holdReq = false ∧
      (s.host.holdReq = true → t.host.heldSnap = t.host.snap ∧ t.host.snapHold = BitVec.ofNat 32 s.clock.cycle) ∧
      (s.host.holdReq = false → t.host.heldSnap = s.host.heldSnap ∧ t.host.snapHold = s.host.snapHold) ∧
      t = { s with clock := t.clock, events := t.events, host := t.host, tx := t.tx }) ∧
    (s.host.mirroring = none → Machine.exec .mirrorComplete s = .next s) ∧
    (∀ q, s.host.mirroring = some q → ∃ t, Machine.exec .mirrorComplete s = .next t ∧ t.host.mirroring = none ∧ t.host.snapSeq = q ∧
      t = { s with host := t.host, tx := t.tx } ∧ (s.isVoice = true → t.host.irqStatus.getLsbD 2 = true) ∧
      (s.isVoice = false → t.host.irqStatus = s.host.irqStatus))

/-- R318 to R325 and R358: the head of the lane chain and the second of two equal trains latch the address, a spare always S, and the
chip sends a train one longer; an IDENT tells the far lane of a weir port, and a port wired wrongly is not used and is a fault; a port
whose links stay down takes the next path. R361 to R364 and R600: the spare wakes by its timer or by its line, takes its refresh or asks
once more, and sleeps again; a wake that nothing answers is reported. -/
def Obligations.LanesFindTheirPlaces : Prop :=
  ∀ (s : Machine.State) (p : Nat) (port : Nat) (bytes : List Byte) (l : Machine.Lane) (us : Nat) (c : Machine.Settings) (crc : BitVec 64),
    let latched (n : Nat) (x : Machine.Lane) : Machine.Lanes := { s.lanes with pulses := some n, addr := some x }
    let port_ (wrong : Bool) : Machine.State := { s with lanes := { s.lanes with
      ident := Machine.kvSet s.lanes.ident port l
      weirWrong := if wrong then Machine.dedup' (s.lanes.weirWrong ++ [port]) else s.lanes.weirWrong.filter (· ≠ port) } }
    ((s.power.refValid = false ∨ s.lanes.addr ≠ none) → Machine.exec .laneChainHead s = .next s) ∧
    (s.power.refValid = true → s.lanes.addr = none → s.power.steward = false → Machine.exec .laneChainHead s = .next { s with
      power := { s.power with head := true }, lanes := latched 1 (if s.lanes.spareEn then .s else .a) }) ∧
    ((s.power.refValid = false ∨ s.lanes.addr ≠ none) → Machine.exec (.lchTrainReceived p) s = .next s) ∧
    (s.power.refValid = true → s.lanes.addr = none → s.lanes.pulses ≠ some p →
      Machine.exec (.lchTrainReceived p) s = .next { s with lanes := { s.lanes with pulses := some p } }) ∧
    (s.power.refValid = true → s.lanes.addr = none → s.lanes.pulses = some p → s.power.steward = false → 1 ≤ p → p ≤ 4 →
      Machine.exec (.lchTrainReceived p) s =
        .next { s with lanes := latched p (if s.lanes.spareEn then .s else Machine.laneOf (p - 1)) }) ∧
    (s.power.refValid = true → s.lanes.addr ≠ none → s.lanes.pulses = some p →
      Machine.exec .lchTrainSend s = .next { s with tx := s.tx ++ [.train (if s.lanes.spareEn then p else p + 1)] }) ∧
    ((s.power.refValid = false ∨ s.lanes.addr = none) → Machine.exec .lchTrainSend s = .next s) ∧
    (s.power.refValid = true → s.lanes.addr = none → s.common = true → Quiet s 0x248 Machine.locNone →
      Machine.exec .addressTimeout s = .next (reported s 0x248 .f1 Machine.locNone)) ∧
    (s.power.refValid = true → s.lanes.addr = none → s.common = false → Quiet s 0x248 Machine.locNone → s.faults.reports = [] →
      s.order.held = [] → s.faults.timers = [] → ∃ t, Machine.exec .addressTimeout s = .next t ∧ t.isActive 0x248 Machine.locNone = true ∧
        t.faults.timers.map (fun x => x.rep.code) = [0x248] ∧ t.lanes = s.lanes ∧ t.net = s.net) ∧
    ((s.power.refValid = false ∨ s.lanes.addr ≠ none) → Machine.exec .addressTimeout s = .next s) ∧
    ((Machine.identOf bytes = none ∨ s.simplex = true ∨ 2 < port) → Machine.exec (.identReceived port bytes) s = .next s) ∧
    (Machine.identOf bytes = some l → s.simplex = false → port ≤ 2 → s.common = true → l ≠ .s → s.lanes.role ≠ .unassigned →
      (Machine.weirLane s.lane port ≠ some l → Quiet s 0x247 Machine.locNone →
        Machine.exec (.identReceived port bytes) s = .next (reported (port_ true) 0x247 .f1 Machine.locNone)) ∧
      (Machine.weirLane s.lane port = some l → Quiet s 0x247 Machine.locNone → s.order.held = [] → s.order.accepted = [] →
        Machine.exec (.identReceived port bytes) s = .next (port_ false))) ∧
    (s.weirUsed port = true → (∃ k < 4, 8 ≤ s.outCycles (0x40 + 4 * port + k)) → s.common = true →
      Quiet s 0x246 (Machine.locPort (0x40 + 4 * port)) → ∃ t, Machine.exec (.weirLinkDown port) s = .next t ∧
        (Machine.kvGet t.lanes.weirPath port).getD 0 = s.nextPath port ∧
        t.faults = (reported s 0x246 .f1 (Machine.locPort (0x40 + 4 * port))).faults ∧
        t = { s with lanes := { s.lanes with weirPath := t.lanes.weirPath }, faults := t.faults, order := t.order }) ∧
    (s.weirUsed port = false → Machine.exec (.weirLinkDown port) s = .next s) ∧
    (s.power.mode = .standby → s.power.vaon = true → s.power.aonSpare = true → Machine.exec .spareRefreshTimer s = .next { s with
      power := { s.power with pwrEn := true, mode := .operating, wakeKind := some false }
      lanes := { s.lanes with role := .unassigned, refreshHours := 0 } }) ∧
    ((s.power.mode ≠ .standby ∨ s.power.vaon = false ∨ s.power.aonSpare = false) → Machine.exec .spareRefreshTimer s = .next s) ∧
    (s.power.mode = .refresh → us ≤ 400 → ∃ t, Machine.exec (.wakeClassify us) s = .next t ∧ t.power.mode = .operating ∧
      t.power.wakeKind = some true ∧ t.lanes.refreshSrc = none ∧ t.clock.cycle = s.clock.cycle ∧ t.cfg = s.cfg) ∧
    (s.power.mode = .refresh → 400 < us → Machine.exec (.wakeClassify us) s = .next s) ∧
    (s.power.mode = .operating → s.lanes.role = .unassigned → s.power.wakeKind = none → s.power.steward = false →
      Machine.exec (.wakeClassify us) s = .next { s with power := { s.power with wakeKind := some (decide (us ≤ 400)) } }) ∧
    (s.power.mode = .standby → Machine.exec (.wakeClassify us) s = .next s) ∧
    (s.lanes.role = .refresh → c.crc = crc → s.power.copies.length = 2 → ∃ t k x, Machine.exec (.refreshDataReceived c crc) s = .next t ∧
      t.lanes.role = .dormant ∧ t.power.pwrEn = false ∧ t.power.aonSpare = true ∧ t.power.copies[s.saveTarget]? = some x ∧
      x = { c with valid := true, saveSeq := k, origin := 2, lane := BitVec.ofNat 8 s.lane.num } ∧
      t.power.copies[1 - s.saveTarget]? = s.power.copies[1 - s.saveTarget]? ∧ t.power.refreshRec = (s.power.refreshRec.1 + 1, 0, s.saveTarget) ∧
      t.cfg = s.cfg) ∧
    (s.lanes.role ≠ .refresh → s.lanes.role ≠ .joining → Machine.exec (.refreshDataReceived c crc) s = .next s) ∧
    (s.lanes.role = .refresh → s.lanes.refreshTries < 2 → ∃ t x, Machine.exec .refreshFailed s = .next t ∧
      (x = none ∨ x ≠ s.lanes.refreshSrc) ∧ t = { s with
        lanes := { s.lanes with refreshTries := s.lanes.refreshTries + 1, refreshSrc := x }
        tx := s.tx ++ [.weir 0x10 x (s.weirBytes 0x10 x [])] }) ∧
    (s.lanes.role = .refresh → 2 ≤ s.lanes.refreshTries → ∃ t, Machine.exec .refreshFailed s = .next t ∧ t.lanes.role = .dormant ∧
      t.power.pwrEn = false ∧ t.power.copies = s.power.copies ∧ t.power.refreshRec.2.1 = 1) ∧
    (s.lanes.role ≠ .refresh → Machine.exec .refreshFailed s = .next s) ∧
    (s.lanes.couchWait = false → Machine.exec .spareWakeTimeout s = .next s) ∧
    (s.lanes.couchWait = true →
      let s0 : Machine.State := { s with lanes := { s.lanes with couchWait := false, spareWake := false } }
      (s.isVoice = false → Machine.exec .spareWakeTimeout s = .next s0) ∧
      (s.isVoice = true → s.common = true → Machine.exec .spareWakeTimeout s = .next (reported s0 0x24D .f1 Machine.locNone)))

/-- R365 to R370: a voting lane that hears COUCH_REQ makes the present cycle the checkpoint; the lane that is couched gathers the parts,
the CRC and the confirmations, and commits where its own CRC, that of the source and that of a second voting lane agree; the cycles
since are replayed in order; having reached the live cycle it takes it up and sends JOIN, after which its vote is a trial. Given up, the
couch begins anew from another voting lane, or waits. Frames of the last 256 cycles are returned on request. -/
def Obligations.CouchingCopiesTheState : Prop :=
  ∀ (s : Machine.State) (l : Machine.Lane) (crcs : List (BitVec 32)) (part : Machine.CouchPart) (crc : BitVec 64) (k : Nat)
    (ep : BitVec 16) (r : Machine.Replay),
    let c := s.lanes.couch
    let couch (c : Machine.Couch) : Machine.State := { s with lanes := { s.lanes with couch := c } }
    let begun : Machine.Couch := {
      active := true, source := s.couchSource, joiner := some l, checkpoint := some s.clock.cycle
      parts := (s.kernels.held.filter (fun x => decide (BitVec.ofNat 32 (Machine.crc32 x.image) ∉ crcs))).map Machine.CouchPart.kernel }
    let open_ := s.couching = true ∧ c.committed = false
    ((s.voting = false ∨ s.stopped = true ∨ s.simplex = true ∨ l ∈ s.lanes.vset) → Machine.exec (.couchReqReceived l crcs) s = .next s) ∧
    (s.voting = true → s.stopped = false → s.simplex = false → l ∉ s.lanes.vset → c.active = false → ∃ t,
      Machine.exec (.couchReqReceived l crcs) s = .next t ∧ t.lanes.couch = begun ∧ t.lanes.couchWait = false ∧
      t = { s with lanes := t.lanes, tx := t.tx, order := t.order } ∧
      (s.couchSource ≠ some s.lane → t.tx = s.tx ∧ t.order = s.order) ∧
      (s.couchSource = some s.lane → ∃ e : Machine.EvBody, e.code = 0x505 ∧ t.order = (withBody s (.event e)).order)) ∧
    (open_ → Machine.exec (.couchDataReceived part) s = .next (couch { c with parts := c.parts ++ [part] })) ∧
    (open_ → c.confirms = [] → Machine.exec (.couchEndReceived crc) s = .next (couch { c with imageCrc := some crc })) ∧
    (open_ → c.imageCrc = none → Machine.exec (.couchConfirmReceived l k ep crc) s =
      .next (couch { c with confirms := c.confirms.filter (fun x => x.1 != l) ++ [(l, crc, ep, k)] })) ∧
    (∀ src i, open_ → c.source = some src → c.confirms = [(src, crc, ep, k)] → l ≠ src → l ∈ s.lanes.vset → src ∈ s.lanes.vset →
      c.imageCrc = some crc → Machine.Config.imageCrc c.parts = crc → c.log = [] →
      (c.parts.filterMap Machine.CouchPart.steward?).head? = some i → ∃ t, Machine.exec (.couchConfirmReceived l k ep crc) s = .next t ∧
        t.lanes.couch.committed = true ∧ t.lanes.couch.checkpoint = some k ∧ t.lanes.couch.replayed = some k ∧ t.lanes.couch.parts = [] ∧
        t.axes = c.parts.filterMap Machine.CouchPart.axis? ∧ t.cfg = i.cfg ∧ t.coupling = i.coupling ∧ t.groups = i.groups ∧
        t.nodes = i.nodes ∧ t.lanes.voice = i.voice ∧ t.lanes.epoch = i.epoch ∧ t.lanes.vset = i.vset ∧ t.lanes.role = s.lanes.role ∧
        t.clock.cycle = s.clock.cycle ∧ t.safety = s.safety ∧ t.drivers = s.drivers ∧ t.power = s.power) ∧
    (∀ i : Instr, (i = .couchDataReceived part ∨ i = .couchEndReceived crc ∨ i = .couchConfirmReceived l k ep crc ∨ i = .couchAbandon) →
      (s.couching = false ∨ c.committed = true) → Machine.exec i s = .next s) ∧
    ((s.couching = false ∨ c.live = true) → Machine.exec (.replayReceived r) s = .next s) ∧
    (s.couching = true → c.live = false → c.committed = false →
      Machine.exec (.replayReceived r) s = .next (couch { c with log := c.log ++ [r] })) ∧
    (s.couching = true → c.live = false → c.committed = true → c.log = [] → c.replayed = some k → r.cycle = k + 1 → ∃ t,
      Machine.exec (.replayReceived r) s = .next t ∧ t.lanes = { s.lanes with epoch := r.epoch, vset := r.vset, couch := { c with replayed := some (k + 1) } } ∧
      t.clock = s.clock ∧ t.net = s.net ∧ t.tx = s.tx ∧ t.order.nextSeq = s.order.nextSeq + r.bodies.length ∧
      t.faults.reports = s.faults.reports) ∧
    (∀ n pay, s.voting = true → s.simplex = false → (Machine.kvGet s.lanes.past k).bind (fun x => Machine.kvGet x n) = some pay →
      Machine.exec (.frameRequest l k n) s = .next { s with tx := s.tx ++ [.weir 0x11 (some l) (s.weirBytes 0x11 (some l) pay)] }) ∧
    (∀ n, (s.voting = false ∨ s.simplex = true ∨ (Machine.kvGet s.lanes.past k).bind (fun x => Machine.kvGet x n) = none) →
      Machine.exec (.frameRequest l k n) s = .next s) ∧
    (open_ → s.lanes.vset.length < 2 → ∃ t, Machine.exec .couchAbandon s = .next t ∧ t.tx.length = s.tx.length + 3 ∧
      t = { couch { active := true, joiner := some s.lane } with tx := t.tx }) ∧
    (open_ → 2 ≤ s.lanes.vset.length → ∃ t x, Machine.exec .couchAbandon s = .next t ∧ (∀ y, x = some y → c.source ≠ some y ∧ y ∈ s.lanes.vset) ∧
      t = { s with tx := t.tx, lanes := { s.lanes with
        role := .joining, couch := { active := true, source := x, joiner := some s.lane, tried := c.source.toList ++ c.tried } } }) ∧
    (s.couching = true → c.committed = true → c.live = false → c.replayed = some k → k + 1 = s.clock.cycle → s.axes = [] → s.nodes = [] →
      s.lanes.realign = [] → s.order.accepted = [] → s.order.mapPending = none → ∃ t b, Machine.exec .catchUpComplete s = .next t ∧
        t.lanes.couch = { c with live := true } ∧ t.tx = s.tx ++ [.weir 0x0F none b] ∧ t.clock.cycle = s.clock.cycle) ∧
    ((s.couching = false ∨ c.committed = false ∨ c.live = true ∨ c.replayed = none) → Machine.exec .catchUpComplete s = .next s) ∧
    (s.voting = true → c.active = true → c.joiner = some l → Machine.exec (.joinReceived l) s = .next (couch { c with trial := true })) ∧
    ((s.voting = false ∨ c.active = false ∨ c.joiner ≠ some l) → Machine.exec (.joinReceived l) s = .next s)

/-- R378 to R383 and R388 to R390: a Sync or Follow_Up of the selected master gives a measurement of the servo, a Delay_Resp or
Pdelay_Resp a path delay, an Announce selects or confirms the master, and requests are answered; message intervals send what the port's
role asks for. The servo steps, follows or counts an outlier by its state, and changes state on 16 good measurements, on 4 outliers, on
the loss of its source and after HOLDOVER_MAX, each with its fault. The parts of PTP itself are the model's (log entry 9). -/
def Obligations.ServoAndPtpKeepTheClock : Prop :=
  ∀ (s : Machine.State) (m : Machine.PtpMsg) (at_ : Int) (k : Machine.PtpKind),
    let tm (t : Machine.TimeUnit) : Machine.State := { s with time := t }
    let q := s.time
    let t2 := s.rxStamp at_
    let o := t2 - m.time - q.pathDelay - m.corr - s.tfI 6 0
    let master := s.ptpHears m = true ∧ s.fromMaster m = true
    let recv (k : Machine.PtpKind) : Host.Outcome Machine.State Machine.Fault Machine.Refusal := Machine.exec (.ptpMessageReceived k m at_) s
    let every := Machine.exec (.ptpIntervalExpiry k at_) s
    let cry (t : Machine.State) (s0 : Machine.State) (code : Nat) (cls : Machine.FClass) (new : Machine.Servo) : Prop :=
      ∃ ev : Machine.EvBody, ev.code = 0x540 ∧ t = reported s0 code cls Machine.locNone (some ev) ∧ t.time.servo = new
    let big := s.tc 16 0 < o.natAbs
    ((s.ptpHears m = false ∨ s.fromMaster m = false) → Machine.exec (.ptpSyncReceived m at_) s = .next s) ∧
    (master → m.twoStep = true → Machine.exec (.ptpSyncReceived m at_) s = .next (tm { q with syncT := some (t2, m.corr, m.seq) })) ∧
    (master → m.twoStep = false → ∃ t, Machine.exec (.ptpSyncReceived m at_) s = .next t ∧ t.time.syncT12 = some (m.time + m.corr, t2) ∧
      (s.sourcePtp = true → t.time.offset = max (-(2 ^ 31 - 1)) (min (2 ^ 31 - 1) o) ∧ t.time.lastAt = some t2) ∧
      (s.sourcePtp = true → q.servo = .locked → big → t.time.outliers = q.outliers + 1 ∧ t.time.phcAdj = q.phcAdj ∧ t.time.freq = q.freq) ∧
      (s.sourcePtp = true → q.servo = .locked → ¬big → t.time.outliers = 0 ∧ t.time.phcAdj = q.phcAdj) ∧
      (s.sourcePtp = true → q.servo = .acquiring → big → t.time.phcAdj = q.phcAdj - o ∧ t.time.stepSeen = true) ∧
      (s.sourcePtp = true → q.servo = .acquiring → t.time.locks = if o.natAbs ≤ s.tc 17 0 then q.locks + 1 else 0) ∧
      (s.sourcePtp = true → q.servo = .holdover → t.time.servo = .acquiring ∧ t.time.locks = 0) ∧ t.clock = s.clock ∧ t.cfg = s.cfg) ∧
    recv .sync = .next s ∧
    (s.ptpHears m = false → recv .announce = .next s ∧ recv .followUp = .next s ∧ recv .delayResp = .next s) ∧
    (master → s.tc 9 0 ≠ 1 → (m.data.drop 19).take 8 = q.master.getD [] →
      recv .announce = .next (tm { q with announces := 0, masterData := Machine.padTo 30 m.data ++ m.src })) ∧
    (s.ptpHears m = true → q.master = none → s.tc 9 0 ≠ 1 → ∃ t, recv .announce = .next t ∧
      t.time.master = some ((m.data.drop 19).take 8) ∧ t.time.announces = 0 ∧ t.time.portState = (if q.servo = .locked then 9 else 8) ∧
      t.time.servo = if s.sourcePtp = true ∧ q.servo = .unlocked then .acquiring else q.servo) ∧
    (∀ b c0, master → q.syncT = some (b, c0, m.seq) → ∃ t, recv .followUp = .next t ∧ t.time.syncT = none ∧
      t.time.syncT12 = some (m.time + (c0 + m.corr), b)) ∧
    (∀ t3 a b, master → m.forUs = true → q.delayT3 = some (t3, m.seq) → q.syncT12 = some (a, b) → recv .delayResp =
      .next (tm { q with delayT3 := none, pathDelay := (b - a + (m.time - t3 - m.corr)) / 2 })) ∧
    (s.ptpMaster = false → recv .delayReq = .next s) ∧
    (s.ptpMaster = true → s.tc 8 0 = 0 → m.domain = (if s.tc 9 0 = 2 then s.tc 11 1 else s.tc 11 0) →
      recv .delayReq = .next { s with tx := s.tx ++ [.ptp 9 m.seq] }) ∧
    (s.ethUp = true → s.tc 8 0 ≠ 0 →
      recv .pdelayReq = .next { s with tx := s.tx ++ [.ptp 3 m.seq] ++ if s.twoStep then [.ptp 10 m.seq] else [] }) ∧
    (∀ t1, s.ethUp = true → m.forUs = true → q.delayT3 = some (t1, m.seq) →
      (m.twoStep = true → recv .pdelayResp = .next (tm { q with pdelay := some (m.time, t2, m.corr) })) ∧
      (m.twoStep = false → recv .pdelayResp = .next (tm { q with delayT3 := none, pathDelay := (t2 - t1 + -m.corr) / 2 })) ∧
      (∀ b d c0, q.pdelay = some (b, d, c0) → recv .pdelayRespFollowUp =
        .next (tm { q with delayT3 := none, pdelay := none, pathDelay := (d - t1 + (b - m.time - c0 - m.corr)) / 2 }))) ∧
    (s.ethUp = false → every = .next s ∧ recv .pdelayReq = .next s ∧ recv .pdelayResp = .next s ∧ recv .pdelayRespFollowUp = .next s) ∧
    (s.ethUp = true → s.ptpMaster = false → k = .announce → q.portState ≠ 1 → every = .next (tm { q with announces := q.announces + 1 })) ∧
    (s.ethUp = true → s.ptpMaster = true → k = .sync → s.twoStep = false → every = .next
      { tm { q with ptpSeq := Machine.kvSet q.ptpSeq 0 (s.nextPtp 0 + 1) } with tx := s.tx ++ [.ptp 0 (s.nextPtp 0)] }) ∧
    (s.ethUp = true → k = .delayReq → s.tc 8 0 = 0 → q.master ≠ none → every = .next
      { tm { q with delayT3 := some (s.txStamp at_, s.nextPtp 1), ptpSeq := Machine.kvSet q.ptpSeq 1 (s.nextPtp 1 + 1) } with
        tx := s.tx ++ [.ptp 1 (s.nextPtp 1)] }) ∧
    (q.servo = .acquiring → 16 ≤ q.locks → Machine.exec .servoLocked s =
      .next (tm { q with servo := .locked, outliers := 0, portState := if q.portState = 8 then 9 else q.portState })) ∧
    ((q.servo ≠ .acquiring ∨ q.locks < 16) → Machine.exec .servoLocked s = .next s) ∧
    (q.servo = .locked → 4 ≤ q.outliers → s.common = true → ∃ t, Machine.exec .servoOutliers s = .next t ∧
      cry t (tm { q with locks := 0, outliers := 0, servo := .acquiring }) 0x281 .f0 .acquiring) ∧
    ((q.servo ≠ .locked ∨ q.outliers < 4) → Machine.exec .servoOutliers s = .next s) ∧
    (s.sourcePtp = true → (q.master = none ∨ q.announces < 3) → Machine.exec .timeSourceLost s = .next s) ∧
    (s.sourcePtp = false → q.servo = .locked → s.common = true → Quiet s 0x280 Machine.locNone → ∃ t, Machine.exec .timeSourceLost s = .next t ∧
      cry t (tm { q with freq := q.integ, servo := .holdover }) 0x280 .f1 .holdover) ∧
    (s.sourcePtp = true → q.master ≠ none → 3 ≤ q.announces → q.servo ≠ .locked →
      Machine.exec .timeSourceLost s = .next (tm { q with master := none, masterData := [], portState := 4 })) ∧
    (q.servo = .holdover → s.common = true → ∃ t, Machine.exec .holdoverExpired s = .next t ∧
      cry t (tm { q with servo := .unlocked }) 0x282 .f1 .unlocked) ∧
    (q.servo ≠ .holdover → Machine.exec .holdoverExpired s = .next s) ∧
    (16 ≤ q.freqHeld → s.common = true → Quiet s 0x285 Machine.locNone →
      Machine.exec .phcFrequencyLimit s = .next (reported s 0x285 .f1 Machine.locNone)) ∧
    (q.freqHeld < 16 → Machine.exec .phcFrequencyLimit s = .next s)

/-- R377, R380, R400 to R407 and R585: a pulse leaves when its time has come, once, and one that was missed is counted and told; an edge
of a selected sense is captured into its FIFO of 16, and a full one drops it with its F0; frames that are not PTP's are received while
there is room; the link's changes move the port state, and a link down for 1 s is a fault. -/
def Obligations.PulsesCapturesAndFrames : Prop :=
  ∀ (s : Machine.State) (n : Nat) (p : Machine.Pps) (clk cl : Int) (cnt cyc ns : Nat) (rising : Bool) (bytes : List Byte),
    let q := s.time
    let tm (t : Machine.TimeUnit) : Machine.State := { s with time := t }
    let now := (if s.tf 23 1 n = 0 then s.phc clk else cl).toNat
    let c : Machine.Capture := { phc := s.phc clk, cycle := cyc, off := ns, rising := rising }
    let fifo := q.fifo.getD n []
    let selected := n ≤ 3 ∧ (s.tf 28 0 n = 2 ∨ s.tf 28 0 n = 0 ∧ rising = true ∨ s.tf 28 0 n = 1 ∧ rising = false)
    let edge := Machine.exec (.capEdge n rising clk cyc ns) s
    let ty := if Machine.be bytes 12 2 = 0x8100 then Machine.be bytes 16 2 else Machine.be bytes 12 2
    let total := (q.ethRx.map List.length).sum + bytes.length
    (q.pps[n]? = none → Machine.exec (.ppsEdge n clk cl) s = .next s ∧ Machine.exec (.pulseMissed n cnt) s = .next s) ∧
    (s.ppsMode n = 0 → Machine.exec (.ppsEdge n clk cl) s = .next s ∧ Machine.exec (.pulseMissed n cnt) s = .next s) ∧
    (∀ a, q.pps[n]? = some p → s.ppsMode n ≠ 0 → s.faults.f3 = false → p.level = false → p.next = some a →
      (a ≤ now → Machine.exec (.ppsEdge n clk cl) s =
        .next { tm { q with pps := Machine.setAt q.pps n { p with level := true, n := p.n + 1 } } with tx := s.tx ++ [.pulse n a] }) ∧
      (now < a → Machine.exec (.ppsEdge n clk cl) s = .next s)) ∧
    (∀ a, q.pps[n]? = some p → s.ppsMode n = 1 → s.faults.f3 = false → p.level = true → p.next = some a → a + s.tf 26 0 n ≤ now →
      Machine.exec (.ppsEdge n clk cl) s = .next (tm { q with pps := Machine.setAt q.pps n { p with level := false, next := none } })) ∧
    (q.pps[n]? = some p → s.ppsMode n ≠ 0 → s.common = true → ∃ t ev, Machine.exec (.pulseMissed n cnt) s = .next t ∧ t.time = { q with
        pulseSeen := true
        pps := Machine.setAt q.pps n { p with
          next := if s.ppsMode n = 2 then p.next.map (fun a => a + cnt * s.tf 25 0 n) else none, n := p.n + cnt } } ∧
      t.faults = (reported s 0x287 .f0 Machine.locNone (some ev)).faults ∧ ev.code = 0x544 ∧
      t = { s with time := t.time, faults := t.faults, host := t.host, tx := t.tx }) ∧
    (¬selected → edge = .next s) ∧
    (selected → s.tc 14 0 ≠ n + 1 → fifo.length < 16 → (s.tf 30 0 n ≠ 1 ∨ 4 ≤ q.capReports) →
      edge = .next (tm { q with fifo := Machine.setAt q.fifo n (fifo ++ [c]) })) ∧
    (selected → s.tc 14 0 ≠ n + 1 → fifo.length < 16 → s.tf 30 0 n = 1 → q.capReports < 4 → s.common = true → ∃ ev : Machine.EvBody,
      ev.code = 0x543 ∧ edge = .next (withBody (tm { q with fifo := Machine.setAt q.fifo n (fifo ++ [c]), capReports := q.capReports + 1
                                                            capDrop := Machine.setAt q.capDrop n 0 }) (.event ev))) ∧
    (selected → s.tc 14 0 ≠ n + 1 → 16 ≤ fifo.length → s.common = true → ∃ t ev, edge = .next t ∧ t.time.fifo = q.fifo ∧
      t.time.capOvf = true ∧ ev.code = 0x543 ∧ t.faults = (reported s 0x286 .f0 Machine.locNone (some ev)).faults ∧
      t = { s with time := t.time, faults := t.faults, host := t.host, tx := t.tx }) ∧
    ((s.ethUp = false ∨ ty = 0x88F7) → Machine.exec (.ethFrameReceived bytes) s = .next s) ∧
    (s.ethUp = true → ty ≠ 0x88F7 → Machine.exec (.ethFrameReceived bytes) s = .next (tm (if total ≤ 16384
      then { q with ethRx := q.ethRx ++ [bytes] } else { q with ethDropped := q.ethDropped + 1 }))) ∧
    (q.ethBusy = true → Machine.exec .ethTransmitComplete s = .next (tm { q with ethBusy := false, ethTx := [], ethTxLen := none })) ∧
    (q.ethBusy = false → Machine.exec .ethTransmitComplete s = .next s) ∧
    (Machine.exec (.sgmiiLinkChange false rising) s =
      .next (tm { q with linkUp := false, portState := if s.tf 0 0 = 1 then 1 else 3 })) ∧
    (s.common = true → Quiet s 0x288 Machine.locNone → s.order.held = [] → s.order.accepted = [] →
      Machine.exec (.sgmiiLinkChange true rising) s = .next (tm { q with linkUp := true, speed1000 := rising
                                                                         portState := if s.tf 0 0 ≠ 1 then 3 else
                                                                           if q.portState = 1 ∨ q.portState = 3 then 4 else q.portState })) ∧
    (s.tf 0 0 = 1 → q.linkUp = false → s.common = true → Quiet s 0x288 Machine.locNone → ∃ ev : Machine.EvBody, ev.code = 0x540 ∧
      Machine.exec .ethLinkDownLimit s = .next (reported s 0x288 .f1 Machine.locNone (some ev))) ∧
    ((s.tf 0 0 ≠ 1 ∨ q.linkUp = true) → Machine.exec .ethLinkDownLimit s = .next s)

/-- The state after reset has the shape that every step keeps (StepKeepsShape): the byte memories canonical, the rings within their
length. What the manual gives for it: STANDBY with PWR_EN low and no F3 kept (Table 16.1, R602), count 0 and the rate correction 0
(R263, R273), the cluster stopped (R262), every safe output off, both channels locked out and every mailbox IDLE (R452, Table 11.8, Table 14.12), no axis (R611 to R614). -/
def Obligations.ResetHasItsShape : Prop :=
  let s := Machine.State.reset
  Shape s ∧ s.power.mode = .standby ∧ s.power.pwrEn = false ∧ s.power.f3Reg = false ∧ s.clock.cycle = 0 ∧ s.clock.kappa = 0 ∧
    s.clock.running = false ∧ AllOff s ∧
    s.safety.proc.lockout = true ∧ s.safety.dyke.lockout = true ∧ (∀ b ∈ s.host.boxes, b.st = .idle) ∧ s.axes = [] ∧ s.cfg = {} ∧ s.pending = []

/-- Every step that answers a next state keeps the shape of the state: the acquisition memory and the MSI-X area stay in their one
canonical form, the event ring on the chip holds at most 256 records (R550), and the engines, mailboxes and branch ports stay
sixteen, sixteen and eight (Table 3.1, Table 14.3, R280). -/
def Obligations.StepKeepsShape : Prop :=
  ∀ s t : Machine.State, Shape s → Machine.step s = .next t → Shape t
end

