-- ==== Sys2Proof/Laws/State.lean ====
section
/-!
SUPPORT. One lemma for each field of State under each of the small updates of State that the meanings share, so that no proof
unfolds a record update.
-/
namespace Sys2Proof.Laws
open Sys2Proof Sys2Proof.Machine

/-! ### updAxis -/

@[simp] theorem updAxis_clock (s : State) (n : Nat) (f : Axis → Axis) : (s.updAxis n f).clock = s.clock := rfl
@[simp] theorem updAxis_net (s : State) (n : Nat) (f : Axis → Axis) : (s.updAxis n f).net = s.net := rfl
@[simp] theorem updAxis_branches (s : State) (n : Nat) (f : Axis → Axis) : (s.updAxis n f).branches = s.branches := rfl
@[simp] theorem updAxis_trunks (s : State) (n : Nat) (f : Axis → Axis) : (s.updAxis n f).trunks = s.trunks := rfl
@[simp] theorem updAxis_relays (s : State) (n : Nat) (f : Axis → Axis) : (s.updAxis n f).relays = s.relays := rfl
@[simp] theorem updAxis_weirs (s : State) (n : Nat) (f : Axis → Axis) : (s.updAxis n f).weirs = s.weirs := rfl
@[simp] theorem updAxis_trunkDrop (s : State) (n : Nat) (f : Axis → Axis) : (s.updAxis n f).trunkDrop = s.trunkDrop := rfl
@[simp] theorem updAxis_nodes (s : State) (n : Nat) (f : Axis → Axis) : (s.updAxis n f).nodes = s.nodes := rfl
@[simp] theorem updAxis_lanes (s : State) (n : Nat) (f : Axis → Axis) : (s.updAxis n f).lanes = s.lanes := rfl
@[simp] theorem updAxis_axes (s : State) (n : Nat) (f : Axis → Axis) : (s.updAxis n f).axes = s.axes.map (fun a => if a.entry.axis = n then f a else a) := rfl
@[simp] theorem updAxis_coupling (s : State) (n : Nat) (f : Axis → Axis) : (s.updAxis n f).coupling = s.coupling := rfl
@[simp] theorem updAxis_engines (s : State) (n : Nat) (f : Axis → Axis) : (s.updAxis n f).engines = s.engines := rfl
@[simp] theorem updAxis_groups (s : State) (n : Nat) (f : Axis → Axis) : (s.updAxis n f).groups = s.groups := rfl
@[simp] theorem updAxis_locals (s : State) (n : Nat) (f : Axis → Axis) : (s.updAxis n f).locals = s.locals := rfl
@[simp] theorem updAxis_kernels (s : State) (n : Nat) (f : Axis → Axis) : (s.updAxis n f).kernels = s.kernels := rfl
@[simp] theorem updAxis_order (s : State) (n : Nat) (f : Axis → Axis) : (s.updAxis n f).order = s.order := rfl
@[simp] theorem updAxis_cfg (s : State) (n : Nat) (f : Axis → Axis) : (s.updAxis n f).cfg = s.cfg := rfl
@[simp] theorem updAxis_events (s : State) (n : Nat) (f : Axis → Axis) : (s.updAxis n f).events = s.events := rfl
@[simp] theorem updAxis_host (s : State) (n : Nat) (f : Axis → Axis) : (s.updAxis n f).host = s.host := rfl
@[simp] theorem updAxis_services (s : State) (n : Nat) (f : Axis → Axis) : (s.updAxis n f).services = s.services := rfl
@[simp] theorem updAxis_time (s : State) (n : Nat) (f : Axis → Axis) : (s.updAxis n f).time = s.time := rfl
@[simp] theorem updAxis_acq (s : State) (n : Nat) (f : Axis → Axis) : (s.updAxis n f).acq = s.acq := rfl
@[simp] theorem updAxis_safety (s : State) (n : Nat) (f : Axis → Axis) : (s.updAxis n f).safety = s.safety := rfl
@[simp] theorem updAxis_drivers (s : State) (n : Nat) (f : Axis → Axis) : (s.updAxis n f).drivers = s.drivers := rfl
@[simp] theorem updAxis_faults (s : State) (n : Nat) (f : Axis → Axis) : (s.updAxis n f).faults = s.faults := rfl
@[simp] theorem updAxis_power (s : State) (n : Nat) (f : Axis → Axis) : (s.updAxis n f).power = s.power := rfl
@[simp] theorem updAxis_tx (s : State) (n : Nat) (f : Axis → Axis) : (s.updAxis n f).tx = s.tx := rfl
@[simp] theorem updAxis_free (s : State) (n : Nat) (f : Axis → Axis) : (s.updAxis n f).free = s.free := rfl
@[simp] theorem updAxis_pending (s : State) (n : Nat) (f : Axis → Axis) : (s.updAxis n f).pending = s.pending := rfl

/-! ### updNode -/

@[simp] theorem updNode_clock (s : State) (n : Nat) (f : NodeRt → NodeRt) : (s.updNode n f).clock = s.clock := rfl
@[simp] theorem updNode_net (s : State) (n : Nat) (f : NodeRt → NodeRt) : (s.updNode n f).net = s.net := rfl
@[simp] theorem updNode_branches (s : State) (n : Nat) (f : NodeRt → NodeRt) : (s.updNode n f).branches = s.branches := rfl
@[simp] theorem updNode_trunks (s : State) (n : Nat) (f : NodeRt → NodeRt) : (s.updNode n f).trunks = s.trunks := rfl
@[simp] theorem updNode_relays (s : State) (n : Nat) (f : NodeRt → NodeRt) : (s.updNode n f).relays = s.relays := rfl
@[simp] theorem updNode_weirs (s : State) (n : Nat) (f : NodeRt → NodeRt) : (s.updNode n f).weirs = s.weirs := rfl
@[simp] theorem updNode_trunkDrop (s : State) (n : Nat) (f : NodeRt → NodeRt) : (s.updNode n f).trunkDrop = s.trunkDrop := rfl
@[simp] theorem updNode_nodes (s : State) (n : Nat) (f : NodeRt → NodeRt) : (s.updNode n f).nodes = s.nodes.map (fun r => if r.node = n then f r else r) := rfl
@[simp] theorem updNode_lanes (s : State) (n : Nat) (f : NodeRt → NodeRt) : (s.updNode n f).lanes = s.lanes := rfl
@[simp] theorem updNode_axes (s : State) (n : Nat) (f : NodeRt → NodeRt) : (s.updNode n f).axes = s.axes := rfl
@[simp] theorem updNode_coupling (s : State) (n : Nat) (f : NodeRt → NodeRt) : (s.updNode n f).coupling = s.coupling := rfl
@[simp] theorem updNode_engines (s : State) (n : Nat) (f : NodeRt → NodeRt) : (s.updNode n f).engines = s.engines := rfl
@[simp] theorem updNode_groups (s : State) (n : Nat) (f : NodeRt → NodeRt) : (s.updNode n f).groups = s.groups := rfl
@[simp] theorem updNode_locals (s : State) (n : Nat) (f : NodeRt → NodeRt) : (s.updNode n f).locals = s.locals := rfl
@[simp] theorem updNode_kernels (s : State) (n : Nat) (f : NodeRt → NodeRt) : (s.updNode n f).kernels = s.kernels := rfl
@[simp] theorem updNode_order (s : State) (n : Nat) (f : NodeRt → NodeRt) : (s.updNode n f).order = s.order := rfl
@[simp] theorem updNode_cfg (s : State) (n : Nat) (f : NodeRt → NodeRt) : (s.updNode n f).cfg = s.cfg := rfl
@[simp] theorem updNode_events (s : State) (n : Nat) (f : NodeRt → NodeRt) : (s.updNode n f).events = s.events := rfl
@[simp] theorem updNode_host (s : State) (n : Nat) (f : NodeRt → NodeRt) : (s.updNode n f).host = s.host := rfl
@[simp] theorem updNode_services (s : State) (n : Nat) (f : NodeRt → NodeRt) : (s.updNode n f).services = s.services := rfl
@[simp] theorem updNode_time (s : State) (n : Nat) (f : NodeRt → NodeRt) : (s.updNode n f).time = s.time := rfl
@[simp] theorem updNode_acq (s : State) (n : Nat) (f : NodeRt → NodeRt) : (s.updNode n f).acq = s.acq := rfl
@[simp] theorem updNode_safety (s : State) (n : Nat) (f : NodeRt → NodeRt) : (s.updNode n f).safety = s.safety := rfl
@[simp] theorem updNode_drivers (s : State) (n : Nat) (f : NodeRt → NodeRt) : (s.updNode n f).drivers = s.drivers := rfl
@[simp] theorem updNode_faults (s : State) (n : Nat) (f : NodeRt → NodeRt) : (s.updNode n f).faults = s.faults := rfl
@[simp] theorem updNode_power (s : State) (n : Nat) (f : NodeRt → NodeRt) : (s.updNode n f).power = s.power := rfl
@[simp] theorem updNode_tx (s : State) (n : Nat) (f : NodeRt → NodeRt) : (s.updNode n f).tx = s.tx := rfl
@[simp] theorem updNode_free (s : State) (n : Nat) (f : NodeRt → NodeRt) : (s.updNode n f).free = s.free := rfl
@[simp] theorem updNode_pending (s : State) (n : Nat) (f : NodeRt → NodeRt) : (s.updNode n f).pending = s.pending := rfl

/-! ### updBranch -/

@[simp] theorem updBranch_clock (s : State) (b : Nat) (f : Branch → Branch) : (s.updBranch b f).clock = s.clock := rfl
@[simp] theorem updBranch_net (s : State) (b : Nat) (f : Branch → Branch) : (s.updBranch b f).net = s.net := rfl
@[simp] theorem updBranch_branches (s : State) (b : Nat) (f : Branch → Branch) : (s.updBranch b f).branches = modAt s.branches b f := rfl
@[simp] theorem updBranch_trunks (s : State) (b : Nat) (f : Branch → Branch) : (s.updBranch b f).trunks = s.trunks := rfl
@[simp] theorem updBranch_relays (s : State) (b : Nat) (f : Branch → Branch) : (s.updBranch b f).relays = s.relays := rfl
@[simp] theorem updBranch_weirs (s : State) (b : Nat) (f : Branch → Branch) : (s.updBranch b f).weirs = s.weirs := rfl
@[simp] theorem updBranch_trunkDrop (s : State) (b : Nat) (f : Branch → Branch) : (s.updBranch b f).trunkDrop = s.trunkDrop := rfl
@[simp] theorem updBranch_nodes (s : State) (b : Nat) (f : Branch → Branch) : (s.updBranch b f).nodes = s.nodes := rfl
@[simp] theorem updBranch_lanes (s : State) (b : Nat) (f : Branch → Branch) : (s.updBranch b f).lanes = s.lanes := rfl
@[simp] theorem updBranch_axes (s : State) (b : Nat) (f : Branch → Branch) : (s.updBranch b f).axes = s.axes := rfl
@[simp] theorem updBranch_coupling (s : State) (b : Nat) (f : Branch → Branch) : (s.updBranch b f).coupling = s.coupling := rfl
@[simp] theorem updBranch_engines (s : State) (b : Nat) (f : Branch → Branch) : (s.updBranch b f).engines = s.engines := rfl
@[simp] theorem updBranch_groups (s : State) (b : Nat) (f : Branch → Branch) : (s.updBranch b f).groups = s.groups := rfl
@[simp] theorem updBranch_locals (s : State) (b : Nat) (f : Branch → Branch) : (s.updBranch b f).locals = s.locals := rfl
@[simp] theorem updBranch_kernels (s : State) (b : Nat) (f : Branch → Branch) : (s.updBranch b f).kernels = s.kernels := rfl
@[simp] theorem updBranch_order (s : State) (b : Nat) (f : Branch → Branch) : (s.updBranch b f).order = s.order := rfl
@[simp] theorem updBranch_cfg (s : State) (b : Nat) (f : Branch → Branch) : (s.updBranch b f).cfg = s.cfg := rfl
@[simp] theorem updBranch_events (s : State) (b : Nat) (f : Branch → Branch) : (s.updBranch b f).events = s.events := rfl
@[simp] theorem updBranch_host (s : State) (b : Nat) (f : Branch → Branch) : (s.updBranch b f).host = s.host := rfl
@[simp] theorem updBranch_services (s : State) (b : Nat) (f : Branch → Branch) : (s.updBranch b f).services = s.services := rfl
@[simp] theorem updBranch_time (s : State) (b : Nat) (f : Branch → Branch) : (s.updBranch b f).time = s.time := rfl
@[simp] theorem updBranch_acq (s : State) (b : Nat) (f : Branch → Branch) : (s.updBranch b f).acq = s.acq := rfl
@[simp] theorem updBranch_safety (s : State) (b : Nat) (f : Branch → Branch) : (s.updBranch b f).safety = s.safety := rfl
@[simp] theorem updBranch_drivers (s : State) (b : Nat) (f : Branch → Branch) : (s.updBranch b f).drivers = s.drivers := rfl
@[simp] theorem updBranch_faults (s : State) (b : Nat) (f : Branch → Branch) : (s.updBranch b f).faults = s.faults := rfl
@[simp] theorem updBranch_power (s : State) (b : Nat) (f : Branch → Branch) : (s.updBranch b f).power = s.power := rfl
@[simp] theorem updBranch_tx (s : State) (b : Nat) (f : Branch → Branch) : (s.updBranch b f).tx = s.tx := rfl
@[simp] theorem updBranch_free (s : State) (b : Nat) (f : Branch → Branch) : (s.updBranch b f).free = s.free := rfl
@[simp] theorem updBranch_pending (s : State) (b : Nat) (f : Branch → Branch) : (s.updBranch b f).pending = s.pending := rfl

/-! ### updEngine -/

@[simp] theorem updEngine_clock (s : State) (n : Nat) (f : Engine → Engine) : (s.updEngine n f).clock = s.clock := rfl
@[simp] theorem updEngine_net (s : State) (n : Nat) (f : Engine → Engine) : (s.updEngine n f).net = s.net := rfl
@[simp] theorem updEngine_branches (s : State) (n : Nat) (f : Engine → Engine) : (s.updEngine n f).branches = s.branches := rfl
@[simp] theorem updEngine_trunks (s : State) (n : Nat) (f : Engine → Engine) : (s.updEngine n f).trunks = s.trunks := rfl
@[simp] theorem updEngine_relays (s : State) (n : Nat) (f : Engine → Engine) : (s.updEngine n f).relays = s.relays := rfl
@[simp] theorem updEngine_weirs (s : State) (n : Nat) (f : Engine → Engine) : (s.updEngine n f).weirs = s.weirs := rfl
@[simp] theorem updEngine_trunkDrop (s : State) (n : Nat) (f : Engine → Engine) : (s.updEngine n f).trunkDrop = s.trunkDrop := rfl
@[simp] theorem updEngine_nodes (s : State) (n : Nat) (f : Engine → Engine) : (s.updEngine n f).nodes = s.nodes := rfl
@[simp] theorem updEngine_lanes (s : State) (n : Nat) (f : Engine → Engine) : (s.updEngine n f).lanes = s.lanes := rfl
@[simp] theorem updEngine_axes (s : State) (n : Nat) (f : Engine → Engine) : (s.updEngine n f).axes = s.axes := rfl
@[simp] theorem updEngine_coupling (s : State) (n : Nat) (f : Engine → Engine) : (s.updEngine n f).coupling = s.coupling := rfl
@[simp] theorem updEngine_engines (s : State) (n : Nat) (f : Engine → Engine) : (s.updEngine n f).engines = modAt s.engines n f := rfl
@[simp] theorem updEngine_groups (s : State) (n : Nat) (f : Engine → Engine) : (s.updEngine n f).groups = s.groups := rfl
@[simp] theorem updEngine_locals (s : State) (n : Nat) (f : Engine → Engine) : (s.updEngine n f).locals = s.locals := rfl
@[simp] theorem updEngine_kernels (s : State) (n : Nat) (f : Engine → Engine) : (s.updEngine n f).kernels = s.kernels := rfl
@[simp] theorem updEngine_order (s : State) (n : Nat) (f : Engine → Engine) : (s.updEngine n f).order = s.order := rfl
@[simp] theorem updEngine_cfg (s : State) (n : Nat) (f : Engine → Engine) : (s.updEngine n f).cfg = s.cfg := rfl
@[simp] theorem updEngine_events (s : State) (n : Nat) (f : Engine → Engine) : (s.updEngine n f).events = s.events := rfl
@[simp] theorem updEngine_host (s : State) (n : Nat) (f : Engine → Engine) : (s.updEngine n f).host = s.host := rfl
@[simp] theorem updEngine_services (s : State) (n : Nat) (f : Engine → Engine) : (s.updEngine n f).services = s.services := rfl
@[simp] theorem updEngine_time (s : State) (n : Nat) (f : Engine → Engine) : (s.updEngine n f).time = s.time := rfl
@[simp] theorem updEngine_acq (s : State) (n : Nat) (f : Engine → Engine) : (s.updEngine n f).acq = s.acq := rfl
@[simp] theorem updEngine_safety (s : State) (n : Nat) (f : Engine → Engine) : (s.updEngine n f).safety = s.safety := rfl
@[simp] theorem updEngine_drivers (s : State) (n : Nat) (f : Engine → Engine) : (s.updEngine n f).drivers = s.drivers := rfl
@[simp] theorem updEngine_faults (s : State) (n : Nat) (f : Engine → Engine) : (s.updEngine n f).faults = s.faults := rfl
@[simp] theorem updEngine_power (s : State) (n : Nat) (f : Engine → Engine) : (s.updEngine n f).power = s.power := rfl
@[simp] theorem updEngine_tx (s : State) (n : Nat) (f : Engine → Engine) : (s.updEngine n f).tx = s.tx := rfl
@[simp] theorem updEngine_free (s : State) (n : Nat) (f : Engine → Engine) : (s.updEngine n f).free = s.free := rfl
@[simp] theorem updEngine_pending (s : State) (n : Nat) (f : Engine → Engine) : (s.updEngine n f).pending = s.pending := rfl

/-! ### updSdo -/

@[simp] theorem updSdo_clock (s : State) (n : Nat) (f : Sdo → Sdo) : (s.updSdo n f).clock = s.clock := rfl
@[simp] theorem updSdo_net (s : State) (n : Nat) (f : Sdo → Sdo) : (s.updSdo n f).net = s.net := rfl
@[simp] theorem updSdo_branches (s : State) (n : Nat) (f : Sdo → Sdo) : (s.updSdo n f).branches = s.branches := rfl
@[simp] theorem updSdo_trunks (s : State) (n : Nat) (f : Sdo → Sdo) : (s.updSdo n f).trunks = s.trunks := rfl
@[simp] theorem updSdo_relays (s : State) (n : Nat) (f : Sdo → Sdo) : (s.updSdo n f).relays = s.relays := rfl
@[simp] theorem updSdo_weirs (s : State) (n : Nat) (f : Sdo → Sdo) : (s.updSdo n f).weirs = s.weirs := rfl
@[simp] theorem updSdo_trunkDrop (s : State) (n : Nat) (f : Sdo → Sdo) : (s.updSdo n f).trunkDrop = s.trunkDrop := rfl
@[simp] theorem updSdo_nodes (s : State) (n : Nat) (f : Sdo → Sdo) : (s.updSdo n f).nodes = s.nodes := rfl
@[simp] theorem updSdo_lanes (s : State) (n : Nat) (f : Sdo → Sdo) : (s.updSdo n f).lanes = s.lanes := rfl
@[simp] theorem updSdo_axes (s : State) (n : Nat) (f : Sdo → Sdo) : (s.updSdo n f).axes = s.axes := rfl
@[simp] theorem updSdo_coupling (s : State) (n : Nat) (f : Sdo → Sdo) : (s.updSdo n f).coupling = s.coupling := rfl
@[simp] theorem updSdo_engines (s : State) (n : Nat) (f : Sdo → Sdo) : (s.updSdo n f).engines = s.engines := rfl
@[simp] theorem updSdo_groups (s : State) (n : Nat) (f : Sdo → Sdo) : (s.updSdo n f).groups = s.groups := rfl
@[simp] theorem updSdo_locals (s : State) (n : Nat) (f : Sdo → Sdo) : (s.updSdo n f).locals = s.locals := rfl
@[simp] theorem updSdo_kernels (s : State) (n : Nat) (f : Sdo → Sdo) : (s.updSdo n f).kernels = s.kernels := rfl
@[simp] theorem updSdo_order (s : State) (n : Nat) (f : Sdo → Sdo) : (s.updSdo n f).order = s.order := rfl
@[simp] theorem updSdo_cfg (s : State) (n : Nat) (f : Sdo → Sdo) : (s.updSdo n f).cfg = s.cfg := rfl
@[simp] theorem updSdo_events (s : State) (n : Nat) (f : Sdo → Sdo) : (s.updSdo n f).events = s.events := rfl
@[simp] theorem updSdo_host (s : State) (n : Nat) (f : Sdo → Sdo) : (s.updSdo n f).host = s.host := rfl
@[simp] theorem updSdo_services (s : State) (n : Nat) (f : Sdo → Sdo) : (s.updSdo n f).services = s.services := rfl
@[simp] theorem updSdo_time (s : State) (n : Nat) (f : Sdo → Sdo) : (s.updSdo n f).time = s.time := rfl
@[simp] theorem updSdo_acq (s : State) (n : Nat) (f : Sdo → Sdo) : (s.updSdo n f).acq = s.acq := rfl
@[simp] theorem updSdo_safety (s : State) (n : Nat) (f : Sdo → Sdo) : (s.updSdo n f).safety = s.safety := rfl
@[simp] theorem updSdo_drivers (s : State) (n : Nat) (f : Sdo → Sdo) : (s.updSdo n f).drivers = { s.drivers with outs := modAt s.drivers.outs n f } := rfl
@[simp] theorem updSdo_faults (s : State) (n : Nat) (f : Sdo → Sdo) : (s.updSdo n f).faults = s.faults := rfl
@[simp] theorem updSdo_power (s : State) (n : Nat) (f : Sdo → Sdo) : (s.updSdo n f).power = s.power := rfl
@[simp] theorem updSdo_tx (s : State) (n : Nat) (f : Sdo → Sdo) : (s.updSdo n f).tx = s.tx := rfl
@[simp] theorem updSdo_free (s : State) (n : Nat) (f : Sdo → Sdo) : (s.updSdo n f).free = s.free := rfl
@[simp] theorem updSdo_pending (s : State) (n : Nat) (f : Sdo → Sdo) : (s.updSdo n f).pending = s.pending := rfl

/-! ### updLocal -/

@[simp] theorem updLocal_clock (s : State) (n : Nat) (f : LocalChan → LocalChan) : (s.updLocal n f).clock = s.clock := rfl
@[simp] theorem updLocal_net (s : State) (n : Nat) (f : LocalChan → LocalChan) : (s.updLocal n f).net = s.net := rfl
@[simp] theorem updLocal_branches (s : State) (n : Nat) (f : LocalChan → LocalChan) : (s.updLocal n f).branches = s.branches := rfl
@[simp] theorem updLocal_trunks (s : State) (n : Nat) (f : LocalChan → LocalChan) : (s.updLocal n f).trunks = s.trunks := rfl
@[simp] theorem updLocal_relays (s : State) (n : Nat) (f : LocalChan → LocalChan) : (s.updLocal n f).relays = s.relays := rfl
@[simp] theorem updLocal_weirs (s : State) (n : Nat) (f : LocalChan → LocalChan) : (s.updLocal n f).weirs = s.weirs := rfl
@[simp] theorem updLocal_trunkDrop (s : State) (n : Nat) (f : LocalChan → LocalChan) : (s.updLocal n f).trunkDrop = s.trunkDrop := rfl
@[simp] theorem updLocal_nodes (s : State) (n : Nat) (f : LocalChan → LocalChan) : (s.updLocal n f).nodes = s.nodes := rfl
@[simp] theorem updLocal_lanes (s : State) (n : Nat) (f : LocalChan → LocalChan) : (s.updLocal n f).lanes = s.lanes := rfl
@[simp] theorem updLocal_axes (s : State) (n : Nat) (f : LocalChan → LocalChan) : (s.updLocal n f).axes = s.axes := rfl
@[simp] theorem updLocal_coupling (s : State) (n : Nat) (f : LocalChan → LocalChan) : (s.updLocal n f).coupling = s.coupling := rfl
@[simp] theorem updLocal_engines (s : State) (n : Nat) (f : LocalChan → LocalChan) : (s.updLocal n f).engines = s.engines := rfl
@[simp] theorem updLocal_groups (s : State) (n : Nat) (f : LocalChan → LocalChan) : (s.updLocal n f).groups = s.groups := rfl
@[simp] theorem updLocal_locals (s : State) (n : Nat) (f : LocalChan → LocalChan) : (s.updLocal n f).locals = modAt s.locals n f := rfl
@[simp] theorem updLocal_kernels (s : State) (n : Nat) (f : LocalChan → LocalChan) : (s.updLocal n f).kernels = s.kernels := rfl
@[simp] theorem updLocal_order (s : State) (n : Nat) (f : LocalChan → LocalChan) : (s.updLocal n f).order = s.order := rfl
@[simp] theorem updLocal_cfg (s : State) (n : Nat) (f : LocalChan → LocalChan) : (s.updLocal n f).cfg = s.cfg := rfl
@[simp] theorem updLocal_events (s : State) (n : Nat) (f : LocalChan → LocalChan) : (s.updLocal n f).events = s.events := rfl
@[simp] theorem updLocal_host (s : State) (n : Nat) (f : LocalChan → LocalChan) : (s.updLocal n f).host = s.host := rfl
@[simp] theorem updLocal_services (s : State) (n : Nat) (f : LocalChan → LocalChan) : (s.updLocal n f).services = s.services := rfl
@[simp] theorem updLocal_time (s : State) (n : Nat) (f : LocalChan → LocalChan) : (s.updLocal n f).time = s.time := rfl
@[simp] theorem updLocal_acq (s : State) (n : Nat) (f : LocalChan → LocalChan) : (s.updLocal n f).acq = s.acq := rfl
@[simp] theorem updLocal_safety (s : State) (n : Nat) (f : LocalChan → LocalChan) : (s.updLocal n f).safety = s.safety := rfl
@[simp] theorem updLocal_drivers (s : State) (n : Nat) (f : LocalChan → LocalChan) : (s.updLocal n f).drivers = s.drivers := rfl
@[simp] theorem updLocal_faults (s : State) (n : Nat) (f : LocalChan → LocalChan) : (s.updLocal n f).faults = s.faults := rfl
@[simp] theorem updLocal_power (s : State) (n : Nat) (f : LocalChan → LocalChan) : (s.updLocal n f).power = s.power := rfl
@[simp] theorem updLocal_tx (s : State) (n : Nat) (f : LocalChan → LocalChan) : (s.updLocal n f).tx = s.tx := rfl
@[simp] theorem updLocal_free (s : State) (n : Nat) (f : LocalChan → LocalChan) : (s.updLocal n f).free = s.free := rfl
@[simp] theorem updLocal_pending (s : State) (n : Nat) (f : LocalChan → LocalChan) : (s.updLocal n f).pending = s.pending := rfl

/-! ### updTest -/

@[simp] theorem updTest_clock (s : State) (n : Nat) (f : Test → Test) : (s.updTest n f).clock = s.clock := rfl
@[simp] theorem updTest_net (s : State) (n : Nat) (f : Test → Test) : (s.updTest n f).net = s.net := rfl
@[simp] theorem updTest_branches (s : State) (n : Nat) (f : Test → Test) : (s.updTest n f).branches = s.branches := rfl
@[simp] theorem updTest_trunks (s : State) (n : Nat) (f : Test → Test) : (s.updTest n f).trunks = s.trunks := rfl
@[simp] theorem updTest_relays (s : State) (n : Nat) (f : Test → Test) : (s.updTest n f).relays = s.relays := rfl
@[simp] theorem updTest_weirs (s : State) (n : Nat) (f : Test → Test) : (s.updTest n f).weirs = s.weirs := rfl
@[simp] theorem updTest_trunkDrop (s : State) (n : Nat) (f : Test → Test) : (s.updTest n f).trunkDrop = s.trunkDrop := rfl
@[simp] theorem updTest_nodes (s : State) (n : Nat) (f : Test → Test) : (s.updTest n f).nodes = s.nodes := rfl
@[simp] theorem updTest_lanes (s : State) (n : Nat) (f : Test → Test) : (s.updTest n f).lanes = s.lanes := rfl
@[simp] theorem updTest_axes (s : State) (n : Nat) (f : Test → Test) : (s.updTest n f).axes = s.axes := rfl
@[simp] theorem updTest_coupling (s : State) (n : Nat) (f : Test → Test) : (s.updTest n f).coupling = s.coupling := rfl
@[simp] theorem updTest_engines (s : State) (n : Nat) (f : Test → Test) : (s.updTest n f).engines = s.engines := rfl
@[simp] theorem updTest_groups (s : State) (n : Nat) (f : Test → Test) : (s.updTest n f).groups = s.groups := rfl
@[simp] theorem updTest_locals (s : State) (n : Nat) (f : Test → Test) : (s.updTest n f).locals = s.locals := rfl
@[simp] theorem updTest_kernels (s : State) (n : Nat) (f : Test → Test) : (s.updTest n f).kernels = s.kernels := rfl
@[simp] theorem updTest_order (s : State) (n : Nat) (f : Test → Test) : (s.updTest n f).order = s.order := rfl
@[simp] theorem updTest_cfg (s : State) (n : Nat) (f : Test → Test) : (s.updTest n f).cfg = s.cfg := rfl
@[simp] theorem updTest_events (s : State) (n : Nat) (f : Test → Test) : (s.updTest n f).events = s.events := rfl
@[simp] theorem updTest_host (s : State) (n : Nat) (f : Test → Test) : (s.updTest n f).host = s.host := rfl
@[simp] theorem updTest_services (s : State) (n : Nat) (f : Test → Test) : (s.updTest n f).services = s.services := rfl
@[simp] theorem updTest_time (s : State) (n : Nat) (f : Test → Test) : (s.updTest n f).time = s.time := rfl
@[simp] theorem updTest_acq (s : State) (n : Nat) (f : Test → Test) : (s.updTest n f).acq = s.acq := rfl
@[simp] theorem updTest_safety (s : State) (n : Nat) (f : Test → Test) : (s.updTest n f).safety = { s.safety with tests := modAt s.safety.tests n f } := rfl
@[simp] theorem updTest_drivers (s : State) (n : Nat) (f : Test → Test) : (s.updTest n f).drivers = s.drivers := rfl
@[simp] theorem updTest_faults (s : State) (n : Nat) (f : Test → Test) : (s.updTest n f).faults = s.faults := rfl
@[simp] theorem updTest_power (s : State) (n : Nat) (f : Test → Test) : (s.updTest n f).power = s.power := rfl
@[simp] theorem updTest_tx (s : State) (n : Nat) (f : Test → Test) : (s.updTest n f).tx = s.tx := rfl
@[simp] theorem updTest_free (s : State) (n : Nat) (f : Test → Test) : (s.updTest n f).free = s.free := rfl
@[simp] theorem updTest_pending (s : State) (n : Nat) (f : Test → Test) : (s.updTest n f).pending = s.pending := rfl

/-! ### send -/

@[simp] theorem send_clock (s : State) (t : Tx) : (s.send t).clock = s.clock := rfl
@[simp] theorem send_net (s : State) (t : Tx) : (s.send t).net = s.net := rfl
@[simp] theorem send_branches (s : State) (t : Tx) : (s.send t).branches = s.branches := rfl
@[simp] theorem send_trunks (s : State) (t : Tx) : (s.send t).trunks = s.trunks := rfl
@[simp] theorem send_relays (s : State) (t : Tx) : (s.send t).relays = s.relays := rfl
@[simp] theorem send_weirs (s : State) (t : Tx) : (s.send t).weirs = s.weirs := rfl
@[simp] theorem send_trunkDrop (s : State) (t : Tx) : (s.send t).trunkDrop = s.trunkDrop := rfl
@[simp] theorem send_nodes (s : State) (t : Tx) : (s.send t).nodes = s.nodes := rfl
@[simp] theorem send_lanes (s : State) (t : Tx) : (s.send t).lanes = s.lanes := rfl
@[simp] theorem send_axes (s : State) (t : Tx) : (s.send t).axes = s.axes := rfl
@[simp] theorem send_coupling (s : State) (t : Tx) : (s.send t).coupling = s.coupling := rfl
@[simp] theorem send_engines (s : State) (t : Tx) : (s.send t).engines = s.engines := rfl
@[simp] theorem send_groups (s : State) (t : Tx) : (s.send t).groups = s.groups := rfl
@[simp] theorem send_locals (s : State) (t : Tx) : (s.send t).locals = s.locals := rfl
@[simp] theorem send_kernels (s : State) (t : Tx) : (s.send t).kernels = s.kernels := rfl
@[simp] theorem send_order (s : State) (t : Tx) : (s.send t).order = s.order := rfl
@[simp] theorem send_cfg (s : State) (t : Tx) : (s.send t).cfg = s.cfg := rfl
@[simp] theorem send_events (s : State) (t : Tx) : (s.send t).events = s.events := rfl
@[simp] theorem send_host (s : State) (t : Tx) : (s.send t).host = s.host := rfl
@[simp] theorem send_services (s : State) (t : Tx) : (s.send t).services = s.services := rfl
@[simp] theorem send_time (s : State) (t : Tx) : (s.send t).time = s.time := rfl
@[simp] theorem send_acq (s : State) (t : Tx) : (s.send t).acq = s.acq := rfl
@[simp] theorem send_safety (s : State) (t : Tx) : (s.send t).safety = s.safety := rfl
@[simp] theorem send_drivers (s : State) (t : Tx) : (s.send t).drivers = s.drivers := rfl
@[simp] theorem send_faults (s : State) (t : Tx) : (s.send t).faults = s.faults := rfl
@[simp] theorem send_power (s : State) (t : Tx) : (s.send t).power = s.power := rfl
@[simp] theorem send_tx (s : State) (t : Tx) : (s.send t).tx = s.tx ++ [t] := rfl
@[simp] theorem send_free (s : State) (t : Tx) : (s.send t).free = s.free := rfl
@[simp] theorem send_pending (s : State) (t : Tx) : (s.send t).pending = s.pending := rfl

/-! ### Updates over the above -/

@[simp] theorem updPos_eq (s : State) (b p : Nat) (f : Position → Position) :
    s.updPos b p f = s.updBranch b (fun r => { r with poss := modAt r.poss p f }) := rfl
@[simp] theorem updDec_eq (s : State) (n : Nat) (f : Decoder → Decoder) :
    s.updDec n f = s.updAxis n (fun a => { a with dec := f a.dec }) := rfl
@[simp] theorem updMot_eq (s : State) (n : Nat) (f : MotionRt → MotionRt) :
    s.updMot n f = s.updAxis n (fun a => { a with mot := f a.mot }) := rfl

end Sys2Proof.Laws
end

