-- ==== Sys2Proof/Laws/Tables.lean ====
section
/-!
SUPPORT. The tables kept by key and the lists changed at one place: what they hold after an operation.
-/
namespace Sys2Proof.Laws
open Sys2Proof Sys2Proof.Machine

/-! ### Lists changed at one place -/

@[simp] theorem modAt_length {α : Type} (f : α → α) : ∀ (l : List α) (n : Nat), (modAt l n f).length = l.length
  | [], _ => by simp [modAt]
  | _ :: r, 0 => by simp [modAt]
  | _ :: r, n + 1 => by simp [modAt, modAt_length f r n]

/-- The changed place holds the changed entry, every other place what it held. -/
theorem modAt_getElem? {α : Type} (f : α → α) : ∀ (l : List α) (n m : Nat),
    (modAt l n f)[m]? = if m = n then (l[m]?).map f else l[m]?
  | [], n, m => by simp [modAt]
  | a :: r, 0, 0 => by simp [modAt]
  | a :: r, 0, m + 1 => by simp [modAt]
  | a :: r, n + 1, 0 => by simp [modAt]
  | a :: r, n + 1, m + 1 => by simp [modAt, modAt_getElem? f r n m]

@[simp] theorem setAt_length {α : Type} (l : List α) (n : Nat) (a : α) : (setAt l n a).length = l.length := modAt_length _ l n

theorem setAt_getElem? {α : Type} (l : List α) (n m : Nat) (a : α) :
    (setAt l n a)[m]? = if m = n then (l[m]?).map (fun _ => a) else l[m]? := modAt_getElem? _ l n m

/-! ### Tables by key -/

theorem kvGet_append {α β : Type} [DecidableEq α] (k : α) : ∀ l r : List (α × β), kvGet (l ++ r) k = (kvGet l k).or (kvGet r k)
  | [], r => by simp [kvGet]
  | (a, b) :: l, r => by
    by_cases h : a = k
    · simp [kvGet, h]
    · simp [kvGet, h, kvGet_append k l r]

/-- A key taken out is none; every other key stays. -/
theorem kvGet_kvDel {α β : Type} [DecidableEq α] (k j : α) : ∀ l : List (α × β), kvGet (kvDel l k) j = if j = k then none else kvGet l j
  | [] => by simp [kvDel, kvGet]
  | (a, b) :: l => by
    have ih := kvGet_kvDel k j l
    unfold kvDel at ih ⊢
    by_cases h : a = k
    · subst h
      by_cases hj : j = a
      · simpa [List.filter, hj] using ih
      · simpa [List.filter, kvGet, hj, Ne.symm hj] using ih
    · by_cases hj : a = j
      · subst hj; simp [List.filter, kvGet, h]
      · simpa [List.filter, kvGet, h, hj] using ih

/-- A key put in holds its value; every other key stays. -/
theorem kvGet_kvSet {α β : Type} [DecidableEq α] (l : List (α × β)) (k j : α) (v : β) :
    kvGet (kvSet l k v) j = if j = k then some v else kvGet l j := by
  unfold kvSet
  rw [kvGet_append, kvGet_kvDel]
  by_cases h : j = k
  · subst h; simp [kvGet]
  · simp [kvGet, h, Ne.symm h]

/-! ### Bytes -/

@[simp] theorem toLe_length : ∀ n v : Nat, (toLe n v).length = n
  | 0, _ => rfl
  | n + 1, v => by simp [toLe, toLe_length n]

/-- The bytes of a value give its low part back (R6). -/
theorem leNat_toLe : ∀ n v : Nat, leNat (toLe n v) = v % 256 ^ n
  | 0, v => by simp [toLe, leNat, Nat.mod_one]
  | n + 1, v => by
    have h : (BitVec.ofNat 8 v).toNat = v % 256 := BitVec.toNat_ofNat v 8
    rw [toLe, leNat, leNat_toLe n, h, Nat.pow_succ', Nat.mod_mul]

@[simp] theorem padTo_length (n : Nat) (bs : List Byte) : (padTo n bs).length = n := by
  simp [padTo]; omega

end Sys2Proof.Laws
end

