-- ==== Sys2Proof/Laws/Engine.lean ====
section
/-!
SUPPORT. The slot operations of the loop engines: everything a slot command can do, said once for each slot, and the arithmetic that
holds a result at the ends of its range.
-/
namespace Sys2Proof.Laws
open Sys2Proof Sys2Proof.Machine

/-- Everything an operation of an engine can do: an engine the chip does not have leaves the state; one that it has is replaced, and
nothing else changes; or the access outside the map is the fault. -/
theorem engineDo_cases (s : State) (n : Nat) (f : (Nat → BitVec 32) → Engine → Except Nat Engine) :
    (s.engines[n]? = none ∧ s.engineDo n f = .next s) ∨
    (∃ e e', s.engines[n]? = some e ∧ f (s.ctxOf e) e = .ok e' ∧ s.engineDo n f = .next (s.updEngine n (fun _ => e'))) ∨
    (∃ e w, s.engines[n]? = some e ∧ f (s.ctxOf e) e = .error w ∧ s.engineDo n f = .fault (.engineAddress w)) := by
  cases h : s.engines[n]? with
  | none => exact .inl ⟨rfl, by simp [State.engineDo, h]⟩
  | some e =>
    cases h' : f (s.ctxOf e) e with
    | ok e' => exact .inr (.inl ⟨e, e', rfl, h', by simp [State.engineDo, h, h']⟩)
    | error w => exact .inr (.inr ⟨e, w, rfl, h', by simp [State.engineDo, h, h']⟩)

/-- The next state of an operation of an engine differs from the state before in that engine alone. -/
theorem engineDo_next {s t : State} {n : Nat} {f : (Nat → BitVec 32) → Engine → Except Nat Engine} (h : s.engineDo n f = .next t) :
    t = { s with engines := t.engines } ∧ t.engines.length = s.engines.length ∧ ∀ m, m ≠ n → t.engines[m]? = s.engines[m]? := by
  obtain ⟨-, he⟩ | ⟨e, e', -, -, he⟩ | ⟨e, w, -, -, he⟩ := engineDo_cases s n f
  · rw [he] at h; cases h; exact ⟨rfl, rfl, fun _ _ => rfl⟩
  · rw [he] at h; cases h
    refine ⟨rfl, by simp, fun m hm => ?_⟩
    simp [modAt_getElem?, hm]
  · rw [he] at h; cases h

/-- A slot command leaves its engine's registers and memories as they were until the bundle closes (R121): it changes the timing of the
open bundle and the writes it will make, and nothing else. -/
theorem slot_next {e e' : Engine} {isMac : Bool} {op : SlotOp} {ctx : Nat → BitVec 32} (h : e.slot isMac op ctx = .ok e') :
    e' = { e with bundle := e'.bundle, commit := e'.commit } := by
  unfold Engine.slot at h
  dsimp only at h
  split at h
  · cases hx : op.eff ctx (e.note isMac op.info) with
    | error w => rw [hx] at h; cases h
    | ok c => rw [hx] at h; cases h; rfl
  · cases h; rfl

/-- An integer held within the range of a signed word is that of the word formed from it. -/
theorem toInt_clamp (w : Nat) (x : Int) (hw : 0 < w) :
    (BitVec.ofInt w (clampI (-(2 ^ (w - 1))) (2 ^ (w - 1) - 1) x)).toInt = max (-(2 ^ (w - 1))) (min (2 ^ (w - 1) - 1) x) := by
  obtain ⟨k, rfl⟩ : ∃ k, w = k + 1 := ⟨w - 1, by omega⟩
  have h1 : (2 : Int) ^ k > 0 := by positivity
  have h2 : ((2 : Int) ^ (k + 1)) / 2 = 2 ^ k := by rw [pow_succ]; omega
  have h3 : ((2 : Int) ^ (k + 1) + 1) / 2 = 2 ^ k := by rw [pow_succ]; omega
  rw [BitVec.toInt_ofInt]
  simp only [clampI, Nat.add_sub_cancel]
  rw [Int.bmod_eq_of_le]
  · push_cast; rw [h2]; omega
  · push_cast; rw [h3]; omega

/-- A data register takes an exact result held at the ends of its range (R125). -/
theorem hold32_toInt (z : Int) : (hold32 z).1.toInt = max (-(2 ^ 31)) (min (2 ^ 31 - 1) z) := toInt_clamp 32 z (by omega)

/-- An accumulator takes an exact result held at the ends of its range (R124). -/
theorem accHold_toInt (z : Int) : (accHold z).1.toInt = max (-(2 ^ 79)) (min (2 ^ 79 - 1) z) := toInt_clamp 80 z (by omega)

end Sys2Proof.Laws
end

