-- ==== Sys2Proof/Laws/Memory.lean ====
section
/-!
SUPPORT. The byte memories (log entry 10): every operation keeps the canonical form, a byte reads as it was last written, and
every other byte reads as before.
-/
namespace Sys2Proof.Laws
open Sys2Proof Sys2Proof.Machine

/-- A list that is canonical from a bound is canonical from every lower one. -/
theorem cellsFrom_mono {β : Type} [DecidableEq β] (d : β) {lo lo' : Nat} (h : lo' ≤ lo) :
    ∀ m : List (Nat × β), cellsFrom d lo m = true → cellsFrom d lo' m = true
  | [], _ => rfl
  | (a, b) :: r, hm => by
    simp only [cellsFrom, Bool.and_eq_true, decide_eq_true_eq] at hm ⊢
    exact ⟨⟨Nat.le_trans h hm.1.1, hm.1.2⟩, hm.2⟩

/-- Below its first address a canonical list reads the content of an unlisted address. -/
theorem cellGet_below {β : Type} [DecidableEq β] (d : β) (k : Nat) :
    ∀ (lo : Nat) (m : List (Nat × β)), k < lo → cellsFrom d lo m = true → cellGet d m k = d
  | _, [], _, _ => rfl
  | lo, (a, b) :: r, hk, hm => by
    simp only [cellsFrom, Bool.and_eq_true, decide_eq_true_eq] at hm
    simp only [cellGet, if_neg (show a ≠ k by omega)]
    exact cellGet_below d k (a + 1) r (by omega) hm.2

/-- A write keeps the canonical form. -/
theorem cellSet_canonical {β : Type} [DecidableEq β] (d : β) (k : Nat) (v : β) :
    ∀ (lo : Nat) (m : List (Nat × β)), lo ≤ k → cellsFrom d lo m = true → cellsFrom d lo (cellSet d m k v) = true
  | lo, [], hk, _ => by
    by_cases hv : v = d <;> simp [cellSet, cellsFrom, hv, hk]
  | lo, (a, b) :: r, hk, hm => by
    simp only [cellsFrom, Bool.and_eq_true, decide_eq_true_eq] at hm
    obtain ⟨⟨ha, hb⟩, hr⟩ := hm
    unfold cellSet
    split
    · split
      · simp [cellsFrom, ha, hb, hr]
      · simp [cellsFrom, *]
    · split
      · split
        · exact cellsFrom_mono d (by omega) r hr
        · subst a; simp [cellsFrom, *]
      · have := cellSet_canonical d k v (a + 1) r (by omega) hr
        simp [cellsFrom, ha, hb, this]

/-- What a canonical memory reads as after a write: the written content at its address, and as before at every other one. -/
theorem cellGet_cellSet {β : Type} [DecidableEq β] (d : β) (k : Nat) (v : β) (j : Nat) :
    ∀ (lo : Nat) (m : List (Nat × β)), cellsFrom d lo m = true →
      cellGet d (cellSet d m k v) j = if j = k then v else cellGet d m j
  | _, [], _ => by
    by_cases hv : v = d
    · simp [cellSet, cellGet, hv]
    · by_cases hj : j = k
      · simp [cellSet, cellGet, hv, hj]
      · simp [cellSet, cellGet, hv, hj, Ne.symm hj]
  | lo, (a, b) :: r, hm => by
    simp only [cellsFrom, Bool.and_eq_true, decide_eq_true_eq] at hm
    obtain ⟨⟨ha, hb⟩, hr⟩ := hm
    unfold cellSet
    split
    · have hb' : cellGet d ((a, b) :: r) k = d := by
        simp only [cellGet, if_neg (show a ≠ k by omega)]
        exact cellGet_below d k (a + 1) r (by omega) hr
      split
      · by_cases hj : j = k
        · subst hj; simp_all
        · simp [hj]
      · by_cases hj : j = k
        · subst hj; simp [cellGet]
        · simp only [cellGet, if_neg (Ne.symm hj), if_neg hj]
    · split
      · have hk' : cellGet d r k = d := cellGet_below d k (a + 1) r (by omega) hr
        split
        · by_cases hj : j = k
          · subst hj; simp_all
          · simp only [cellGet, if_neg (show a ≠ j by omega), if_neg hj]
        · by_cases hj : j = k
          · subst hj; simp [cellGet]
          · simp only [cellGet, if_neg (Ne.symm hj), if_neg (show a ≠ j by omega), if_neg hj]
      · have ih := cellGet_cellSet d k v j (a + 1) r hr
        simp only [cellGet, ih]
        by_cases hj : j = k
        · subst hj; simp; omega
        · simp [hj]

/-- Reset memory is canonical: it lists nothing. -/
@[simp] theorem memory_wf_nil : Memory.wf [] = true := rfl

/-- A byte written keeps the form. -/
theorem memWrite_wf (m : List Host.Cell) (a : Nat) (b : Byte) (h : Memory.wf m = true) : Memory.wf (memWrite m a b) = true :=
  cellSet_canonical 0 a b 0 m (Nat.zero_le _) h

/-- Bytes written keep the form. -/
theorem memWriteN_wf : ∀ (bs : List Byte) (m : List Host.Cell) (a : Nat), Memory.wf m = true → Memory.wf (memWriteN m a bs) = true
  | [], _, _, h => h
  | b :: r, m, a, h => memWriteN_wf r (memWrite m a b) (a + 1) (memWrite_wf m a b h)

/-- Read after write, one byte. -/
theorem memRead_memWrite (m : List Host.Cell) (a : Nat) (b : Byte) (k : Nat) (h : Memory.wf m = true) :
    memRead (memWrite m a b) k = if k = a then b else memRead m k :=
  cellGet_cellSet 0 a b k 0 m h

/-- Read after write, a run of bytes: byte `k` of the run inside it, as before outside. -/
theorem memRead_memWriteN (k : Nat) : ∀ (bs : List Byte) (m : List Host.Cell) (a : Nat), Memory.wf m = true →
    memRead (memWriteN m a bs) k = if a ≤ k ∧ k < a + bs.length then bs.getD (k - a) 0 else memRead m k
  | [], m, a, _ => by simp [memWriteN]
  | b :: r, m, a, h => by
    rw [memWriteN, memRead_memWriteN k r _ _ (memWrite_wf m a b h), memRead_memWrite m a b k h]
    by_cases h1 : k = a
    · subst h1; simp
    · by_cases h2 : a + 1 ≤ k ∧ k < a + 1 + r.length
      · obtain ⟨j, rfl⟩ : ∃ j, k = a + 1 + j := ⟨k - (a + 1), by omega⟩
        have e1 : a + 1 + j - a = j + 1 := by omega
        have e2 : a + 1 + j - (a + 1) = j := by omega
        have c : a ≤ a + 1 + j ∧ a + 1 + j < a + (b :: r).length := by simp at h2 ⊢; omega
        rw [if_pos h2, if_pos c, e1, e2]; simp
      · have c : ¬(a ≤ k ∧ k < a + (b :: r).length) := by simp at h2 ⊢; omega
        rw [if_neg h2, if_neg c, if_neg h1]

/-- Outside the bytes written every byte reads as before. -/
theorem memRead_memWriteN_outside (bs : List Byte) (m : List Host.Cell) (a k : Nat) (h : Memory.wf m = true)
    (hk : k < a ∨ a + bs.length ≤ k) : memRead (memWriteN m a bs) k = memRead m k := by
  rw [memRead_memWriteN k bs m a h, if_neg (by omega)]

end Sys2Proof.Laws
end

