-- ==== Sys2Proof/Laws/Reports.lean ====
section
/-!
SUPPORT. The operations that report: everything a record, a lane report, a response and an interrupt can change, said once for each.
-/
namespace Sys2Proof.Laws
open Sys2Proof Sys2Proof.Machine

/-- An interrupt cause sets its bit, and sends at most its vector (R533). -/
theorem irq_eq (s : State) (v : Nat) : ∃ tx, s.irq v =
    { s with host := { s.host with irqStatus := s.host.irqStatus ||| BitVec.ofNat 8 (2 ^ v) }, tx := tx } ∧
    (tx = s.tx ∨ tx = s.tx ++ [.msix v]) := by
  unfold State.irq
  dsimp only
  split
  · exact ⟨_, rfl, .inr rfl⟩
  · exact ⟨_, rfl, .inl rfl⟩

/-- The same for a bit of a status word that became 1 (Table 14.7). -/
theorem irq7_eq (s : State) (was : Bool) : ∃ st tx, s.irq7 was = { s with host := { s.host with irqStatus := st }, tx := tx } := by
  unfold State.irq7
  split
  · exact ⟨_, _, rfl⟩
  · obtain ⟨tx, h, -⟩ := irq_eq s 7
    exact ⟨_, _, h⟩

/-- A record written to the lane's own ring changes the event rings, and with its interrupt the status word and what leaves; the ring
holds at most 256 records (R550). -/
theorem ringWrite_eq (s : State) (r : EvRec) : ∃ st tx, s.ringWrite r = { s with
    events := { s.events with ring := (r :: s.events.ring).take 256, localWr := s.events.localWr + 1 }
    host := { s.host with irqStatus := st }, tx := tx } := by
  unfold State.ringWrite
  dsimp only
  split
  · split
    · obtain ⟨tx, h, -⟩ := irq_eq { s with events := { s.events with
        ring := (r :: s.events.ring).take 256, localWr := s.events.localWr + 1 } } (by assumption)
      exact ⟨_, _, h⟩
    · exact ⟨_, _, rfl⟩
  · exact ⟨_, _, rfl⟩

/-- A record changes the events, and outside the common sequence the status word and what leaves; nothing else (R547, R550). -/
theorem record_eq (s : State) (r : EvRec) : ∃ ev st tx, s.record r =
    { s with events := ev, host := { s.host with irqStatus := st }, tx := tx } ∧
    (s.events.ring.length ≤ 256 → ev.ring.length ≤ 256) := by
  unfold State.record
  split
  · exact ⟨_, _, _, rfl, id⟩
  · obtain ⟨st, tx, h⟩ := ringWrite_eq s { r with seq := s.events.ownSeq }
    rw [h]
    exact ⟨_, _, _, rfl, fun _ => by simp⟩

/-- A record of the common sequence waits for the snapshot switch of its cycle, and changes nothing else. -/
theorem record_common (s : State) (r : EvRec) (h : s.common = true) :
    s.record r = { s with events := { s.events with fresh := s.events.fresh ++ [r] } } := by
  simp [State.record, h]

/-- A lane report of a kind L source joins the reports where its condition did not stand, and else changes nothing (R504). -/
theorem reportL_cases (s : State) (r : FaultRep) : s.reportL r = s ∨ s.reportL r = s.report r := by
  unfold State.reportL
  split
  · exact .inl rfl
  · exact .inr rfl

/-- The end of a condition joins the bodies that wait for the command order, or changes nothing (R504, R509). -/
theorem reportEnd_cases (s : State) (code : Nat) (loc : Loc) :
    s.reportEnd code loc = s ∨ s.reportEnd code loc = s.reportBody (.sourceEnded code loc) := by
  unfold State.reportEnd
  split
  · exact .inr rfl
  · exact .inl rfl

/-- A final response changes the mailbox of its command, the status word and what leaves; nothing else (R546). -/
theorem respond_eq (s : State) (r : Req) (v : Verdict) (eff : Nat) : ∃ boxes st tx, s.respond r v eff =
    { s with host := { s.host with boxes := boxes, irqStatus := st }, tx := tx } ∧ boxes.length = s.host.boxes.length ∧
    ∀ m, r.box ≠ some m → boxes[m]? = s.host.boxes[m]? := by
  unfold State.respond
  split
  · rename_i n hn
    dsimp only
    let done (b : Mailbox) : Mailbox := { b with st := .done, rsp := responseBytes b.rsp r v eff }
    let boxes := modAt s.host.boxes n done
    obtain ⟨tx, h, -⟩ := irq_eq { s with host := { s.host with boxes := boxes } } 0
    refine ⟨boxes, _, _, h, by simp [boxes], fun m hm => ?_⟩
    have : m ≠ n := fun e => hm (by rw [hn, e])
    simp [boxes, modAt_getElem?, this]
  · exact ⟨s.host.boxes, s.host.irqStatus, s.tx, rfl, rfl, fun _ _ => rfl⟩

end Sys2Proof.Laws
end

