-- ==== Sys2Proof/WellFormed.lean ====
section
/-!
DEFINITION. Well-formed commands: operands within what the part has of their kind. The interface never refuses a command for being
ill formed; the statements that need it name it as a hypothesis.
-/
namespace Sys2Proof

/-- Port codes of Table 15.2: branches, the links of T0 and T1, the relay links and the data links of the weir. -/
def portOk (c : Nat) : Bool :=
  decide (c < 8) || (decide (0x10 ≤ c) && decide (c < 0x4C) && decide (c % 16 < 8 ∨ 0x40 ≤ c))

/-- A command as a mailbox holds it (Table 14.9), with a payload of at most 240 bytes. -/
def reqOk (r : Machine.Req) : Bool :=
  decide (r.payload.length ≤ 240) && decide (r.opcode < 65536) && decide (r.cls < 256)
    && (match r.origin with | .mailbox n => decide (n < 16) | .forwarded _ n => decide (n < 16) | .internal => true)

/-- Every operand is within its range. -/
def Instr.wf (i : Instr) : Bool :=
  match i with
  | .basicCycleStart _ samples => (samples.all (fun x => decide (x.chan < 8)))
  | .ratePeriodStart => true
  | .rateLimitReached => true
  | .mapFormation => true
  | .steeringLimitReached => true
  | .laneFrameSend => true
  | .laneFrameReceived port bytes _ _ => (portOk port) && decide (bytes.length ≤ 270)
  | .listenTimeout => true
  | .coldstartComplete => true
  | .integrateComplete => true
  | .layoutMismatchReached => true
  | .outvotedLimit => true
  | .uplinkFrameArrival branch bytes _ _ _ _ => decide (branch < 8) && decide (bytes.length ≤ 270)
  | .nodeClosed branch pos => decide (branch < 8) && decide (pos < 8)
  | .nodeReopened branch pos => decide (branch < 8) && decide (pos < 8)
  | .frameErrorLimit branch => decide (branch < 8)
  | .branchClosed branch => decide (branch < 8)
  | .branchReopened branch => decide (branch < 8)
  | .laneLinkDropLimit branch _ => decide (branch < 8)
  | .uplinkCopyReceived _ _ bytes _ _ _ => decide (bytes.length ≤ 270)
  | .consensusSend => true
  | .consensusReceived port bytes => decide (port < 3) && decide (bytes.length ≤ 2058)
  | .consensusResolution => true
  | .indexPolicyAction axis => decide (axis < 160)
  | .realignShiftApply axis => decide (axis < 160)
  | .feedbackSignalLimit axis => decide (axis < 160)
  | .feedbackSerialLimit axis => decide (axis < 160)
  | .feedbackTransitionLimit axis => decide (axis < 160)
  | .feedbackSensorLimit axis => decide (axis < 160)
  | .inputDigestReceived port bytes => decide (port < 3) && decide (bytes.length ≤ 2058)
  | .inputDeficient => true
  | .bodyReceived _ mailbox _ => decide (mailbox < 16 ∨ mailbox = 0xFF)
  | .computeWindowOpen => true
  | .axisRunEnd _ => true
  | .sampleLossLimit axis => decide (axis < 160)
  | .followingError axis => decide (axis < 160)
  | .numericPersist axis => decide (axis < 160)
  | .engineEccCorrected _ => true
  | .engineEccUncorrectable _ => true
  | .computeWindowClose => true
  | .acqPreFilled => true
  | .acqPostComplete => true
  | .commandCut => true
  | .sealReceived port bytes => decide (port < 3) && decide (bytes.length ≤ 2058)
  | .confirmReceived port bytes => decide (port < 3) && decide (bytes.length ≤ 2058)
  | .voteReceived port bytes => decide (port < 3) && decide (bytes.length ≤ 2058)
  | .quickEvaluation => true
  | .finalEvaluation => true
  | .laneLost _ => true
  | .laneIsolated => true
  | .exchangeReceived port bytes => decide (port < 3) && decide (bytes.length ≤ 2058)
  | .realignReceived axis _ => decide (axis < 160)
  | .snapshotSwitch => true
  | .mirrorComplete => true
  | .downlinkSlot branch pos frames => decide (branch < 8) && decide (pos < 8) && (frames.all (fun f => decide (f.2.2.length ≤ 270)))
  | .arbitratingWindowStart => true
  | .acycDownForward branch _ bytes _ => decide (branch < 8) && decide (bytes.length ≤ 270)
  | .acycUpAdmit branch bytes _ _ _ => decide (branch < 8) && decide (bytes.length ≤ 270)
  | .nodeRequestTimeout _ => true
  | .networkIdleStart => true
  | .linkSignalDetect port => (portOk port)
  | .linkAligned port => (portOk port)
  | .linkSignalLost port => (portOk port)
  | .linkCodeErrors port => (portOk port)
  | .portDownLimit port => (portOk port)
  | .probeSend port pos => (portOk port) && decide (pos < 8)
  | .probeAnswer port pos _ => (portOk port) && decide (pos < 8)
  | .probeTimeout port pos => (portOk port) && decide (pos < 8)
  | .probeIntervalExpiry branch => decide (branch < 8)
  | .identReceived port bytes => decide (port < 3) && decide (bytes.length ≤ 2058)
  | .weirLinkDown port => decide (port < 3)
  | .lchTrainReceived pulses => decide (1 ≤ pulses)
  | .lchTrainSend => true
  | .addressTimeout => true
  | .spareRefreshTimer => true
  | .wakeClassify _ => true
  | .refreshDataReceived _ _ => true
  | .refreshFailed => true
  | .couchReqReceived _ _ => true
  | .couchDataReceived _ => true
  | .couchEndReceived _ => true
  | .couchConfirmReceived _ _ _ _ => true
  | .replayReceived _ => true
  | .frameRequest _ _ node => decide (node < 64)
  | .couchAbandon => true
  | .catchUpComplete => true
  | .spareWakeTimeout => true
  | .ptpSyncReceived _ _ => true
  | .ptpMessageReceived _ _ _ => true
  | .servoLocked => true
  | .servoOutliers => true
  | .timeSourceLost => true
  | .holdoverExpired => true
  | .phcFrequencyLimit => true
  | .ppsEdge output _ _ => decide (output < 4)
  | .pulseMissed output _ => decide (output < 4)
  | .capEdge input _ _ _ _ => decide (input < 4)
  | .ethFrameReceived bytes => decide (bytes.length ≤ 1514)
  | .ethLinkDownLimit => true
  | .dlEdge line _ _ => decide (line < 16)
  | .safetyInputChange _ input _ => decide (input < 8)
  | .offDelayExpiry _ input => decide (input < 8)
  | .discrepancyTimeout _ input => decide (input < 8)
  | .safeResetRelease _ _ => true
  | .sealPoll _ _ => true
  | .testPulseDue output => decide (output < 4)
  | .darkPulseEnd output _ _ _ _ => decide (output < 4)
  | .testGapExpiry output => decide (output < 4)
  | .testMissing output => decide (output < 4)
  | .heartbeatToggle _ => true
  | .heartbeatLoss _ => true
  | .safetyStartComplete _ _ _ _ => true
  | .romCrcCheck _ => true
  | .crossMismatch _ output => decide (output < 4)
  | .vdykRange => true
  | .safeSupply => true
  | .safetyReset _ _ _ _ => true
  | .pwmPeriodStart => true
  | .interlockRelease output _ => decide (output < 4)
  | .gateStuck output _ => decide (output < 4)
  | .shortDetect output _ _ => decide (output < 4)
  | .shuntShortDetect output _ => decide (output < 4)
  | .sdoShort => true
  | .supplyMonitorTrip _ _ => true
  | .supplyConditionEnd => true
  | .gateUnder output _ => decide (output < 4)
  | .driverSupplyReady => true
  | .switchingEventEnd output _ _ _ => decide (output < 4)
  | .gateLimit output _ _ => decide (output < 4)
  | .offCheckProven output _ => decide (output < 4)
  | .handlingTimerExpiry _ => true
  | .f3Detect _ => true
  | .collectorCompare => true
  | .collectorLine => true
  | .hostWatchdogExpiry => true
  | .supplyOutOfRange _ _ => true
  | .temperatureThreshold sensor _ => decide (sensor < 7)
  | .pllLockLoss => true
  | .referenceClockLoss => true
  | .aonClockStop => true
  | .sramEccError _ => true
  | .stewardEccError _ => true
  | .stewardLockstep => true
  | .stewardDeadline => true
  | .pcieLinkDown => true
  | .pcieUncorrectable => true
  | .wakeQualified => true
  | .vdykInRange => true
  | .suppliesInRange => true
  | .referenceValid => true
  | .bootRomComplete _ _ => true
  | .settingsRestore _ _ => true
  | .vddCorePor => true
  | .vaonPor => true
  | .vdykPor => true
  | .resetNAssert => true
  | .pciePerstnAssert => true
  | .standbyEntry => true
  | .settingsSaveComplete _ => true
  | .fwCheckComplete _ => true
  | .fwLoadLapse => true
  | .kernelVerified => true
  | .kernelLoadLapse => true
  | .mspiWrite _ _ => true
  | .mspiRead _ _ => true
  | .mspiStatus => true
  | .doorbell box => decide (box < 16)
  | .release box => decide (box < 16)
  | .w1cWrite offset _ => decide (offset % 4 = 0 ∧ offset < 0x10000)
  | .evtRdWrite _ => true
  | .snapHoldWrite _ => true
  | .wdtWrite _ => true
  | .capturePop input => decide (input < 4)
  | .countLoRead => true
  | .registerWrite offset _ => decide (offset < 0x10000)
  | .identify _ req => (reqOk req)
  | .fieldWrite _ req => (reqOk req)
  | .fieldRead _ req => (reqOk req)
  | .commit _ req => (reqOk req)
  | .discard _ req => (reqOk req)
  | .clusterStart _ req => (reqOk req)
  | .clusterStop _ req => (reqOk req)
  | .faultAck _ req => (reqOk req)
  | .faultClear _ req => (reqOk req)
  | .faultList _ req => (reqOk req)
  | .faultRaise _ req => (reqOk req)
  | .faultInject _ req => (reqOk req)
  | .axisOn _ req => (reqOk req)
  | .axisOff _ req => (reqOk req)
  | .axisEnable _ req => (reqOk req)
  | .axisRun _ req => (reqOk req)
  | .axisStop _ req => (reqOk req)
  | .quickStop _ req => (reqOk req)
  | .axisCoast _ req => (reqOk req)
  | .axisDisable _ req => (reqOk req)
  | .axisReset _ req => (reqOk req)
  | .mapAxis _ req => (reqOk req)
  | .mapNode _ req => (reqOk req)
  | .mapRemove _ req => (reqOk req)
  | .coeffWrite _ req => (reqOk req)
  | .coeffRead _ req => (reqOk req)
  | .kernelOpen _ req => (reqOk req)
  | .kernelWrite _ req => (reqOk req)
  | .kernelClose _ req => (reqOk req)
  | .kernelRemove _ req => (reqOk req)
  | .kernelInfo _ req => (reqOk req)
  | .profileMove _ req => (reqOk req)
  | .profileVelocity _ req => (reqOk req)
  | .tableAppend _ req => (reqOk req)
  | .tableStart _ req => (reqOk req)
  | .tableClear _ req => (reqOk req)
  | .groupMove _ req => (reqOk req)
  | .refSet _ req => (reqOk req)
  | .feedbackStatus _ req => (reqOk req)
  | .branchCtrl _ req => (reqOk req)
  | .nodeParamRead _ req => (reqOk req)
  | .nodeParamWrite _ req => (reqOk req)
  | .nodeResult _ req => (reqOk req)
  | .nodeReportRead _ req => (reqOk req)
  | .nodeEventsRead _ req => (reqOk req)
  | .voiceMove _ req => (reqOk req)
  | .spareRefresh _ req => (reqOk req)
  | .spareTakeover _ req => (reqOk req)
  | .laneRejoin _ req => (reqOk req)
  | .timeRead _ req => (reqOk req)
  | .ethSend _ req => (reqOk req)
  | .ethRecv _ req => (reqOk req)
  | .acqArm _ req => (reqOk req)
  | .acqStop _ req => (reqOk req)
  | .acqForce _ req => (reqOk req)
  | .injStart _ req => (reqOk req)
  | .injStop _ req => (reqOk req)
  | .sdoRelease _ req => (reqOk req)
  | .sdoApply _ req => (reqOk req)
  | .safetyAck _ req => (reqOk req)
  | .watermarkRead _ req => (reqOk req)
  | .watermarkProgram _ req => (reqOk req)
  | .settingsSave _ req => (reqOk req)
  | .storeStatus _ req => (reqOk req)
  | .fwOpen _ req => (reqOk req)
  | .fwWrite _ req => (reqOk req)
  | .fwClose _ req => (reqOk req)
  | .standby _ req => (reqOk req)
  | .mnop _ => true
  | .mul4 _ _ _ _ _ _ => true
  | .mac4 _ _ _ _ _ _ => true
  | .msu4 _ _ _ _ _ _ => true
  | .mul1 _ _ _ _ _ _ _ => true
  | .mac1 _ _ _ _ _ _ _ => true
  | .msu1 _ _ _ _ _ _ _ => true
  | .mulr _ _ _ _ _ _ => true
  | .macr _ _ _ _ _ _ => true
  | .msur _ _ _ _ _ _ => true
  | .accl _ _ _ _ _ => true
  | .acca _ _ _ _ _ => true
  | .clr4 _ => true
  | .vnop _ => true
  | .movs _ _ _ _ _ => true
  | .ld _ _ _ _ _ _ => true
  | .st _ _ _ _ _ _ => true
  | .mov _ _ _ _ => true
  | .ldi _ _ _ => true
  | .add _ _ _ _ _ => true
  | .sub _ _ _ _ _ => true
  | .addw _ _ _ _ _ => true
  | .subw _ _ _ _ _ => true
  | .min _ _ _ _ _ => true
  | .max _ _ _ _ _ => true
  | .sat _ _ _ _ _ => true
  | .clamp _ _ _ _ _ => true
  | .sincos _ _ _ _ => true
  | .rcp _ _ _ _ => true
  | .rsq _ _ _ _ => true
  | .imul _ _ _ _ _ => true
  | .asr _ _ _ _ _ => true
  | .shl _ _ _ _ _ => true
  | .cmp _ _ _ _ _ _ => true
  | .xrd _ _ _ _ => true
  | .sfclr _ => true
  | .anop _ => true
  | .asetl _ _ _ => true
  | .asetc _ _ _ => true
  | .aseti _ _ _ => true
  | .aadd _ _ _ => true
  | .mset _ _ _ => true
  | .amod _ _ => true
  | .loop _ _ _ => true
  | .end_ _ => true
  | .pciePerstnRelease => true
  | .pcieLinkUp => true
  | .sgmiiLinkChange _ _ => true
  | .ptpIntervalExpiry _ _ => true
  | .ethTransmitComplete => true
  | .laneChainHead => true
  | .joinReceived _ => true
  | .testStartAfterOn output => decide (output < 4)
  | .vaonPowerOn => true
  | .aonClockRestart => true
  | .supplyReturnToRange _ => true
  | .localFeedbackEdge channel _ _ => decide (channel < 8)
  | .forwardRefusalReceived box _ _ _ rsp _ => decide (box < 16) && decide (rsp.length ≤ 240)

end Sys2Proof
end

