-- ==== Sys2Proof/Tests/Slice0.lean ====
section
/-!
SUPPORT. The model's own tests: the checks of well-formed commands, small facts of single steps that the manual gives, and for each
statement with hypotheses a state and operands that meet them.
-/
namespace Sys2Proof.Tests
open Sys2Proof Sys2Proof.Machine

-- Every `decide` waits for the kernel: elaborated side by side, each would hold a thread and its stack.
set_option Elab.async false

/-! ### States that the tests start from -/

/-- Lane A alone in Simplex, voting, with the voice, in SYNC; its host port up. -/
def lone : State := { State.reset with
  net := { st := .sync }
  clock := { running := true, cycle := 100 }
  lanes := { role := .voting, addr := some .a, vset := [.a], voice := some .a }
  host := { endpoint := true, linkUp := true, retry := false }
  power := { mode := .operating, pwrEn := true, vaon := true, supplies := true, refValid := true, booted := true, steward := true } }

/-- Fields that differ from their defaults. -/
def State.setFields (s : State) (l : List (FieldKey × BitVec 64)) : State := { s with cfg := { s.cfg with active := l } }

/-- TRIPLEX (Table 8.15). -/
def triplexField : FieldKey × BitVec 64 := ({ target := tgtCluster, table := 0x080F }, 2)

/-- Lane A of a Triplex cluster, with the voice. -/
def voiceA : State := State.setFields { lone with lanes := { lone.lanes with vset := [.a, .b, .c] } } [triplexField]

/-- Lane B of it, without. -/
def laneB : State := { voiceA with lanes := { voiceA.lanes with addr := some .b } }

/-- What a step left, put to a test; a fault or a refusal fails it. -/
def after (o : Host.Outcome State Fault Refusal) (p : State → Bool) : Bool := match o with | .next t => p t | _ => false

/-- `lone` with one engine, the first, as given. -/
def withEngine (e : Engine) : State := { lone with engines := e :: List.replicate 15 {} }

/-- An engine with words 1, 2, 3 in its local data, all its predicates 1. -/
def busy : Engine := { localMem := [(1, 1), (2, 2), (3, 3)], d := [5, 0x80000000, 7], acc := [9], p1 := true, p2 := true, p3 := true }

/-! ### The queue and the step -/

theorem test_idle : step State.reset = .next State.reset := rfl

/-- A doorbell at the front of the queue is carried out with the queue's rest (R541). -/
theorem test_queue : after (step { lone with pending := [.release 3, .laneChainHead] })
    (fun t => decide (t.pending = [.laneChainHead]) && (t.host.boxes.getD 3 {}).ignored) = true := by decide

/-! ### Well-formed commands: an ill-formed one for each check -/

theorem test_wf_port : (Instr.linkAligned 0x4B).wf = true ∧ (Instr.linkAligned 0x4C).wf = false ∧ (Instr.linkAligned 8).wf = false ∧
    (Instr.linkAligned 0x18).wf = false := by decide
theorem test_wf_branch : (Instr.branchClosed 7).wf = true ∧ (Instr.branchClosed 8).wf = false ∧ (Instr.nodeClosed 0 8).wf = false ∧
    (Instr.probeIntervalExpiry 8).wf = false ∧ (Instr.probeSend 0 8).wf = false ∧ (Instr.downlinkSlot 8 0 []).wf = false := by decide
theorem test_wf_axis : (Instr.followingError 159).wf = true ∧ (Instr.followingError 160).wf = false ∧
    (Instr.realignShiftApply 160).wf = false := by decide
theorem test_wf_weir : (Instr.voteReceived 2 []).wf = true ∧ (Instr.voteReceived 3 []).wf = false ∧
    (Instr.voteReceived 0 (List.replicate 2059 0)).wf = false ∧ (Instr.weirLinkDown 3).wf = false := by decide +kernel
theorem test_wf_frames : (Instr.uplinkCopyReceived .x true (List.replicate 271 0) true 0 0).wf = false ∧
    (Instr.downlinkSlot 0 0 [(.a, 0, List.replicate 271 0)]).wf = false ∧ (Instr.ethFrameReceived (List.replicate 1515 0)).wf = false := by decide +kernel
theorem test_wf_units : (Instr.capEdge 4 true 0 0 0).wf = false ∧ (Instr.ppsEdge 4 0 0).wf = false ∧ (Instr.dlEdge 16 true 0).wf = false ∧
    (Instr.testGapExpiry 4).wf = false ∧ (Instr.offDelayExpiry .proc 8).wf = false ∧ (Instr.temperatureThreshold 7 0).wf = false ∧
    (Instr.localFeedbackEdge 8 (.a true) 0).wf = false ∧ (Instr.capturePop 4).wf = false := by decide
theorem test_wf_train : (Instr.lchTrainReceived 1).wf = true ∧ (Instr.lchTrainReceived 0).wf = false := by decide
theorem test_wf_samples : (Instr.basicCycleStart 0 [{ chan := 8 }]).wf = false := by decide
theorem test_wf_host : (Instr.doorbell 16).wf = false ∧ (Instr.w1cWrite 0x41 0).wf = false ∧ (Instr.registerWrite 0x10000 []).wf = false ∧
    (Instr.bodyReceived .a 16 (.evtRd 0)).wf = false ∧ (Instr.frameRequest .a 0 64).wf = false ∧
    (Instr.forwardRefusalReceived 16 0 0 0 [] 0).wf = false := by decide
theorem test_wf_req : (Instr.identify .service { origin := .mailbox 15 }).wf = true ∧ (Instr.identify .service { origin := .mailbox 16 }).wf = false ∧
    (Instr.identify .service { payload := List.replicate 241 0 }).wf = false ∧ (Instr.identify .service { opcode := 65536 }).wf = false ∧
    (Instr.identify .service { cls := 256 }).wf = false := by decide +kernel

/-! ### The loop engines -/

/-- The example of R120: MAC4 D8,[A0]+,SC3 | MOVS D16,ACC0,SC5 | AADD A1,+4 is 0x1204_180C_0451_0804. -/
theorem test_bundle_example : encodeMac (.mac4 0 8 0 true 3 0) = some (0, 0x1204180000000000) ∧
    encodeMove (.movs 0 16 0 (.scale 5) 0) = some (0, 0x0C04500000) ∧ encodeAddress (.aadd 0 1 4) = some (0, 0x10804) ∧
    0x1204180000000000 + 0x0C04500000 + 0x10804 = 0x1204180C04510804 := by decide

theorem test_bundle_decodes : (decodeBundle 0x1204180C04510804).isSome = true ∧
    decodeAddr 0x1204180C04510804 = some (.addA 1 4) := by decide

/-- R119: reserved opcodes of each slot, and A0 written by a post-modify and by AADD. -/
theorem test_reserved : decodeBundle (0xD * 2 ^ 59) = none ∧ decodeBundle (0x17 * 2 ^ 35) = none ∧ decodeBundle (8 * 2 ^ 14) = none ∧
    decodeBundle (14 * 2 ^ 14) = none ∧ decodeBundle 0x1204180C04510004 = none := by decide

/-- R125: ADD limits and sets SF when its bundle closes; its sources stay. -/
theorem test_add_limits : after (exec (.add 0 3 1 1 0) (withEngine busy)) (fun t => match t.engines with
    | e :: _ => decide (e.commit.dregs = [(3, 0x80000000)]) && decide (e.commit.sf = some true) && decide (e.d = busy.d)
    | [] => false) = true := by decide

/-- Table 3.9: SUBW wraps where SUB limits. -/
theorem test_subw_wraps : after (exec (.subw 0 3 1 0 0) (withEngine busy)) (fun t => match t.engines with
    | e :: _ => decide (e.commit.dregs = [(3, 0x7FFFFFFB)]) && decide (e.commit.sf = none)
    | [] => false) = true := by decide

/-- R103: an access above the map stops the run, naming its word address. -/
theorem test_load_outside : exec (.ld 0 3 0 false 0 0) (withEngine { busy with a := [0x50C0] }) = .fault (.engineAddress 0x50C0) := by rfl

theorem witness_ProductsAccumulate : (withEngine busy).engines[0]? = some busy ∧ accessAddr busy 0 0 % 4 = 0 ∧
    ∀ k < 4, busy.load ((withEngine busy).ctxOf busy) ((accessAddr busy 0 0 + k) % 65536) = .ok (BitVec.ofNat 32 k) :=
  ⟨rfl, rfl, fun k hk => by obtain rfl | rfl | rfl | rfl : k = 0 ∨ k = 1 ∨ k = 2 ∨ k = 3 := by omega
                            all_goals rfl⟩

theorem witness_WordOperationsOfTheMoveSlot : (withEngine busy).engines[(0 : Fin 16).val]? = some busy ∧ (30 : Fin 32).val ≤ 30 ∧
    (0 : Fin 32).val % 2 = 0 := ⟨rfl, by decide, rfl⟩

theorem witness_LoadsAndStoresOfTheMoveSlot : storeAllowed (accessAddr busy 0 63) = true ∧ busy.pr 0 = true ∧
    storeAllowed (accessAddr { busy with a := [0x5000] } 0 0) = false ∧ 0x50C0 ≤ accessAddr { busy with a := [0x50C0] } 0 0 ∧
    accessAddr { busy with a := [0x50BF] } 0 0 < 0x50C0 ∧ accessAddr { busy with a := [0xFFFF] } 0 1 = 0 := by decide

theorem witness_AccumulatorsReciprocalsAndRoots : (withEngine busy).engines[(0 : Fin 16).val]? = some busy ∧ busy.ac 0 ≠ 0 ∧ busy.ac 1 = 0 ∧
    (busy.dr 0).toInt ≠ 0 ∧ (busy.dr 3).toInt = 0 ∧ (busy.dr 1).toInt < 0 := ⟨rfl, by decide, by decide, by decide, by decide, by decide⟩

theorem witness_SineAndCosineWithinTheirBound : (withEngine busy).engines[(15 : Fin 16).val]? = some {} ∧ (30 : Fin 32).val % 2 = 0 :=
  ⟨rfl, rfl⟩

theorem witness_PredicatesFlagsAndAngles : (withEngine busy).engines[(0 : Fin 16).val]? = some busy ∧ (2 : Fin 32).val % 2 = 0 := ⟨rfl, rfl⟩

theorem witness_AddressOperationsCloseTheBundle : (withEngine busy).engines[(0 : Fin 16).val]? = some busy := rfl

theorem witness_BundlesDecodeToTheirSlotCommands : encodeMac (.acca 15 31 3 31 3) ≠ none ∧ encodeMove (.sat 15 31 31 30 3) ≠ none ∧
    encodeAddress (.aseti 15 7 0xBF) ≠ none ∧ encodeMove (.movs 15 31 3 (.shift (-32)) 3) ≠ none := by decide

theorem witness_ReservedBundlesAreRefused : 0x0D ≤ bits (0xD * 2 ^ 59) 63 59 ∧ 0x17 ≤ bits (0x17 * 2 ^ 35) 39 35 ∧
    bits (8 * 2 ^ 14) 17 14 = 8 ∧ (decodeBundle 0).isSome = true := by decide

/-! ### Safety functions and safe drive outputs -/

/-- A parameter set (Table 11.6): SI0 enabled with manual restart and SI1 enabled with OFF_DELAY 5 ms, each holding SDO0; SDO0 SAFE. -/
def params : List Byte := (List.range 0x80).map (fun o => match o with
  | 4 => 5 | 0x0A => 1 | 0x0C => 1 | 0x10 => 5 | 0x12 => 1 | 0x44 => 1 | _ => 0)

/-- A safety channel that has started, every input clear and nothing held off. -/
def liveChan : Chan := { started := true, lockout := false, ins := List.replicate 8 { st := .clear }, off := List.replicate 4 false }

/-- A switch that conducts, and an output whose two switches do. -/
def onSw : Switch := { on := true, cmd := true, low := false }
def onSdo : Sdo := { hs := onSw, ls := onSw }

/-- `lone` with its safety functions started, SDO0 released and on, and test pulses enabled. -/
def safe : State := { lone with
  safety := { proc := liveChan, dyke := liveChan, startDone := true, sealStart := 4, sealNow := 4, release := List.replicate 4 true,
              vdykIn := true, safeSupplyIn := true, setInForce := params }
  drivers := { supplyOn := true, vbrgOk := true, cpOk := true, outs := onSdo :: List.replicate 3 {} } }

/-- The same with the states and pins of input `n` as given in the processor and in the dyke. -/
def withInput (s : State) (n : Nat) (p d : SafeIn) : State := { s with safety := { s.safety with
  proc := { s.safety.proc with ins := s.safety.proc.ins.set n p }, dyke := { s.safety.dyke with ins := s.safety.dyke.ins.set n d } } }

/-- `safe` locked out, LOCKOUT_ID 3, its SAFETY_ACK given. -/
def locked : State := { safe with safety := { safe.safety with
  lockoutId := 3, ackPending := some 3, proc := { liveChan with lockout := true, holdOk := some 500 }
  dyke := { liveChan with lockout := true, holdOk := some 3000 } } }

/-- `safe` with the test of SDO0 in a phase. -/
def inTest (ph : Nat) (due := false) : State := { safe with safety := { safe.safety with tests := { phase := ph, due := due } :: List.replicate 3 {} } }

theorem witness_SafetyF2LocksTheLaneOut : safe.common = true ∧
    ((withInput safe 0 { st := .demand, pin := true } { st := .demand }).siEnabled 0 = true ∧
      (withInput safe 0 { st := .demand, pin := true } { st := .demand }).discrepant 0 = true ∧ Quiet safe 0x300 (locInput 0)) ∧
    (safe.testsEnabled = true ∧ safe.sdoSafe 0 = true ∧ safe.sdoOn 0 = true ∧ Quiet safe 0x302 (locSdo 0)) ∧
    (safe.safety.startDone = true ∧ (5 : BitVec 8) ≠ safe.safety.sealStart ∧ Quiet safe 0x303 locNone) ∧
    ((safe.chan .dyke).started = true ∧ Quiet safe 0x304 locNone) ∧
    ({ safe with safety := { safe.safety with dyke := { liveChan with off := List.replicate 4 true } } }.safety.dyke.off.getD 3 true = true ∧
      Quiet safe 0x305 (locSdo 3)) ∧ Quiet safe 0x306 locNone ∧ Quiet safe 0x307 locNone := by unfold Quiet; decide +kernel

theorem witness_InputStatesFollowThePins : safe.common = true ∧ safe.siEnabled 0 = true ∧ safe.siManual 0 = true ∧ safe.siEnabled 1 = true ∧
    safe.siOffDelay 1 = 5 ∧ safe.siOffDelay 0 = 0 ∧ safe.safety.startDone = true ∧ safe.lockedOut = false ∧ 0 < safe.safety.proc.ins.length ∧
    0 < safe.safety.dyke.ins.length ∧ safe.siHolds 0 0 = true ∧ safe.sdoSafe 0 = true ∧
    ((withInput safe 1 { st := .delay, pin := true } { st := .delay }).chan .proc).ins.getD 1 {} = { st := .delay, pin := true } ∧
    (withInput safe 1 { st := .delay, pin := true } { st := .delay }).demanded 1 = true := by decide +kernel

/-- R446: a pin that goes low takes an input without delay to DEMAND in both channels, and the output it holds is off. -/
theorem test_demand : after (exec (.safetyInputChange .proc 0 false) safe) (fun t =>
    decide ((t.safety.proc.ins.getD 0 {}).st = .demand) && decide ((t.safety.dyke.ins.getD 0 {}).st = .demand) && !t.sdoOn 0) = true := by decide +kernel

/-- R446: an input with OFF_DELAY waits in DELAY, and its output stays on. -/
theorem test_delay : after (exec (.safetyInputChange .dyke 1 false) safe) (fun t =>
    decide ((t.safety.proc.ins.getD 1 {}).st = .delay) && t.sdoOn 0) = true := by decide +kernel

theorem witness_RestartPulseActsOnWaitingInputs :
    ((withInput safe 0 { st := .waitRestart } { st := .waitRestart }).safety.proc.ins.getD 0 {}).st = .waitRestart ∧
    (withInput safe 0 { st := .waitRestart } { st := .waitRestart }).demanded 0 = false ∧ safe.common = true := by decide +kernel

/-- R447: 400 ms restarts and 401 ms does not. -/
theorem test_restart : after (exec (.safeResetRelease 400 50) (withInput safe 0 { st := .waitRestart } { st := .waitRestart }))
      (fun t => decide ((t.safety.proc.ins.getD 0 {}).st = .clear)) = true ∧
    after (exec (.safeResetRelease 401 50) (withInput safe 0 { st := .waitRestart } { st := .waitRestart }))
      (fun t => decide ((t.safety.proc.ins.getD 0 {}).st = .waitRestart)) = true := by decide +kernel

theorem witness_TestPulsesRunTheirParts : safe.common = true ∧ safe.voting = true ∧ safe.sdoSafe 0 = true ∧ 0 < safe.drivers.outs.length ∧
    0 < safe.safety.tests.length ∧ 0 < safe.safety.proc.dark.length ∧ safe.offP 0 = false ∧ safe.offD 0 = false ∧ safe.driverFree 0 = true ∧
    safe.testsEnabled = true ∧ safe.sdoOn 0 = true ∧ (safe.safety.tests.getD 0 {}).phase = 0 ∧
    ({ safe with drivers := { safe.drivers with outs := List.replicate 4 {} } } : State).sdoOn 0 = false ∧
    ((inTest 0 true).safety.tests.getD 0 {}).due = true ∧ ((inTest 1).safety.tests.getD 0 {}).phase = 1 ∧
    ((inTest 2).safety.tests.getD 0 {}).phase = 2 ∧ ((inTest 3).safety.tests.getD 0 {}).phase = 3 ∧
    Quiet (inTest 1) 0x301 (locSdo 0) := by unfold Quiet; decide +kernel

theorem witness_HeartbeatAndDeliberateReset : locked.common = true ∧ locked.safety.ackPending = some 3 ∧ locked.causeStands .proc = false ∧
    locked.causeStands .dyke = false ∧ locked.safety.proc.holdOk ≠ none ∧ locked.safety.dyke.holdOk ≠ none := by decide +kernel

/-- R470: the reset ends the lock-out at 5 s, and past it is refused. -/
theorem test_reset : after (exec (.safetyReset 5000 5000 false false) locked) (fun t => !t.lockedOut) = true ∧
    after (exec (.safetyReset 5001 5000 false false) locked) (fun t => t.lockedOut && t.safety.resetRefused) = true := by decide +kernel

/-- `lone` before its safety start, with the fuses of a part that left the factory. -/
def unstarted : State := { lone with safety := { lone.safety with vdykIn := true, safeSupplyIn := true } }

set_option maxRecDepth 50000 in
/-- The CRC of the factory header holds (R464). -/
theorem test_watermark : unstarted.watermarkOk = true := by decide +kernel

set_option maxRecDepth 50000 in
theorem witness_SafetyStartBeginsInDemand : unstarted.safety.vdykIn = true ∧ unstarted.safety.safeSupplyIn = true ∧
    unstarted.safety.proc.started = false ∧ unstarted.safety.dyke.started = false ∧
    ({ unstarted with safety := { unstarted.safety with watermark := [] } } : State).watermarkOk = false ∧
    unstarted.isActive 0x320 (locLane unstarted.lane) = false ∧ setOk (unstarted.fuses 0x80 0x80) 0 = false := by decide +kernel

/-- A field of Table 12.3 of output `m` of lane A. -/
def sdoField (row m : Nat) (v : BitVec 64) : FieldKey × BitVec 64 :=
  ({ target := tgtCluster, table := 0x0C03, row := row, unit := m, lane := 0 }, v)

/-- `safe` with the bridge of SDO1 on at a duty (binary32), at 10 kHz, and its switches as given. -/
def bridged (duty : BitVec 64) (o : Sdo) : State := State.setFields { safe with drivers := { safe.drivers with outs := [{}, o, {}, {}] } }
  [sdoField 1 1 1, sdoField 2 1 1, sdoField 3 1 duty, sdoField 4 0xFF 0x461C4000]

/-- 0.5, 1.0 and 0.0005 as binary32. -/
def half : BitVec 64 := 0x3F000000
def full : BitVec 64 := 0x3F800000
def tiny : BitVec 64 := 0x3A03126F

theorem witness_BridgesInterlockTheirSwitches : (bridged half {}).bridgeRuns 1 = true ∧ (bridged half {}).bridgeRuns 0 = false ∧
    (bridged half {}).pwmPeriod = 100000 ∧ f32D ((bridged tiny {}).sdoFld 3 1) * (bridged tiny {}).pwmPeriod < 100 ∧
    f32D ((bridged full {}).sdoFld 3 1) = 1 ∧ 100 ≤ f32D ((bridged half {}).sdoFld 3 1) * (bridged half {}).pwmPeriod ∧
    (({ hs := { waiting := true } } : Sdo).sw true).waiting = true := by decide +kernel

/-- R482 and R483: at 0.5 the low side leads and the high side waits for it; its release turns the low side off first. -/
theorem test_bridge : after (exec .pwmPeriodStart (bridged half {})) (fun t => (t.sdoOf 1).ls.on && (t.sdoOf 1).hs.waiting && !(t.sdoOf 1).hs.on) = true ∧
    after (exec (.interlockRelease 1 true) (bridged half { hs := { waiting := true }, ls := onSw })) (fun t =>
      (t.sdoOf 1).hs.on && !(t.sdoOf 1).ls.on) = true := by decide +kernel

/-- `safe` with SDO0 as given and its fields as given. -/
def withSdo (o : Sdo) (l : List (FieldKey × BitVec 64) := []) : State :=
  State.setFields { safe with drivers := { safe.drivers with outs := o :: List.replicate 3 {} } } l

theorem witness_GatesAreWatchedAndAdapted : safe.common = true ∧
    (({ hs := { low := false } } : Sdo).sw true).cmd = false ∧ (({ hs := { low := false } } : Sdo).sw true).low = false ∧ (onSdo.sw true).cmd = true ∧
    16 ≤ (({ hs := { offHeld := 16 } } : Sdo).sw true).offHeld ∧ (withSdo onSdo [sdoField 7 0 1, sdoField 5 0 40]).sdoFld 7 0 = 1 ∧
    ((withSdo onSdo [sdoField 7 0 1, sdoField 5 0 40]).sdoFld 5 0 : Rat) = 40 ∧ (onSdo.sw true).soft = false ∧
    (({} : Sdo).sw false).cmd = false := by decide +kernel

/-- R491: 45 ns is within 1.125 of 40 ns, and 46 ns is not. -/
theorem test_adapt : after (exec (.switchingEventEnd 0 true true (some 45)) (withSdo onSdo [sdoField 7 0 1, sdoField 5 0 40]))
      (fun t => decide ((t.sdoOf 0).hs.strOn = 7)) = true ∧
    after (exec (.switchingEventEnd 0 true true (some 46)) (withSdo onSdo [sdoField 7 0 1, sdoField 5 0 40]))
      (fun t => decide ((t.sdoOf 0).hs.strOn = 8)) = true := by decide +kernel

theorem witness_DriverSuppliesHoldTheOutputs : (withSdo onSdo [sdoField 0 0xFF 1]).common = true ∧ (withSdo onSdo [sdoField 0 0xFF 1]).sdoFld 0 0xFF = 1 ∧
    Quiet safe 0x343 locNone ∧ Quiet safe 0x344 locNone ∧ Quiet safe 0x345 locNone ∧
    ({ safe with faults := { safe.faults with active := [{ code := 0x343, loc := locNone }] } } : State).isActive 0x343 locNone = true ∧
    (State.setFields lone [sdoField 0 0xFF 1]).sdoFld 0 0xFF = 1 ∧ (State.setFields lone [sdoField 0 0xFF 1]).drivers.supplyOn = false := by
  unfold Quiet; decide +kernel

theorem witness_ShortsTurnEveryOutputOff : safe.common = true ∧ safe.drivers.outs[0]? = some onSdo ∧ 0 < safe.drivers.legs.length ∧
    (onSdo.sw true).cmd = true ∧ (withSdo onSdo [sdoField 10 0 1]).sdoFld 10 0 = 1 ∧ (withSdo onSdo [sdoField 10 0 2]).sdoFld 10 0 = 2 ∧
    ({ safe with drivers := { safe.drivers with shortVbrg := some 1200 } } : State).drivers.shortVbrg = some 1200 := by decide +kernel

/-! ### Faults -/

theorem witness_F3SourcesStopTheLane : faultInfo 0x3C0 = some ⟨.f3, false, 4⟩ ∧ faultInfo 0x320 = some ⟨.f3, true, 4⟩ ∧
    lone.isActive 0x320 (locLane lone.lane) = false ∧ lone.isActive 0x384 (locLane lone.lane) = false ∧
    lone.isActive 0x385 (locLane lone.lane) = false := by decide +kernel

/-- R515: an F3 stops the lane; the first code is the one kept. -/
theorem test_f3 : after (exec (.f3Detect 0x3C0) safe) (fun t => t.faults.f3 && decide (t.faults.f3Code = 0x3C0) && !t.sdoOn 0 &&
      decide (t.power.f3Record = some (0x3C0, 100))) = true ∧
    after (exec (.f3Detect 0x3C0) { safe with faults := { safe.faults with f3 := true, f3Code := 0x384 } })
      (fun t => decide (t.faults.f3Code = 0x384)) = true := by decide +kernel

/-- The field of the host watchdog, 1 s. -/
def dog : FieldKey × BitVec 64 := ({ target := tgtCluster, table := 0x0D02, row := 1 }, 1000)

theorem witness_FaultsOfOneLaneAreReported : lone.common = true ∧ (State.setFields lone [dog]).fld tgtCluster 0x0D02 1 0 ≠ 0 ∧
    lone.fld tgtCluster 0x0D02 1 0 = 0 ∧ Quiet lone 0x108 locNone ∧ Quiet lone 0x386 locNone ∧ Quiet lone 0x104 locNone ∧
    lone.host.endpoint = true ∧ Quiet lone 0x381 locNone ∧ Quiet lone 0x382 locNone ∧ lone.isActive 0x380 (locLane lone.lane) = false := by
  unfold Quiet; decide +kernel

/-- `lone` with a fault active at no location. -/
def during (code : Nat) : State := { lone with faults := { lone.faults with active := [{ code := code, loc := locNone }] } }

theorem witness_ConditionsEndThroughTheCommandOrder : lone.common = true ∧ 6 < lone.power.temps.length ∧
    (during 0x386).isActive 0x386 locNone = true ∧ (during 0x104).isActive 0x104 locNone = true ∧ (during 0x104).host.endpoint = true ∧
    (during 0x381).isActive 0x381 locNone = true ∧ Quiet (during 0x381) 0x382 locNone ∧ (during 0x382).isActive 0x382 locNone = true ∧
    Quiet (during 0x382) 0x381 locNone ∧ kvDel lone.power.badSupplies 3 = [] ∧ (∀ x ∈ lone.power.temps, x < 140) ∧
    Quiet lone 0x387 locNone ∧ Quiet lone 0x388 locNone ∧ Quiet lone 0x389 locNone ∧ lone.order.held = [] ∧ lone.order.accepted = [] := by
  unfold Quiet; decide +kernel

/-- Table 13.15: 150 °C raises all three of the temperature faults. -/
theorem test_hot : after (exec (.temperatureThreshold 6 150) lone) (fun t =>
    decide (t.faults.reports.map (·.code) = [0x387, 0x388, 0x389]) && t.faults.sysF2) = true := by decide +kernel

/-! ### Power and the peat store -/

/-- The chip asleep, PD_AON alive. -/
def asleep : State := { State.reset with power := { State.reset.power with vaon := true } }

/-- The chip at its boot ROM, with two VERIFIED images. -/
def atRom : State := { lone with power := { lone.power with
  booted := false, steward := false, slots := [{ st := .verified, seq := 4, release := 0x0301 }, { st := .verified, seq := 5, release := 0x0302 }] } }

/-- The chip at its settings restore, with two valid copies. -/
def atRestore : State := { State.reset with power := { lone.power with
  steward := false, copies := [{ valid := true, saveSeq := 3 }, { valid := true, saveSeq := 2 }], f3Record := some (0x384, 9) } }

/-- `lone` with a save that runs. -/
def saving : State := { lone with power := { lone.power with saving := some { valid := true }, copies := [{ valid := true, saveSeq := 1 }, {}] } }

/-- `lone` with an open firmware load, checked or not. -/
def loading (checking : Bool) : State := { lone with
  clock := { lone.clock with cycle := 70000 }
  power := { lone.power with running := some 0, fw := some { length := 4, last := 70000 - 65536, checking := checking } } }

theorem witness_SuppliesResetsAndWakes : lone.power.mode ≠ .standby ∧ asleep.power.mode = .standby ∧ asleep.power.vaon = true ∧
    State.reset.safety.vdykIn = false ∧ lone.power.pwrEn = true ∧
    ({ lone with power := { lone.power with refValid := false } } : State).power.supplies = true := by decide +kernel

theorem witness_BootRomSelectsAnImage : atRom.power.refValid = true ∧ atRom.power.booted = false ∧ atRom.power.slots.length = 2 ∧
    atRom.power.f3Reg = false ∧ (atRom.power.slots.getD 0 {}).st = .verified ∧ (atRom.power.slots.getD 0 {}).seq < (atRom.power.slots.getD 1 {}).seq := by
  decide +kernel

/-- R619: the slot of the higher SLOT_SEQ runs; where its check fails it is BAD and the other runs. -/
theorem test_boot : after (exec (.bootRomComplete true true) atRom) (fun t => decide (t.power.running = some 1)) = true ∧
    after (exec (.bootRomComplete true false) atRom) (fun t => decide (t.power.running = some 0) &&
      decide ((t.power.slots.map (·.st)) = [.verified, .bad])) = true := by decide +kernel

theorem witness_SettingsAreRestoredAtTheStart : atRestore.power.booted = true ∧ atRestore.power.steward = false ∧ atRestore.power.noImage = false ∧
    atRestore.power.copies.length = 2 ∧ atRestore.lanes.addr = none ∧ ((atRestore.power.copies.getD 0 {}).valid && true) = true ∧
    atRestore.power.f3Record = some (0x384, 9) ∧ atRestore.power.f3Reg = false := by decide +kernel

theorem witness_SavesFirmwareAndStandby : saving.common = true ∧ saving.power.copies.length = 2 ∧ saving.power.saving = some { valid := true } ∧
    saving.saveTarget = 1 ∧ (loading true).loadSlot < (loading true).power.slots.length ∧ (loading true).power.fw.isSome = true ∧
    (loading false).power.fw = some { length := 4, last := 4464 } ∧ 4464 + 65536 ≤ (loading false).clock.cycle ∧
    ({ lone with power := { lone.power with standbyDue := true } } : State).power.standbyDue = true := by decide +kernel

/-! ### The host port -/

/-- A command from mailbox 2, of class 3. -/
def ask (op : Nat) (target : BitVec 16 := 0xFFFF) (payload : List Byte := []) : Req :=
  { origin := .mailbox 2, opcode := op, cls := 3, tag := 0x1234, target := target, payload := payload }

theorem witness_HostRegisterWritesAct : lone.hostOn = true ∧ State.reset.hostOn = false ∧ lone.common = true ∧ lone.voting = true ∧
    asleep.voting = false ∧ Quiet lone 0x108 {} ∧ (during 0x108).isActive 0x108 {} = true ∧ lone.host.boxes[15]? = some ({} : Mailbox) ∧
    255 + [(7 : Byte)].length ≤ 256 ∧ ({ st := .busy } : Mailbox).st ≠ .idle := by unfold Quiet; decide +kernel

/-- R541: a write of the command area of an IDLE mailbox, its last byte, and of one that is BUSY. -/
theorem test_area : after (exec (.registerWrite 0x80FF [7]) lone) (fun t => decide ((t.host.boxes.getD 0 {}).cmd.getD 255 0 = 7)) = true ∧
    after (exec (.registerWrite 0x80FF [7]) { lone with host := { lone.host with boxes := List.replicate 16 { st := .busy } } })
      (fun t => decide (t.host.boxes = List.replicate 16 { st := .busy })) = true := by decide +kernel

theorem witness_MspiTransactionsAct : lone.hostOn = true ∧ (0x800000 : BitVec 24).getLsbD 23 = true ∧ (0x00001E : BitVec 24).toNat % 4 ≠ 0 := by
  decide +kernel

theorem witness_MailboxesFollowTheirStates : lone.host.boxes[2]? = some ({} : Mailbox) ∧ lone.hostOn = true ∧ lone.power.noImage = false ∧
    (({ st := .done } : Mailbox).st = .done) ∧ opInfo (({ cmd := [0xEE, 0xEE] } : Mailbox).req 2).opcode = none ∧
    (({ cmd := [0x01, 0x00] } : Mailbox).req 2).opcode = 0x0001 ∧ (ask 1).cls = 3 ∧ 2 ≤ ({ ask 1 with flags := 2 } : Req).flags.toNat := by
  decide +kernel

/-- R542: an unassigned opcode is answered UNKNOWN_OP in DONE. -/
theorem test_unknown : after (exec (.doorbell 2) { lone with host := { lone.host with boxes := List.replicate 16 { cmd := [0xEE, 0xEE] } } })
    (fun t => decide ((t.host.boxes.getD 2 {}).st = .done) && decide ((t.host.boxes.getD 2 {}).rsp.getD 2 0 = 9)) = true := by decide +kernel

theorem witness_OrderedCommandsWaitForTheCut : lone.host.boxes[2]? = some ({} : Mailbox) ∧ lone.hostOn = true ∧ lone.faults.f3 = false ∧ lone.voting = true ∧
    lone.stopped = false ∧ lone.isVoice = true ∧ laneB.voting = true ∧ laneB.isVoice = false ∧
    (0x0120, 3) ∈ orderRows.map (fun p => (p.1, p.2.1)) := by decide +kernel

/-- A mailbox of `lone` can take a command. -/
theorem submits_lone (op : Nat) (t : BitVec 16) (p : List Byte) (h : p.length ≤ 240) : Submits lone 2 (ask op t p) :=
  ⟨by decide +kernel, rfl, by decide, rfl, rfl, h, by simp [ask], {}, rfl, rfl⟩

/-- `lone` with axis 5 in a state, in the map in force. -/
def withAxis (st : AxisSt) (mot : MotionRt := {}) : State :=
  let e : AxisEntry := { axis := 5 }
  { lone with axes := [{ entry := e, st := st, mot := mot }], cfg := { lone.cfg with map := { axes := [e] } } }

/-- `lone` with what local reads look at: a node, a request, a node event, a received frame. -/
def reading : State := { lone with
  nodes := [{ node := 3, report := [1, 2, 3] }]
  services := { reqs := [{ tag := 7, outcome := 0, data := [9] }], events := [{ seq := 0, bytes := List.replicate 28 1 }], nextSeq := 1 }
  time := { lone.time with ethRx := [List.replicate 64 5] } }

theorem witness_LocalReadsAnswerAtOnce : Submits lone 2 (ask 0x0001) ∧ Submits lone 2 (ask 0x0003 0xFFFF (List.replicate 8 0)) ∧
    (∃ a, (withAxis .off).axis? 5 = some a) ∧ refDef { target := tgtCluster, table := 0x0102, row := 2 } ≠ none ∧
    (∃ k, isKernelT 0xB002 = true ∧ lone.kinfo? (tNum 0xB002) = some k) ∧
    (∀ q ∈ reading.services.reqs, q.tag.toNat ≠ le (toLe 4 8) 0 4) ∧ (∃ q, reading.services.reqs.find? (fun q => q.tag.toNat == le (toLe 4 7) 0 4) = some q) ∧
    (∃ x, reading.node? 3 = some x) ∧ lone.services.events = [] ∧ BitVec.ofNat 32 (le (toLe 4 0) 0 4) = reading.services.nextSeq - 1 ∧
    (∃ f rest, reading.time.ethRx = f :: rest ∧ 0 < f.length ∧ f.length ≤ 232) :=
  ⟨submits_lone _ _ _ (by simp), submits_lone _ _ _ (by simp), ⟨_, rfl⟩, by decide +kernel, ⟨_, by decide +kernel, rfl⟩, by decide +kernel,
    ⟨_, rfl⟩, ⟨_, rfl⟩, rfl, by decide +kernel, ⟨_, _, rfl, by decide +kernel, by decide +kernel⟩⟩

/-- `lone` stopped, a firmware load open. -/
def idle : State := { loading false with net := {} }

theorem witness_LocalCommandsActAtOnce : lone.faults.f3 = false ∧ lone.voting = true ∧ idle.stopped = true ∧ idle.alone = true ∧
    idle.power.steward = true ∧ ({ lone with lanes := { lone.lanes with role := .removed } } : State).lanes.role = .removed ∧
    (ask 0x0601 0xFFFF (toLe 2 60 ++ [0, 0] ++ List.replicate 60 1)).payload.length = 64 ∧ le (toLe 2 60 ++ [0, 0] ++ List.replicate 60 1) 0 2 = 60 ∧
    (idle.fuses 4 1).all (fun b => !b.getLsbD 1) = true ∧ idle.power.fw = some { length := 4, last := 4464 } := by decide +kernel

/-! ### Commands at their effective cycle -/

/-- A place of the command order in effect: a command of opcode `op`. -/
def placed (op : Nat) (target : BitVec 16 := 0xFFFF) (payload : List Byte := []) : Accepted :=
  { body := .cmd (ask op target payload), eff := 100 }

/-- `s` with that command the first place of its command order. -/
def inForce (s : State) (op : Nat) (target : BitVec 16 := 0xFFFF) (payload : List Byte := []) : State :=
  { s with order := { s.order with accepted := [placed op target payload] } }

/-- Such a place is the next to take effect. -/
theorem takesNext (s : State) (op : Nat) (target : BitVec 16) (payload : List Byte) (h : 100 ≤ s.clock.cycle) :
    TakesNext (inForce s op target payload) (placed op target payload) [] (ask op target payload) op := ⟨rfl, rfl, rfl, h⟩

theorem witness_AxisCommandsFollowTheirTable :
    TakesNext (inForce (withAxis .off) 0x0100 5) (placed 0x0100 5) [] (ask 0x0100 5) 0x0100 ∧
    (∃ x, (withAxis .off).axis? 5 = some x ∧ (withAxis .off).due x = true ∧ x.st = .off) ∧
    (∃ x, (withAxis .faulted).axis? 5 = some x ∧ x.st = .faulted ∧ (withAxis .faulted).f2Active 5 = false) ∧
    (∃ x, ({ withAxis .off with axes := [{ entry := { axis := 5, divisor := 8 }, place := { phase := 3 } }] } : State).axis? 5 = some x ∧
      (withAxis .off).due x = false) :=
  ⟨takesNext _ _ _ _ (by decide), ⟨_, rfl, by decide +kernel, rfl⟩, ⟨_, rfl, rfl, by decide +kernel⟩, ⟨_, rfl, by decide +kernel⟩⟩

/-- Table 2.3: AXIS_ON in OFF gives READY; AXIS_RUN in READY is void. -/
theorem test_axis : after (exec (.axisOn .effect (ask 0x0100 5)) (inForce (withAxis .off) 0x0100 5))
      (fun t => decide ((t.axis? 5).map (·.st) = some .ready)) = true ∧
    after (exec (.axisRun .effect (ask 0x0103 5)) (inForce (withAxis .ready) 0x0103 5))
      (fun t => decide ((t.axis? 5).map (·.st) = some .ready) && decide (t.events.fresh.map (·.kind) = [0x401])) = true := by decide +kernel

theorem witness_MotionCommandsComeIntoForce :
    (∃ x, (withAxis .run).axis? 5 = some x ∧ (withAxis .run).due x = true ∧ x.st = .run ∧ x.mot.motion ≠ some .table) ∧
    (∃ x, (withAxis .hold { points := [{}] }).axis? 5 = some x ∧ x.st = .hold ∧ x.mot.points ≠ []) ∧
    bit (byteAt [(0 : Byte)] 0) 0 = false ∧ bit (byteAt [(1 : Byte)] 0) 0 = true ∧
    (∃ to_, ({ motion := some (.move 5) } : MotionRt).relative 1 = some to_) ∧
    ({ motion := some (.move 0x7FFFFFFFFFFF) } : MotionRt).relative 1 = none :=
  ⟨⟨_, rfl, by decide +kernel, rfl, by decide⟩, ⟨_, rfl, rfl, by decide⟩, by decide, by decide, ⟨_, rfl⟩, by decide +kernel⟩

/-- `lone` with coordination group 0 of axis 5. -/
def grouped (st : AxisSt) : State := State.setFields (withAxis st)
  [({ target := tgtGroup 0, table := 0x0407 }, 0xFFFFFFFFFFFFFF05)]

theorem witness_GroupMovesAndInjections : (grouped .hold).groupMembers 0 = [5] ∧ ((grouped .hold).axis? 5).map (·.st) = some .hold ∧
    ((grouped .off).axis? 5).map (·.st) = some .off ∧ (∃ x, (withAxis .hold).axis? 5 = some x ∧ (withAxis .hold).due x = true ∧ x.st = .hold ∧ x.inj = none) ∧
    bit (byteAt [(1 : Byte), 1] 0) 0 = true ∧ (withAxis .hold).axes.filter (fun y => y.entry.axis == 5) ≠ [] :=
  ⟨by decide +kernel, by decide +kernel, by decide +kernel, ⟨_, rfl, by decide +kernel, rfl, rfl⟩, by decide, by decide⟩

theorem witness_FieldsMapsAndCoefficients : TakesNext (inForce lone 0x0004 0x8000) (placed 0x0004 0x8000) [] (ask 0x0004 0x8000) 0x0004 ∧
    lone.common = true ∧ lone.order.mapPending = none ∧ ({ bodies := [placed 0x0110 5] } : Seal).bodies = [placed 0x0110 5] ∧
    (placed 0x0110 5).body = .cmd (ask 0x0110 5) ∧ (withAxis .off).order.mapPending = none :=
  ⟨takesNext _ _ _ _ (by decide), rfl, rfl, rfl, rfl, rfl⟩

/-- `lone` with an open kernel load and a request to node 3. -/
def serving (closing : Bool) (q : NodeReq) : State := { lone with
  clock := { lone.clock with cycle := 70000 }
  kernels := { load := some { length := 64, last := 70000 - 65536, closing := closing } }, services := { reqs := [q] } }

theorem witness_KernelsAndNodeRequests : TakesNext (inForce lone 0x0120 0xB020) (placed 0x0120 0xB020) [] (ask 0x0120 0xB020) 0x0120 ∧
    lone.hosts .x = true ∧ (lone.branches[7]?).map (·.poss.length) = some 8 ∧ (serving true {}).isVoice = true ∧
    (serving true {}).kernels.load.isSome = true ∧ 4464 + 65536 ≤ (serving false {}).clock.cycle ∧
    (serving false { tag := 9, outcome := 0xFE, sent := true, windows := 8 }).services.reqs.find?
      (fun y => y.tag == 9 && y.outcome == 0xFE && y.sent) = some { tag := 9, outcome := 0xFE, sent := true, windows := 8 } ∧
    (serving false { tag := 9, outcome := 0xFE, sent := true, windows := 8, resent := true }).services.reqs.length = 1 :=
  ⟨takesNext _ _ _ _ (by decide), rfl, by decide +kernel, by decide +kernel, by decide +kernel, by decide +kernel, by decide +kernel, rfl⟩

/-- Lane A of a Triplex cluster with a spare. -/
def quad : State := State.setFields voiceA [({ target := tgtCluster, table := 0x080F }, 3)]

theorem witness_SystemCommandsTakeEffect : TakesNext (inForce voiceA 0x0500 0x6001) (placed 0x0500 0x6001) [] (ask 0x0500 0x6001) 0x0500 ∧
    voiceA.common = true ∧ laneT (ask 0x0500 0x6001) ∈ voiceA.lanes.vset ∧ voiceA.lanes.voice ≠ some (laneT (ask 0x0500 0x6001)) ∧
    quad.config = 3 ∧ quad.lane ≠ .s ∧ quad.lanes.spareState = .dormant ∧ quad.lanes.spareWake = false ∧ laneT (ask 0x0800 0x6000) = safe.lane ∧
    safe.lockedOut = false ∧ safe.faults.sysF2 = false ∧ safe.faults.f3 = false ∧ safe.voting = true ∧ locked.lockedOut = true ∧
    locked.safety.lockoutId.toNat = byteAt [(3 : Byte)] 0 :=
  ⟨takesNext _ _ _ _ (by decide), by decide +kernel, by decide +kernel, by decide +kernel, by decide +kernel, by decide +kernel, rfl, rfl,
    by decide +kernel, by decide +kernel, rfl, rfl, by decide +kernel, by decide +kernel, by decide +kernel⟩

/-- `lone` with a handling timer that expires in this cycle. -/
def timed : State := { lone with faults := { lone.faults with inst := 1, timers := [{ inst := 1, expiry := 100, rep := { code := 0x108, cls := .f1 } }] } }

theorem witness_FaultCommandsAndTimers : TakesNext (inForce timed 0x0008) (placed 0x0008) [] (ask 0x0008) 0x0008 ∧ timed.common = true ∧
    timed.faults.f3 = false ∧ timed.faults.timers.Pairwise (fun y z => y.inst ≠ z.inst) ∧ safe.clearBlocked = false ∧ locked.clearBlocked = true ∧
    lone.faults.timers = [] ∧ (timed.faults.timers.find? (fun y => y.inst == 1 && decide (y.expiry ≤ timed.clock.cycle))).isSome = true ∧
    timed.faults.timers.find? (fun y => y.inst == 2 && decide (y.expiry ≤ timed.clock.cycle)) = none :=
  ⟨takesNext _ _ _ _ (by decide), by decide +kernel, rfl, by simp [timed], by decide +kernel, by decide +kernel, rfl, by decide +kernel,
    by decide +kernel⟩

/-! ### The network, the star and the lanes -/

/-- `lone` in a network state. -/
def inNet (n : Net) (role : Role := .unassigned) : State := { lone with net := n, lanes := { lone.lanes with role := role } }

theorem witness_NetworkStatesChangeByTheirTable : (inNet { st := .listen, listenCount := 8 }).net.st = .listen ∧
    (inNet { st := .listen, listenCount := 8 }).lanes.addr = some .a ∧ 8 + 4 * Lane.a.num ≤ 8 ∧
    (inNet { st := .coldstart, coldCount := 4 }).addrAllowed = true ∧ (inNet { st := .coldstart, coldCount := 4 }).lane ≠ .s ∧
    (inNet { st := .integrate, intGood := 2 }).addrAllowed = true ∧ (inNet { st := .sync, outvoted := 3 } .voting).lanes.role = .voting ∧
    (inNet { st := .listen, foreign := 8 }).common = false ∧ (inNet { st := .listen, foreign := 8 } .voting).common = true ∧
    (∀ x ∈ lone.safety.tests, x.phase = 0) ∧ lone.order.held = [] ∧ lone.faults.timers = [] ∧ Quiet lone 0x201 locNone := by
  unfold Quiet; decide +kernel

/-- R263: count 8 of LISTEN starts the cluster cold, count 7 does not. -/
theorem test_listen : after (exec .listenTimeout (inNet { st := .listen, listenCount := 8 })) (fun t => decide (t.net.st = .coldstart)) = true ∧
    after (exec .listenTimeout (inNet { st := .listen, listenCount := 7 })) (fun t => decide (t.net.st = .listen)) = true := by decide +kernel

/-- A LANE frame of lane B for `voiceA`'s layout, of its present cycle. -/
def laneFrame : List Byte :=
  [48, 14, 64, 128, 0, 0, 1, 249, 0, 0, 0, 0, 0, 0, 0, 100, 1, 231, 36, 208, 62, 0, 0, 0, 105, 48, 12, 188]

set_option maxRecDepth 50000 in
theorem witness_LaneFramesCarryTheTimeBase : voiceA.simplex = false ∧ voiceA.isVoice = true ∧ voiceA.net.st = .sync ∧
    frameOk laneFrame true = true ∧ frameOk laneFrame false = false ∧ (Hdr.of laneFrame).ty = 3 ∧ (Hdr.of laneFrame).len = 16 ∧
    0 ∉ voiceA.lanes.weirWrong ∧ be (payloadOf laneFrame) 9 4 = voiceA.layoutCrc ∧
    be (payloadOf laneFrame) 9 4 ≠ lone.layoutCrc ∧
    bit (byteAt (payloadOf laneFrame) 8) 2 = false ∧ 4 < voiceA.clock.cycle := by decide +kernel

theorem witness_MapFormation : ({ lone with clock := { lone.clock with cycle := 104 } } : State).isVoice = true ∧ 104 % 16 = 8 ∧
    Quiet lone 0x202 locNone ∧ Quiet lone 0x284 locNone := by unfold Quiet; decide +kernel

/-- `lone` with nothing to do, at the end of a rate period. -/
def quiet : State := { lone with net := { lone.net with spareWokenThisStart := true }, clock := { lone.clock with cycle := 112 } }

theorem witness_CyclesAndRatePeriodsBegin : lone.power.steward = true ∧ (inNet { st := .sync }).lanes.role ≠ .voting ∧
    (inNet { st := .sync }).lanes.leaving = [] ∧ (inNet { st := .sync }).order.sealMsg = none ∧ quiet.lanes.role = .voting ∧ quiet.order.accepted = [] ∧
    quiet.order.mapPending = none ∧ quiet.axes = [] ∧ quiet.nodes = [] ∧ quiet.lanes.couch = {} ∧ quiet.lanes.realign = [] ∧ quiet.simplex = true ∧
    quiet.clock.running = true ∧ quiet.clock.cycle % 16 = 0 ∧ quiet.time.mapNext = none ∧ Quiet quiet 0x202 locNone ∧ Quiet quiet 0x284 locNone := by
  unfold Quiet; decide +kernel

/-- `lone` as star, with branch 2 as given. -/
def star (b : Branch) : State := { lone with branches := lone.branches.set 2 b }

/-- An uplink entry of position 3 from MT 10, 8 MT long, in every cycle; and a downlink entry. -/
def upEntry : BitVec 32 := BitVec.ofNat 32 (3 * 2 ^ 27 + 10 * 2 ^ 8 + 8 * 4)
def downEntry : BitVec 32 := BitVec.ofNat 32 (1 * 2 ^ 30 + 3 * 2 ^ 27 + 10 * 2 ^ 8 + 8 * 4)

/-- The UPLINK of branch 2, position 3, in cycle 100, with 4 bytes; and an ACYC_UP of it. -/
def upFrame : List Byte := [18, 98, 64, 32, 0, 0, 1, 189, 0, 0, 5, 0, 209, 121, 244, 179]
def acycFrame : List Byte := [98, 98, 64, 32, 0, 0, 1, 229, 0, 0, 5, 0, 253, 80, 241, 77]

/-- Position 3 with its fields as given. -/
def atPos (q : Position) : Branch := { sched := [upEntry], poss := (List.replicate 8 {}).set 3 q }

set_option maxRecDepth 50000 in
theorem witness_SluicesAdmitAndClose : (star (atPos {})).relaying = some .x ∧ 3 < ((star (atPos {})).branches.getD 2 {}).poss.length ∧
    frameOk upFrame true = true ∧ (Hdr.of upFrame) = { ty := 1, branch := 2, pos := 3, cycle := 36, matrix := 1, len := 4 } ∧
    (atPos {}).sched.filter (fun w => entWin w == 0 && entActive w (100 % 64)) = [upEntry] ∧ entPos upEntry = 3 ∧
    (900 - (400 + 50 * entStart upEntry) : Int).natAbs ≤ (star (atPos {})).accWin ∧
    (972 : Int) ≤ 400 + 50 * entStart upEntry + 50 * entLen upEntry - (star (atPos {})).accWin ∧
    frameOk acycFrame true = true ∧ (Hdr.of acycFrame).ty = 6 ∧ (star { atPos {} with grant := 3 }).pos 2 3 = {} ∧
    (star (atPos {})).arbStartNs + 100 ≤ (star (atPos {})).arbEndNs - (star (atPos {})).accWin ∧
    ((star (atPos { viol := 3 })).pos 2 3).viol = 3 ∧ Quiet lone 0x208 (locNode 0 2 3) ∧ Quiet lone 0x209 (locPort 2) ∧
    (star (atPos {})).fld (tgtChan .x) 0x0704 5 0 = 1 ∧ (star (atPos {})).fld (tgtChan .x) 0x0704 4 0 ≤ 0xFFFF := by
  unfold Quiet; decide +kernel

/-- A DOWNLINK to branch 2, position 3, under epoch 7. -/
def downFrame : List Byte := [34, 98, 64, 32, 0, 56, 1, 22, 0, 0, 0, 0, 36, 92, 115, 64]

/-- `lone` as star that does not speak, with a downlink entry of branch 2, position 3. -/
def downStar : State := { star { sched := [downEntry] } with lanes := { lone.lanes with voiceStop := true } }

set_option maxRecDepth 50000 in
theorem witness_DownwardFramesAndGrants : downStar.simplex = true ∧ downStar.relaying = some .x ∧ downStar.speaks = false ∧
    (downStar.branches.getD 2 {}).sched.find? (fun w => entWin w == 1 && entPos w == 3 && entActive w (100 % 64)) = some downEntry ∧
    downStar.downFits 2 2 downFrame = true ∧ (Hdr.of downFrame).pos = 3 ∧ downStar.hosts .x = true ∧
    ({} : Branch).sched = [] ∧
    (inNet { st := .listen }).relaying = none ∧ (inNet { st := .listen }).isVoice = false ∧
    downStar.downFits 5 2 downFrame = false ∧ downStar.branches.length = 8 := by decide +kernel

/-- `lone` with the link of branch 2 in a state, its position 3 probed. -/
def linked (st : LinkState) : State := star { probe := some 3, firstPass := false, probeWait := 0xFFFF, links := st }

theorem witness_LinksTrainAndProbesMeasure : (linked .down).linkSt 2 = .down ∧ (linked .down).linkEnabled 2 = true ∧ (linked .align).linkSt 2 = .align ∧
    (linked .up).linkSt 2 = .up ∧ (linked .off).linkSt 2 = .off ∧ (∃ k, lone.link? 0x40 = some k) ∧ Quiet lone 0x20A (locPort 2) ∧
    (linked .up).hosted = some .x ∧ ((linked .up).branches.getD 2 {}).probe = some 3 ∧ ((linked .up).pos 2 3).inForce = none ∧
    (linked .up).fld (tgtChan .x) 0x0704 7 0 ≤ ((linked .up).branches.getD 2 {}).probeWait ∧
    (inNet { st := .sync }).computing = false :=
  ⟨by decide +kernel, by decide +kernel, by decide +kernel, by decide +kernel, by decide +kernel, ⟨_, rfl⟩, by unfold Quiet; decide +kernel,
    by decide +kernel, by decide +kernel, by decide +kernel, by decide +kernel, by decide +kernel⟩

/-! ### Consensus, the vote and the lanes -/

/-- `s` with the node of branch 2, position 3, placed in every cycle. -/
def netted (s : State) : State := { s with
  cfg := { s.cfg with map := { nodes := [{ node := 0x1203, branch := 2, pos := 3 }] }, nodes := [{ node := 19 }] }, nodes := [{ node := 19 }] }

/-- Messages of lane B in cycle 100 (Table 8.3): CONSENSUS without a copy, INPUT_DIGEST 5, EXCHANGE of axis 5, IDENT. -/
def mapMsg : List Byte := [2, 17, 0, 18, 0, 100] ++ List.replicate 18 0 ++ [205, 63, 238, 248]
def digestMsg : List Byte := [3, 17, 0, 8, 0, 100, 0, 0, 0, 0, 0, 0, 0, 5, 15, 109, 230, 33]
def exchMsg : List Byte := [8, 17, 0, 9, 0, 100, 5, 0, 0, 0, 0, 0, 0, 0, 9, 149, 9, 113, 10]
def identMsg : List Byte := [1, 17, 0, 1, 0, 100, 1, 61, 187, 252, 164]

/-- A VOTE of lane B with TOTAL 0x11 that heard every lane; an empty SEAL of lane A, and lane B's CONFIRM of it. -/
def voteMsg : List Byte := [4, 17, 0, 46, 0, 100, 0, 0, 0, 0, 0, 0, 0, 17] ++ List.replicate 34 0 ++ [7, 7, 0, 0, 236, 151, 97, 200]
def sealBytes : List Byte := [6, 16, 0, 20, 0, 100] ++ List.replicate 20 0 ++ [184, 219, 15, 160]
def confirmMsg : List Byte := [7, 17, 0, 19, 0, 100] ++ List.replicate 19 0 ++ [40, 183, 20, 120]

/-- Lane A of the Triplex cluster with other lanes' state as given. -/
def withLanes (f : Lanes → Lanes) : State := { voiceA with lanes := f voiceA.lanes }

set_option maxRecDepth 50000 in
/-- The messages are read as what they are (R326, Table 8.3); with a bit changed, none is. -/
theorem test_messages : voiceA.weirMsg 0x02 mapMsg = some (.b, 100, List.replicate 18 0) ∧
    voiceA.weirMsg 0x03 digestMsg = some (.b, 100, [0, 0, 0, 0, 0, 0, 0, 5]) ∧
    voiceA.weirMsg 0x08 exchMsg = some (.b, 100, [5, 0, 0, 0, 0, 0, 0, 0, 9]) ∧ identOf identMsg = some .b ∧
    voiceA.weirMsg 0x02 digestMsg = none ∧ voiceA.weirMsg 0x03 (0 :: digestMsg) = none := by decide +kernel

set_option maxRecDepth 50000 in
theorem test_votes : (voiceA.weirMsg 0x04 voteMsg).map (fun x => (x.1, x.2.1, x.2.2.length)) = some (.b, 100, 46) ∧
    (laneB.weirMsg 0x06 sealBytes).map (fun x => (x.1, x.2.1, x.2.2.length)) = some (.a, 100, 20) ∧
    (voiceA.weirMsg 0x07 confirmMsg).map (fun x => (x.1, x.2.1, x.2.2.length)) = some (.b, 100, 19) := by decide +kernel

set_option maxRecDepth 50000 in
theorem witness_InputConsensusTakesTheAgreedCopies : (netted voiceA).net.st = .sync ∧ (netted voiceA).computing = true ∧
    frameOk upFrame true = true ∧ (Hdr.of upFrame) = { ty := 1, branch := 2, pos := 3, cycle := 36, matrix := 1, len := 4 } ∧
    hdrOk acycFrame = true ∧ (Hdr.of acycFrame).ty = 6 ∧ (Hdr.of acycFrame).ch = chNum .x ∧
    (netted voiceA).nodeActive 19 = true ∧ (netted voiceA).fld (tgtNode 2 3) 0x060E 7 0 = 4 ∧ (netted voiceA).syncNode 19 = false ∧
    (netted voiceA).simplex = false ∧ (netted lone).simplex = true ∧ (netted voiceA).lanes.resolved = false ∧
    (voiceA.isVoice = true ∧ laneB.isVoice = false ∧ laneB.voting = true) ∧ Lane.b ∈ voiceA.lanes.vset ∧ Lane.b ≠ voiceA.lane ∧
    0 ∉ voiceA.lanes.weirWrong ∧ 100 = voiceA.clock.cycle % 65536 ∧ voiceA.lanes.digests.any (fun d => d.1 == Lane.b) = false ∧
    3 ≤ (withLanes (fun l => { l with deficient := 3 })).lanes.deficient ∧ (voiceA.lane ∈ voiceA.lanes.vset ∧ voiceA.lanes.leaving = []) ∧
    agreedChannel ((withLanes (fun l => { l with maps := [(.b, List.replicate 18 0xFF)], present := l.vset })).mapsUsed) 19 = some .x := by
  decide +kernel

/-- The feedback channel of axis 5 with a decoder as given, on the policy as given. -/
def decoding (d : Decoder) (st : AxisSt := .off) (policy : BitVec 64 := 1) : State := State.setFields
  { lone with axes := [{ entry := { axis := 5 }, st := st, dec := d }] } [({ target := 5, table := 0x0509, row := 21 }, policy)]

/-- `lone` with local channel 3 a quadrature channel, as given. -/
def quadrature (c : LocalChan) : State := State.setFields { lone with locals := (List.replicate 8 {}).set 3 c }
  [({ target := tgtLocal 3, table := 0x0508, row := 4 }, 1)]

theorem witness_FeedbackChannelsLimitsAndShifts : (∃ a, (decoding { policyDue := some 7 }).axis? 5 = some a ∧ a.dec.policyDue = some 7) ∧
    (decoding {} .off 0).fb 5 21 = 0 ∧ (decoding {}).fb 5 21 = 1 ∧ (decoding {} .run 2).fb 5 21 = 2 ∧ AxisSt.run.computes = true ∧
    AxisSt.off.computes = false ∧ (decoding {}).isActive 0x1C3 (locAxis 5) = false ∧ (decoding {}).faults.timers = [] ∧
    (∃ a, (decoding { deferred := some 7 }).axis? 5 = some a ∧ (decoding { deferred := some 7 }).due a = true) ∧
    (decoding {}).fb 5 15 ≤ 65535 ∧ (decoding {}).fb 5 12 ≤ 65535 ∧ (decoding {}).fb 5 16 ≤ 65535 ∧ 0 < (decoding {}).fb 5 15 ∧
    (quadrature {}).locals[3]? = some ({} : LocalChan) ∧ (quadrature {}).lcMode 3 = 1 ∧ (quadrature {}).localUser 3 = none ∧
    5 < (quadrature {}).lcInstant 3 * 10 :=
  ⟨⟨_, rfl, rfl⟩, by decide +kernel, by decide +kernel, by decide +kernel, rfl, rfl, by decide +kernel, rfl, ⟨_, rfl, by decide +kernel⟩,
    by decide +kernel, by decide +kernel, by decide +kernel, by decide +kernel, rfl, by decide +kernel, by decide +kernel, by decide +kernel⟩

/-- R194: a quadrature edge of A away from B's level counts up, one towards it down. -/
theorem test_quadrature : after (exec (.localFeedbackEdge 3 (.a true) 5) (quadrature {}))
      (fun t => decide ((t.locals.getD 3 {}).count = 1)) = true ∧
    after (exec (.localFeedbackEdge 3 (.b true) 5) (quadrature {})) (fun t => decide ((t.locals.getD 3 {}).count = 0xFFFF)) = true := by
  decide +kernel

theorem witness_EnginesRunTheDueAxes : (withAxis .run).computing = true ∧ (withAxis .run).simplex = true ∧
    (withEngine busy).engines[0]? = some busy ∧ busy.axis = none ∧ (withAxis .run).dueOn 0 = [5] ∧ (withAxis .run).dueOn 1 = [] ∧
    (∃ a, (withAxis .run).axis? 5 = some a ∧ (withAxis .run).kernel? a.entry.kernel = none) ∧
    ((withEngine { busy with axis := some 5 }).engines[0]? = some { busy with axis := some 5 }) ∧ (withEngine busy).engines.length = 16 ∧
    ({ withAxis .run with lanes := { lone.lanes with resolved := true } } : State).lanes.resolved = true :=
  ⟨by decide +kernel, by decide +kernel, rfl, rfl, by decide +kernel, by decide +kernel, ⟨_, rfl, by decide +kernel⟩, rfl, rfl, rfl⟩

/-- Axis 5 with a run of this cycle completed, its FLAGS word as given. -/
def flagged (w : BitVec 32) : State := { lone with
  axes := [{ entry := { axis := 5 }, st := .run, out := [(3, w)], snap := { dueCycle := 100 } }]
  engines := { axis := some 5 } :: List.replicate 15 {} }

theorem witness_RunFlagsAndMemoryErrorsFault : (∃ a, (flagged 0xB).axis? 5 = some a ∧ a.st ≠ .off) ∧ (flagged 0xB).runFlag 5 0 = true ∧
    (flagged 0xB).runFlag 5 1 = true ∧ (flagged 0xB).runFlag 5 3 = true ∧ (flagged 0).runFlag 5 0 = false ∧ (flagged 0).runFlag 5 1 = false ∧
    (flagged 0).runFlag 5 3 = false ∧ (flagged 0xB).faults.timers = [] ∧ (flagged 0xB).faults.computed = [] ∧
    (flagged 0xB).isActive 0x142 (locAxis 5) = false ∧ (flagged 0xB).common = true ∧ (∃ e, (flagged 0xB).engines[0]? = some e ∧ e.axis = some 5) :=
  ⟨⟨_, rfl, by decide⟩, by decide +kernel, by decide +kernel, by decide +kernel, by decide +kernel, by decide +kernel, by decide +kernel, rfl, rfl,
    by decide +kernel, rfl, ⟨_, rfl, rfl⟩⟩

/-- `lone` recording, its acquisition unit as given. -/
def recording (q : Acq) : State := State.setFields { lone with acq := { q with running := true } }
  [({ target := tgtAcq, table := 0x0A07, row := 0 }, 1), ({ target := tgtAcq, table := 0x0A07, row := 1 }, 4),
   ({ target := tgtAcq, table := 0x0A07, row := 5 }, 2), ({ target := tgtAcq, table := 0x0A07, row := 6 }, 3)]

theorem witness_AcquisitionWritesItsSegments : (recording { st := .filling }).recording = true ∧ Memory.wf (recording { st := .filling }).acq.mem = true ∧
    (recording { st := .filling }).clock.cycle % (recording { st := .filling }).aq 3 0 = 0 ∧
    (recording { st := .filling, written := 2 }).aq 5 0 ≤ 2 ∧ 0 + (recording {}).aq 8 0 ≤ (recording {}).clock.cycle ∧
    (recording { st := .post, post := 3 }).aq 6 0 ≤ 3 ∧ (recording {}).aq 4 0 ≤ 0 + 1 ∧ (recording {}).common = true ∧
    0 < (recording {}).acq.lines.length := by decide +kernel

/-- A segment before the last: two segments. -/
def twoSegments : State := State.setFields (recording { st := .post, post := 3 }) [({ target := tgtAcq, table := 0x0A07, row := 0 }, 1),
  ({ target := tgtAcq, table := 0x0A07, row := 4 }, 2), ({ target := tgtAcq, table := 0x0A07, row := 6 }, 3)]

theorem witness_AcquisitionNextSegment : twoSegments.recording = true ∧ twoSegments.acq.st = .post ∧ twoSegments.acq.trigPending = false ∧
    twoSegments.aq 6 0 ≤ twoSegments.acq.post ∧ twoSegments.acq.segment + 1 < twoSegments.aq 4 0 := by decide +kernel

set_option maxRecDepth 50000 in
theorem witness_SealsCarryTheCommandOrder : (inNet {} .voting).computing = false ∧ voiceA.isVoice = true ∧ voiceA.computing = true ∧
    voiceA.order.sealMsg = none ∧ voiceA.order.held.length ≤ 8 ∧ laneB.isVoice = false ∧ laneB.voting = true ∧ laneB.simplex = false ∧
    laneB.lanes.voice = some .a ∧ 100 = laneB.clock.cycle % 65536 ∧ 0 ∉ laneB.lanes.weirWrong ∧
    laneB.passesOn { lane := .b, body := some (.evtRd 0) } = false ∧
    ({ laneB with lanes := { laneB.lanes with vset := [.a, .b] } } : State).passesOn { lane := .c, body := some (.evtRd 0) } = true ∧
    ({ n := 0 } : Seal).crc = BitVec.ofNat 64 (be (List.replicate 19 (0 : Byte)) 10 8) := by decide +kernel

set_option maxRecDepth 50000 in
theorem witness_TheVoteKeepsTheVotingSet : Lane.b ≠ voiceA.lane ∧ voiceA.lanes.votes.any (fun v => v.lane == Lane.b) = false ∧
    epochNewer 1 voiceA.lanes.epoch = true ∧
    (let s : State := { laneB with lanes := { laneB.lanes with votes := [{ lane := .b }, { lane := .c }] } }
     s.lanes.voice = some .a ∧ .a ∉ s.heardNow ∧ s.majority s.heardNow = true ∧ lowest s.heardNow = some .b) ∧
    (let s : State := { laneB with lanes := { laneB.lanes with votes := [{ lane := .a }] } }
     .a ∈ s.heardNow ∧ s.differs = false) ∧
    (let s : State := { laneB with lanes := { laneB.lanes with votes := [{ lane := .a }, { lane := .b }, { lane := .c, vote := [1, 0, 0, 0, 0, 0, 0, 0, 0, 1] }] } }
     s.differs = true ∧ (∀ c < 17, s.judge c = ([], false) ∨ s.judge c = ([.c], false)) ∧ s.judge 0 = ([.c], false) ∧ s.isVoice = false ∧ s.lanes.leaving = []) ∧
    (withLanes (fun l => { l with absent := [(.b, 2)], present := [.a, .c] })).majority [.a, .c] = true ∧
    2 ≤ ({ laneB with lanes := { laneB.lanes with noMajority := 2 } } : State).lanes.noMajority ∧
    ({ laneB with lanes := { laneB.lanes with realign := [(5, 102)] } } : State).realigning 5 = true ∧ laneB.realigning 5 = false := by
  decide +kernel

theorem witness_SnapshotSwitchNumbersTheRecords : (inNet { st := .listen }).common = false ∧ lone.common = true ∧ lone.evtBase = 0 ∧
    lone.events.dropped = 0 ∧ ({ lone with host := { lone.host with holdReq := true } } : State).host.holdReq = true ∧
    ({ lone with host := { lone.host with mirroring := some 4 } } : State).host.mirroring = some 4 ∧ lone.isVoice = true ∧ laneB.isVoice = false := by
  decide +kernel

/-- `lone` whose clock reference is valid and whose address is not latched yet. -/
def unplaced (p : Option Nat) : State := { lone with power := { lone.power with steward := false }, lanes := { pulses := p } }

/-- The spare lane of a Triplex cluster in REFRESH. -/
def spare (tries : Nat) : State := { quad with lanes := { quad.lanes with addr := some .s, role := .refresh, refreshTries := tries, refreshSrc := some .b }
                                               power := { quad.power with mode := .refresh } }

set_option maxRecDepth 50000 in
theorem witness_LanesFindTheirPlaces : (unplaced none).power.refValid = true ∧ (unplaced none).lanes.addr = none ∧
    (unplaced (some 2)).lanes.pulses = some 2 ∧ (unplaced none).power.steward = false ∧ ({ lone with lanes := { lone.lanes with pulses := some 1 } } : State).lanes.pulses = some 1 ∧
    (unplaced none).common = false ∧ Quiet (unplaced none) 0x248 locNone ∧ identOf identMsg = some .b ∧ voiceA.simplex = false ∧
    weirLane voiceA.lane 0 = some .b ∧ weirLane voiceA.lane 1 ≠ some .b ∧ Quiet voiceA 0x247 locNone ∧ voiceA.weirUsed 0 = true ∧
    8 ≤ ({ voiceA with weirs := List.replicate 12 { outCycles := 8 } } : State).outCycles 0x40 ∧ Quiet voiceA 0x246 (locPort 0x40) ∧
    lone.weirUsed 0 = false ∧ (spare 0).lanes.role = .refresh ∧ (spare 0).power.mode = .refresh ∧ (spare 0).power.copies.length = 2 ∧
    (withLanes (fun l => { l with couchWait := true })).lanes.couchWait = true := by unfold Quiet; decide +kernel

/-- Lane C of a Triplex cluster that is couched from lane B. -/
def couched (c : Couch) : State := { voiceA with lanes := { voiceA.lanes with
  addr := some .c, role := .joining, vset := [.a, .b], couch := { c with active := true, source := some .b, joiner := some .c } } }

theorem witness_CouchingCopiesTheState : (withLanes (fun l => { l with vset := [.a, .b] })).voting = true ∧
    (withLanes (fun l => { l with vset := [.a, .b] })).stopped = false ∧ (withLanes (fun l => { l with vset := [.a, .b] })).simplex = false ∧
    Lane.c ∉ (withLanes (fun l => { l with vset := [.a, .b] })).lanes.vset ∧ (withLanes (fun l => { l with vset := [.a, .b] })).couchSource = some .b ∧
    (couched {}).couching = true ∧ (couched {}).lanes.couch.committed = false ∧ (couched {}).lanes.couch.confirms = [] ∧
    (couched {}).lanes.couch.imageCrc = none ∧ Lane.a ∈ (couched {}).lanes.vset ∧ Lane.b ∈ (couched {}).lanes.vset ∧ 2 ≤ (couched {}).lanes.vset.length ∧
    (([CouchPart.steward {}]).filterMap CouchPart.steward?).head? = some {} ∧ (couched { committed := true, replayed := some 99 }).couching = true ∧
    99 + 1 = (couched {}).clock.cycle ∧ (couched {}).axes = [] ∧ (couched {}).nodes = [] ∧ (couched {}).order.mapPending = none ∧
    (kvGet [(98, [(19, [(1 : Byte)])])] 98).bind (fun x => kvGet x 19) = some [1] ∧
    (withLanes (fun l => { l with couch := { active := true, joiner := some .c } })).lanes.couch.joiner = some .c := by decide +kernel

/-- The commit's one premise over the image: an image whose own CRC is the one that was sent. -/
theorem witness_CouchCommit : (couched {
      parts := [.steward {}], imageCrc := some (Config.imageCrc [.steward {}])
      confirms := [(.b, Config.imageCrc [.steward {}], 0, 90)] }).lanes.couch.imageCrc = some (Config.imageCrc [.steward {}]) := rfl

/-- A field of the time unit, of lane A. -/
def timeField (row elem unit : Nat) (v : BitVec 64) : FieldKey × BitVec 64 :=
  ({ target := tgtCluster, table := 0x0906, row := row, elem := elem, unit := unit, lane := 0 }, v)

/-- `lone` with its Ethernet port in use and up, and the master of `sync1` selected. -/
def timing (t : TimeUnit) (l : List (FieldKey × BitVec 64) := []) : State := State.setFields { lone with
  time := { t with linkUp := true, master := some (List.replicate 8 7), masterData := List.replicate 30 0 ++ List.replicate 10 1 } }
  (timeField 0 0 0xFF 1 :: l)

/-- A Sync of that master. -/
def sync1 : PtpMsg := { seq := 4, src := List.replicate 10 1, time := 1000 }

theorem witness_ServoAndPtpKeepTheClock : (timing {}).ethUp = true ∧ (timing {}).ptpHears sync1 = true ∧ (timing {}).fromMaster sync1 = true ∧
    lone.ptpHears sync1 = false ∧ (timing {}).sourcePtp = true ∧ (timing {}).tc 9 0 ≠ 1 ∧ (timing {}).tc 8 0 ≠ 0 ∧
    (timing { syncT := some (5, 0, 4) }).time.syncT = some (5, 0, 4) ∧ (timing {}).common = true ∧ (timing {}).ptpMaster = false ∧
    (State.setFields (timing { servo := .locked }) [timeField 0 0 0xFF 1, ({ target := tgtCluster, table := 0x0906, row := 9 }, 2)]).ptpMaster = true ∧
    (State.setFields (timing {}) [timeField 0 0 0xFF 1, ({ target := tgtCluster, table := 0x0906, row := 8 }, 0)]).tc 8 0 = 0 ∧
    (State.setFields (timing {}) [({ target := tgtCluster, table := 0x0906, row := 14 }, 1)]).sourcePtp = false ∧
    Quiet (timing {}) 0x280 locNone ∧ Quiet (timing {}) 0x285 locNone ∧ (timing { servo := .acquiring, locks := 16 }).time.servo = .acquiring := by
  unfold Quiet; decide +kernel

theorem witness_PulsesCapturesAndFrames : (timing {}).time.pps[0]? = some ({} : Pps) ∧ (timing {}).time.pps[4]? = none ∧ (timing {}).ppsMode 0 = 0 ∧
    (timing {} [timeField 23 0 0 2]).ppsMode 0 = 2 ∧ (timing {} [timeField 23 0 0 1]).ppsMode 0 = 1 ∧ (timing {}).faults.f3 = false ∧
    (timing {}).tf 28 0 0 = 0 ∧ (timing {}).tc 14 0 ≠ 0 + 1 ∧ ((timing {}).time.fifo.getD 0 []).length < 16 ∧ (timing {} [timeField 30 0 0 1]).tf 30 0 0 = 1 ∧
    16 ≤ ((timing { fifo := [List.replicate 16 {}] }).time.fifo.getD 0 []).length ∧ (timing {}).common = true ∧ Quiet (timing {}) 0x288 locNone ∧
    (timing {}).order.held = [] ∧ (timing {}).order.accepted = [] ∧ (State.setFields lone [timeField 0 0 0xFF 1]).tf 0 0 = 1 ∧
    lone.time.linkUp = false := by unfold Quiet; decide +kernel

/-! ### The invariant -/

/-- The state after reset has the shape that StepKeepsShape speaks of, and so has the state of these tests. -/
theorem witness_StepKeepsShape : Shape lone ∧ Shape voiceA ∧ ∃ t, step lone = .next t := by
  unfold Shape; exact ⟨by decide +kernel, by decide +kernel, _, rfl⟩

end Sys2Proof.Tests
end

section
/-!
SUPPORT. The host port: what each of its rows does while the port works, the forms of a write of BAR0 (R529), the command area of a
mailbox (R541), and the end of a condition that this lane alone detects (R504).
-/
namespace Sys2Proof.Proofs
open Sys2Proof Sys2Proof.Machine Sys2Proof.Laws

/-! ### The rows of the host port -/

theorem exec_countLoRead (s : State) : exec .countLoRead s = .next (if s.hostOn then s.latchCount else s) := rfl

theorem exec_snapHoldWrite (v : BitVec 32) (s : State) : exec (.snapHoldWrite v) s = .next (if s.hostOn then s.askHold else s) := rfl

theorem exec_capturePop (n : Nat) (s : State) : exec (.capturePop n) s = .next (if s.hostOn then s.popCapture n else s) := rfl

theorem exec_w1cWrite (o : Nat) (v : BitVec 32) (s : State) : exec (.w1cWrite o v) s = .next (if s.hostOn then s.w1c o v else s) := rfl

theorem exec_wdtWrite (v : BitVec 32) (s : State) : exec (.wdtWrite v) s = .next (if s.hostOn then s.restartWdt else s) := rfl

theorem exec_evtRdWrite (v : BitVec 32) (s : State) : exec (.evtRdWrite v) s = .next (if s.hostOn then s.evtRd v else s) := rfl

theorem exec_registerWrite (o : Nat) (data : List Byte) (s : State) :
    exec (.registerWrite o data) s = .next (if s.hostOn then s.regWrite o data else s) := rfl

/-! ### Bodies and ended conditions in a lane of the common sequence -/

/-- In the common sequence a lane's own reports wait for the command order (R349). -/
theorem collectOwn_common {s : State} (h : s.common = true) : s.collectOwn = s := by
  simp [State.collectOwn, h]

theorem reportEnd_common (s : State) (code : Nat) (loc : Loc) : (s.reportEnd code loc).common = s.common := by
  obtain h | h := reportEnd_cases s code loc
  · rw [h]
  · rw [h]; rfl

theorem foundEnd_common {s : State} (h : s.common = true) (code : Nat) (loc : Loc) : s.foundEnd code loc = s.reportEnd code loc :=
  collectOwn_common ((reportEnd_common s code loc).trans h)

/-- A source that is neither active nor reported nor on its way has no condition to end. -/
theorem reportEnd_quiet {s : State} {code : Nat} {loc : Loc} (hq : Quiet s code loc) (hh : s.order.held = [])
    (ha : s.order.accepted = []) : s.reportEnd code loc = s := by
  obtain ⟨hactive, hreports⟩ := hq
  simp [State.reportEnd, hactive, hreports, hh, ha]

theorem reportEnd_active {s : State} {code : Nat} {loc : Loc} (h : s.isActive code loc = true) :
    s.reportEnd code loc = withBody s (.sourceEnded code loc) := by
  simp [State.reportEnd, h]; rfl

/-- A write of WDT restarts the watchdog and ends its condition (R521). -/
theorem restartWdt_common {s : State} (hc : s.common = true) :
    s.restartWdt = { s with host := { s.host with wdtRun := s.host.wdtRun + 1 } }.reportEnd 0x108 {} :=
  foundEnd_common (s := { s with host := { s.host with wdtRun := s.host.wdtRun + 1 } }) hc _ _

theorem restartWdt_quiet {s : State} (hc : s.common = true) (hq : Quiet s 0x108 {}) (hh : s.order.held = [])
    (ha : s.order.accepted = []) : s.restartWdt = { s with host := { s.host with wdtRun := s.host.wdtRun + 1 } } := by
  rw [restartWdt_common hc]
  exact reportEnd_quiet hq hh ha

theorem restartWdt_active {s : State} (hc : s.common = true) (h : s.isActive 0x108 {} = true) :
    s.restartWdt = withBody { s with host := { s.host with wdtRun := s.host.wdtRun + 1 } } (.sourceEnded 0x108 {}) := by
  rw [restartWdt_common hc]
  exact reportEnd_active h

theorem evtRd_voting {s : State} (hv : s.voting = true) (hc : s.common = true) (v : BitVec 32) : s.evtRd v = withBody s (.evtRd v) := by
  rw [State.evtRd, if_pos hv]
  exact collectOwn_common (s := withBody s (.evtRd v)) hc

theorem evtRd_not_voting {s : State} (hv : s.voting = false) (v : BitVec 32) : s.evtRd v = s := by
  simp [State.evtRd, hv]

/-! ### Bytes and lists -/

/-- Where a list has the entry, changing it is setting it. -/
theorem modAt_eq_set {α : Type} (f : α → α) {a : α} : ∀ {l : List α} {n : Nat}, l[n]? = some a → modAt l n f = l.set n (f a)
  | x :: r, 0, h => by cases h; rfl
  | x :: r, n + 1, h => congrArg (x :: ·) (modAt_eq_set f (l := r) (n := n) h)

/-- A change that leaves the entry as it is leaves the list. -/
theorem modAt_eq_self {α : Type} {f : α → α} {a : α} {l : List α} {n : Nat} (h : l[n]? = some a) (hf : f a = a) : modAt l n f = l := by
  obtain ⟨hn, ha⟩ := List.getElem?_eq_some_iff.mp h
  rw [modAt_eq_set f h, hf, ← ha, List.set_getElem_self hn]

/-- The four bytes of a word are one whole word. -/
theorem wholeWords_toLe (v : BitVec 32) : wholeWords (toLe 4 v.toNat) = [v] := by
  have h : le (toLe 4 v.toNat) 0 4 = v.toNat := by
    rw [le, List.drop_zero, List.take_of_length_le (by simp), leNat_toLe]
    exact Nat.mod_eq_of_lt v.isLt
  simp [wholeWords, h]

/-- A list filled up with 0 reads as before, a place beyond the list included. -/
theorem padTo_getD (bs : List Byte) {n i : Nat} (h : i < n) : (padTo n bs).getD i 0 = bs.getD i 0 := by
  rw [padTo]
  by_cases hi : i < bs.length
  · rw [List.getD_append _ _ _ _ (by simp; omega)]
    simp [h]
  · rw [List.getD_append_right _ _ _ _ (by simp; omega), List.getD_eq_default bs 0 (by omega),
      List.getD_replicate _ (by simp; omega)]

/-- Bytes written over a list stand in their place; every other byte reads as before. -/
theorem patch_getD (bs v : List Byte) (k i : Nat) :
    (patch bs k v).getD i 0 = if k ≤ i ∧ i < k + v.length then v.getD (i - k) 0 else bs.getD i 0 := by
  rw [patch, List.append_assoc]
  by_cases hk : i < k
  · rw [List.getD_append _ _ _ _ (by simpa using hk), padTo_getD bs hk, if_neg (by omega)]
  · rw [List.getD_append_right _ _ _ _ (by simp; omega), padTo_length]
    by_cases hv : i < k + v.length
    · rw [List.getD_append _ _ _ _ (by omega), if_pos (by omega)]
    · rw [List.getD_append_right _ _ _ _ (by omega), if_neg (by omega)]
      have hi : k + v.length + (i - k - v.length) = i := by omega
      simp [hi]

/-! ### Command areas (R541) -/

/-- Byte `k` of the command area of mailbox `n` (Table 14.3). -/
theorem cmdArea_box {n k : Nat} (hn : n < 16) (hk : k < 256) : cmdArea (0x8000 + 0x200 * n + k) = some (n, k) := by
  have hdiv : (0x8000 + 0x200 * n + k - 0x8000) / 0x200 = n := by omega
  have hmod : (0x8000 + 0x200 * n + k - 0x8000) % 0x200 = k := by omega
  rw [cmdArea, hdiv, hmod, if_pos (by omega)]

theorem cmdArea_below {o : Nat} (h : o < 0x8000) : cmdArea o = none := if_neg (by omega)

/-- A write of the command area, of any width. -/
theorem regWrite_box (s : State) {n k : Nat} (hn : n < 16) (hk : k < 256) (data : List Byte) :
    s.regWrite (0x8000 + 0x200 * n + k) data = s.cmdWrite n k data := by
  rw [State.regWrite, cmdArea_box hn hk]

theorem cmdWrite_idle {s : State} {n : Nat} {b : Mailbox} (hb : s.host.boxes[n]? = some b) (hst : b.st = .idle) (k : Nat)
    (data : List Byte) : s.cmdWrite n k data =
      { s with host := { s.host with boxes := s.host.boxes.set n { b with cmd := (patch b.cmd k data).take 256 } } } := by
  simp [State.cmdWrite, modAt_eq_set _ hb, hst]

theorem cmdWrite_not_idle {s : State} {n : Nat} {b : Mailbox} (hb : s.host.boxes[n]? = some b) (hst : b.st ≠ .idle) (k : Nat)
    (data : List Byte) : s.cmdWrite n k data = s := by
  rw [State.cmdWrite]
  dsimp only
  rw [modAt_eq_self hb (by simp [hst])]

/-- What the command area reads as after a write. -/
theorem cmdWritten_getD (cmd data : List Byte) (k : Nat) {i : Nat} (hi : i < 256) :
    ((patch cmd k data).take 256).getD i 0 = if k ≤ i ∧ i < k + data.length then data.getD (i - k) 0 else cmd.getD i 0 := by
  rw [← patch_getD, List.getD_eq_getElem?_getD, List.getElem?_take_of_lt hi, List.getD_eq_getElem?_getD]

/-! ### Writes of registers (R529) -/

/-- The four bytes of a word, written at a multiple of 4 below the mailboxes, are one write of that register. -/
theorem regWrite_word (s : State) {o : Nat} (h : o < 0x8000) (h4 : o % 4 = 0) (v : BitVec 32) :
    s.regWrite o (toLe 4 v.toNat) = s.wordWrite o v := by
  simp [State.regWrite, cmdArea_below h, h4, wholeWords_toLe, State.wordsWrite]

/-- Any other form is not accepted (log entry 35). -/
theorem regWrite_refused (s : State) {o : Nat} (h : o < 0x8000) {data : List Byte}
    (hform : (data.length ≠ 4 ∧ data.length ≠ 8) ∨ o % 4 ≠ 0) : s.regWrite o data = s := by
  rw [State.regWrite, cmdArea_below h]
  exact if_neg (by omega)

/-- A word that no table lets the host write: from the interrupt registers up to EVT_RD, and from the capture words up to the mailboxes. -/
theorem wordWrite_unnamed (s : State) {o : Nat} (h : (0x0300 ≤ o ∧ o + 4 ≤ 0x8000) ∨ (0x0048 ≤ o ∧ o < 0x0088)) (v : BitVec 32) :
    s.wordWrite o v = s := by
  rw [State.wordWrite, State.w1c]
  repeat rw [if_neg (by omega)]

end Sys2Proof.Proofs
end

section
/-!
PROOF. O28.
-/
namespace Sys2Proof.Proofs
open Sys2Proof Sys2Proof.Machine Sys2Proof.Laws

/-- Settles O28: with the port down every row answers the state it was given; with the port up each row is its own operation of the
state, whose effect the lemmas on the host port give. -/
theorem hostRegisterWritesAct : Obligations.HostRegisterWritesAct := by
  intro s v o n k data b hb hn h f word
  simp only [exec_countLoRead, exec_snapHoldWrite, exec_capturePop, exec_w1cWrite, exec_wdtWrite, exec_evtRdWrite, exec_registerWrite]
  refine ⟨fun hoff => by simp [hoff], fun hon => ?_⟩
  simp only [hon, if_true, Host.Outcome.next.injEq]
  refine ⟨rfl, rfl, ⟨_, rfl, fun i => ?capture⟩, rfl, rfl, rfl, restartWdt_quiet, restartWdt_active, fun hv hc => evtRd_voting hv hc v,
    fun hv => evtRd_not_voting hv v, regWrite_word s (by decide) rfl v, regWrite_word s (by decide) rfl v,
    regWrite_word s (by decide) rfl v, fun _ hk hst => ?area, fun _ hk hst => ?held, fun ho hform => regWrite_refused s ho hform,
    fun h4 ho => ?unnamed⟩
  case capture =>
    rw [modAt_getElem?]
    split
    · rfl
    · exact Option.map_id'.symm
  case area => exact ⟨_, (regWrite_box s hn hk data).trans (cmdWrite_idle hb hst k data), fun i => cmdWritten_getD b.cmd data k⟩
  case held => exact (regWrite_box s hn hk data).trans (cmdWrite_not_idle hb hst k data)
  case unnamed => exact (regWrite_word s (by omega) h4 v).trans (wordWrite_unnamed s ho v)

end Sys2Proof.Proofs
end

section
/-!
SUPPORT. Event records, snapshots and mirrors at the end of the compute window (R25 to R28, R536, R550 to R559): what each part of the
snapshot switch leaves as it was, and the numbers and places of the records of a cycle while there is no host ring (EVT_BASE 0).
-/
namespace Sys2Proof.Proofs
open Sys2Proof Sys2Proof.Machine Sys2Proof.Laws

theorem exec_snapshotSwitch (s : State) : exec .snapshotSwitch s = execSnapshotSwitch s := rfl

theorem exec_mirrorComplete (s : State) : exec .mirrorComplete s = execMirrorComplete s := rfl

/-! ### Posted writes -/

/-- A posted write changes what leaves the chip and nothing else (R554). -/
theorem dma_eq (s : State) (addr : Nat) (bs : List Byte) : s.dma addr bs = { s with tx := (s.dma addr bs).tx } := by
  unfold State.dma
  split <;> rfl

/-- Steps that each change only what leaves the chip do so together. -/
theorem foldl_tx_eq {α : Type} {f : State → α → State} (hf : ∀ s a, f s a = { s with tx := (f s a).tx }) :
    ∀ (l : List α) (s : State), l.foldl f s = { s with tx := (l.foldl f s).tx }
  | [], _ => rfl
  | a :: l, s => by
    have h := foldl_tx_eq hf l (f s a)
    rw [hf s a] at h
    rwa [List.foldl_cons, hf s a]

/-! ### Numbers and places of records -/

/-- Records with consecutive sequence numbers from `q` on (R550). -/
def numbered (q : BitVec 32) : List EvRec → List EvRec
  | [] => []
  | r :: l => { r with seq := q } :: numbered (q + 1) l

/-- The record at place `i` has the number `q + i`. -/
theorem range_map_seq (l : List EvRec) (q : BitVec 32) :
    (List.range l.length).map (fun i => { l.getD i {} with seq := q + BitVec.ofNat 32 i }) = numbered q l := by
  induction l generalizing q with
  | nil => rfl
  | cons r l ih =>
    have hnum (i : Nat) : q + BitVec.ofNat 32 (i + 1) = q + 1 + BitVec.ofNat 32 i := by
      rw [Nat.add_comm, BitVec.ofNat_add, ← BitVec.add_assoc]
      rfl
    rw [List.length_cons, List.range_succ_eq_map, List.map_cons, List.map_map, numbered, ← ih]
    refine congrArg₂ List.cons (by simp) (List.map_congr_left fun i _ => ?_)
    rw [Function.comp_apply, List.getD_cons_succ, hnum]

/-- A ring cut to its length before more is put ahead of it keeps what the longer list keeps. -/
theorem take_append_take {α : Type} (n : Nat) (a b : List α) : (a ++ b.take n).take n = (a ++ b).take n := by
  simp [List.take_append, List.take_take]

/-- Without a host ring a record takes the next number and the newest place on the chip (R550, R551). -/
theorem hostRecord_chip {s : State} (h : s.evtBase = 0) (r : EvRec) : ∃ st tx, s.hostRecord r = { s with
    events := { s.events with ring := ({ r with seq := s.events.seq } :: s.events.ring).take 256, localWr := s.events.localWr + 1,
                              seq := s.events.seq + 1, w := s.events.w + 1, r := s.events.w + 1 }
    host := { s.host with irqStatus := st }, tx := tx } := by
  obtain ⟨st, tx, hw⟩ := ringWrite_eq s { r with seq := s.events.seq }
  exact ⟨st, tx, by rw [State.hostRecord, if_pos h, hw]⟩

/-- Without a host ring records take consecutive numbers, and the newest 256 their places on the chip. -/
theorem hostRecords_chip (l : List EvRec) : ∀ {s : State}, s.evtBase = 0 → ∃ ev st tx, l.foldl State.hostRecord s =
    { s with events := ev, host := { s.host with irqStatus := st }, tx := tx } ∧ ev.fresh = s.events.fresh ∧
    ev.seq = s.events.seq + BitVec.ofNat 32 l.length ∧
    ev.ring.take 256 = ((numbered s.events.seq l).reverse ++ s.events.ring).take 256 := by
  induction l with
  | nil => exact fun {s} _ => ⟨s.events, s.host.irqStatus, s.tx, rfl, rfl, by simp, rfl⟩
  | cons r l ih =>
    intro s h
    obtain ⟨st, tx, hr⟩ := hostRecord_chip h r
    obtain ⟨ev, st', tx', hl, hfresh, hseq, hring⟩ := ih (s := s.hostRecord r) (by rw [hr]; exact h)
    rw [List.foldl_cons, hl]
    rw [hr] at hfresh hseq hring ⊢
    refine ⟨ev, st', tx', rfl, hfresh, ?seq, ?ring⟩
    case seq =>
      rw [hseq, List.length_cons, Nat.add_comm, BitVec.ofNat_add, ← BitVec.add_assoc]
      rfl
    case ring =>
      rw [numbered, List.reverse_cons, List.append_assoc]
      exact hring.trans (take_append_take 256 _ _)

/-! ### The parts of the snapshot switch -/

/-- Without a host ring a lane that took voice writes only mirrors again (R356). -/
theorem rewriteVoice_chip {s : State} (h : s.evtBase = 0) : ∃ b tx, s.rewriteVoice =
    { s with events := { s.events with rewrite := b }, tx := tx } := by
  unfold State.rewriteVoice
  split
  · have h' : ({ s with events := { s.events with rewrite := false } } : State).evtBase = 0 := h
    simp only [h', if_true]
    refine ⟨_, _, foldl_tx_eq (fun s m => ?_) _ _⟩
    split
    · rfl
    · exact dma_eq s _ _
  · exact ⟨s.events.rewrite, s.tx, rfl⟩

theorem overflow_nothingDropped {s : State} (h : s.events.dropped = 0) : s.overflow = s := if_pos (.inl h)

theorem announce_chip {s : State} (h : s.evtBase = 0) : s.announce = s := by
  simp [State.announce, h]

/-- The records of the cycle are numbered in their order, and the newest 256 stand on the chip (R28, R550). -/
theorem writeRecords_chip {s : State} (h : s.evtBase = 0) (hd : s.events.dropped = 0) : ∃ ev st tx, s.writeRecords =
    { s with events := ev, host := { s.host with irqStatus := st }, tx := tx } ∧ ev.fresh = [] ∧
    ev.seq = s.events.seq + BitVec.ofNat 32 s.events.fresh.length ∧
    ev.ring.take 256 = ((numbered s.events.seq s.events.fresh).reverse ++ s.events.ring).take 256 := by
  obtain ⟨b, tx, hv⟩ := rewriteVoice_chip h
  have hbase (ev : Events) (hp : HostPort) (tx : List Tx) : ({ s with events := ev, host := hp, tx := tx } : State).evtBase = 0 := h
  obtain ⟨ev, st, tx', hl, hfresh, hseq, hring⟩ := hostRecords_chip s.events.fresh
    (s := { s with events := { s.events with rewrite := b, fresh := [], sinceVec1 := s.events.sinceVec1.map (· + 1) }, tx := tx }) h
  refine ⟨ev, st, tx', ?_, hfresh, hseq, hring⟩
  rw [State.writeRecords, hv]
  dsimp only at hl ⊢
  rw [overflow_nothingDropped, hl]
  · simp only [hbase, ne_eq, not_true_eq_false, false_and, if_false]
    exact announce_chip (hbase _ _ _)
  · exact hd

/-- A mirror that is due or skipped changes the mirrors and what leaves the chip (R559). -/
theorem startMirror_eq (s : State) : ∃ nx mg ms sk tx, s.startMirror =
    { s with host := { s.host with mirrorNext := nx, mirroring := mg, mirrors := ms, snapSkipped := sk }, tx := tx } := by
  unfold State.startMirror
  dsimp only
  split
  · exact ⟨_, _, _, _, _, rfl⟩
  split
  · exact ⟨_, _, _, _, _, rfl⟩
  · rw [dma_eq]
    exact ⟨_, _, _, _, _, rfl⟩

/-- A snapshot begins with the count of its cycle (Table 14.17). -/
theorem snapshot_take_count (s : State) (seq first n : Nat) : (s.snapshot seq first n).take 8 = toLe 8 s.clock.cycle := by
  simp only [State.snapshot, State.snapHeader, List.append_assoc]
  exact List.take_left' (toLe_length 8 s.clock.cycle)

/-! ### The rows -/

/-- A lane that does not compute has nothing to switch. -/
theorem snapshotSwitch_idle {s : State} (h : s.common = false) :
    exec .snapshotSwitch s = .next { s with clock := { s.clock with interval := .downlink } } := by
  have h' : ({ s with clock := { s.clock with interval := .downlink } } : State).common = false := h
  simp [exec_snapshotSwitch, execSnapshotSwitch, h']

/-- The state in which the snapshot of the cycle is taken, and what the switch makes of it: the snapshot closed, a requested one held
(R536), and after it the mirror. -/
theorem snapshotSwitch_common {s : State} (h : s.common = true) : exec .snapshotSwitch s =
    let w := ({ s with clock := { s.clock with interval := .downlink } } : State).writeRecords
    let snap := w.snapshot 0xFFFFFFFF 0 160
    .next ({ w with host := { w.host with
      snap := snap, heldSnap := if w.host.holdReq then snap else w.host.heldSnap, holdReq := false,
      snapHold := if w.host.holdReq then BitVec.ofNat 32 w.clock.cycle else w.host.snapHold } } : State).startMirror := by
  have h' : ({ s with clock := { s.clock with interval := .downlink } } : State).common = true := h
  simp only [exec_snapshotSwitch, execSnapshotSwitch, h', Bool.not_true, Bool.false_eq_true, if_false]

theorem mirrorComplete_none {s : State} (h : s.host.mirroring = none) : exec .mirrorComplete s = .next s := by
  simp [exec_mirrorComplete, execMirrorComplete, h]

/-- A complete mirror is followed by its number, and in the voice lane by cause 2 (R559). -/
theorem mirrorComplete_some {s : State} {q : BitVec 32} (h : s.host.mirroring = some q) : ∃ t, exec .mirrorComplete s = .next t ∧
    t.host.mirroring = none ∧ t.host.snapSeq = q ∧ t = { s with host := t.host, tx := t.tx } ∧
    (s.isVoice = true → t.host.irqStatus.getLsbD 2 = true) ∧ (s.isVoice = false → t.host.irqStatus = s.host.irqStatus) := by
  let m : State := { s with host := { s.host with mirroring := none, snapSeq := q } }
  obtain ⟨tx, hx⟩ : ∃ tx, (if m.fld tgtCluster 0x0E10 9 0 = 0 then m else m.dma (m.fld tgtCluster 0x0E10 9 0) (toLe 4 q.toNat)) =
      { m with tx := tx } := by
    split
    · exact ⟨m.tx, rfl⟩
    · exact ⟨_, dma_eq m _ _⟩
  have hexec : exec .mirrorComplete s = .next (if s.isVoice then ({ m with tx := tx } : State).irq 2 else { m with tx := tx }) := by
    rw [exec_mirrorComplete, execMirrorComplete, h]
    dsimp only
    rw [hx]
    rfl
  rw [hexec]
  cases hv : s.isVoice with
  | true =>
    obtain ⟨tx', hi, -⟩ := irq_eq { m with tx := tx } 2
    rw [if_pos rfl, hi]
    exact ⟨_, rfl, rfl, rfl, rfl, fun _ => by simp, nofun⟩
  | false =>
    rw [if_neg Bool.false_ne_true]
    exact ⟨_, rfl, rfl, rfl, rfl, nofun, fun _ => rfl⟩

end Sys2Proof.Proofs
end

section
/-!
PROOF. O54.
-/
namespace Sys2Proof.Proofs
open Sys2Proof Sys2Proof.Machine Sys2Proof.Laws

/-- Settles O54: the records are written first, which leaves the host's request and the cycle as they were; the snapshot is taken of the
state after them, and the mirror changes neither. -/
theorem snapshotSwitchNumbersTheRecords : Obligations.SnapshotSwitchNumbersTheRecords := by
  intro s _
  refine ⟨snapshotSwitch_idle, fun hc hb hd => ?switch, mirrorComplete_none, fun q => mirrorComplete_some⟩
  obtain ⟨ev, st, tx, hw, hfresh, hseq, hring⟩ :=
    writeRecords_chip (s := { s with clock := { s.clock with interval := .downlink } }) hb hd
  rw [snapshotSwitch_common hc, hw]
  dsimp only
  obtain ⟨nx, mg, ms, sk, tx', hm⟩ := startMirror_eq _
  rw [hm]
  refine ⟨_, rfl, rfl, hfresh, hseq, ?ring, snapshot_take_count _ _ _ _, rfl, fun hh => ?held, fun hh => ?kept, rfl⟩
  case ring => rw [hring, ← range_map_seq]
  case held => exact ⟨if_pos hh, if_pos hh⟩
  case kept => simp [hh]

end Sys2Proof.Proofs
end

section
/-!
SUPPORT. What an event, a fault and a change of an axis state leave as it was: the time base, the configuration, the kernels, the
engines, the lanes, the lane reports, and of every axis the entry and what its run in this window left (R107, R506, R547).
-/
namespace Sys2Proof.Proofs
open Sys2Proof Sys2Proof.Machine Sys2Proof.Laws

/-- The entry of an axis and what its run in the present window left: output area, overrun and dispatch marks. -/
def runMarks (a : Axis) : AxisEntry × List (Nat × BitVec 32) × Bool × Bool := (a.entry, a.out, a.overrun, a.dispatched)

/-- `t` has the time base, configuration, kernels, engines, lanes, reports and run marks of `s`; where `fr` holds no free value was
drawn, and where `co` holds the faults of the computation are the same. -/
structure KeepsRuns (fr co : Prop) (s t : State) : Prop where
  clock : t.clock = s.clock
  cfg : t.cfg = s.cfg
  kernels : t.kernels = s.kernels
  engines : t.engines = s.engines
  lanes : t.lanes = s.lanes
  net : t.net = s.net
  reports : t.faults.reports = s.faults.reports
  marks : t.axes.map runMarks = s.axes.map runMarks
  free : fr → t.free = s.free
  computed : co → t.faults.computed = s.faults.computed

namespace KeepsRuns
variable {fr co : Prop} {s t u : State}

theorem refl (s : State) : KeepsRuns fr co s s := ⟨rfl, rfl, rfl, rfl, rfl, rfl, rfl, rfl, fun _ => rfl, fun _ => rfl⟩

theorem trans (h : KeepsRuns fr co s t) (k : KeepsRuns fr co t u) : KeepsRuns fr co s u :=
  ⟨k.clock.trans h.clock, k.cfg.trans h.cfg, k.kernels.trans h.kernels, k.engines.trans h.engines, k.lanes.trans h.lanes,
    k.net.trans h.net, k.reports.trans h.reports, k.marks.trans h.marks, fun f => (k.free f).trans (h.free f),
    fun c => (k.computed c).trans (h.computed c)⟩

/-- Steps that each keep the runs do so together. -/
theorem foldl {α : Type} {f : State → α → State} (hf : ∀ s a, KeepsRuns fr co s (f s a)) :
    ∀ (l : List α) (s : State), KeepsRuns fr co s (l.foldl f s)
  | [], s => refl s
  | a :: l, s => (hf s a).trans (foldl hf l (f s a))

theorem ite {c : Prop} [Decidable c] (h : KeepsRuns fr co s t) (k : KeepsRuns fr co s u) : KeepsRuns fr co s (if c then t else u) := by
  split
  · exact h
  · exact k

/-- A state that differs from another only in fields named here keeps its runs. -/
theorem of_frame (h : t = { s with
    groups := t.groups, coupling := t.coupling, nodes := t.nodes, order := t.order, events := t.events, host := t.host, time := t.time,
    acq := t.acq, safety := t.safety, drivers := t.drivers, power := t.power, tx := t.tx,
    faults := { t.faults with reports := s.faults.reports, computed := s.faults.computed } }) : KeepsRuns fr co s t := by
  rw [h]
  exact refl s |>.trans ⟨rfl, rfl, rfl, rfl, rfl, rfl, rfl, rfl, fun _ => rfl, fun _ => rfl⟩

/-- A change of every axis that leaves its entry and its marks. -/
theorem mapAxes {f : Axis → Axis} (hf : ∀ a, runMarks (f a) = runMarks a) : KeepsRuns fr co s { s with axes := s.axes.map f } :=
  ⟨rfl, rfl, rfl, rfl, rfl, rfl, rfl, List.map_map.trans (List.map_congr_left fun a _ => hf a), fun _ => rfl, fun _ => rfl⟩

/-- A change of one axis that leaves its entry and its marks. -/
theorem updAxis {n : Nat} {f : Axis → Axis} (hf : ∀ a, runMarks (f a) = runMarks a) : KeepsRuns fr co s (s.updAxis n f) :=
  mapAxes fun a => by
    split
    · exact hf a
    · rfl

theorem safety (x : Safety) : KeepsRuns fr co s { s with safety := x } := of_frame rfl

theorem faults {x : Collector} (hr : x.reports = s.faults.reports) (hc : x.computed = s.faults.computed) :
    KeepsRuns fr co s { s with faults := x } :=
  ⟨rfl, rfl, rfl, rfl, rfl, rfl, hr, rfl, fun _ => rfl, fun _ => hc⟩

theorem updMot {n : Nat} {f : MotionRt → MotionRt} : KeepsRuns fr co s (s.updMot n f) := updAxis fun _ => rfl

end KeepsRuns

section
variable {fr co : Prop}

/-! ### Records and events (R547, R550) -/

theorem irq_keepsRuns (s : State) (v : Nat) : KeepsRuns fr co s (s.irq v) := by
  obtain ⟨tx, h, -⟩ := irq_eq s v
  rw [h]
  exact .of_frame rfl

theorem irq7_keepsRuns (s : State) (was : Bool) : KeepsRuns fr co s (s.irq7 was) := by
  obtain ⟨st, tx, h⟩ := irq7_eq s was
  rw [h]
  exact .of_frame rfl

theorem record_keepsRuns (s : State) (r : EvRec) : KeepsRuns fr co s (s.record r) := by
  obtain ⟨ev, st, tx, h, -⟩ := record_eq s r
  rw [h]
  exact .of_frame rfl

theorem event_keepsRuns (s : State) (code axis : Nat) (p : List Byte) (l : Option Lane) : KeepsRuns fr co s (s.event code axis p l) :=
  record_keepsRuns s _

theorem eventBody_keepsRuns (s : State) (e : EvBody) (l : Option Lane) : KeepsRuns fr co s (s.eventBody e l) := by
  unfold State.eventBody
  split
  · exact record_keepsRuns s _
  split
  · exact record_keepsRuns s _
  · exact event_keepsRuns s _ _ _ _

theorem faultRecord_keepsRuns (s : State) (kind code cls : Nat) (loc : Loc) (lane : Option Lane) (inst cycles raise : Nat) :
    KeepsRuns fr co s (s.faultRecord kind code cls loc lane inst cycles raise) :=
  (record_keepsRuns s _).trans (.of_frame rfl)

/-! ### Changes of an axis state (R57, R154) -/

theorem discardPoints_keepsRuns (s : State) (n : Nat) : KeepsRuns fr co s (s.discardPoints n) := by
  unfold State.discardPoints
  dsimp only
  split
  · exact .updMot
  · exact .trans .updMot (event_keepsRuns _ _ _ _ _)

theorem endMotion_keepsRuns (s : State) (n : Nat) : KeepsRuns fr co s (s.endMotion n) := by
  unfold State.endMotion
  split
  · exact discardPoints_keepsRuns s n
  · exact .of_frame rfl
  · exact .refl s

theorem force_keepsRuns (s : State) (n : Nat) (x : Motion) (rel : Option (Int × BitVec 32)) : KeepsRuns fr co s (s.force n x rel) := by
  unfold State.force
  split
  · split
    · exact .updMot
    · exact event_keepsRuns _ _ _ _ _
  · exact .updMot

/-- Leaving RUN ends the motion in force (R154, R170, R185). -/
theorem endAtRest_keepsRuns (s : State) (n : Nat) : KeepsRuns fr co s ((s.endMotion n).toRest n) := by
  refine (endMotion_keepsRuns s n).trans ?_
  unfold State.toRest
  exact .updMot

theorem motionHook_keepsRuns (s : State) (n : Nat) (ty : AxisType) (from_ to_ : AxisSt) (quick : Bool) :
    KeepsRuns fr co s (s.motionHook n ty from_ to_ quick) := by
  unfold State.motionHook
  extract_lets s1
  have h1 : KeepsRuns fr co s s1 := by
    unfold s1
    split
    · split
      · exact endAtRest_keepsRuns s n
      · exact endAtRest_keepsRuns s n
      · exact .refl s
    · exact .refl s
  refine h1.trans ?_
  clear_value s1
  cases to_ with
  | stopRamp | hold | coast => exact .updMot
  | off => exact discardPoints_keepsRuns s1 n
  | faulted => exact (discardPoints_keepsRuns s1 n).trans .updMot
  | run =>
    dsimp only
    split
    · exact .trans .updMot (force_keepsRuns _ _ _ _)
    · exact .updMot
  | ready =>
    dsimp only
    split
    · exact .updMot
    · exact (discardPoints_keepsRuns s1 n).trans .updMot

theorem zeroCoupling_keepsRuns (s : State) (n : Nat) : KeepsRuns fr co s (s.zeroCoupling n) := by
  unfold State.zeroCoupling
  split
  · exact .of_frame rfl
  · exact .refl s

theorem unfixAt_keepsRuns (s : State) (n : Nat) : KeepsRuns fr co s (s.unfixAt n) := by
  unfold State.unfixAt
  extract_lets s1
  have h1 : KeepsRuns fr co s s1 := .updAxis fun _ => rfl
  refine h1.trans ?_
  split
  · split
    · exact .of_frame rfl
    · exact .refl s1
  · exact .refl s1

theorem enter_keepsRuns (s : State) (n : Nat) (to_ : AxisSt) (quick : Bool) : KeepsRuns fr co s (s.enter n to_ quick) := by
  unfold State.enter
  split
  · exact .refl s
  next a _ =>
    dsimp only
    have h : KeepsRuns fr co s ((s.motionHook n a.entry.ty a.st to_ quick).updAxis n (fun x => { x with st := to_ })) :=
      (motionHook_keepsRuns s n _ _ _ _).trans (.updAxis fun _ => rfl)
    refine h.trans ?_
    generalize (s.motionHook n a.entry.ty a.st to_ quick).updAxis n (fun x => { x with st := to_ }) = s1
    split
    · refine .trans ?_ (zeroCoupling_keepsRuns _ n)
      refine .trans ?_ .updMot
      exact .updAxis fun _ => rfl
    · exact unfixAt_keepsRuns s1 n
    · exact .updAxis fun _ => rfl
    · exact .updAxis fun _ => rfl
    · exact .refl s1

theorem faultAxis_keepsRuns (s : State) (n : Nat) : KeepsRuns fr co s (s.faultAxis n) := by
  unfold State.faultAxis
  split
  · split
    · exact .refl s
    · exact enter_keepsRuns s n _ _
  · exact .refl s

/-! ### Sources and timers (R504, R509) -/

theorem endSource_keepsRuns (s : State) (code : Nat) (loc : Loc) : KeepsRuns fr co s (s.endSource code loc) := by
  unfold State.endSource
  dsimp only
  split
  · exact .trans (.of_frame rfl) (faultRecord_keepsRuns _ _ _ _ _ _ _ _ _)
  · exact .of_frame rfl

theorem computedEnd_keepsRuns (s : State) (code : Nat) (loc : Loc) : KeepsRuns fr co s (s.computedEnd code loc) := by
  unfold State.computedEnd
  split
  · exact endSource_keepsRuns s code loc
  · exact .refl s

/-! ### Switches of the safe drive outputs (R450 to R453, R459) -/

theorem supersede_keepsRuns (s : State) (m : Nat) : KeepsRuns False co s (s.supersede m) := by
  unfold State.supersede
  split
  · dsimp only
    split
    · exact ⟨rfl, rfl, rfl, rfl, rfl, rfl, rfl, rfl, nofun, fun _ => rfl⟩
    · exact .refl s
  · exact .refl s

theorem settleOutput_keepsRuns (s : State) (m : Nat) : KeepsRuns fr co s (s.settleOutput m) := by
  unfold State.settleOutput
  dsimp only
  split
  · exact .of_frame rfl
  split
  · split
    · exact .refl s
    · exact .of_frame rfl
  · exact .of_frame rfl

theorem settle_keepsRuns (s : State) : KeepsRuns False co s s.settle := by
  unfold State.settle
  dsimp only
  refine .trans ?_ (.foldl settleOutput_keepsRuns _ _)
  refine .trans ?_ (.foldl supersede_keepsRuns _ _)
  refine .trans ?_ (.safety _)
  split
  · exact .of_frame rfl
  · exact .refl s

/-! ### The collector (R507 to R513) -/

theorem eventAfter_keepsRuns (s : State) (r : FaultRep) : KeepsRuns fr co s (s.eventAfter r) := by
  unfold State.eventAfter
  split
  · exact eventBody_keepsRuns s _ _
  · exact .refl s

theorem activate_keepsRuns (s : State) (r : FaultRep) (c : FClass) : KeepsRuns fr co s (s.activate r c) := by
  unfold State.activate
  split
  · exact .of_frame rfl
  · exact .refl s

theorem takeFault_keepsRuns (s : State) (r : FaultRep) : KeepsRuns fr co s (s.takeFault r).1 := by
  unfold State.takeFault
  split
  · exact .refl s
  dsimp only
  split
  case h_1 | h_2 | h_3 =>
    refine .trans ?_ (eventAfter_keepsRuns _ r)
    refine .trans ?_ (irq7_keepsRuns _ _)
    refine .trans ?_ (faultRecord_keepsRuns _ _ _ _ _ _ _ _ _)
    refine .trans ?_ (faultRecord_keepsRuns _ _ _ _ _ _ _ _ _)
    refine .trans ?_ (activate_keepsRuns _ r .f2)
    exact .of_frame rfl
  case h_4 =>
    split
    · refine .trans ?_ (eventAfter_keepsRuns _ r)
      refine .trans ?_ (faultRecord_keepsRuns _ _ _ _ _ _ _ _ _)
      refine .trans ?_ (activate_keepsRuns _ r .f0)
      exact .of_frame rfl
    split
    · refine .trans ?_ (.faults rfl rfl)
      refine .trans ?_ (activate_keepsRuns _ r .f0)
      exact .of_frame rfl
    · refine .trans ?_ (irq7_keepsRuns _ _)
      refine .trans ?_ (.faults rfl rfl)
      refine .trans ?_ (activate_keepsRuns _ r .f0)
      exact .of_frame rfl
  case h_5 =>
    refine .trans ?_ (eventAfter_keepsRuns _ r)
    refine .trans ?_ (.faults rfl rfl)
    refine .trans ?_ (faultRecord_keepsRuns _ _ _ _ _ _ _ _ _)
    refine .trans ?_ (activate_keepsRuns _ r .f1)
    exact .of_frame rfl
  case h_6 =>
    refine .trans ?_ (eventAfter_keepsRuns _ r)
    refine .trans ?_ (faultRecord_keepsRuns _ _ _ _ _ _ _ _ _)
    refine .trans ?_ (activate_keepsRuns _ r _)
    exact .of_frame rfl

theorem faultDue_keepsRuns (s : State) (r : FaultRep) (n : Nat) : KeepsRuns fr co s (s.faultDue r n) := by
  unfold State.faultDue
  split
  · split
    · exact .updAxis fun _ => rfl
    · exact faultAxis_keepsRuns s n
  · exact .refl s

theorem faultDues_keepsRuns (s : State) (r : FaultRep) (l : List Nat) : KeepsRuns fr co s (l.foldl (fun s n => s.faultDue r n) s) :=
  .foldl (fun s n => faultDue_keepsRuns s r n) l s

theorem actF2_keepsRuns (s : State) (r : FaultRep) : KeepsRuns False co s (s.actF2 r) := by
  unfold State.actF2
  dsimp only
  split
  · refine .trans ?_ (settle_keepsRuns _)
    refine .trans ?_ (irq7_keepsRuns _ _)
    exact .trans (faultDues_keepsRuns s r _) (.faults rfl rfl)
  · refine .trans ?_ (irq7_keepsRuns _ _)
    exact .trans (faultDues_keepsRuns s r _) (.faults rfl rfl)

theorem takeNow_keepsRuns (s : State) (r : FaultRep) : KeepsRuns False co s (s.takeNow r) :=
  (takeFault_keepsRuns s r).trans (.foldl actF2_keepsRuns _ _)

end
end Sys2Proof.Proofs
end

section
/-!
SUPPORT. Lists that the compute window runs over: stable sorting, the steps of the engines in their order, and axes found by their number.
-/
namespace Sys2Proof.Proofs
open Sys2Proof Sys2Proof.Machine Sys2Proof.Laws

/-! ### Stable sorting -/

theorem insertBy_map {α β : Type} (g : α → β) (k : β → Nat) (a : α) :
    ∀ l : List α, insertBy k (g a) (l.map g) = (insertBy (fun x => k (g x)) a l).map g
  | [] => rfl
  | b :: r => by
    simp only [List.map_cons, insertBy]
    split
    · rfl
    · rw [List.map_cons, insertBy_map g k a r]

/-- Sorting sees of an entry its key alone. -/
theorem sortBy_map {α β : Type} (g : α → β) (k : β → Nat) : ∀ l : List α, sortBy k (l.map g) = (sortBy (fun x => k (g x)) l).map g
  | [] => rfl
  | a :: r => by rw [List.map_cons, sortBy, sortBy_map g k r, insertBy_map, sortBy]

/-! ### Axes by their number -/

/-- An axis found by its number, seen through what keeps the number. -/
theorem axis?_map {β : Type} (s : State) (n : Nat) {g : Axis → β} {num : β → Nat} (hg : ∀ a, num (g a) = a.entry.axis) :
    (s.axis? n).map g = (s.axes.map g).find? (fun b => num b == n) := by
  rw [List.find?_map, State.axis?]
  congr 2
  funext a
  rw [Function.comp_apply, hg]

/-- An axis found by its number after a change of every axis that keeps the numbers. -/
theorem axis?_mapAxes (s : State) (n : Nat) {f : Axis → Axis} (hf : ∀ a, (f a).entry.axis = a.entry.axis) :
    ({ s with axes := s.axes.map f } : State).axis? n = (s.axis? n).map f :=
  (axis?_map s n (num := fun a : Axis => a.entry.axis) hf).symm

/-- What `axis?` finds has the number. -/
theorem axis?_number {s : State} {n : Nat} {a : Axis} (h : s.axis? n = some a) : a.entry.axis = n := by
  simpa using List.find?_some h

theorem axis?_updAxis (s : State) (n : Nat) {f : Axis → Axis} (hf : ∀ a, (f a).entry.axis = a.entry.axis) :
    (s.updAxis n f).axis? n = (s.axis? n).map f := by
  have hmap := axis?_mapAxes s n (f := fun a => if a.entry.axis = n then f a else a) (fun a => by
    split
    · exact hf a
    · rfl)
  refine hmap.trans ?_
  cases h : s.axis? n with
  | none => rfl
  | some a => simp [axis?_number h]

/-- States with equal run marks find axes with equal run marks. -/
theorem KeepsRuns.axis?_marks {fr co : Prop} {s t : State} (h : KeepsRuns fr co s t) (n : Nat) :
    (t.axis? n).map runMarks = (s.axis? n).map runMarks := by
  have hnum : ∀ a, (runMarks a).1.axis = a.entry.axis := fun _ => rfl
  rw [axis?_map t n (num := fun m => m.1.axis) hnum, axis?_map s n (num := fun m => m.1.axis) hnum, h.marks]

/-! ### Engines in their order -/

theorem modAt_getElem?_self {α : Type} {l : List α} {n : Nat} {a : α} (f : α → α) (h : l[n]? = some a) : (modAt l n f)[n]? = some (f a) := by
  simp [modAt_getElem?, h]

theorem modAt_getElem?_ne {α : Type} {l : List α} {n m : Nat} (f : α → α) (h : m ≠ n) : (modAt l n f)[m]? = l[m]? := by
  simp [modAt_getElem?, h]

/-- Steps over the engines in their order, each of which changes its own engine only and keeps a relation `R`: an engine already passed
is as its own step left it, from a state that had it as it was at the start. -/
theorem foldl_range_engine {f : State → Nat → State} {R : State → State → Prop} (hrefl : ∀ s, R s s)
    (htrans : ∀ {s t u}, R s t → R t u → R s u) (hR : ∀ s i, R s (f s i)) (hother : ∀ s i j, j ≠ i → (f s i).engines[j]? = s.engines[j]?)
    (s : State) (n : Nat) : R s ((List.range n).foldl f s) ∧ (∀ j, n ≤ j → ((List.range n).foldl f s).engines[j]? = s.engines[j]?) ∧
      ∀ i < n, ∃ u, R s u ∧ u.engines[i]? = s.engines[i]? ∧ ((List.range n).foldl f s).engines[i]? = (f u i).engines[i]? := by
  induction n with
  | zero => exact ⟨hrefl s, fun _ _ => rfl, nofun⟩
  | succ n ih =>
    obtain ⟨hr, hlater, hpassed⟩ := ih
    simp only [List.range_succ, List.foldl_append, List.foldl_cons, List.foldl_nil]
    refine ⟨htrans hr (hR _ n), fun j hj => (hother _ n j (by omega)).trans (hlater j (by omega)), fun i hi => ?_⟩
    by_cases h : i = n
    · subst h
      exact ⟨_, hr, hlater i (Nat.le_refl i), rfl⟩
    · obtain ⟨u, hu, hi', hf⟩ := hpassed i (by omega)
      exact ⟨u, hu, hi', (hother _ n i h).trans hf⟩

end Sys2Proof.Proofs
end

section
/-!
SUPPORT. The compute window opens (R20, R106, R132): what dispatch changes, and which axis each engine is left with.
-/
namespace Sys2Proof.Proofs
open Sys2Proof Sys2Proof.Machine Sys2Proof.Laws

theorem exec_computeWindowOpen (s : State) : exec .computeWindowOpen s = execComputeWindowOpen s := rfl

/-- An axis without its dispatch mark. -/
def undispatched (a : Axis) : Axis := { a with dispatched := false }

/-- `t` differs from `s` in the engines and the dispatch marks of axes. -/
def Dispatches (s t : State) : Prop :=
  t = { s with engines := t.engines, axes := t.axes } ∧ t.axes.map undispatched = s.axes.map undispatched

theorem Dispatches.refl (s : State) : Dispatches s s := ⟨rfl, rfl⟩

theorem Dispatches.trans {s t u : State} (h : Dispatches s t) (k : Dispatches t u) : Dispatches s u := by
  obtain ⟨hs, ha⟩ := h
  obtain ⟨ht, hb⟩ := k
  refine ⟨?_, hb.trans ha⟩
  rw [ht, hs]

theorem Dispatches.updEngine (s : State) (i : Nat) (f : Engine → Engine) : Dispatches s (s.updEngine i f) := ⟨rfl, rfl⟩

theorem dispatches_dispatch (s : State) (i n : Nat) : Dispatches s (s.dispatch i n) := by
  unfold State.dispatch
  split
  · exact .refl s
  · refine ⟨rfl, ?_⟩
    simp only [updAxis_axes, updEngine_axes, List.map_map]
    refine List.map_congr_left fun a _ => ?_
    rw [Function.comp_apply]
    split <;> rfl

theorem dispatches_dispatchNext (s : State) (i : Nat) : Dispatches s (s.dispatchNext i) := by
  unfold State.dispatchNext
  split
  · exact .refl s
  split
  · exact .updEngine s i _
  · exact .trans (.updEngine s i _) (dispatches_dispatch _ i _)

/-- The due axes of an engine in their order do not depend on dispatch marks. -/
theorem Dispatches.dueOn {s t : State} (h : Dispatches s t) (i : Nat) : t.dueOn i = s.dueOn i := by
  have hview (u : State) : u.dueOn i = (sortBy (fun (a : Axis) => a.place.slot) ((u.axes.map undispatched).filter
      (fun a => u.due a && a.place.engine == i && a.st != .off))).map (·.entry.axis) := by
    rw [List.filter_map, sortBy_map, List.map_map]
    rfl
  obtain ⟨hs, ha⟩ := h
  have hclock : t.clock = s.clock := by rw [hs]
  have hdue (a : Axis) : t.due a = s.due a := by simp only [State.due, hclock]
  simp only [hview t, hview s, ha, hdue]

theorem Dispatches.axis? {s t : State} (h : Dispatches s t) {n : Nat} {a : Axis} (ha : s.axis? n = some a) :
    ∃ b, t.axis? n = some b ∧ undispatched b = undispatched a := by
  have hnum : ∀ a, (undispatched a).entry.axis = a.entry.axis := fun _ => rfl
  have heq : (t.axis? n).map undispatched = (s.axis? n).map undispatched := by
    rw [axis?_map t n (num := fun a => a.entry.axis) hnum, axis?_map s n (num := fun a => a.entry.axis) hnum, h.2]
  rw [ha] at heq
  exact Option.map_eq_some_iff.mp heq

/-- What one engine does as the window opens: it takes its due axes and dispatches the first. -/
def openEngine (s : State) (i : Nat) : State :=
  (s.updEngine i (fun e => { e with todo := s.dueOn i, used := 120, axis := none })).dispatchNext i

theorem dispatches_openEngine (s : State) (i : Nat) : Dispatches s (openEngine s i) :=
  .trans (.updEngine s i _) (dispatches_dispatchNext _ i)

theorem dispatch_engines_ne (s : State) {i j : Nat} (h : j ≠ i) (n : Nat) : (s.dispatch i n).engines[j]? = s.engines[j]? := by
  unfold State.dispatch
  split
  · rfl
  · exact modAt_getElem?_ne _ h

theorem dispatchNext_engines_ne (s : State) {i j : Nat} (h : j ≠ i) : (s.dispatchNext i).engines[j]? = s.engines[j]? := by
  unfold State.dispatchNext
  split
  · rfl
  split
  · exact modAt_getElem?_ne _ h
  · exact (dispatch_engines_ne _ h _).trans (modAt_getElem?_ne _ h)

theorem openEngine_engines_ne (s : State) (i j : Nat) (h : j ≠ i) : (openEngine s i).engines[j]? = s.engines[j]? :=
  (dispatchNext_engines_ne _ h).trans (modAt_getElem?_ne _ h)

/-- An engine with nothing left to do is left without an axis. -/
theorem dispatchNext_last {s : State} {i : Nat} {e : Engine} (h : s.engines[i]? = some e) (ht : e.todo = []) :
    s.dispatchNext i = s.updEngine i (fun e => { e with axis := none }) := by
  simp [State.dispatchNext, h, ht]

/-- An engine with due axes left has the next one dispatched. -/
theorem dispatchNext_next {s : State} {i n : Nat} {r : List Nat} {e : Engine} (h : s.engines[i]? = some e) (ht : e.todo = n :: r) :
    s.dispatchNext i = (s.updEngine i (fun e => { e with todo := r })).dispatch i n := by
  simp [State.dispatchNext, h, ht]

theorem openEngine_none {s : State} {i : Nat} {e : Engine} (h : s.engines[i]? = some e) (hd : s.dueOn i = []) :
    (openEngine s i).engines[i]? = some { e with todo := [], used := 120, axis := none } := by
  have h1 := modAt_getElem?_self (fun e => { e with todo := s.dueOn i, used := 120, axis := none }) h
  rw [openEngine, dispatchNext_last (s := s.updEngine i _) h1 hd]
  refine (modAt_getElem?_self _ h1).trans ?_
  rw [hd]

/-- An engine as dispatch leaves it (R106, Table 3.1): every resource it names is at its dispatch value. -/
def Fresh (x : Engine) (n : Nat) (r : List Nat) (p1 : Bool) : Prop :=
  x.axis = some n ∧ x.todo = r ∧ x.used = 120 ∧ x.cyc = 4 ∧ x.p1 = p1 ∧ x.bundle = {} ∧ x.commit = {} ∧ x.d = [] ∧ x.acc = [] ∧ x.pc = 0 ∧
    x.done = false

theorem dispatch_fresh {s : State} {i n : Nat} {r : List Nat} {e : Engine} {a : Axis} (h : s.engines[i]? = some e) (ht : e.todo = r)
    (hu : e.used = 120) (ha : s.axis? n = some a) : ∃ x, (s.dispatch i n).engines[i]? = some x ∧ Fresh x n r a.st.computes := by
  rw [State.dispatch, ha]
  exact ⟨_, modAt_getElem?_self _ h, rfl, ht, hu, rfl, rfl, rfl, rfl, rfl, rfl, rfl, rfl⟩

theorem openEngine_some {s : State} {i n : Nat} {r : List Nat} {e : Engine} {a : Axis} (h : s.engines[i]? = some e)
    (hd : s.dueOn i = n :: r) (ha : s.axis? n = some a) : ∃ x, (openEngine s i).engines[i]? = some x ∧ Fresh x n r a.st.computes := by
  have h1 := modAt_getElem?_self (fun e => { e with todo := s.dueOn i, used := 120, axis := none }) h
  have h2 := modAt_getElem?_self (fun e => { e with todo := r }) h1
  rw [openEngine, dispatchNext_next (s := s.updEngine i _) h1 hd]
  exact dispatch_fresh h2 rfl rfl ha

/-- The lane does not compute: the window opens on nothing. -/
theorem computeWindowOpen_idle {s : State} (h : s.computing = false) :
    exec .computeWindowOpen s = .next { s with clock := { s.clock with interval := .compute } } := by
  simp [exec_computeWindowOpen, execComputeWindowOpen, State.closeSimplex, h]

/-- The input set is closed, as it is outside Simplex: every engine takes its due axes. -/
theorem computeWindowOpen_computing {s : State} (h : s.computing = true) (hr : s.simplex = false ∨ s.lanes.resolved = true) :
    exec .computeWindowOpen s = .next ((List.range 16).foldl openEngine { s with clock := { s.clock with interval := .compute } }) := by
  have hclosed : (if s.simplex then s.closeSimplex else s) = s := by
    rcases hr with hr | hr <;> simp [State.closeSimplex, hr]
  rw [exec_computeWindowOpen, execComputeWindowOpen, hclosed]
  simp only [h, Bool.not_true, Bool.false_eq_true, if_false]
  rfl

/-- Every engine takes its due axes in slot order and has the first of them dispatched (R20, R132). -/
theorem computeWindowOpen_dispatches {s : State} (h : s.computing = true) (hr : s.simplex = false ∨ s.lanes.resolved = true) {i : Nat}
    (hi : i < 16) {e : Engine} (he : s.engines[i]? = some e) : ∃ t, exec .computeWindowOpen s = .next t ∧
    Dispatches { s with clock := { s.clock with interval := .compute } } t ∧
    (s.dueOn i = [] → t.engines[i]? = some { e with todo := [], used := 120, axis := none }) ∧
    ∀ n r a, s.dueOn i = n :: r → s.axis? n = some a → ∃ x, t.engines[i]? = some x ∧ Fresh x n r a.st.computes := by
  obtain ⟨hall, -, hown⟩ := foldl_range_engine Dispatches.refl Dispatches.trans dispatches_openEngine openEngine_engines_ne
    { s with clock := { s.clock with interval := .compute } } 16
  obtain ⟨u, hu, hue, ht⟩ := hown i hi
  refine ⟨_, computeWindowOpen_computing h hr, hall, fun hd => ?_, fun n r a hd ha => ?_⟩
  · rw [ht]
    exact openEngine_none (hue.trans he) ((hu.dueOn i).trans hd)
  · obtain ⟨b, hb, hab⟩ := hu.axis? (n := n) ha
    have hst : b.st = a.st := (congrArg Axis.st hab :)
    rw [ht, ← hst]
    exact openEngine_some (hue.trans he) ((hu.dueOn i).trans hd) hb

end Sys2Proof.Proofs
end

section
/-!
SUPPORT. A run ends (R66, R107, R111, R112): its output area is handed over, and what the computation finds about it changes neither the
engines nor any axis's run marks.
-/
namespace Sys2Proof.Proofs
open Sys2Proof Sys2Proof.Machine Sys2Proof.Laws

theorem exec_axisRunEnd (i : Fin 16) (s : State) : exec (.axisRunEnd i) s = execAxisRunEnd i s := rfl

/-! ### What the computation finds -/

theorem computed_keepsRuns {fr : Prop} (s : State) (r : FaultRep) : KeepsRuns fr False s (s.computed r) := by
  unfold State.computed
  split
  · exact .refl s
  have hnoted : KeepsRuns fr False s { s with faults := { s.faults with computed := s.faults.computed ++ [r] } } :=
    ⟨rfl, rfl, rfl, rfl, rfl, rfl, rfl, rfl, fun _ => rfl, nofun⟩
  dsimp only
  split
  · exact hnoted.trans (faultAxis_keepsRuns _ _)
  · exact hnoted.trans (.ite (faultAxis_keepsRuns _ _) (.refl _))
  · exact hnoted

theorem fixMode_keepsRuns {fr co : Prop} (s : State) (n : Nat) : KeepsRuns fr co s (s.fixMode n) := by
  unfold State.fixMode
  split
  · exact .refl s
  · exact .ite (.refl s) (.updAxis fun _ => rfl)

theorem computedAxis_keepsRuns {fr : Prop} (s : State) (code n : Nat) : KeepsRuns fr False s (s.computedAxis code n) :=
  (computed_keepsRuns s _).trans (fixMode_keepsRuns _ n)

theorem writeCoupling_keepsRuns {fr co : Prop} (s : State) (n : Nat) (ty : AxisType) (out : List (Nat × BitVec 32)) :
    KeepsRuns fr co s (s.writeCoupling n ty out) := by
  unfold State.writeCoupling
  split
  · exact .ite (.of_frame rfl) (.of_frame rfl)
  · exact .refl s

theorem commitCtx_keepsRuns {fr co : Prop} (s : State) (n : Nat) (k : KInfo) (w : List (Nat × BitVec 32)) :
    KeepsRuns fr co s (s.commitCtx n k w) := by
  refine .foldl (fun s p => ?_) w s
  refine .ite (.refl s) ?_
  split
  · exact .refl s
  · exact .updAxis fun _ => rfl
  · exact .updAxis fun _ => rfl

/-! ### The output area -/

/-- A run is handed over in one change of its axis, which sets the marks; everything before and after it keeps them. -/
theorem finishRun_stages {s : State} {n : Nat} {a : Axis} (h : s.axis? n = some a) (out : List (Nat × BitVec 32)) (custom : Bool) :
    ∃ (s1 : State) (f : Axis → Axis), KeepsRuns True False s s1 ∧ KeepsRuns True False (s1.updAxis n f) (s.finishRun n out custom) ∧
      ∀ b, runMarks (f b) = (b.entry, out, false, false) := by
  unfold State.finishRun
  rw [h]
  dsimp -zeta only
  extract_lets f s1 mode duty dec snapFlags s2 s3 s4 s5 s6 s7
  have h3 : KeepsRuns True False s2 s3 := writeCoupling_keepsRuns s2 n _ _
  have h4 : KeepsRuns True False s3 s4 := .ite (.refl s3) (computedEnd_keepsRuns s3 _ _)
  have h5 : KeepsRuns True False s4 s5 := .ite (computedAxis_keepsRuns s4 _ n) (.refl s4)
  have h6 : KeepsRuns True False s5 s6 := .ite (.refl s5) (computedEnd_keepsRuns s5 _ _)
  have h7 : KeepsRuns True False s6 s7 := .ite (computedAxis_keepsRuns s6 _ n) (computedEnd_keepsRuns s6 _ _)
  have h8 : KeepsRuns True False s7 (if custom && bit f 5 then s7.computedAxis 0x146 n else s7) := .ite (computedAxis_keepsRuns s7 _ n) (.refl s7)
  exact ⟨s1, _, .ite (faultAxis_keepsRuns s n) (.refl s), h3.trans (h4.trans (h5.trans (h6.trans (h7.trans h8)))), fun _ => rfl⟩

/-- The axis has the output area and neither mark, and everything that is not the axis's or the collector's is as it was (R107). -/
theorem finishRun_some {s : State} {n : Nat} {a : Axis} (h : s.axis? n = some a) (out : List (Nat × BitVec 32)) (custom : Bool) :
    ((s.finishRun n out custom).axis? n).map (fun a => (a.out, a.overrun, a.dispatched)) = some (out, false, false) ∧
    (s.finishRun n out custom).clock = s.clock ∧ (s.finishRun n out custom).cfg = s.cfg ∧
    (s.finishRun n out custom).kernels = s.kernels ∧ (s.finishRun n out custom).engines = s.engines ∧
    (s.finishRun n out custom).free = s.free := by
  obtain ⟨s1, f, hs, ht, hf⟩ := finishRun_stages h out custom
  refine ⟨?_, ht.clock.trans hs.clock, ht.cfg.trans hs.cfg, ht.kernels.trans hs.kernels, ht.engines.trans hs.engines,
    (ht.free trivial).trans (hs.free trivial)⟩
  have hfound := hs.axis?_marks n
  rw [h] at hfound
  obtain ⟨b, hb, -⟩ := Option.map_eq_some_iff.mp hfound
  have hentry (b : Axis) : (f b).entry.axis = b.entry.axis := congrArg (·.1.axis) (hf b)
  have hmarks := ht.axis?_marks n
  rw [axis?_updAxis s1 n hentry, hb] at hmarks
  have := congrArg (Option.map (·.2)) (hmarks.trans (congrArg some (hf b)))
  simpa [Option.map_map, Function.comp_def, runMarks] using this

/-! ### AXIS_RUN_END -/

theorem axisRunEnd_free {s : State} {i : Fin 16} {e : Engine} (he : s.engines[i.val]? = some e) (h : e.axis = none) :
    exec (.axisRunEnd i) s = .next s := by
  simp [exec_axisRunEnd, execAxisRunEnd, he, h]

theorem axisRunEnd_stopped {s : State} {i : Fin 16} {e : Engine} {n : Nat} {a : Axis} (he : s.engines[i.val]? = some e)
    (hn : e.axis = some n) (ha : s.axis? n = some a) (hk : s.kernel? a.entry.kernel = none) (h : e.stopped = true) :
    exec (.axisRunEnd i) s = .next s := by
  simp [exec_axisRunEnd, execAxisRunEnd, he, hn, ha, hk, h]

/-- A completed run of an engine with nothing left to do: its output area stands with the axis, and the engine has no axis. -/
theorem handOver_last {u : State} {i n : Nat} {x : Engine} {b : Axis} (hx : u.engines[i]? = some x) (ht : x.todo = [])
    (hb : u.axis? n = some b) (out : List (Nat × BitVec 32)) (custom : Bool) :
    let t := (u.finishRun n out custom).dispatchNext i
    (t.axis? n).map (fun a => (a.out, a.overrun, a.dispatched)) = some (out, false, false) ∧
    t.engines[i]? = some { x with axis := none } ∧ t.clock = u.clock ∧ t.cfg = u.cfg ∧ t.kernels = u.kernels ∧ t.free = u.free := by
  obtain ⟨hout, hclock, hcfg, hkernels, hengines, hfree⟩ := finishRun_some hb out custom
  have hx' : (u.finishRun n out custom).engines[i]? = some x := by rw [hengines, hx]
  rw [dispatchNext_last hx' ht]
  exact ⟨hout, modAt_getElem?_self _ hx', hclock, hcfg, hkernels, hfree⟩

/-! ### Standard kernels (R66) -/

/-- The law of an axis with the next free value. -/
@[irreducible] def lawRun (s : State) (n : Nat) (a : Axis) : LawOut := ({ s with free := s.free + 1 } : State).lawStep n a s.free

/-- An engine that has run the law. -/
def lawEngine (s : State) (n : Nat) (a : Axis) (e : Engine) : Engine :=
  let cost := ((stdKernel a.entry.kernel).map (·.cost)).getD 0
  { e with used := e.used + cost, cyc := cost, done := true, out := (lawRun s n a).out }

/-- The state in which the law of the axis on engine `i` has run. -/
def lawTaken (s : State) (i n : Nat) (a : Axis) : State :=
  (({ s with free := s.free + 1 } : State).updAxis n (fun a' => { a' with law := (lawRun s n a).law })).updEngine i (lawEngine s n a)

theorem lawEngine_done (s : State) (n : Nat) (a : Axis) (e : Engine) : (lawEngine s n a e).done = true := rfl

theorem lawEngine_out (s : State) (n : Nat) (a : Axis) (e : Engine) : (lawEngine s n a e).out = (lawRun s n a).out := rfl

theorem lawTaken_free (s : State) (i n : Nat) (a : Axis) : (lawTaken s i n a).free = s.free + 1 := by
  rw [lawTaken, updEngine_free, updAxis_free]

theorem axisRunEnd_standard_eq {s : State} {i : Fin 16} {e : Engine} {n : Nat} {a : Axis} (he : s.engines[i.val]? = some e)
    (hn : e.axis = some n) (ha : s.axis? n = some a) (hk : s.kernel? a.entry.kernel = none) (hs : e.stopped = false) :
    exec (.axisRunEnd i) s = .next (((lawTaken s i n a).finishRun n (lawRun s n a).out false).dispatchNext i.val) := by
  simp only [exec_axisRunEnd, execAxisRunEnd, he, hn, ha, hk, lawTaken, lawRun]
  unfold lawEngine lawRun
  exact if_neg (by simp [hs])

/-- A run of a standard kernel ends: the law's output area is handed over. -/
theorem axisRunEnd_standard {s : State} {i : Fin 16} {e : Engine} {n : Nat} {a : Axis} (he : s.engines[i.val]? = some e)
    (hn : e.axis = some n) (ha : s.axis? n = some a) (hk : s.kernel? a.entry.kernel = none) (hs : e.stopped = false) (ht : e.todo = []) :
    ∃ t, exec (.axisRunEnd i) s = .next t ∧ t.free = s.free + 1 ∧
      (t.axis? n).map (fun a => (a.out, a.overrun, a.dispatched)) = some ((lawRun s n a).out, false, false) ∧
      (∃ x, t.engines[i.val]? = some x ∧ x.axis = none ∧ x.done = true ∧ x.out = (lawRun s n a).out) ∧
      t.clock = s.clock ∧ t.cfg = s.cfg ∧ t.kernels = s.kernels := by
  have hb : (lawTaken s i n a).axis? n = some { a with law := (lawRun s n a).law } := by
    refine (axis?_updAxis { s with free := s.free + 1 } n (f := fun a' => { a' with law := (lawRun s n a).law }) fun _ => rfl).trans ?_
    exact congrArg (Option.map _) ha
  obtain ⟨hout, hengine, hclock, hcfg, hkernels, hfree⟩ :=
    handOver_last (u := lawTaken s i n a) (modAt_getElem?_self (lawEngine s n a) he) ht hb (lawRun s n a).out false
  exact ⟨_, axisRunEnd_standard_eq he hn ha hk hs, hfree.trans (lawTaken_free s i n a), hout,
    ⟨_, hengine, rfl, lawEngine_done s n a e, lawEngine_out s n a e⟩, hclock, hcfg, hkernels⟩

/-! ### Custom kernels (R103, R107) -/

section
variable {s : State} {i : Fin 16} {e : Engine} {n : Nat} {a : Axis} {k : Kernel} (he : s.engines[i.val]? = some e) (hn : e.axis = some n)
  (ha : s.axis? n = some a) (hk : s.kernel? a.entry.kernel = some k)
include he hn ha hk

/-- An access outside the map stops the run. -/
theorem axisRunEnd_outside {w : Nat} (h : runProgram k.image (s.ctxOf e) (4096 * 65536) e = .error w) :
    exec (.axisRunEnd i) s = .fault (.engineAddress w) := by
  simp only [exec_axisRunEnd, execAxisRunEnd, he, hn, ha, hk, h]

/-- A run that does not reach END completes nothing. -/
theorem axisRunEnd_incomplete {x : Engine} (h : runProgram k.image (s.ctxOf e) (4096 * 65536) e = .ok x)
    (hx : x.done = false ∨ x.stopped = true) : exec (.axisRunEnd i) s = .next (s.updEngine i.val (fun _ => x)) := by
  have hcond : (x.done && !x.stopped) = false := by
    rcases hx with hx | hx <;> simp [hx]
  simp only [exec_axisRunEnd, execAxisRunEnd, he, hn, ha, hk, h, hcond, Bool.false_eq_true, if_false]

/-- A run that reaches END hands its output area over. -/
theorem axisRunEnd_complete {x : Engine} (h : runProgram k.image (s.ctxOf e) (4096 * 65536) e = .ok x) (hd : x.done = true)
    (hs : x.stopped = false) (ht : x.todo = []) : ∃ t, exec (.axisRunEnd i) s = .next t ∧
      (t.axis? n).map (fun a => (a.out, a.overrun, a.dispatched)) = some (x.out, false, false) ∧
      t.engines[i.val]? = some { x with used := x.used + x.cyc, axis := none } ∧ t.clock = s.clock ∧ t.cfg = s.cfg := by
  let u := s.updEngine i.val (fun _ => { x with used := x.used + x.cyc })
  have hctx : KeepsRuns True True u (u.commitCtx n k.info x.ctxWrites) := commitCtx_keepsRuns u n k.info x.ctxWrites
  have hmarks := hctx.axis?_marks n
  rw [show u.axis? n = some a from ha] at hmarks
  obtain ⟨b, hb, -⟩ := Option.map_eq_some_iff.mp hmarks
  have hx : (u.commitCtx n k.info x.ctxWrites).engines[i.val]? = some { x with used := x.used + x.cyc } := by
    rw [hctx.engines]
    exact modAt_getElem?_self _ he
  obtain ⟨hout, hengine, hclock, hcfg, -, -⟩ := handOver_last hx ht hb x.out true
  refine ⟨_, ?_, hout, hengine, hclock.trans hctx.clock, hcfg.trans hctx.cfg⟩
  simp only [exec_axisRunEnd, execAxisRunEnd, he, hn, ha, hk, h]
  exact if_pos (by simp [hd, hs])

end

end Sys2Proof.Proofs
end

section
/-!
SUPPORT. The compute window closes (R20, R25, R53, R107, R408): which engines are stopped and which axes overrun, the faults of the
computation, and what the acquisition unit leaves as it was.
-/
namespace Sys2Proof.Proofs
open Sys2Proof Sys2Proof.Machine Sys2Proof.Laws

theorem exec_computeWindowClose (s : State) : exec .computeWindowClose s = execComputeWindowClose s := rfl

/-! ### Engines that still run -/

/-- The axes that an engine has not completed: the one it runs, and those it has not begun. -/
def lateOn (e : Engine) : List Nat := e.axis.toList ++ e.todo

/-- The report of an axis that overran (R53). -/
def overrunReport (l : Lane) (n : Nat) : FaultRep := { code := 0x140, cls := .f1, loc := locAxis n, lane := some l }

/-- An axis after the window closed on the axes `l`. -/
def markLate (l : List Nat) (a : Axis) : Axis := if a.entry.axis ∈ l then { a with overrun := true, dispatched := false } else a

/-- An engine after the window closed. -/
def closed (e : Engine) : Engine := { e with axis := none, todo := [], stopped := false }

/-- `s` after the window closed on the axes `l`. -/
def closedOn (s : State) (l : List Nat) : State :=
  { s with axes := s.axes.map (markLate l), faults := { s.faults with reports := s.faults.reports ++ l.map (overrunReport s.lane) } }

theorem markLate_entry (l : List Nat) (a : Axis) : (markLate l a).entry = a.entry := by
  unfold markLate
  split <;> rfl

theorem markLate_nil : markLate [] = id := rfl

theorem markLate_singleton (n : Nat) :
    markLate [n] = fun a => if a.entry.axis = n then { a with overrun := true, dispatched := false } else a := by
  funext a
  simp only [markLate, List.mem_singleton]

theorem markLate_append (l m : List Nat) (a : Axis) : markLate m (markLate l a) = markLate (l ++ m) a := by
  by_cases hl : a.entry.axis ∈ l <;> by_cases hm : a.entry.axis ∈ m <;> simp [markLate, hl, hm]

theorem closedOn_nil (s : State) : closedOn s [] = s := by
  simp [closedOn, markLate_nil]

theorem closedOn_append (s : State) (l m : List Nat) : closedOn (closedOn s l) m = closedOn s (l ++ m) := by
  simp only [closedOn, List.map_map, List.map_append, List.append_assoc, Function.comp_def, markLate_append]
  rfl

/-- Each late axis is marked and reported in its turn. -/
theorem foldl_late (l : List Nat) (s : State) : l.foldl (fun s n =>
    (s.updAxis n (fun a => { a with overrun := true, dispatched := false })).report (mkFault 0x140 (locAxis n))) s = closedOn s l := by
  induction l generalizing s with
  | nil => exact (closedOn_nil s).symm
  | cons n l ih =>
    have hone : (s.updAxis n (fun a => { a with overrun := true, dispatched := false })).report (mkFault 0x140 (locAxis n)) = closedOn s [n] := by
      rw [closedOn, markLate_singleton]
      rfl
    rw [List.foldl_cons, ih, hone, closedOn_append, List.singleton_append]

/-- What the window's close does to one engine. -/
def closeEngine (s : State) (i : Nat) : State :=
  match s.engines[i]? with
  | none => s
  | some e => (closedOn s (lateOn e)).updEngine i closed

theorem closeEngines_eq_foldl (s : State) : s.closeEngines = (List.range 16).foldl closeEngine s := by
  unfold State.closeEngines
  congr 1
  funext s i
  unfold closeEngine
  cases s.engines[i]? with
  | none => rfl
  | some e =>
    dsimp only
    rw [foldl_late, lateOn]
    cases e.axis <;> rfl

/-- The first `n` engines are closed, and their axes late in the engines' order. -/
theorem foldl_closeEngine (s : State) (n : Nat) : ∃ es : List Engine, (List.range n).foldl closeEngine s =
    { closedOn s ((s.engines.take n).flatMap lateOn) with engines := es } ∧
    ∀ j, es[j]? = if j < n then (s.engines[j]?).map closed else s.engines[j]? := by
  induction n with
  | zero => exact ⟨s.engines, by simp [closedOn_nil], fun j => by simp⟩
  | succ n ih =>
    obtain ⟨es, hfold, hes⟩ := ih
    have hn : es[n]? = s.engines[n]? := by simp [hes]
    simp only [List.range_succ, List.foldl_append, List.foldl_cons, List.foldl_nil, hfold, closeEngine, hn]
    cases he : s.engines[n]? with
    | none =>
      have hlen : s.engines.length ≤ n := List.getElem?_eq_none_iff.mp he
      refine ⟨es, ?_, fun j => ?_⟩
      · rw [List.take_of_length_le hlen, List.take_of_length_le (by omega)]
      · rw [hes]
        by_cases hj : j < n
        · rw [if_pos hj, if_pos (by omega)]
        · have hnone : s.engines[j]? = none := List.getElem?_eq_none_iff.mpr (by omega)
          simp [hnone]
    | some e =>
      refine ⟨modAt es n closed, ?_, fun j => ?_⟩
      · rw [List.take_add_one, he, List.flatMap_append, ← closedOn_append]
        simp [closedOn, State.updEngine, State.lane]
      · rw [modAt_getElem?, hes]
        by_cases hj : j = n
        · subst hj; simp
        · by_cases hlt : j < n
          · simp [hj, hlt, show j < n + 1 by omega]
          · simp [hj, hlt, show ¬j < n + 1 by omega]

/-- The window closes on all sixteen engines (R20). -/
theorem closeEngines_eq {s : State} (h : s.engines.length = 16) :
    s.closeEngines = { closedOn s (s.engines.flatMap lateOn) with engines := s.engines.map closed } := by
  obtain ⟨es, hfold, hes⟩ := foldl_closeEngine s 16
  have hall : es = s.engines.map closed := by
    refine List.ext_getElem? fun j => ?_
    rw [hes, List.getElem?_map]
    split
    · rfl
    · rw [List.getElem?_eq_none_iff.mpr (by omega)]
      rfl
  rw [closeEngines_eq_foldl, hfold, List.take_of_length_le (by omega), hall]

/-! ### Faults of the computation and hardware parts -/

/-- The faults of the computation are taken: none is left, and no run mark changes (R507). -/
theorem takeComputed_spec (s : State) : KeepsRuns False False s s.takeComputed ∧ s.takeComputed.faults.computed = [] := by
  have hcleared : KeepsRuns False False s { s with faults := { s.faults with computed := [] } } :=
    ⟨rfl, rfl, rfl, rfl, rfl, rfl, rfl, rfl, nofun, nofun⟩
  have htaken (co : Prop) : KeepsRuns False co { s with faults := { s.faults with computed := [] } } s.takeComputed :=
    .foldl takeNow_keepsRuns _ _
  exact ⟨hcleared.trans (htaken False), (htaken True).computed trivial⟩

theorem takeHw_keepsRuns {fr co : Prop} (s : State) : KeepsRuns fr co s s.takeHw :=
  .mapAxes fun a => by
    split <;> rfl

theorem takeHw_computed (s : State) : s.takeHw.faults.computed = s.faults.computed := rfl

/-! ### The acquisition unit (R408) -/

/-- `t` differs from `s` in the acquisition unit and what it reports alone. -/
def Acquires (s t : State) : Prop := t = { s with acq := t.acq, order := t.order, host := t.host, tx := t.tx, free := t.free }

theorem Acquires.trans {s t u : State} (h : Acquires s t) (k : Acquires t u) : Acquires s u := by
  unfold Acquires at h k ⊢
  rw [k, h]

theorem Acquires.fields {s t : State} (h : Acquires s t) : t.clock = s.clock ∧ t.cfg = s.cfg ∧ t.kernels = s.kernels ∧
    t.engines = s.engines ∧ t.axes = s.axes ∧ t.faults = s.faults := by
  rw [h]
  exact ⟨rfl, rfl, rfl, rfl, rfl, rfl⟩

theorem Acquires.setAcq (s : State) (q : Acq) : Acquires s { s with acq := q } := rfl

theorem irq7_acquires (s : State) (was : Bool) : Acquires s (s.irq7 was) := by
  obtain ⟨st, tx, h⟩ := irq7_eq s was
  rw [h]
  rfl

theorem acceptTrigger_acquires (s : State) (w : BitVec 32) (pattern : Bool) : Acquires s (s.acceptTrigger w pattern) := by
  unfold State.acceptTrigger
  dsimp only [State.draw]
  refine .trans ?_ (show Acquires _ (State.reportEvent _ _) from rfl)
  refine .trans ?_ (irq7_acquires _ _)
  rfl

theorem missTrigger_acquires (s : State) : Acquires s s.missTrigger :=
  (Acquires.setAcq s _).trans (irq7_acquires _ _)

theorem acquire_acquires (s : State) : Acquires s s.acquire := by
  unfold State.acquire
  extract_lets cmps w q s1 pat st s2 on trig s3 q3
  have h1 : Acquires s s1 := .setAcq s _
  have h2 : Acquires s1 s2 := by
    unfold s2
    split
    · rfl
    split
    · exact acceptTrigger_acquires s1 w pat
    · exact missTrigger_acquires s1
  have h3 : Acquires s1 s3 := by
    unfold s3
    split
    · rfl
    refine h2.trans ?_
    split
    · split <;> rfl
    · rfl
  exact (h1.trans h3).trans (.setAcq s3 _)

/-! ### COMPUTE_WINDOW_CLOSE -/

theorem computeWindowClose_idle {s : State} (h : s.computing = false) :
    exec .computeWindowClose s = .next ({ s with clock := { s.clock with interval := .assembly } } : State).acquire := by
  have h' : ({ s with clock := { s.clock with interval := .assembly } } : State).computing = false := h
  simp only [exec_computeWindowClose, execComputeWindowClose, h', Bool.false_eq_true, if_false]

theorem computeWindowClose_computing {s : State} (h : s.computing = true) : exec .computeWindowClose s =
    .next ({ s with clock := { s.clock with interval := .assembly } } : State).closeEngines.takeComputed.takeHw.acquire := by
  have h' : ({ s with clock := { s.clock with interval := .assembly } } : State).computing = true := h
  simp only [exec_computeWindowClose, execComputeWindowClose, h', if_true]

/-- A lane that does not compute closes the window for its acquisition unit alone. -/
theorem computeWindowClose_idle_spec {s : State} (h : s.computing = false) : ∃ t, exec .computeWindowClose s = .next t ∧
    t.clock = { s.clock with interval := .assembly } ∧ t.cfg = s.cfg ∧ t.kernels = s.kernels ∧ t.engines = s.engines ∧ t.faults = s.faults := by
  obtain ⟨hclock, hcfg, hkernels, hengines, -, hfaults⟩ :=
    (acquire_acquires { s with clock := { s.clock with interval := .assembly } }).fields
  exact ⟨_, computeWindowClose_idle h, hclock, hcfg, hkernels, hengines, hfaults⟩

/-- What the close of the engines did stands after steps that keep the runs and the acquisition unit's work. -/
theorem closed_stands {s t u v : State} {l : List Nat} {es : List Engine} (hclose : t = { closedOn s l with engines := es })
    (hruns : KeepsRuns False False t u) (hcomputed : u.faults.computed = []) (hacq : Acquires u v) :
    v.clock = s.clock ∧ v.cfg = s.cfg ∧ v.kernels = s.kernels ∧ v.engines = es ∧ v.faults.computed = [] ∧
      v.faults.reports = s.faults.reports ++ l.map (overrunReport s.lane) ∧
      ∀ n ∈ l, ∀ a, v.axis? n = some a → a.overrun = true ∧ a.dispatched = false := by
  obtain ⟨hclock, hcfg, hkernels, hengines, haxes, hfaults⟩ := hacq.fields
  rw [hclock, hcfg, hkernels, hengines, hfaults, hruns.clock, hruns.cfg, hruns.kernels, hruns.engines, hruns.reports]
  refine ⟨by rw [hclose]; rfl, by rw [hclose]; rfl, by rw [hclose]; rfl, by rw [hclose], hcomputed, by rw [hclose]; rfl, fun n hn a ha => ?_⟩
  have hmarks := hruns.axis?_marks n
  have hu : u.axis? n = some a := by rw [State.axis?, ← haxes, ← State.axis?, ha]
  have ht : t.axis? n = (s.axis? n).map (markLate l) := by
    rw [hclose]
    exact axis?_mapAxes s n fun a => congrArg AxisEntry.axis (markLate_entry l a)
  rw [hu, ht, Option.map_map] at hmarks
  obtain ⟨b, hb, hba⟩ := Option.map_eq_some_iff.mp hmarks.symm
  have hlate : markLate l b = { b with overrun := true, dispatched := false } := if_pos (by rw [axis?_number hb]; exact hn)
  rw [Function.comp_apply, hlate] at hba
  exact ⟨(congrArg (·.2.2.1) hba).symm, (congrArg (·.2.2.2) hba).symm⟩

/-- A lane that computes: every engine is left without an axis, the faults of the computation are taken, and every axis that had not
completed overran and is reported, in the order of the engines (R20, R53, R107). -/
theorem computeWindowClose_computing_spec {s : State} (hl : s.engines.length = 16) (h : s.computing = true) :
    let late := s.engines.flatMap lateOn
    ∃ t, exec .computeWindowClose s = .next t ∧ t.clock = { s.clock with interval := .assembly } ∧ t.cfg = s.cfg ∧
      t.kernels = s.kernels ∧ t.engines = s.engines.map closed ∧ t.faults.computed = [] ∧
      t.faults.reports = s.faults.reports ++ late.map (overrunReport s.lane) ∧
      ∀ n ∈ late, ∀ a, t.axis? n = some a → a.overrun = true ∧ a.dispatched = false := by
  intro late
  have hclose := closeEngines_eq (s := { s with clock := { s.clock with interval := .assembly } }) hl
  obtain ⟨htaken, hcomputed⟩ := takeComputed_spec ({ s with clock := { s.clock with interval := .assembly } } : State).closeEngines
  exact ⟨_, computeWindowClose_computing h,
    closed_stands hclose (htaken.trans (takeHw_keepsRuns _)) ((takeHw_computed _).trans hcomputed) (acquire_acquires _)⟩

end Sys2Proof.Proofs
end

section
/-!
PROOF. O49.
-/
namespace Sys2Proof.Proofs
open Sys2Proof Sys2Proof.Machine Sys2Proof.Laws

/-- Settles O49: the window's rows each are steps over the engines in their order; a run that ends changes its axis once, and the faults
it raises change no run mark. -/
theorem enginesRunTheDueAxes : Obligations.EnginesRunTheDueAxes := by
  intro s i e he late
  refine ⟨computeWindowOpen_idle, fun hc hr => ?opens, axisRunEnd_free he, fun n a hn ha hk => ⟨axisRunEnd_stopped he hn ha hk, ?standard⟩,
    fun n a k hn ha hk => ⟨fun w => axisRunEnd_outside he hn ha hk, fun x => axisRunEnd_incomplete he hn ha hk,
      fun x => axisRunEnd_complete he hn ha hk⟩, fun hl => ?closes⟩
  case opens =>
    obtain ⟨t, ht, ⟨hframe, haxes⟩, hnone, hsome⟩ := computeWindowOpen_dispatches hc hr i.isLt he
    refine ⟨t, ht, hframe, ?_, hnone, hsome⟩
    have hview := congrArg (List.map fun a => (a.entry, a.st, a.law)) haxes
    rwa [List.map_map, List.map_map] at hview
  case standard =>
    have hstd := axisRunEnd_standard he hn ha hk
    unfold lawRun at hstd
    exact hstd
  case closes =>
    cases hc : s.computing with
    | false =>
      obtain ⟨t, ht, hclock, hcfg, hkernels, hengines, hfaults⟩ := computeWindowClose_idle_spec hc
      exact ⟨t, ht, hclock, hcfg, hkernels, fun _ => ⟨hengines, hfaults⟩, nofun⟩
    | true =>
      obtain ⟨t, ht, hclock, hcfg, hkernels, hengines, hcomputed, hreports, hmarks⟩ := computeWindowClose_computing_spec hl hc
      refine ⟨t, ht, hclock, hcfg, hkernels, nofun, fun _ => ⟨fun x hx => ?_, hcomputed, hreports, hmarks⟩⟩
      rw [hengines] at hx
      obtain ⟨e, -, rfl⟩ := List.mem_map.mp hx
      exact ⟨rfl, rfl, rfl⟩

end Sys2Proof.Proofs
end

section
/-!
SUPPORT. A command that names no single axis takes effect (R30), and what the fields that it writes change besides their values
(R569): never the configuration, the lanes or the network.
-/
namespace Sys2Proof.Proofs
open Sys2Proof Sys2Proof.Machine Sys2Proof.Laws

/-! ### The next place of the command order (R30) -/

/-- The first command of the order takes effect when its cycle has come: its place goes, and its operation finds the state. -/
theorem takeEffect_next {s : State} {a : Accepted} {rest : List Accepted} {r : Req} {op : Nat} (h : TakesNext s a rest r op)
    (hax : isAxisOp op = false) : s.takeEffect r = (withPlaces s rest).effectOp r a.captured := by
  obtain ⟨hacc, hbody, hop, heff⟩ := h
  have hfirst : (decide (a.eff ≤ s.clock.cycle) && (!a.body.stops || r.opcode == 0x0007)) = true := by
    simp [heff, hbody, Body.stops]
  have hone (u : State) : u.effectOne a = (u.effectOp r a.captured, []) := by simp [State.effectOne, hbody, hop, hax]
  simp only [State.takeEffect, hacc, List.find?_cons, hfirst]
  rw [if_pos hbody, List.erase_cons_head, hone]
  rfl

/-- The effect row of an opcode is that of the request, which carries it. -/
theorem opRow_next {s : State} {a : Accepted} {rest : List Accepted} {r : Req} {op : Nat} (h : TakesNext s a rest r r.opcode)
    (hop : r.opcode = op) (hax : isAxisOp op = false) :
    s.opRow op .effect r = (withPlaces s rest).effectOp r a.captured := by
  subst hop
  exact takeEffect_next h hax

/-! ### Values by key -/

/-- Values put one after another: a key reads as the last value put under it, and as it was where none was. -/
theorem kvGet_foldl_kvSet {α β : Type} [DecidableEq α] (m : List (α × β)) (k : α) (l : List (α × β)) :
    kvGet (l.foldl (fun m p => kvSet m p.1 p.2) m) k = ((l.reverse.find? (fun q => q.1 == k)).map (·.2)).or (kvGet m k) := by
  induction l using List.reverseRecOn with
  | nil => rfl
  | append_singleton l p ih =>
    rw [List.foldl_append, List.foldl_cons, List.foldl_nil, kvGet_kvSet, List.reverse_append, List.reverse_singleton,
      List.singleton_append, List.find?_cons]
    by_cases h : k = p.1
    · simp [h]
    · rw [if_neg h, ih, beq_eq_false_iff_ne.mpr (Ne.symm h)]

/-! ### What a written field changes besides its value -/

/-- `t` has the configuration, the lanes and the network of `s`. -/
structure KeepsSetup (s t : State) : Prop where
  cfg : t.cfg = s.cfg
  lanes : t.lanes = s.lanes
  net : t.net = s.net

namespace KeepsSetup
variable {s t u : State}

theorem refl (s : State) : KeepsSetup s s := ⟨rfl, rfl, rfl⟩

theorem trans (h : KeepsSetup s t) (k : KeepsSetup t u) : KeepsSetup s u :=
  ⟨k.cfg.trans h.cfg, k.lanes.trans h.lanes, k.net.trans h.net⟩

theorem foldl {α : Type} {f : State → α → State} (hf : ∀ s a, KeepsSetup s (f s a)) :
    ∀ (l : List α) (s : State), KeepsSetup s (l.foldl f s)
  | [], s => refl s
  | a :: l, s => (hf s a).trans (foldl hf l (f s a))

theorem ite {c : Prop} [Decidable c] (h : KeepsSetup s t) (k : KeepsSetup s u) : KeepsSetup s (if c then t else u) := by
  split
  · exact h
  · exact k

/-- The records and reports of this lane stay part of the common sequence. -/
theorem common (h : KeepsSetup s t) : t.common = s.common := by
  simp [State.common, State.computing, State.voting, State.stopped, h.lanes, h.net]

end KeepsSetup

theorem KeepsRuns.keepsSetup {fr co : Prop} {s t : State} (h : KeepsRuns fr co s t) : KeepsSetup s t := ⟨h.cfg, h.lanes, h.net⟩

theorem settle_keepsSetup (s : State) : KeepsSetup s s.settle := (settle_keepsRuns (co := False) s).keepsSetup

theorem settleFaults_keepsSetup (s : State) (x : Collector) : KeepsSetup s { s with faults := x }.settle :=
  .trans (t := { s with faults := x }) ⟨rfl, rfl, rfl⟩ (settle_keepsSetup _)

theorem setCoef_keepsSetup (s : State) (o : CoefOwner) (c : CoefRt) : KeepsSetup s (s.setCoef o c) := by
  cases o with
  | axis n => exact ⟨rfl, rfl, rfl⟩
  | group g => exact ⟨rfl, rfl, rfl⟩

theorem expWritten_keepsSetup (s : State) (o : CoefOwner) (b : Nat) (old : Int) : KeepsSetup s (s.expWritten o b old) := by
  unfold State.expWritten
  extract_lets c t new
  have ht : KeepsSetup s t := setCoef_keepsSetup s o _
  exact .ite ht (ht.trans (setCoef_keepsSetup t o _))

theorem trimCoefs_keepsSetup (s : State) (o : CoefOwner) : KeepsSetup s (s.trimCoefs o) := setCoef_keepsSetup s o _

theorem limitWritten_keepsSetup (s : State) (n : Nat) : KeepsSetup s (s.limitWritten n) := by
  unfold State.limitWritten
  split
  · exact .ite ⟨rfl, rfl, rfl⟩ (.refl s)
  · exact .refl s

theorem updLink_keepsSetup (s : State) (c : Nat) (f : Link → Link) : KeepsSetup s (s.updLink c f) := by
  unfold State.updLink
  exact .ite ⟨rfl, rfl, rfl⟩ (.ite ⟨rfl, rfl, rfl⟩ (.ite ⟨rfl, rfl, rfl⟩ (.ite ⟨rfl, rfl, rfl⟩ (.refl s))))

theorem setLink_keepsSetup (s : State) (c : Nat) (st : LinkState) : KeepsSetup s (s.setLink c st) :=
  .ite ⟨rfl, rfl, rfl⟩ (updLink_keepsSetup s c _)

theorem followLinks_keepsSetup (s : State) : KeepsSetup s s.followLinks :=
  .foldl (fun s c => .ite (.ite (setLink_keepsSetup s c _) (.refl s)) (.ite (.refl s) (setLink_keepsSetup s c _))) _ s

/-- A lane that computes has a role: the start of the unit is past. -/
theorem checkStart_common {s : State} (h : s.common = true) : s.checkStart = s := by
  have hrole : (s.lanes.role != .unassigned) = true := by
    simp only [State.common, State.computing, State.voting, Bool.and_eq_true, Bool.or_eq_true, beq_iff_eq] at h
    obtain ⟨hrole | ⟨hrole, -⟩, -⟩ := h <;> rw [hrole] <;> rfl
  rw [State.checkStart, hrole, Bool.or_true]
  rfl

theorem report_keepsSetup (s : State) (r : FaultRep) : KeepsSetup s (s.report r) := ⟨rfl, rfl, rfl⟩

theorem reportL_keepsSetup (s : State) (r : FaultRep) : KeepsSetup s (s.reportL r) := by
  obtain h | h := reportL_cases s r
  · rw [h]
    exact .refl s
  · rw [h]
    exact report_keepsSetup s r

/-- A fault that a lane of the common sequence finds waits for the command order (R349). -/
theorem found_keepsSetup {s : State} (h : s.common = true) (r : FaultRep) : KeepsSetup s (s.found r) := by
  unfold State.found
  extract_lets t faults u
  have ht : KeepsSetup s t := .ite (reportL_keepsSetup s r) (report_keepsSetup s r)
  have hu : KeepsSetup s u := .ite (ht.trans (settleFaults_keepsSetup t _)) ht
  rw [collectOwn_common (hu.common.trans h)]
  exact hu

theorem missPulse_keepsSetup {s : State} (h : s.common = true) (n count : Nat) : KeepsSetup s (s.missPulse n count) := by
  unfold State.missPulse
  extract_lets was time t
  have ht : KeepsSetup s t := ⟨rfl, rfl, rfl⟩
  have hirq : KeepsSetup s (t.irq7 was) := ht.trans (irq7_keepsRuns (fr := True) (co := True) t was).keepsSetup
  exact hirq.trans (found_keepsSetup (hirq.common.trans h) _)

theorem ppsSet_keepsSetup {s : State} (h : s.common = true) (n : Nat) : KeepsSetup s (s.ppsSet n) := by
  unfold State.ppsSet
  extract_lets now put
  have hput (p : Pps) : KeepsSetup s (put s p) := ⟨rfl, rfl, rfl⟩
  split
  · exact .ite ((hput _).trans (missPulse_keepsSetup ((hput _).common.trans h) _ _)) (hput _)
  · exact hput _
  · exact hput _

theorem timeWritten_keepsSetup {s : State} (h : s.common = true) (k : FieldKey) (old new : Nat) :
    KeepsSetup s (s.timeWritten k old new) :=
  .ite (.refl s) (.ite (.ite ⟨rfl, rfl, rfl⟩ (.refl s)) (.ite (.ite ⟨rfl, rfl, rfl⟩ (.refl s)) (.ite (ppsSet_keepsSetup h _) (.refl s))))

theorem gateInit_keepsSetup (s : State) (m : Nat) : KeepsSetup s (s.gateInit m) := ⟨rfl, rfl, rfl⟩

theorem sdoSupplySet_keepsSetup (s : State) (was : Nat) : KeepsSetup s (s.sdoSupplySet was) := by
  unfold State.sdoSupplySet
  extract_lets now drivers t
  have ht : KeepsSetup s t := .ite ⟨rfl, rfl, rfl⟩ (.ite (.foldl gateInit_keepsSetup _ s) (.refl s))
  exact ht.trans (settle_keepsSetup t)

theorem outputWritten_keepsSetup (s : State) (k : FieldKey) (old : Nat) : KeepsSetup s (s.outputWritten k old) :=
  .ite (.refl s) (.ite (sdoSupplySet_keepsSetup s old) (.ite (gateInit_keepsSetup s _) (settle_keepsSetup s)))

/-- In a lane of the common sequence a written field changes neither the configuration, nor the lanes, nor the network. -/
theorem fieldHook_keepsSetup {s : State} (h : s.common = true) (k : FieldKey) (old new : Nat) (oldExp : Int) :
    KeepsSetup s (s.fieldHook k old new oldExp) := by
  unfold State.fieldHook
  split
  · exact .ite (expWritten_keepsSetup s _ _ _) (.ite (trimCoefs_keepsSetup s _) (.refl s))
  · exact .ite (expWritten_keepsSetup s _ _ _) (.ite (trimCoefs_keepsSetup s _) (.refl s))
  · exact .ite (limitWritten_keepsSetup s _) (.refl s)
  · exact .ite ⟨rfl, rfl, rfl⟩ (.refl s)
  · exact .ite (followLinks_keepsSetup s) (.refl s)
  · rw [checkStart_common h]
    exact .ite (.refl s) (.refl s)
  · exact timeWritten_keepsSetup h k old new
  · exact outputWritten_keepsSetup s k old
  · exact .ite ⟨rfl, rfl, rfl⟩ (.refl s)
  · exact .refl s

/-- `s` with one value of the active configuration written. -/
def withValue (s : State) (k : FieldKey) (v : BitVec 64) : State :=
  { s with cfg := { s.cfg with active := kvSet s.cfg.active k v } }

theorem setField_keepsSetup {s : State} (h : s.common = true) (k : FieldKey) (v : BitVec 64) :
    KeepsSetup (withValue s k v) (s.setField k v) :=
  fieldHook_keepsSetup (s := withValue s k v) h k _ _ _

/-- Written fields take their values in order, and nothing else of the configuration changes. -/
theorem applyFields_active : ∀ (l : List (FieldKey × BitVec 64)) {s : State}, s.common = true →
    (s.applyFields l).cfg.active = l.foldl (fun m p => kvSet m p.1 p.2) s.cfg.active
  | [], _, _ => rfl
  | p :: l, s, h => by
    have hkeep : KeepsSetup (withValue s p.1 p.2) (s.setField p.1 p.2) := setField_keepsSetup h p.1 p.2
    have hrest : ((s.setField p.1 p.2).applyFields l).cfg.active = l.foldl (fun m p => kvSet m p.1 p.2) (s.setField p.1 p.2).cfg.active :=
      applyFields_active l (hkeep.common.trans h)
    rw [hkeep.cfg] at hrest
    exact hrest

end Sys2Proof.Proofs
end

section
/-!
SUPPORT. A seal of one command is applied: its place in the order, and what acceptance changes at once (R29, R37): the staging copy
and the coefficient queues, never the map in force or its values.
-/
namespace Sys2Proof.Proofs
open Sys2Proof Sys2Proof.Machine Sys2Proof.Laws

/-! ### Sorted lists -/

theorem mem_insertBy {α : Type} (f : α → Nat) (a x : α) : ∀ l : List α, x ∈ insertBy f a l ↔ x = a ∨ x ∈ l
  | [] => by simp [insertBy]
  | b :: l => by
    rw [insertBy]
    split
    · exact List.mem_cons
    · rw [List.mem_cons, mem_insertBy f a x l, List.mem_cons, or_left_comm]

theorem mem_sortBy {α : Type} (f : α → Nat) (x : α) : ∀ l : List α, x ∈ sortBy f l ↔ x ∈ l
  | [] => Iff.rfl
  | a :: l => by rw [sortBy, mem_insertBy, mem_sortBy f x l, List.mem_cons]

/-- A sorted list with `a` put in the place of what had its key. -/
theorem mem_sortBy_replace {α : Type} (f : α → Nat) (a y : α) (l : List α) :
    y ∈ sortBy f (a :: l.filter (fun b => decide (f b ≠ f a))) ↔ y = a ∨ (y ∈ l ∧ f y ≠ f a) := by
  rw [mem_sortBy, List.mem_cons, List.mem_filter, decide_eq_true_iff]

/-! ### The place of a command -/

/-- What acceptance leaves whatever it accepts: the order so far, the map in force and its values. -/
def KeepsForce (s t : State) : Prop :=
  t.order.accepted = s.order.accepted ∧ t.cfg.map = s.cfg.map ∧ t.cfg.active = s.cfg.active

theorem KeepsForce.refl (s : State) : KeepsForce s s := ⟨rfl, rfl, rfl⟩

theorem setCoefAt_keepsForce (s : State) (o : CoefOwner) (eff : Nat) (c : CoefRt) : KeepsForce s (s.setCoefAt o eff c) := by
  have hset : KeepsForce s (s.setCoef o c) := by
    cases o with
    | axis n => exact .refl s
    | group g => exact .refl s
  unfold State.setCoefAt
  split
  · split
    · exact ⟨rfl, rfl, rfl⟩
    · exact hset
  · exact hset

theorem acceptOp_keepsForce (s : State) (r : Req) (eff : Nat) : KeepsForce s (s.acceptOp r eff) := by
  unfold State.acceptOp
  split
  · exact ⟨rfl, rfl, rfl⟩
  · unfold acceptCommit
    split
    · split
      · exact ⟨rfl, rfl, rfl⟩
      · exact .refl s
    · exact .refl s
  · unfold effectDiscard
    split
    · exact ⟨rfl, rfl, rfl⟩
    · split
      · exact ⟨rfl, rfl, rfl⟩
      · exact .refl s
  · exact ⟨rfl, rfl, rfl⟩
  · exact ⟨rfl, rfl, rfl⟩
  · exact ⟨rfl, rfl, rfl⟩
  · unfold acceptCoeffWrite
    split
    · exact .refl s
    · exact setCoefAt_keepsForce s _ _ _
  · exact .refl s

/-- `s` with `a` last in the command order, the next number of the order `next`, and `fw` passed on to the voice lane. -/
def placed (s : State) (a : Accepted) (next : Nat) (fw : List Held) : State :=
  { s with order := { s.order with accepted := s.order.accepted ++ [a], nextSeq := next, forwarded := fw } }

/-- A seal of one command: acceptance changes the state, the command takes its place, and a response may go out. -/
theorem applySeal_single {s : State} {m : Seal} {a : Accepted} {r : Req} (hm : m.bodies = [a]) (ha : a.body = .cmd r) :
    ∃ fw host tx, s.applySeal m = { placed (s.acceptOp r a.eff) a (m.seq0 + m.n) fw with host := host, tx := tx } := by
  unfold State.applySeal
  dsimp only
  rw [hm, List.foldl_cons, List.foldl_nil, ha]
  dsimp only
  split
  · obtain ⟨boxes, st, tx, h, -⟩ := respond_eq (s.accept a) r { status := a.status.toNat, aux := a.aux, rsp := a.rsp } (s.effField a)
    rw [h, State.accept, ha]
    exact ⟨_, _, _, rfl⟩
  · rw [State.accept, ha]
    exact ⟨_, _, _, rfl⟩

/-! ### The staged map (R38, R574) -/

section
variable {s : State} {r : Req} (eff : Nat)

/-- DISCARD of the axis map: the staging copy becomes the map in force (R38). -/
theorem acceptOp_discard (hop : r.opcode = 0x0005) (hn : r.target.toNat = 0xD000) :
    (s.acceptOp r eff).cfg.stagedMap = s.cfg.map := by
  simp [State.acceptOp, hop, effectDiscard, hn, isMapT]

/-- MAP_AXIS: the entry of the request stands in the staging copy, in the place of one of its axis (R574). -/
theorem acceptOp_mapAxis (hop : r.opcode = 0x0110) : (s.acceptOp r eff).cfg.stagedMap.nodes = s.cfg.stagedMap.nodes ∧
    ∀ y, y ∈ (s.acceptOp r eff).cfg.stagedMap.axes ↔ y = axisEntryOf r ∨ (y ∈ s.cfg.stagedMap.axes ∧ y.axis ≠ r.target.toNat) := by
  simp only [State.acceptOp, hop]
  exact ⟨rfl, fun y => mem_sortBy_replace _ _ y _⟩

/-- MAP_NODE: the entry of the request stands in the staging copy, in the place of one of its node. -/
theorem acceptOp_mapNode (hop : r.opcode = 0x0111) : (s.acceptOp r eff).cfg.stagedMap.axes = s.cfg.stagedMap.axes ∧
    ∀ y, y ∈ (s.acceptOp r eff).cfg.stagedMap.nodes ↔
      y = nodeEntryOf r ∨ (y ∈ s.cfg.stagedMap.nodes ∧ y.node ≠ nodeOfT r.target.toNat) := by
  simp only [State.acceptOp, hop]
  exact ⟨rfl, fun y => mem_sortBy_replace _ _ y _⟩

/-- MAP_REMOVE of an axis: the staging copy has no entry of it. -/
theorem acceptOp_mapRemove_axis (hop : r.opcode = 0x0112) (hn : r.target.toNat < 160) :
    (s.acceptOp r eff).cfg.stagedMap.nodes = s.cfg.stagedMap.nodes ∧
    ∀ y, y ∈ (s.acceptOp r eff).cfg.stagedMap.axes ↔ y ∈ s.cfg.stagedMap.axes ∧ y.axis ≠ r.target.toNat := by
  simp [State.acceptOp, hop, acceptMapRemove, isAxisT, hn]

end

/-! ### COEFF_WRITE (R91, R92) -/

theorem leNat_lt : ∀ l : List Byte, leNat l < 256 ^ l.length
  | [] => Nat.one_pos
  | b :: l => by
    have hb : b.toNat < 256 := b.isLt
    have hl : leNat l < 256 ^ l.length := leNat_lt l
    rw [leNat, List.length_cons, pow_succ]
    omega

/-- A field of `n` bytes. -/
theorem le_lt (bs : List Byte) (o n : Nat) : le bs o n < 256 ^ n :=
  (leNat_lt _).trans_le (Nat.pow_le_pow_right (by decide) (List.length_take_le _ _))

/-- No element of a write takes effect before the write does (R92). -/
theorem le_of_mem_elementCycles {eff c : Nat} : ∀ {n : Nat} {queue : List CoefElem}, c ∈ elementCycles queue eff n → eff ≤ c
  | n + 1, queue, h => by
    obtain rfl | h := List.mem_cons.mp h
    · split
      · exact le_max_left _ _
      · exact (le_max_left _ _).trans (Nat.le_succ _)
    · exact le_of_mem_elementCycles h

/-- The cycle given to the `i`-th element of a write. -/
theorem elementCycles_getD_ge (queue : List CoefElem) (eff n i : Nat) : eff ≤ (elementCycles queue eff n).getD i eff := by
  rw [List.getD_eq_getElem?_getD]
  cases h : (elementCycles queue eff n)[i]? with
  | none => exact le_refl eff
  | some c => exact le_of_mem_elementCycles (List.mem_of_getElem? h)

theorem entriesOf_length (p : List Byte) : (entriesOf p).length = p.length / 8 := by simp [entriesOf]

theorem entriesOf_getD (p : List Byte) {i : Nat} (h : i < p.length / 8) (d : Entry) : (entriesOf p).getD i d =
    { block := byteAt p (8 * i), row := byteAt p (8 * i + 1), col := byteAt p (8 * i + 2), value := le p (8 * i + 4) 4 } := by
  simp [entriesOf, List.getD_eq_getElem?_getD, h]

/-- `e` is the `i`-th element of the payload `p`, queued for a cycle from `eff` on. -/
def ElementOf (p : List Byte) (tag : BitVec 32) (eff i : Nat) (e : CoefElem) : Prop :=
  eff ≤ e.eff ∧ e.tag = tag ∧ e.block = byteAt p (8 * i) ∧ e.row = byteAt p (8 * i + 1) ∧ e.col = byteAt p (8 * i + 2) ∧
    e.value.toNat = le p (8 * i + 4) 4

/-- COEFF_WRITE on an axis of the map, no map being on its way: one element for each entry joins the queue of the axis. -/
theorem acceptCoeffWrite_axis {s : State} {r : Req} {x : Axis} (eff : Nat) (hn : r.target.toNat < 160)
    (hp : s.order.mapPending = none) (hx : s.axis? r.target.toNat = some x) : ∃ y es,
      (acceptCoeffWrite s r eff).axis? r.target.toNat = some y ∧ y.coef.queue = x.coef.queue ++ es ∧
      es.length = r.payload.length / 8 ∧ ∀ i e, es[i]? = some e → ElementOf r.payload r.tag eff i e := by
  have howner : coefOwner r.target.toNat = some (.axis r.target.toNat) := by simp [coefOwner, isAxisT, hn]
  have hcoef : (s.fieldsAt eff).coefOf (.axis r.target.toNat) = x.coef := by
    have hview : (s.fieldsAt eff).axis? r.target.toNat = some x := by
      rw [← hx]
      simp only [State.fieldsAt, State.mapAt, hp, Option.filter_none]
      rfl
    simp [State.coefOf, State.coefA, hview]
  have hset (c : CoefRt) : (s.setCoefAt (.axis r.target.toNat) eff c).axis? r.target.toNat = some { x with coef := c } := by
    simp only [State.setCoefAt, hp, State.setCoef]
    exact (axis?_updAxis s _ (f := fun y => { y with coef := c }) fun _ => rfl).trans (congrArg _ hx)
  rw [acceptCoeffWrite, howner]
  dsimp only
  rw [hcoef, hset]
  refine ⟨_, _, rfl, rfl, by rw [List.length_map, List.length_range, entriesOf_length], fun i e he => ?_⟩
  rw [List.getElem?_map, Option.map_eq_some_iff] at he
  obtain ⟨j, hj, rfl⟩ := he
  obtain ⟨hlt, rfl⟩ := List.getElem?_eq_some_iff.mp hj
  rw [List.length_range, entriesOf_length] at hlt
  simp only [List.getElem_range, entriesOf_getD r.payload hlt]
  exact ⟨elementCycles_getD_ge _ _ _ _, rfl, rfl, rfl, rfl, (BitVec.toNat_ofNat _ 32).trans (Nat.mod_eq_of_lt (le_lt r.payload (8 * i + 4) 4))⟩

end Sys2Proof.Proofs
end

section
/-!
PROOF. O37.
-/
namespace Sys2Proof.Proofs
open Sys2Proof Sys2Proof.Machine Sys2Proof.Laws

section
variable {s : State} {a : Accepted} {rest : List Accepted} {r : Req}

/-- What a key reads after the captured values of `a` were put on those of `s`. -/
theorem captured_read (s : State) (a : Accepted) (k : FieldKey) :
    kvGet (a.captured.foldl (fun m p => kvSet m p.1 p.2) s.cfg.active) k =
      match a.captured.reverse.find? (fun q => q.1 == k) with | some q => some q.2 | none => kvGet s.cfg.active k := by
  rw [kvGet_foldl_kvSet]
  cases a.captured.reverse.find? (fun q => q.1 == k) with
  | none => rfl
  | some q => rfl

/-- A FIELD_WRITE gives each field that it brought its last value (R35, R569). -/
theorem fieldWrite_effect (h : TakesNext s a rest r r.opcode) (hc : s.common = true) (hop : r.opcode = 0x0002) :
    ∃ t, exec (.fieldWrite .effect r) s = .next t ∧ t.cfg.active = a.captured.foldl (fun m p => kvSet m p.1 p.2) s.cfg.active := by
  refine ⟨(withPlaces s rest).applyFields a.captured, congrArg _ ((opRow_next h hop rfl).trans ?_), applyFields_active _ hc⟩
  simp only [State.effectOp, hop]

/-- The COMMIT of the acquisition set-up applies what acceptance captured, and drops what it applied from the staging copy (R37). -/
theorem commit_acquisition (h : TakesNext s a rest r r.opcode) (hop : r.opcode = 0x0004) (hn : r.target.toNat = 0x8000) :
    exec (.commit .effect r) s = .next { withPlaces s rest with
      cfg := { s.cfg with active := a.captured.foldl (fun m p => kvSet m p.1 p.2) s.cfg.active
                          staged := s.cfg.staged.filter (fun q => !a.captured.contains q) }
      acq := { s.acq with cmps := List.replicate 4 {} } } := by
  refine congrArg _ ((opRow_next h hop rfl).trans ?_)
  simp only [State.effectOp, hop, State.commitEffect, hn, isAcqT, beq_self_eq_true, if_true, List.any_beq']
  rfl

/-- The COMMIT of a map that has come into force finds none on its way. -/
theorem commit_map (h : TakesNext s a rest r r.opcode) (hop : r.opcode = 0x0004) (hn : r.target.toNat = 0xD000)
    (hp : s.order.mapPending = none) : exec (.commit .effect r) s = .next (withPlaces s rest) := by
  have hplaces : (withPlaces s rest).order.mapPending = none := hp
  refine congrArg _ ((opRow_next h hop rfl).trans ?_)
  simp [State.effectOp, hop, State.commitEffect, hn, isAcqT, hplaces]

/-- A command that acted at its acceptance leaves the order and does nothing more. -/
theorem opRow_spent {op : Nat} (h : TakesNext s a rest r r.opcode) (hop : r.opcode = op)
    (hspent : op = 0x0005 ∨ op = 0x0110 ∨ op = 0x0111 ∨ op = 0x0112 ∨ op = 0x0118) : s.opRow op .effect r = withPlaces s rest := by
  obtain rfl | rfl | rfl | rfl | rfl := hspent <;> (rw [opRow_next h hop rfl]; simp only [State.effectOp, hop])

end

/-- Settles O37: the effects by the operation of each command on the state without its place, the acceptances by what a seal of one
command leaves besides the staging copy and the coefficient queue. -/
theorem fieldsMapsAndCoefficients : Obligations.FieldsMapsAndCoefficients := by
  intro s a rest r s0 n p
  refine ⟨fun h hc => ⟨fun hop => ?write, fun hop hn => ⟨_, commit_acquisition h hop hn, captured_read s a⟩,
    fun hop hn hp => commit_map h hop hn hp, fun hop => congrArg _ (opRow_spent h hop (by decide)),
    fun hop => congrArg _ (opRow_spent h hop (by decide)), fun hop => congrArg _ (opRow_spent h hop (by decide)),
    fun hop => congrArg _ (opRow_spent h hop (by decide)), fun hop => congrArg _ (opRow_spent h hop (by decide))⟩, fun m hm ha => ?_⟩
  case write =>
    obtain ⟨t, ht, hact⟩ := fieldWrite_effect h hc hop
    exact ⟨t, ht, fun k => hact ▸ captured_read s a k⟩
  obtain ⟨hacc, hmap, hact⟩ := acceptOp_keepsForce s r a.eff
  obtain ⟨fw, host, tx, hseal⟩ := applySeal_single hm ha
  rw [hseal]
  refine ⟨congrArg (· ++ [a]) hacc, rfl, hmap, hact, fun hop hn => ?discard, fun hop => ?axis, fun hop => ?node,
    fun hop hn => ?remove, fun hop hn hp x hx => ?coeff⟩
  case discard => exact acceptOp_discard a.eff hop hn
  case axis =>
    obtain ⟨hnodes, haxes⟩ := acceptOp_mapAxis (s := s) a.eff hop
    exact ⟨hnodes, axisEntryOf r, rfl, rfl, rfl, rfl, rfl, haxes⟩
  case node =>
    obtain ⟨haxes, hnodes⟩ := acceptOp_mapNode (s := s) a.eff hop
    exact ⟨haxes, nodeEntryOf r, rfl, rfl, rfl, hnodes⟩
  case remove => exact acceptOp_mapRemove_axis a.eff hop hn
  case coeff =>
    have haccept : s.acceptOp r a.eff = acceptCoeffWrite s r a.eff := by simp only [State.acceptOp, hop]
    rw [haccept]
    exact acceptCoeffWrite_axis a.eff hn hp hx

end Sys2Proof.Proofs
end

section
/-!
SUPPORT. A change of an axis state reaches that axis, the coupling table, the coordination groups and the events alone (R57, R64, R88,
R154), and leaves the axis in the state entered.
-/
namespace Sys2Proof.Proofs
open Sys2Proof Sys2Proof.Machine Sys2Proof.Laws

/-! ### What an axis reaches -/

/-- An axis found by its number after a change of an axis of another number. -/
theorem axis?_updAxis_ne (s : State) {n m : Nat} (h : m ≠ n) {f : Axis → Axis} (hf : ∀ a, (f a).entry.axis = a.entry.axis) :
    (s.updAxis n f).axis? m = s.axis? m := by
  have hmap := axis?_mapAxes s m (f := fun a => if a.entry.axis = n then f a else a) fun a => by
    split
    · exact hf a
    · rfl
  refine hmap.trans ?_
  cases ha : s.axis? m with
  | none => rfl
  | some a => simp [axis?_number ha, h]

/-- `t` differs from `s` in axis `n` and in what it shares with others alone; a record leaves the chip at once only outside the common
sequence (R550). Where `st` holds the axis is in the state it was in. -/
structure OnAxis (st : Prop) (n : Nat) (s t : State) : Prop where
  frame : t = { s with
    axes := t.axes, coupling := t.coupling, groups := t.groups, events := t.events, host := t.host, tx := t.tx }
  inside : s.common = true → t.host = s.host ∧ t.tx = s.tx
  others : ∀ m, m ≠ n → t.axis? m = s.axis? m
  state : st → (t.axis? n).map (·.st) = (s.axis? n).map (·.st)

namespace OnAxis
variable {st : Prop} {n : Nat} {s t u : State}

theorem common (h : OnAxis st n s t) : t.common = s.common := by
  rw [h.frame]
  rfl

theorem faults (h : OnAxis st n s t) : t.faults = s.faults := by
  rw [h.frame]

/-- In a lane of the common sequence nothing leaves the chip. -/
theorem frame_common (h : OnAxis st n s t) (hc : s.common = true) :
    t = { s with axes := t.axes, coupling := t.coupling, groups := t.groups, events := t.events } := by
  obtain ⟨hhost, htx⟩ := h.inside hc
  have hframe := h.frame
  rwa [hhost, htx] at hframe

theorem refl (s : State) : OnAxis st n s s := ⟨rfl, fun _ => ⟨rfl, rfl⟩, fun _ _ => rfl, fun _ => rfl⟩

theorem trans (h : OnAxis st n s t) (k : OnAxis st n t u) : OnAxis st n s u where
  frame := by rw [k.frame, h.frame]
  inside hc := by
    obtain ⟨hhost, htx⟩ := h.inside hc
    obtain ⟨khost, ktx⟩ := k.inside (h.common.trans hc)
    exact ⟨khost.trans hhost, ktx.trans htx⟩
  others m hm := (k.others m hm).trans (h.others m hm)
  state hst := (k.state hst).trans (h.state hst)

theorem weaken (h : OnAxis True n s t) : OnAxis st n s t := ⟨h.frame, h.inside, h.others, fun _ => h.state trivial⟩

/-- A change of the axis itself that leaves its number. -/
theorem updAxis {f : Axis → Axis} (hf : ∀ a, (f a).entry.axis = a.entry.axis) (hst : st → ∀ a, (f a).st = a.st) :
    OnAxis st n s (s.updAxis n f) where
  frame := rfl
  inside _ := ⟨rfl, rfl⟩
  others m hm := axis?_updAxis_ne s hm hf
  state h := by
    rw [axis?_updAxis s n hf, Option.map_map]
    exact congrArg (Option.map · _) (funext (hst h))

theorem updMot {f : MotionRt → MotionRt} : OnAxis st n s (s.updMot n f) := updAxis (fun _ => rfl) fun _ _ => rfl

theorem groups (g : List Group) : OnAxis st n s { s with groups := g } := ⟨rfl, fun _ => ⟨rfl, rfl⟩, fun _ _ => rfl, fun _ => rfl⟩

theorem coupling (c : Coupling) : OnAxis st n s { s with coupling := c } := ⟨rfl, fun _ => ⟨rfl, rfl⟩, fun _ _ => rfl, fun _ => rfl⟩

end OnAxis

section
variable {st : Prop}

/-! ### The profile generator (R154, R161, R170) -/

theorem record_onAxis (s : State) (n : Nat) (r : EvRec) : OnAxis st n s (s.record r) := by
  obtain ⟨ev, irq, tx, h, -⟩ := record_eq s r
  refine ⟨by rw [h], fun hc => by rw [record_common s r hc]; exact ⟨rfl, rfl⟩, fun m _ => by rw [h]; rfl, fun _ => by rw [h]; rfl⟩

theorem event_onAxis (s : State) (n code axis : Nat) (p : List Byte) (l : Option Lane) : OnAxis st n s (s.event code axis p l) :=
  record_onAxis s n _

theorem discardPoints_onAxis (s : State) (n : Nat) : OnAxis st n s (s.discardPoints n) := by
  unfold State.discardPoints
  dsimp only
  split
  · exact .updMot
  · exact .trans .updMot (event_onAxis _ n _ _ _ _)

theorem endMotion_onAxis (s : State) (n : Nat) : OnAxis st n s (s.endMotion n) := by
  unfold State.endMotion
  split
  · exact discardPoints_onAxis s n
  · exact .groups _
  · exact .refl s

theorem toRest_onAxis (s : State) (n : Nat) : OnAxis st n s (s.toRest n) := by
  unfold State.toRest
  exact .updMot

theorem force_onAxis (s : State) (n : Nat) (x : Motion) (rel : Option (Int × BitVec 32)) : OnAxis st n s (s.force n x rel) := by
  unfold State.force
  split
  · split
    · exact .updMot
    · exact event_onAxis _ n _ _ _ _
  · exact .updMot

theorem motionHook_onAxis (s : State) (n : Nat) (ty : AxisType) (from_ to_ : AxisSt) (quick : Bool) :
    OnAxis st n s (s.motionHook n ty from_ to_ quick) := by
  unfold State.motionHook
  extract_lets s1
  have hleave : OnAxis st n s s1 := by
    unfold s1
    split
    · split
      · exact (endMotion_onAxis s n).trans (toRest_onAxis _ n)
      · exact (endMotion_onAxis s n).trans (toRest_onAxis _ n)
      · exact .refl s
    · exact .refl s
  refine hleave.trans ?_
  clear_value s1
  cases to_ with
  | stopRamp | hold | coast => exact .updMot
  | off => exact discardPoints_onAxis s1 n
  | faulted => exact (discardPoints_onAxis s1 n).trans .updMot
  | run =>
    dsimp only
    split
    · exact .trans .updMot (force_onAxis _ n _ _)
    · exact .updMot
  | ready =>
    dsimp only
    split
    · exact .updMot
    · exact (discardPoints_onAxis s1 n).trans .updMot

/-! ### The coupling table (R64, R88) -/

theorem zeroCoupling_onAxis (s : State) (n : Nat) : OnAxis st n s (s.zeroCoupling n) := by
  unfold State.zeroCoupling
  split
  · exact .coupling _
  · exact .refl s

theorem unfixAt_onAxis (s : State) (n : Nat) : OnAxis st n s (s.unfixAt n) := by
  unfold State.unfixAt
  extract_lets s1
  have hunfixed : OnAxis st n s s1 := .updAxis (fun _ => rfl) fun _ _ => rfl
  refine hunfixed.trans ?_
  split
  · split
    · exact .coupling _
    · exact .refl s1
  · exact .refl s1

end

/-! ### Entering a state (R57) -/

/-- Entering a state sets it once; everything before and after leaves the state of the axis. -/
theorem enter_stages {s : State} {n : Nat} {a : Axis} (h : s.axis? n = some a) (to_ : AxisSt) (quick : Bool) :
    ∃ u, OnAxis True n s u ∧ OnAxis True n (u.updAxis n (fun x => { x with st := to_ })) (s.enter n to_ quick) := by
  unfold State.enter
  rw [h]
  refine ⟨s.motionHook n a.entry.ty a.st to_ quick, motionHook_onAxis s n _ _ _ _, ?_⟩
  dsimp only
  generalize (s.motionHook n a.entry.ty a.st to_ quick).updAxis n (fun x => { x with st := to_ }) = v
  split
  · refine .trans ?_ (zeroCoupling_onAxis _ n)
    refine .trans ?_ .updMot
    exact .updAxis (fun _ => rfl) fun _ _ => rfl
  · exact unfixAt_onAxis v n
  · exact .updAxis (fun _ => rfl) fun _ _ => rfl
  · exact .updAxis (fun _ => rfl) fun _ _ => rfl
  · exact .refl v

/-- An axis enters a state: it is in that state, and nothing but the axis and what it shares with others changed. -/
theorem enter_spec {s : State} {n : Nat} {a : Axis} (h : s.axis? n = some a) (to_ : AxisSt) (quick : Bool) :
    OnAxis False n s (s.enter n to_ quick) ∧ ((s.enter n to_ quick).axis? n).map (·.st) = some to_ := by
  obtain ⟨u, hbefore, hafter⟩ := enter_stages h to_ quick
  have hset : OnAxis False n u (u.updAxis n (fun x => { x with st := to_ })) := .updAxis (fun _ => rfl) nofun
  refine ⟨hbefore.weaken.trans (hset.trans hafter.weaken), ?_⟩
  have hfound : (u.axis? n).map (·.st) = some a.st := by rw [hbefore.state trivial, h]; rfl
  obtain ⟨b, hb, -⟩ := Option.map_eq_some_iff.mp hfound
  rw [hafter.state trivial, axis?_updAxis u n (f := fun x => { x with st := to_ }) (fun _ => rfl), hb]
  rfl

/-- A fault takes its axis to FAULTED, an axis in OFF excepted (R62). -/
theorem faultAxis_spec {s : State} {n : Nat} {a : Axis} (h : s.axis? n = some a) :
    OnAxis False n s (s.faultAxis n) ∧ (a.st ≠ .off → ((s.faultAxis n).axis? n).map (·.st) = some .faulted) := by
  unfold State.faultAxis
  rw [h]
  dsimp only
  split
  case isTrue hst => exact ⟨.refl s, fun hoff => by rw [h, Option.map_some, hst.resolve_left hoff]⟩
  case isFalse =>
    obtain ⟨hon, hstate⟩ := enter_spec h .faulted false
    exact ⟨hon, fun _ => hstate⟩

end Sys2Proof.Proofs
end

section
/-!
SUPPORT. A command of Table 2.3 at its effective cycle (R30, R57 to R61, R591): which transitions the table has, the command at its
axis, and the AXIS_CMD_VOID of one that has none.
-/
namespace Sys2Proof.Proofs
open Sys2Proof Sys2Proof.Machine Sys2Proof.Laws

/-! ### Table 2.3 -/

theorem axisOps_range : ∀ q ∈ axisOps, 0x0100 ≤ q.1 ∧ q.1 ≤ 0x0108 := by decide

theorem axisOps_exec : ∀ q ∈ axisOps, ∀ (r : Req) (s : State), exec (q.2 .effect r) s = .next (s.opRow q.1 .effect r) := by
  simp only [axisOps, List.forall_mem_cons]
  exact ⟨fun _ _ => rfl, fun _ _ => rfl, fun _ _ => rfl, fun _ _ => rfl, fun _ _ => rfl, fun _ _ => rfl, fun _ _ => rfl, fun _ _ => rfl,
    fun _ _ => rfl, nofun⟩

/-- A row of the table is of one of its commands. -/
theorem axisRows_axisOps : ∀ q ∈ axisRows, (q.1, q.2.1) ∈ axisOps := by simp [axisRows, axisOps]

/-- A row of the table is a transition; AXIS_RESET needs that no F2 source of the axis is active. -/
theorem transition_of_row : ∀ q ∈ axisRows, ∀ src, (q.1 = 0x0108 → src = false) → transition q.1 q.2.2.1 src = some q.2.2.2 := by
  decide

/-- A transition is in the table. -/
theorem transition_mem {op : Nat} {st to_ : AxisSt} {src : Bool} (h : transition op st src = some to_) :
    (op, st, to_) ∈ axisRows.map (fun q => (q.1, q.2.2)) := by
  unfold transition at h
  split at h
  case h_16 =>
    split at h
    · cases h
    · cases h; decide
  case h_17 => cases h
  all_goals cases h; decide

/-- With an F2 source of its axis active AXIS_RESET has no transition (R514). -/
theorem transition_reset_blocked (st : AxisSt) : transition 0x0108 st true = none := by
  cases st <;> rfl

theorem neverVoid_iff (op : Nat) : neverVoid op = true ↔ op = 0x0104 ∨ op = 0x0105 ∨ op = 0x0106 := by
  simp [neverVoid, or_assoc]

/-! ### The command at its axis -/

section
variable {s : State} {n op : Nat} {x : Axis} (tag : BitVec 32)

/-- A command that has a transition: the axis enters its state. -/
theorem axisCommand_transition {to_ : AxisSt} (hx : s.axis? n = some x)
    (ht : transition op x.st (s.f2Active n || s.faults.f3) = some to_) : s.axisCommand op n tag = s.enter n to_ (op == 0x0105) := by
  simp [State.axisCommand, hx, ht]

/-- A command without a transition is void, or does nothing (R59, R61). -/
theorem axisCommand_none (hx : s.axis? n = some x) (ht : transition op x.st (s.f2Active n || s.faults.f3) = none) :
    s.axisCommand op n tag = if neverVoid op then s else s.axisVoid n tag op (axisStCode x.st) := by
  simp [State.axisCommand, hx, ht]

end

/-- An event of the common sequence is one record of the cycle. -/
theorem event_recorded {s : State} (h : s.common = true) {code axis : Nat} (hcode : code < 65536) (haxis : axis < 256) (p : List Byte) :
    recorded s (s.event code axis p) code axis p :=
  ⟨s.mkRec (s.sourceOf none) axis code p, Nat.mod_eq_of_lt hcode, Nat.mod_eq_of_lt haxis, rfl, record_common s _ h⟩

theorem axisEffect_command {r : Req} (h : 0x0100 ≤ r.opcode ∧ r.opcode ≤ 0x0108) (s : State) (n : Nat) (cap : List (FieldKey × BitVec 64)) :
    s.axisEffect r n cap = s.axisCommand r.opcode n r.tag := by
  unfold State.axisEffect
  dsimp only
  split
  case h_9 => rfl
  all_goals omega

/-- The first command of the order takes effect when its cycle has come: one that names its axis acts there if the axis is due, and
otherwise waits there (R30, R60). -/
theorem takeEffect_axis {s : State} {a : Accepted} {rest : List Accepted} {r : Req} {x : Axis} (h : TakesNext s a rest r r.opcode)
    (hop : 0x0100 ≤ r.opcode ∧ r.opcode ≤ 0x0108) (hn : r.target.toNat < 160) (hx : s.axis? r.target.toNat = some x) :
    s.takeEffect r =
      if s.due x then (withPlaces s rest).axisCommand r.opcode r.target.toNat r.tag
      else (withPlaces s rest).updAxis r.target.toNat (fun y => { y with waiting := y.waiting ++ [a] }) := by
  obtain ⟨hacc, hbody, -, heff⟩ := h
  have hfirst : (decide (a.eff ≤ s.clock.cycle) && (!a.body.stops || r.opcode == 0x0007)) = true := by
    simp [heff, hbody, Body.stops]
  have hone (u : State) : u.effectOne a = (u.effectOnAxes a r, []) := by simp [State.effectOne, hbody, isAxisOp, hop]
  have haxes : axesOf r = [r.target.toNat] := if_neg (by omega)
  have hcap : ¬r.opcode = 0x0703 := by omega
  have hx' : (withPlaces s rest).axis? r.target.toNat = some x := hx
  simp only [State.takeEffect, hacc, List.find?_cons, hfirst]
  rw [if_pos hbody, List.erase_cons_head, hone]
  change (withPlaces s rest).effectOnAxes a r = _
  simp only [State.effectOnAxes, haxes, List.foldl_cons, List.foldl_nil, hx', if_neg hcap, axisEffect_command hop]
  rfl

/-- The effect row of a command of Table 2.3. -/
theorem axisOps_effect {s : State} {a : Accepted} {rest : List Accepted} {r : Req} {x : Axis} {q : Nat × (Phase → Req → Instr)}
    (h : TakesNext s a rest r r.opcode) (hn : r.target.toNat < 160) (hx : s.axis? r.target.toNat = some x) (hq : q ∈ axisOps)
    (hop : r.opcode = q.1) : exec (q.2 .effect r) s = .next (
      if s.due x then (withPlaces s rest).axisCommand q.1 r.target.toNat r.tag
      else (withPlaces s rest).updAxis r.target.toNat (fun y => { y with waiting := y.waiting ++ [a] })) := by
  rw [axisOps_exec q hq r s, ← hop]
  exact congrArg _ (takeEffect_axis h (hop ▸ axisOps_range q hq) hn hx)

end Sys2Proof.Proofs
end

section
/-!
PROOF. O34.
-/
namespace Sys2Proof.Proofs
open Sys2Proof Sys2Proof.Machine Sys2Proof.Laws

/-- Settles O34: a due axis takes the command at once, which enters the state that Table 2.3 gives or, where the table has no row, does
nothing or records AXIS_CMD_VOID; on any other axis the command waits. -/
theorem axisCommandsFollowTheirTable : Obligations.AxisCommandsFollowTheirTable := by
  intro s a rest r x n s0 never h hn hx hc
  have hx0 : s0.axis? n = some x := hx
  refine ⟨fun q hq hop hdue => ?waits, fun q hq hop hdue hst hreset => ?acts, fun q hq hop hdue hnone => ?void⟩
  case waits => simp only [axisOps_effect h hn hx hq hop, hdue, Bool.false_eq_true, if_false]; rfl
  case acts =>
    have hsrc : q.1 = 0x0108 → (s0.f2Active n || s0.faults.f3) = false := fun h8 => by
      obtain ⟨hf2, hf3⟩ := hreset h8
      exact Bool.or_eq_false_iff.mpr ⟨hf2, hf3⟩
    have htable := transition_of_row q hq _ hsrc
    rw [← hst] at htable
    obtain ⟨hon, hstate⟩ := enter_spec hx0 q.2.2.2 (q.1 == 0x0105)
    refine ⟨_, ?_, hstate, hon.others, hon.frame_common hc⟩
    rw [axisOps_effect h hn hx (axisRows_axisOps q hq) hop, if_pos hdue, axisCommand_transition r.tag hx0 htable]
  case void =>
    have htable : transition q.1 x.st (s0.f2Active n || s0.faults.f3) = none := by
      refine Option.eq_none_iff_forall_not_mem.mpr fun to_ hto => ?_
      obtain ⟨p, hp, hrow⟩ := List.mem_map.mp (transition_mem hto)
      obtain ⟨hp1, hpst, -⟩ : p.1 = q.1 ∧ p.2.2.1 = x.st ∧ p.2.2.2 = to_ := by simpa [Prod.ext_iff] using hrow
      obtain ⟨h8, hactive⟩ := hnone p hp hp1 hpst
      have hsrc : (s0.f2Active n || s0.faults.f3) = true := Bool.or_eq_true_iff.mpr hactive
      rw [h8, hsrc, transition_reset_blocked] at hto
      cases hto
    rw [axisOps_effect h hn hx hq hop, if_pos hdue, axisCommand_none r.tag hx0 htable]
    refine ⟨fun hnever => by rw [if_pos ((neverVoid_iff q.1).mpr hnever)], fun hnever => ⟨_, rfl, ?_⟩⟩
    rw [if_neg (mt (neverVoid_iff q.1).mp hnever)]
    exact event_recorded (s := s0) hc (code := 0x401) (axis := n) (by decide) (hn.trans (by decide)) _

end Sys2Proof.Proofs
end

section
/-!
SUPPORT. What a completed run reports of its axis (R62, R69, R74, R89), and memory errors of an engine (R105).
-/
namespace Sys2Proof.Proofs
open Sys2Proof Sys2Proof.Machine Sys2Proof.Laws

/-! ### Limits that a run reports -/

theorem exec_sampleLossLimit (n : Nat) (s : State) :
    exec (.sampleLossLimit n) s = .next (if s.runFlag n 1 then s.computedAxis 0x141 n else s) := rfl

theorem exec_followingError (n : Nat) (s : State) :
    exec (.followingError n) s = .next (if s.runFlag n 0 then s.computedAxis 0x142 n else s) := rfl

theorem exec_numericPersist (n : Nat) (s : State) :
    exec (.numericPersist n) s = .next (if s.runFlag n 3 then s.computedAxis 0x144 n else s) := rfl

/-- A row that reports a flag of the last run does so where the flag is set, and nothing else. -/
theorem exec_reports {c : Instr} {s : State} {n b code : Nat} (hrow : exec c s = .next (if s.runFlag n b then s.computedAxis code n else s)) :
    (s.runFlag n b = true → exec c s = .next (s.computedAxis code n)) ∧ (s.runFlag n b = false → exec c s = .next s) :=
  ⟨fun h => by rw [hrow, if_pos h], fun h => by rw [hrow, h]; rfl⟩

/-- `s` with `r` the one fault that the computation of this cycle found. -/
def withComputed (s : State) (r : FaultRep) : State := { s with faults := { s.faults with computed := [r] } }

/-- The mode that an axis sends follows its state (R112): nothing but that axis changes, and not its state. -/
theorem fixMode_spec (s : State) (n : Nat) : s.fixMode n = { s with axes := (s.fixMode n).axes } ∧ OnAxis True n s (s.fixMode n) := by
  unfold State.fixMode
  split
  · exact ⟨rfl, .refl s⟩
  dsimp only
  split
  · exact ⟨rfl, .refl s⟩
  · exact ⟨rfl, .updAxis (fun _ => rfl) fun _ _ => rfl⟩

section
variable {s : State} {r : FaultRep} {n code : Nat} {a : Axis}

/-- The first F1 that the computation finds on an axis is noted, no timer running (R511). -/
theorem computed_f1 (hactive : s.isActive r.code r.loc = false) (hc : s.faults.computed = []) (ht : s.faults.timers = [])
    (hcls : r.cls = .f1) (hloc : r.loc.axis = some n) : s.computed r = withComputed s r := by
  simp only [State.computed, hactive, hc, hcls, hloc, List.any_nil, List.nil_append, Bool.or_false, Bool.and_false, Bool.false_eq_true,
    if_false]
  exact if_neg (by simp [ht])

/-- An F2 is noted, and its axis FAULTED within the cycle (R62). -/
theorem computed_f2 (hactive : s.isActive r.code r.loc = false) (hc : s.faults.computed = []) (hcls : r.cls = .f2)
    (hloc : r.loc.axis = some n) : s.computed r = (withComputed s r).faultAxis n := by
  simp only [State.computed, hactive, hc, hcls, hloc, List.any_nil, List.nil_append, Bool.or_false, Bool.and_false, Bool.false_eq_true,
    if_false]
  rfl

/-- An F1 that a run reports is noted, and changes at most the mode that the axis sends. -/
theorem computedAxis_f1 (ha : s.axis? n = some a) (hactive : s.isActive code (locAxis n) = false) (hc : s.faults.computed = [])
    (ht : s.faults.timers = []) (hr : mkFault code (locAxis n) = { code := code, cls := .f1, loc := locAxis n }) :
    (s.computedAxis code n).faults = { s.faults with computed := [{ code := code, cls := .f1, loc := locAxis n }] } ∧
    s.computedAxis code n = { s with faults := (s.computedAxis code n).faults, axes := (s.computedAxis code n).axes } ∧
    ((s.computedAxis code n).axis? n).map (·.st) = some a.st := by
  unfold State.computedAxis
  rw [hr, computed_f1 hactive hc ht rfl rfl]
  obtain ⟨hframe, hmode⟩ := fixMode_spec (withComputed s { code := code, cls := .f1, loc := locAxis n }) n
  refine ⟨hmode.faults, ?_, (hmode.state trivial).trans (congrArg (Option.map (·.st)) ha)⟩
  rw [hmode.faults]
  exact hframe

/-- An F2 that a run reports is noted, and the axis is FAULTED in the same cycle (R62). -/
theorem computedAxis_f2 (ha : s.axis? n = some a) (hactive : s.isActive code (locAxis n) = false) (hc : s.faults.computed = [])
    (hr : mkFault code (locAxis n) = { code := code, cls := .f2, loc := locAxis n }) :
    (s.computedAxis code n).faults = { s.faults with computed := [{ code := code, cls := .f2, loc := locAxis n }] } ∧
    (a.st ≠ .off → ((s.computedAxis code n).axis? n).map (·.st) = some .faulted) := by
  unfold State.computedAxis
  rw [hr, computed_f2 hactive hc rfl rfl]
  obtain ⟨hfault, hstate⟩ := faultAxis_spec (s := withComputed s { code := code, cls := .f2, loc := locAxis n }) ha
  obtain ⟨-, hmode⟩ := fixMode_spec ((withComputed s { code := code, cls := .f2, loc := locAxis n }).faultAxis n) n
  exact ⟨hmode.faults.trans hfault.faults, fun hoff => (hmode.state trivial).trans (hstate hoff)⟩

end

/-! ### Memory errors (R105) -/

/-- A corrected error costs the engine 2 cycles, and is a report of this lane. -/
theorem engineEccCorrected_common {s : State} (hc : s.common = true) (i : Fin 16) : exec (.engineEccCorrected i) s =
    .next (reported (s.updEngine i (fun e => { e with cyc := e.cyc + 2, used := e.used + 2 })) 0x147 .f0 locNone) := by
  change Host.Outcome.next (State.collectOwn _) = _
  rw [collectOwn_common]
  · rfl
  · exact hc

/-- A second change of the same entry follows on the first. -/
theorem modAt_modAt {α : Type} (f g : α → α) : ∀ (l : List α) (n : Nat), modAt (modAt l n f) n g = modAt l n (fun a => g (f a))
  | [], _ => rfl
  | _ :: _, 0 => rfl
  | a :: l, n + 1 => congrArg (a :: ·) (modAt_modAt f g l n)

theorem engineEccUncorrectable_idle {s : State} {i : Fin 16} {e : Engine} (he : s.engines[i.val]? = some e) (h : e.axis = none) :
    exec (.engineEccUncorrectable i) s = .next s := by
  change execEngineEccUncorrectable i s = _
  simp [execEngineEccUncorrectable, he, h]

/-- The run of an engine with nothing left to do stops: its axis overran, and the engine has no axis. -/
theorem engineEccUncorrectable_last {s : State} {i : Fin 16} {e : Engine} {n : Nat} (hc : s.common = true)
    (he : s.engines[i.val]? = some e) (hn : e.axis = some n) (ht : e.todo = []) : exec (.engineEccUncorrectable i) s =
      .next (reported ((s.updEngine i (fun e => { e with stopped := true, axis := none })).updAxis n
        (fun a => { a with overrun := true, dispatched := false })) 0x148 .f2 (locAxis n)) := by
  let stopped := (s.updEngine i (fun e => { e with stopped := true })).updAxis n (fun a => { a with overrun := true, dispatched := false })
  let noted := stopped.report (mkFault 0x148 (locAxis n))
  have hexec : exec (.engineEccUncorrectable i) s = .next (noted.collectOwn.dispatchNext i) := by
    change execEngineEccUncorrectable i s = _
    simp only [execEngineEccUncorrectable, he, Option.bind_some, hn]
    rfl
  have hengine : noted.engines[i.val]? = some { e with stopped := true } := modAt_getElem?_self _ he
  rw [hexec, collectOwn_common (s := noted) hc, dispatchNext_last hengine ht]
  simp only [State.updEngine, noted, stopped, State.report, updAxis_engines, modAt_modAt]
  rfl

end Sys2Proof.Proofs
end

section
/-!
PROOF. O50.
-/
namespace Sys2Proof.Proofs
open Sys2Proof Sys2Proof.Machine Sys2Proof.Laws

/-- Settles O50: no other fault of the axis being known, what a run reports is noted with its class, and the F2 alone changes the state of
the axis; a memory error is a report of this lane besides what it does to the engine. -/
theorem runFlagsAndMemoryErrorsFault : Obligations.RunFlagsAndMemoryErrorsFault := by
  intro s n i a ha ht hc calm found
  have hf1 {code : Nat} {c : Instr} (hr : mkFault code (locAxis n) = { code := code, cls := .f1, loc := locAxis n })
      (hactive : calm code) (hexec : exec c s = .next (s.computedAxis code n)) : found code .f1 c := by
    obtain ⟨hfaults, hframe, hstate⟩ := computedAxis_f1 ha hactive hc ht hr
    exact ⟨_, hexec, hfaults, fun _ => ⟨hframe, hstate⟩, nofun⟩
  obtain ⟨hloss, hnoLoss⟩ := exec_reports (exec_sampleLossLimit n s)
  obtain ⟨hfollow, hnoFollow⟩ := exec_reports (exec_followingError n s)
  obtain ⟨hnumeric, hnoNumeric⟩ := exec_reports (exec_numericPersist n s)
  refine ⟨fun hflag hactive => hf1 rfl hactive (hloss hflag), fun hflag hactive => ?following,
    fun hflag hactive => hf1 rfl hactive (hnumeric hflag), hnoLoss, hnoFollow, hnoNumeric, fun hcommon => engineEccCorrected_common hcommon i,
    fun e => engineEccUncorrectable_idle, fun e he hn ht hcommon => engineEccUncorrectable_last hcommon he hn ht⟩
  case following =>
    obtain ⟨hfaults, hstate⟩ := computedAxis_f2 ha hactive hc rfl
    exact ⟨_, hfollow hflag, hfaults, nofun, fun _ => hstate⟩

end Sys2Proof.Proofs
end

section
/-!
SUPPORT. The slot commands of a loop engine (R114, R121): what a MAC-slot or MOVE-slot operation leaves of its engine, from what it writes
under its predicate.
-/
namespace Sys2Proof.Proofs
open Sys2Proof Sys2Proof.Machine Sys2Proof.Laws

/-- An engine with an open bundle of this timing and these writes: all that a slot changes before its bundle closes (R121). -/
def joined (e : Engine) (b : Bundle) (c : Commit) : Engine := { e with bundle := b, commit := c }

section
variable (e : Engine) (b : Bundle) (c : Commit)

@[simp] theorem joined_commit : (joined e b c).commit = c := rfl
@[simp] theorem joined_dr (r : Nat) : (joined e b c).dr r = e.dr r := rfl
@[simp] theorem joined_scale (r : Nat) : (joined e b c).scale r = e.scale r := rfl
@[simp] theorem joined_pr (r : Nat) : (joined e b c).pr r = e.pr r := rfl
@[simp] theorem joined_load (ctx : Nat → BitVec 32) (a : Nat) : (joined e b c).load ctx a = e.load ctx a := rfl
@[simp] theorem joined_addr (x : Access) : (joined e b c).addr x = accessAddr e x.j x.off := rfl
@[simp] theorem joined_macLane (k : MacKind) (r : Nat) (p : Int) (d : Commit) : (joined e b c).macLane k r p d = e.macLane k r p d := rfl

end

/-- The writes that the access of a slot makes whatever its predicate: its post-modify (R120, R121). -/
def accessed (e : Engine) (x : Option Access) (c : Commit) : Commit :=
  match x with
  | some x => postMod e x.j x.pm c
  | none => c

/-- A post-modify writes address registers alone. -/
theorem postMod_eq (e : Engine) (j : Nat) (pm : Bool) (c : Commit) : postMod e j pm c = { c with aregs := (postMod e j pm c).aregs } := by
  unfold postMod
  split <;> rfl

section
variable (e : Engine) (j : Nat) (pm : Bool) (x : Option Access) (c : Commit)

@[simp] theorem postMod_accs : (postMod e j pm c).accs = c.accs := by rw [postMod_eq]
@[simp] theorem postMod_mem : (postMod e j pm c).mem = c.mem := by rw [postMod_eq]
@[simp] theorem postMod_sf : (postMod e j pm c).sf = c.sf := by rw [postMod_eq]

@[simp] theorem accessed_accs : (accessed e x c).accs = c.accs := by cases x <;> simp [accessed]
@[simp] theorem accessed_sf : (accessed e x c).sf = c.sf := by cases x <;> simp [accessed]

end

/-- Joining the bundle changes its timing and makes the post-modify. -/
theorem note_eq (e : Engine) (isMac : Bool) (i : SlotInfo) : ∃ b, e.note isMac i = joined e b (accessed e i.access e.commit) := by
  obtain ⟨reads, marks, access, extra, pred⟩ := i
  cases access with
  | none => exact ⟨_, rfl⟩
  | some x => exact ⟨_, rfl⟩

/-- A slot joins the bundle, and makes its writes `c` when its predicate is 1. -/
theorem slot_eq {e : Engine} {isMac : Bool} {op : SlotOp} {ctx : Nat → BitVec 32} {c : Commit}
    (h : e.pr op.info.pred = true → ∀ b, op.eff ctx (joined e b (accessed e op.info.access e.commit)) = .ok c) :
    ∃ b, e.slot isMac op ctx = .ok (joined e b (if e.pr op.info.pred then c else accessed e op.info.access e.commit)) := by
  obtain ⟨b, hnote⟩ := note_eq e isMac op.info
  refine ⟨b, ?_⟩
  rw [Engine.slot, hnote, joined_pr]
  split
  next hp => rw [h hp b]; rfl
  next => rfl

/-- A slot whose predicate is 1 ends as its operation does where that is an access outside the map. -/
theorem slot_error {e : Engine} {isMac : Bool} {op : SlotOp} {ctx : Nat → BitVec 32} {w : Nat} (hp : e.pr op.info.pred = true)
    (h : ∀ b, op.eff ctx (joined e b (accessed e op.info.access e.commit)) = .error w) : e.slot isMac op ctx = .error w := by
  obtain ⟨b, hnote⟩ := note_eq e isMac op.info
  rw [Engine.slot, hnote, joined_pr, if_pos hp, h b]
  rfl

section
variable {s : State} {n : Fin 16} {e : Engine} {i : Instr} {op : SlotOp} {c : Commit}

theorem engineDo_ok {f : (Nat → BitVec 32) → Engine → Except Nat Engine} {e' : Engine} (he : s.engines[n.val]? = some e)
    (h : f (s.ctxOf e) e = .ok e') : s.engineDo n f = .next (s.updEngine n (fun _ => e')) := by
  simp [State.engineDo, he, h]

theorem engineDo_error {f : (Nat → BitVec 32) → Engine → Except Nat Engine} {w : Nat} (he : s.engines[n.val]? = some e)
    (h : f (s.ctxOf e) e = .error w) : s.engineDo n f = .fault (.engineAddress w) := by
  simp [State.engineDo, he, h]

/-- A MAC-slot operation runs in a bundle that it opens. -/
theorem macSlot_runs (he : s.engines[n.val]? = some e) (hi : exec i s = s.macSlot n op)
    (h : e.pr op.info.pred = true → ∀ b, op.eff (s.ctxOf e) (joined e b (accessed e op.info.access {})) = .ok c) :
    SlotRuns i s n e op.info.pred (accessed e op.info.access {}) c := by
  obtain ⟨b, hb⟩ := slot_eq (e := e.openBundle) (isMac := true) h
  exact ⟨b, hi.trans (engineDo_ok he hb)⟩

/-- A MOVE-slot operation runs in the open bundle. -/
theorem movSlot_runs (he : s.engines[n.val]? = some e) (hi : exec i s = s.movSlot n op)
    (h : e.pr op.info.pred = true → ∀ b, op.eff (s.ctxOf e) (joined e b (accessed e op.info.access e.commit)) = .ok c) :
    SlotRuns i s n e op.info.pred (accessed e op.info.access e.commit) c := by
  obtain ⟨b, hb⟩ := slot_eq (isMac := false) h
  exact ⟨b, hi.trans (engineDo_ok he hb)⟩

/-- A MOVE-slot operation whose access the map does not allow is the fault (R103). -/
theorem movSlot_faults {w : Nat} (he : s.engines[n.val]? = some e) (hi : exec i s = s.movSlot n op) (hp : e.pr op.info.pred = true)
    (h : ∀ b, op.eff (s.ctxOf e) (joined e b (accessed e op.info.access e.commit)) = .error w) :
    exec i s = .fault (.engineAddress w) :=
  hi.trans (engineDo_error he (slot_error hp h))

end

end Sys2Proof.Proofs
end

section
/-!
PROOF. O2.
-/
namespace Sys2Proof.Proofs
open Sys2Proof Sys2Proof.Machine Sys2Proof.Laws

/-- What an operation of the MAC slot makes of an accumulator and a shifted product (R124). -/
def accumulated : MacKind → Int → Int → Int
  | .set => fun _ q => q
  | .add => fun a q => a + q
  | .sub => fun a q => a - q

theorem accHold_held (z : Int) : Held80 (accHold z).1 (accHold z).2 z := ⟨accHold_toInt z, decide_eq_true_iff⟩

theorem shifted_shiftedBy (p sc : Int) : ShiftedBy p sc (shifted p sc) :=
  ⟨fun h => if_pos h, fun h => if_neg (by omega)⟩

/-- One lane writes the held result to its accumulator, and sets SF where it limits. -/
theorem macLane_eq (e : Engine) (k : MacKind) (r : Nat) (p : Int) (c : Commit) :
    e.macLane k r p c = { c with
      accs := kvSet c.accs r (accHold (accumulated k (e.ac r).toInt p)).1
      sf := if (accHold (accumulated k (e.ac r).toInt p)).2 then some true else c.sf } := by
  cases k <;> rfl

/-- The shifted product of a lane with its word (R124). -/
def laneProduct (e : Engine) (dx sci : Fin 32) (w : Nat → BitVec 32) (j : Nat) : Int := shifted ((e.dr dx).toInt * (w j).toInt) (e.scale sci)

/-- SF is set where any of four results limits. -/
theorem setsFlag_chain (l0 l1 l2 l3 : Bool) : (if l3 then some true else if l2 then some true else if l1 then some true else
    if l0 then some true else none) = if ((l0 = true ∨ l1 = true) ∨ l2 = true) ∨ l3 = true then some true else none := by
  simp only [← ite_or, or_comm, or_left_comm]

section
variable {s : State} {n : Fin 16} {e : Engine} (he : s.engines[n.val]? = some e)
include he

/-- An operation that gives one accumulator a product. -/
theorem oneLane_runs {i : Instr} {op : SlotOp} (k : MacKind) {p : Int} {acc : Fin 4} {sci : Fin 32} {pred : Fin 4}
    (hi : exec i s = s.macSlot n op) (hpred : op.info.pred = pred)
    (heff : ∀ b, op.eff (s.ctxOf e) (joined e b (accessed e op.info.access {})) =
      .ok (e.macLane k acc (shifted p (e.scale sci)) (accessed e op.info.access {}))) :
    OneLane i (accumulated k) p s n e acc sci pred (accessed e op.info.access {}) := by
  refine ⟨_, _, _, shifted_shiftedBy _ _, accHold_held _, ?_⟩
  rw [← hpred]
  refine macSlot_runs he hi fun _ b => (heff b).trans (congrArg _ ?_)
  rw [macLane_eq, accessed_accs, accessed_sf]
  rfl

/-- The word at the address of a product stands there alone. -/
theorem oneLane_word {i : Instr} (k : MacKind) {dx : Fin 32} {aj : Fin 8} {pm : Bool} {acc : Fin 4} {sci : Fin 32} {pred : Fin 4}
    (hi : exec i s = s.macSlot n (macMem k 1 dx aj pm acc sci pred)) {w : BitVec 32} (hw : e.load (s.ctxOf e) (accessAddr e aj 0) = .ok w) :
    OneLane i (accumulated k) ((e.dr dx).toInt * w.toInt) s n e acc sci pred (postMod e aj pm {}) := by
  refine oneLane_runs he k hi rfl fun b => ?_
  have hmod : accessAddr e aj 0 % 65536 = accessAddr e aj 0 := Nat.mod_mod _ _
  simp [macMem, hmod, hw, accessed, Functor.map, Except.map]

/-- Four lanes take the products with four consecutive words, each its own. -/
theorem fourLanes_runs {i : Instr} (k : MacKind) {dx : Fin 32} {aj : Fin 8} {pm : Bool} {sci : Fin 32} {pred : Fin 4}
    (hi : exec i s = s.macSlot n (macMem k 4 dx aj pm 0 sci pred)) {w : Nat → BitVec 32} (h4 : accessAddr e aj 0 % 4 = 0)
    (hw : ∀ k < 4, e.load (s.ctxOf e) ((accessAddr e aj 0 + k) % 65536) = .ok (w k)) :
    FourLanes i (accumulated k) s n e dx aj pm sci pred w := by
  let p := laneProduct e dx sci w
  refine ⟨fun j => (accHold (accumulated k (e.ac j).toInt (p j))).1, fun j => (accHold (accumulated k (e.ac j).toInt (p j))).2,
    fun j _ => ⟨p j, shifted_shiftedBy _ _, accHold_held _⟩, ?_⟩
  refine macSlot_runs (op := macMem k 4 dx aj pm 0 sci pred) he hi fun _ b => ?_
  have hlanes : (macMem k 4 dx aj pm 0 sci pred).eff (s.ctxOf e) (joined e b (postMod e aj pm {})) =
      .ok ([0, 1, 2, 3].foldl (fun c j => e.macLane k j (p j) c) (postMod e aj pm {})) := by
    have hw0 := hw 0 (by decide)
    rw [Nat.add_zero] at hw0
    simp [macMem, h4, List.range_succ, hw, hw0]
    rfl
  refine hlanes.trans (congrArg _ ?_)
  simp [macLane_eq, kvSet, kvDel, setsFlag_chain]

end

/-- Settles O2: the four-lane and the memory products by the words that their access reads, the others by the registers they name. -/
theorem productsAccumulate : Obligations.ProductsAccumulate := by
  refine ⟨fun s n e dx aj pm sci pred w he h4 hw => ⟨fourLanes_runs he .set rfl h4 hw, fourLanes_runs he .add rfl h4 hw,
    fourLanes_runs he .sub rfl h4 hw⟩, fun s n e dx dy aj pm acc sci pred he => ⟨fun w hw => ⟨oneLane_word he .set rfl hw,
    oneLane_word he .add rfl hw, oneLane_word he .sub rfl hw⟩, ?_⟩⟩
  exact ⟨oneLane_runs (op := macReg .set dx dy acc sci pred) he .set rfl rfl fun _ => rfl,
    oneLane_runs (op := macReg .add dx dy acc sci pred) he .add rfl rfl fun _ => rfl,
    oneLane_runs (op := macReg .sub dx dy acc sci pred) he .sub rfl rfl fun _ => rfl,
    oneLane_runs (op := macLoad .set dx acc sci pred) he .set rfl rfl fun _ => rfl,
    oneLane_runs (op := macLoad .add dx acc sci pred) he .add rfl rfl fun _ => rfl,
    macSlot_runs (op := {}) he rfl fun _ _ => rfl, macSlot_runs (op := macClear) he rfl fun _ _ => rfl⟩

end Sys2Proof.Proofs
end

section
/-!
SUPPORT. The sine of R127: the chip's series in units of 2^−60 against the real sine, quadrant by quadrant, and the word that the free low
bits leave (log entry 5).
-/
namespace Sys2Proof.Proofs
open Sys2Proof Sys2Proof.Machine Sys2Proof.Laws

/-! ### The series to the fifteenth power -/

/-- The factor of the sine's series to the fifteenth power: sin x is near x · sineFactor (x²). -/
noncomputable def sineFactor (t : ℝ) : ℝ := ([210, 156, 110, 72, 42, 20, 6] : List ℤ).foldl (fun p d => 1 - t * p / d) 1

theorem sineSeries_im (x : ℝ) :
    (∑ m ∈ Finset.range 17, ((x : ℂ) * Complex.I) ^ m / (m.factorial : ℂ)).im = x * sineFactor (x ^ 2) := by
  have hI (k : ℕ) : ((x : ℂ) * Complex.I) ^ k / (k.factorial : ℂ) = ((x ^ k / k.factorial : ℝ) : ℂ) * Complex.I ^ k := by
    push_cast; ring
  simp only [hI, Complex.im_sum, Complex.im_ofReal_mul]
  have h4 (k : ℕ) : Complex.I ^ (k + 4) = Complex.I ^ k := by rw [pow_add, Complex.I_pow_four, mul_one]
  simp [Finset.sum_range_succ, h4, Nat.factorial, sineFactor, pow_succ Complex.I]
  ring

theorem sin_series_near {x : ℝ} (h0 : 0 ≤ x) (h1 : x ≤ 8 / 5) : |Real.sin x - x * sineFactor (x ^ 2)| ≤ 1 / 10 ^ 10 := by
  have hnorm : ‖(x : ℂ) * Complex.I‖ = x := by simp [abs_of_nonneg h0]
  have hexp := Complex.exp_bound' (x := x * Complex.I) (n := 17) (by rw [hnorm]; norm_num; linarith)
  rw [hnorm] at hexp
  calc |Real.sin x - x * sineFactor (x ^ 2)|
      = |(Complex.exp (x * Complex.I) - ∑ m ∈ Finset.range 17, ((x : ℂ) * Complex.I) ^ m / (m.factorial : ℂ)).im| := by
        rw [Complex.sub_im, Complex.exp_ofReal_mul_I_im, sineSeries_im]
    _ ≤ x ^ 17 / (Nat.factorial 17) * 2 := (Complex.abs_im_le_norm _).trans hexp
    _ ≤ (8 / 5) ^ 17 / (Nat.factorial 17) * 2 := by gcongr
    _ ≤ 1 / 10 ^ 10 := by norm_num [Nat.factorial]

/-! ### The series in units of 2^−60 -/

/-- The integer `i`, in units of 2^−60, lies within `b` of those units of `x`. -/
def Near (i : ℤ) (x b : ℝ) : Prop := |(i : ℝ) / 2 ^ 60 - x| ≤ b / 2 ^ 60

/-- A quotient rounded down lies less than 1 below the exact one. -/
theorem ediv_near (a : ℤ) {b : ℤ} (hb : 0 < b) : |((a / b : ℤ) : ℝ) - (a : ℝ) / b| ≤ 1 := by
  have hfloor : a / b = ⌊(a : ℝ) / b⌋ := by rw [Int.floor_div_cast_of_nonneg hb.le, Int.floor_intCast]
  rw [hfloor, abs_sub_comm, abs_of_nonneg (sub_nonneg.mpr (Int.floor_le _))]
  linarith [Int.lt_floor_add_one ((a : ℝ) / b)]

/-- The exact product lies near that of the exact factors. -/
theorem near_exact_mul {i j : ℤ} {x y b c : ℝ} (hi : Near i x b) (hj : Near j y c) (hx : |x| ≤ 3) (hy : |y| ≤ 3)
    (hc : c ≤ 2 ^ 60) : |(i : ℝ) / 2 ^ 60 * (j / 2 ^ 60) - x * y| ≤ (4 * b + 3 * c) / 2 ^ 60 := by
  have hj4 : |(j : ℝ) / 2 ^ 60| ≤ 4 := by
    have hc1 : c / 2 ^ 60 ≤ 1 := (div_le_one (by positivity)).mpr hc
    calc |(j : ℝ) / 2 ^ 60| = |(j / 2 ^ 60 - y) + y| := by rw [sub_add_cancel]
      _ ≤ |(j : ℝ) / 2 ^ 60 - y| + |y| := abs_add_le _ _
      _ ≤ 1 + 3 := add_le_add (hj.trans hc1) hy
      _ = 4 := by norm_num
  calc |(i : ℝ) / 2 ^ 60 * (j / 2 ^ 60) - x * y| = |(i / 2 ^ 60 - x) * (j / 2 ^ 60) + x * (j / 2 ^ 60 - y)| := by ring_nf
    _ ≤ |(i : ℝ) / 2 ^ 60 - x| * |(j : ℝ) / 2 ^ 60| + |x| * |(j : ℝ) / 2 ^ 60 - y| := by
      rw [← abs_mul, ← abs_mul]; exact abs_add_le _ _
    _ ≤ b / 2 ^ 60 * 4 + 3 * (c / 2 ^ 60) := by
      have hb : 0 ≤ b / 2 ^ 60 := (abs_nonneg _).trans hi
      gcongr
      · exact hi
      · exact hj
    _ = (4 * b + 3 * c) / 2 ^ 60 := by ring

/-- A product in units of 2^−60, rounded down. -/
theorem Near.mul {i j : ℤ} {x y b c : ℝ} (hi : Near i x b) (hj : Near j y c) (hx : |x| ≤ 3) (hy : |y| ≤ 3) (hc : c ≤ 2 ^ 60) :
    Near (i * j / 2 ^ 60) (x * y) (4 * b + 3 * c + 1) := by
  have hround := ediv_near (i * j) (b := 2 ^ 60) (by norm_num)
  have hprod := near_exact_mul hi hj hx hy hc
  push_cast at hround
  unfold Near
  rw [abs_le] at *
  constructor <;> linarith [hround.1, hround.2, hprod.1, hprod.2]

/-- One step of the series keeps the deviation `b`, once that is wide enough for the deviation `c` of the square. -/
theorem Near.term {q acc d : ℤ} {t p b c : ℝ} (hacc : Near acc p b) (hq : Near q t c) (hp : |p| ≤ 3) (ht : |t| ≤ 3) (hd : 6 ≤ d)
    (hc : c ≤ 2 ^ 60) (hb : 3 * c + 6 ≤ 2 * b) : Near (2 ^ 60 - q * acc / (d * 2 ^ 60)) (1 - t * p / d) b := by
  have hd6 : (6 : ℝ) ≤ d := by exact_mod_cast hd
  have hround := ediv_near (q * acc) (b := d * 2 ^ 60) (by positivity)
  have hprod := near_exact_mul hacc hq hp ht hc
  have hquot : |((q : ℝ) / 2 ^ 60 * (acc / 2 ^ 60) - t * p) / d| ≤ (b - 1) / 2 ^ 60 := by
    rw [abs_div, abs_of_pos (by positivity : (0 : ℝ) < d), mul_comm (q / 2 ^ 60 : ℝ), mul_comm t]
    have h0 := (abs_nonneg _).trans hprod
    calc _ ≤ (4 * b + 3 * c) / 2 ^ 60 / 6 := by gcongr
      _ ≤ (6 * (b - 1)) / 2 ^ 60 / 6 := by gcongr; linarith
      _ = (b - 1) / 2 ^ 60 := by ring
  have hsplit : ((q * acc : ℤ) : ℝ) / ((d * 2 ^ 60 : ℤ) : ℝ) =
      2 ^ 60 * ((q / 2 ^ 60 * (acc / 2 ^ 60) - t * p) / d + t * p / d) := by
    push_cast; field_simp; ring
  rw [hsplit] at hround
  unfold Near
  push_cast
  rw [abs_le] at *
  constructor <;> linarith [hround.1, hround.2, hquot.1, hquot.2]

/-- The partial sums of the series lie between 0 and 1. -/
theorem series_step_mem {t p : ℝ} {d : ℤ} (ht0 : 0 ≤ t) (ht : t ≤ 3) (hp0 : 0 ≤ p) (hp : p ≤ 1) (hd : 6 ≤ d) :
    0 ≤ 1 - t * p / d ∧ 1 - t * p / d ≤ 1 := by
  have hd6 : (6 : ℝ) ≤ d := by exact_mod_cast hd
  have hd0 : (0 : ℝ) < d := by positivity
  have hle : t * p / d ≤ 1 := (div_le_one hd0).mpr (by nlinarith)
  exact ⟨by linarith, by linarith [show 0 ≤ t * p / d by positivity]⟩

/-- The whole series, from a partial sum on. -/
theorem Near.series {q : ℤ} {t b c : ℝ} (hq : Near q t c) (ht0 : 0 ≤ t) (ht : t ≤ 3) (hc : c ≤ 2 ^ 60) (hb : 3 * c + 6 ≤ 2 * b) :
    ∀ (ds : List ℤ) (acc : ℤ) (p : ℝ), (∀ d ∈ ds, 6 ≤ d) → 0 ≤ p → p ≤ 1 → Near acc p b →
      Near (ds.foldl (fun acc d => 2 ^ 60 - q * acc / (d * 2 ^ 60)) acc) (ds.foldl (fun p (d : ℤ) => 1 - t * p / d) p) b ∧
      0 ≤ ds.foldl (fun p (d : ℤ) => 1 - t * p / d) p ∧ ds.foldl (fun p (d : ℤ) => 1 - t * p / d) p ≤ 1
  | [], _, _, _, h0, h1, hacc => ⟨hacc, h0, h1⟩
  | d :: ds, acc, p, hds, h0, h1, hacc => by
    have hd : 6 ≤ d := hds d List.mem_cons_self
    obtain ⟨h0', h1'⟩ := series_step_mem ht0 ht h0 h1 hd
    exact Near.series hq ht0 ht hc hb ds _ _ (fun e he => hds e (List.mem_cons_of_mem _ he)) h0' h1'
      (hacc.term hq (by rw [abs_of_nonneg h0]; linarith) (by rwa [abs_of_nonneg ht0]) hd hc hb)

/-- The angle in radians, π being known within 2^−60. -/
theorem angle60_near {z : ℤ} (h0 : 0 ≤ z) (h1 : z ≤ 2 ^ 30) : Near (z * pi60 / 2 ^ 31) (Real.pi * z / 2 ^ 31) 2 := by
  have hz0 : (0 : ℝ) ≤ z := by exact_mod_cast h0
  have hz1 : (z : ℝ) ≤ 2 ^ 30 := by exact_mod_cast h1
  have hround := ediv_near (z * pi60) (b := 2 ^ 31) (by norm_num)
  have hpi : |(pi60 : ℝ) - 2 ^ 60 * Real.pi| ≤ 1 := by
    rw [abs_le, pi60]
    constructor <;> norm_num <;> linarith [Real.pi_gt_d20, Real.pi_lt_d20]
  have hscaled : |(z : ℝ) * pi60 / 2 ^ 31 - 2 ^ 60 * (Real.pi * z / 2 ^ 31)| ≤ 1 := by
    calc _ = |(z : ℝ) / 2 ^ 31 * ((pi60 : ℝ) - 2 ^ 60 * Real.pi)| := by ring_nf
      _ = (z : ℝ) / 2 ^ 31 * |(pi60 : ℝ) - 2 ^ 60 * Real.pi| := by rw [abs_mul, abs_of_nonneg (by positivity)]
      _ ≤ 1 * 1 := by
        gcongr
        rw [div_le_one (by positivity)]
        linarith
      _ = 1 := by norm_num
  push_cast at hround
  unfold Near
  rw [abs_le] at *
  constructor <;> linarith [hround.1, hround.2, hscaled.1, hscaled.2]

/-- The sine of an angle of at most a quarter turn, in units of 2^−60. -/
theorem sine60_near {z : ℤ} (h0 : 0 ≤ z) (h1 : z ≤ 2 ^ 30) :
    |(sine60 z : ℝ) / 2 ^ 60 - Real.sin (Real.pi * z / 2 ^ 31)| ≤ 2 / 10 ^ 10 := by
  set x : ℝ := Real.pi * z / 2 ^ 31 with hx
  have hz0 : (0 : ℝ) ≤ z := by exact_mod_cast h0
  have hz1 : (z : ℝ) ≤ 2 ^ 30 := by exact_mod_cast h1
  have hx0 : 0 ≤ x := by positivity
  have hx1 : x ≤ 8 / 5 := by
    rw [hx, div_le_iff₀ (by positivity)]
    nlinarith [Real.pi_lt_d2, Real.pi_pos]
  have hangle := angle60_near h0 h1
  have hsquare := hangle.mul hangle (by rw [abs_of_nonneg hx0]; linarith) (by rw [abs_of_nonneg hx0]; linarith) (by norm_num)
  rw [← pow_two x] at hsquare
  obtain ⟨hseries, hs0, hs1⟩ := hsquare.series (b := 27) (by positivity) (by nlinarith) (by norm_num) (by norm_num)
    [210, 156, 110, 72, 42, 20, 6] (2 ^ 60) 1 (by decide) (by norm_num) le_rfl (by norm_num [Near])
  have hsine := hangle.mul hseries (by rw [abs_of_nonneg hx0]; linarith) (by rw [abs_of_nonneg hs0]; linarith) (by norm_num)
  have htaylor := sin_series_near hx0 hx1
  change Near (sine60 z) (x * sineFactor (x ^ 2)) _ at hsine
  unfold Near at hsine
  rw [abs_le] at *
  constructor <;> linarith [hsine.1, hsine.2, htaylor.1, htaylor.2]

/-! ### The word of a sine (R127) -/

/-- A sine in units of 2^−60, rounded to units of 2^−31. -/
theorem roundSine_near {m : ℤ} {y : ℝ} (h : |(m : ℝ) / 2 ^ 60 - y| ≤ 2 / 10 ^ 10) :
    |(((m + 2 ^ 28) / 2 ^ 29 : ℤ) : ℝ) - 2 ^ 31 * y| ≤ 1 := by
  have hlow : (m + 2 ^ 28) / 2 ^ 29 * 2 ^ 29 ≤ m + 2 ^ 28 := Int.ediv_mul_le _ (by norm_num)
  have hhigh : m + 2 ^ 28 < ((m + 2 ^ 28) / 2 ^ 29 + 1) * 2 ^ 29 := Int.lt_ediv_add_one_mul_self _ (by norm_num)
  have hlow' : (((m + 2 ^ 28) / 2 ^ 29 : ℤ) : ℝ) * 2 ^ 29 ≤ m + 2 ^ 28 := by exact_mod_cast hlow
  have hhigh' : (m : ℝ) + 2 ^ 28 < ((((m + 2 ^ 28) / 2 ^ 29 : ℤ) : ℝ) + 1) * 2 ^ 29 := by exact_mod_cast hhigh
  rw [abs_le] at *
  constructor <;> linarith [h.1, h.2]

/-- The radians of an unsigned Q0.32 angle in turns. -/
noncomputable def radians (v : ℕ) : ℝ := 2 * Real.pi * v / 2 ^ 32

/-- The angle from the nearest half turn of an angle in quadrant `q`, `r` beyond the quadrant's beginning. -/
def fromHalfTurn (q r : ℕ) : ℤ := if q % 2 = 0 then r else 2 ^ 30 - r

theorem fromHalfTurn_mem (q : ℕ) {r : ℕ} (hr : r < 2 ^ 30) : 0 ≤ fromHalfTurn q r ∧ fromHalfTurn q r ≤ 2 ^ 30 := by
  unfold fromHalfTurn
  split <;> omega

/-- Quadrant by quadrant, the sine is that of the angle from the nearest half turn, with the sign of the half turn. -/
theorem sin_radians {q : ℕ} (hq : q < 4) (r : ℕ) :
    Real.sin (radians (q * 2 ^ 30 + r)) = (if q / 2 = 0 then 1 else -1) * Real.sin (Real.pi * fromHalfTurn q r / 2 ^ 31) := by
  interval_cases q
  · rw [show radians (0 * 2 ^ 30 + r) = Real.pi * fromHalfTurn 0 r / 2 ^ 31 by simp [radians, fromHalfTurn]; ring]
    simp
  · rw [show radians (1 * 2 ^ 30 + r) = Real.pi - Real.pi * fromHalfTurn 1 r / 2 ^ 31 by simp [radians, fromHalfTurn]; ring,
      Real.sin_pi_sub]
    simp
  · rw [show radians (2 * 2 ^ 30 + r) = Real.pi * fromHalfTurn 2 r / 2 ^ 31 + Real.pi by simp [radians, fromHalfTurn]; ring,
      Real.sin_add_pi]
    simp
  · rw [show radians (3 * 2 ^ 30 + r) = 2 * Real.pi - Real.pi * fromHalfTurn 3 r / 2 ^ 31 by simp [radians, fromHalfTurn]; ring,
      Real.sin_two_pi_sub]
    simp

theorem trueSine_eq (angle : BitVec 32) : trueSine angle = (if angle.toNat / 2 ^ 30 / 2 = 0 then 1 else -1) *
    ((sine60 (fromHalfTurn (angle.toNat / 2 ^ 30) (angle.toNat % 2 ^ 30)) + 2 ^ 28) / 2 ^ 29) := by
  have hhalf : angle.toNat / 2 ^ 31 = angle.toNat / 2 ^ 30 / 2 := by omega
  unfold trueSine
  dsimp only
  rw [hhalf, ite_mul, one_mul, neg_one_mul]
  rfl

/-- The series, folded into its quadrant, gives the sine within one unit. -/
theorem trueSine_near (angle : BitVec 32) : |(trueSine angle : ℝ) - 2 ^ 31 * Real.sin (radians angle.toNat)| ≤ 1 := by
  have hq : angle.toNat / 2 ^ 30 < 4 := by have := angle.isLt; omega
  obtain ⟨hz0, hz1⟩ := fromHalfTurn_mem (angle.toNat / 2 ^ 30) (Nat.mod_lt angle.toNat (show 0 < 2 ^ 30 by norm_num))
  have hnear := roundSine_near (sine60_near hz0 hz1)
  have hsin := sin_radians hq (angle.toNat % 2 ^ 30)
  rw [Nat.div_add_mod' angle.toNat (2 ^ 30)] at hsin
  rw [trueSine_eq, hsin]
  split
  · simpa using hnear
  · rw [abs_sub_comm] at hnear
    convert hnear using 2
    push_cast
    ring

/-! ### SINCOS (R127) -/

/-- The free low bits and the ends of the range keep a word within 5 × 10^−6 of a sine that the exact word is within one unit of. -/
theorem sineWord_near {m d : ℤ} {y : ℝ} (hm : |(m : ℝ) - 2 ^ 31 * y| ≤ 1) (hy : |y| ≤ 1) (hd : |d| ≤ 10736) :
    |((max (-(2 ^ 31)) (min (2 ^ 31 - 1) (m + d)) : ℤ) : ℝ) / 2 ^ 31 - y| ≤ 5 / 10 ^ 6 := by
  generalize hc : max (-(2 ^ 31)) (min (2 ^ 31 - 1) (m + d)) = c
  have hbelow : c ≤ m + d ∨ c = -(2 ^ 31) := by omega
  have habove : m + d ≤ c ∨ c = 2 ^ 31 - 1 := by omega
  have hd' : |(d : ℝ)| ≤ 10736 := by exact_mod_cast hd
  rw [abs_le] at *
  have hupper : (c : ℝ) ≤ 2 ^ 31 * y + 10737 := by
    obtain h | h := hbelow
    · have : (c : ℝ) ≤ m + d := by exact_mod_cast h
      linarith [hm.2, hd'.2]
    · rw [h]; push_cast; linarith [hy.1]
  have hlower : 2 ^ 31 * y - 10737 ≤ (c : ℝ) := by
    obtain h | h := habove
    · have : (m : ℝ) + d ≤ c := by exact_mod_cast h
      linarith [hm.1, hd'.1]
    · rw [h]; push_cast; linarith [hy.2]
  constructor <;> linarith

/-- The sine of the chip lies within 5 × 10^−6 of the sine. -/
theorem sineQ31_near (angle : BitVec 32) :
    |((w32 (sineQ31 angle)).toInt : ℝ) / 2 ^ 31 - Real.sin (radians angle.toNat)| ≤ 5 / 10 ^ 6 := by
  have hdev : |clampI (-10736) 10736 (Config.sinDev angle)| ≤ 10736 := by unfold clampI; rw [abs_le]; omega
  rw [show (w32 (sineQ31 angle)).toInt = _ from toInt_clamp 32 _ (by norm_num)]
  exact sineWord_near (trueSine_near angle) (Real.abs_sin_le_one _) hdev

/-- A quarter turn on stands the cosine. -/
theorem sin_radians_quarter (angle : BitVec 32) :
    Real.sin (radians (angle + 0x40000000#32).toNat) = Real.cos (radians angle.toNat) := by
  rw [← Real.sin_add_pi_div_two]
  have hcases : (angle + 0x40000000#32).toNat = angle.toNat + 2 ^ 30 ∨ (angle + 0x40000000#32).toNat + 2 ^ 32 = angle.toNat + 2 ^ 30 := by
    bv_omega
  obtain h | h := hcases
  · refine congrArg Real.sin ?_
    rw [radians, h, radians]; push_cast; ring
  · have h' : ((angle + 0x40000000#32).toNat : ℝ) = angle.toNat + 2 ^ 30 - 2 ^ 32 := eq_sub_of_add_eq (by exact_mod_cast h)
    rw [← Real.sin_add_two_pi]
    refine congrArg Real.sin ?_
    rw [radians, h', radians]; ring

/-- SINCOS writes its two words. -/
theorem sincos_runs {s : State} {n : Fin 16} {e : Engine} (he : s.engines[n.val]? = some e) (dd ds : Fin 32) (pred : Fin 4) :
    MoveRuns (.sincos n dd ds pred) s n e pred
      ((e.commit.put dd (w32 (sineQ31 (e.dr ds)))).put (dd.val + 1) (w32 (cosineQ31 (e.dr ds)))) :=
  movSlot_runs (op := movSincos dd ds pred) he rfl fun _ _ => rfl

end Sys2Proof.Proofs
end

section
/-!
PROOF. O8.
-/
namespace Sys2Proof.Proofs
open Sys2Proof Sys2Proof.Machine Sys2Proof.Laws

/-- Settles O8: the two words are sines of the model, the second a quarter turn on, each within its bound of the sine. -/
theorem sineAndCosineWithinTheirBound : Obligations.SineAndCosineWithinTheirBound := by
  intro s n e dd ds pred he _
  have hcosine := sineQ31_near (e.dr ds + 0x40000000#32)
  rw [sin_radians_quarter] at hcosine
  exact ⟨_, _, sineQ31_near (e.dr ds), hcosine, sincos_runs he dd ds pred⟩

end Sys2Proof.Proofs
end

section
/-!
SUPPORT. The MOVE slot (Table 3.9): the words that its operations write, the loads and stores within the address map of Table 3.2, and the
predicates.
-/
namespace Sys2Proof.Proofs
open Sys2Proof Sys2Proof.Machine Sys2Proof.Laws

/-! ### Operations of format R (R125) -/

theorem hold32_held (z : Int) : Held32 (hold32 z).1 (hold32 z).2 z := ⟨hold32_toInt z, decide_eq_true_iff⟩

/-- A word in its range is the word of its value. -/
theorem w32_toInt {z : Int} (h0 : -(2 ^ 31) ≤ z) (h1 : z ≤ 2 ^ 31 - 1) : (w32 z).toInt = z := by
  have h := hold32_toInt z
  rw [hold32, clampI, min_eq_right h1, max_eq_right h0] at h
  exact h

theorem clampI_mem {lo hi : Int} (h : lo ≤ hi) (x : Int) : lo ≤ clampI lo hi x ∧ clampI lo hi x ≤ hi := by
  unfold clampI
  omega

section
variable {s : State} {n : Fin 16} {e : Engine} (he : s.engines[n.val]? = some e) {i : Instr} {dd ds dt : Fin 32} {pred : Fin 4}
include he

/-- An operation with one operand register writes its result, and sets SF where that limits. -/
theorem mov1_runs {f : BitVec 32 → BitVec 32 × Bool} (hi : exec i s = s.movSlot n (mov1 dd ds pred f)) :
    MoveRuns i s n e pred (e.commit.put dd (f (e.dr ds)).1 (f (e.dr ds)).2) :=
  movSlot_runs (op := mov1 dd ds pred f) he hi fun _ _ => rfl

/-- The same with two operand registers. -/
theorem mov2_runs {f : BitVec 32 → BitVec 32 → BitVec 32 × Bool} (hi : exec i s = s.movSlot n (mov2 dd ds dt pred f)) :
    MoveRuns i s n e pred (e.commit.put dd (f (e.dr ds) (e.dr dt)).1 (f (e.dr ds) (e.dr dt)).2) :=
  movSlot_runs (op := mov2 dd ds dt pred f) he hi fun _ _ => rfl

end

theorem opMin_toInt (x y : BitVec 32) : (opMin x y).1.toInt = min x.toInt y.toInt := by
  rw [opMin, min_def, apply_ite BitVec.toInt]

theorem opMax_toInt (x y : BitVec 32) : (opMax x y).1.toInt = max x.toInt y.toInt := by
  rw [opMax, max_def, apply_ite BitVec.toInt]

theorem opSat_toInt {w : Nat} (hw : w ≤ 30) (x : BitVec 32) : (opSat w x).1.toInt = max (-(2 ^ w)) (min (2 ^ w - 1) x.toInt) := by
  have hpow : (2 : Int) ^ w ≤ 2 ^ 30 := by gcongr; norm_num
  have hpos : (0 : Int) < 2 ^ w := by positivity
  obtain ⟨h0, h1⟩ := clampI_mem (lo := -(2 ^ w)) (hi := 2 ^ w - 1) (by omega) x.toInt
  exact w32_toInt (by omega) (by omega)

/-- The word of CLAMP (Table 3.9, log entry 15). -/
def clampWord (x lo hi : BitVec 32) : BitVec 32 :=
  if hi.toInt < lo.toInt then Config.clampCross x lo hi else w32 (clampI lo.toInt hi.toInt x.toInt)

/-- CLAMP with its limits in order holds the word between them. -/
theorem clampWord_toInt (x : BitVec 32) {lo hi : BitVec 32} (h : lo.toInt ≤ hi.toInt) :
    (clampWord x lo hi).toInt = max lo.toInt (min hi.toInt x.toInt) := by
  obtain ⟨h0, h1⟩ := clampI_mem h x.toInt
  have hlo := lo.le_toInt
  have hhi := hi.toInt_lt
  rw [clampWord, if_neg (by omega)]
  exact w32_toInt (by omega) (by omega)

/-- CLAMP with T even has its limits in D(t) and D(t + 1). -/
theorem clamp_runs {s : State} {n : Fin 16} {e : Engine} (he : s.engines[n.val]? = some e) (dd ds : Fin 32) {t : Fin 32} (pred : Fin 4)
    (ht : t.val % 2 = 0) :
    MoveRuns (.clamp n dd ds t pred) s n e pred (e.commit.put dd (clampWord (e.dr ds) (e.dr t) (e.dr (t.val + 1)))) := by
  have hnext : (t.val + 1) % 32 = t.val + 1 := by omega
  rw [← hnext]
  exact movSlot_runs (op := movClamp dd ds t pred) he rfl fun _ _ => rfl

/-! ### Loads and stores (Table 3.2, R103) -/

/-- A word below the end of the address map is read. -/
theorem load_mapped (e : Engine) (ctx : Nat → BitVec 32) {a : Nat} (h : a < 0x50C0) : ∃ w, e.load ctx a = .ok w := by
  simp only [Engine.load, if_pos h]
  repeat' split
  all_goals exact ⟨_, rfl⟩

theorem load_unmapped (e : Engine) (ctx : Nat → BitVec 32) {a : Nat} (h : 0x50C0 ≤ a) : e.load ctx a = .error a := by
  rw [Engine.load]
  repeat rw [if_neg (by omega)]

/-! ### Comparisons and flags -/

/-- Bits 0 to 3 of the word that XRD gives for the predicates. -/
theorem predsWord_bits (p1 p2 p3 : Bool) : let v := BitVec.ofNat 32 (1 + 2 * b2n p1 + 4 * b2n p2 + 8 * b2n p3)
    v.getLsbD 0 = true ∧ v.getLsbD 1 = p1 ∧ v.getLsbD 2 = p2 ∧ v.getLsbD 3 = p3 ∧ v.toNat < 16 := by
  decide +revert

/-- The word that XRD gives (Table 3.9). -/
def xrdWord (e : Engine) : XrdSrc → BitVec 32
  | .nx => w32 e.nx.toInt
  | .sf => BitVec.ofNat 32 (b2n e.sf)
  | .preds => BitVec.ofNat 32 (1 + 2 * b2n e.p1 + 4 * b2n e.p2 + 8 * b2n e.p3)

theorem xrdWord_nx (e : Engine) : (xrdWord e .nx).toInt = e.nx.toInt := by
  have hlo := e.nx.le_toInt
  have hhi := e.nx.toInt_lt
  exact w32_toInt (by omega) (by omega)

theorem xrdWord_sf (e : Engine) : (xrdWord e .sf).toNat = if e.sf then 1 else 0 := by
  rw [xrdWord]
  cases e.sf <;> rfl

/-- The signed comparison of CMP (Table 3.9). -/
def compared : CmpCond → Int → Int → Bool
  | .less, x, y => decide (x < y)
  | .lessEq, x, y => decide (x ≤ y)
  | .equal, x, y => decide (x = y)
  | .notEqual, x, y => decide (x ≠ y)

section
variable {s : State} {n : Fin 16} {e : Engine} (he : s.engines[n.val]? = some e) (pred : Fin 4)
include he

theorem xrd_runs (dd : Fin 32) (src : XrdSrc) : MoveRuns (.xrd n dd src pred) s n e pred (e.commit.put dd (xrdWord e src)) :=
  movSlot_runs (op := movXrd dd src pred) he rfl fun _ _ => by cases src <;> rfl

/-- A comparison writes its predicate alone. -/
theorem cmp_runs (cond : CmpCond) (p3 : Bool) (ds dt : Fin 32) {r : Bool} (hr : compared cond (e.dr ds).toInt (e.dr dt).toInt = r) :
    MoveRuns (.cmp n cond p3 ds dt pred) s n e pred (if p3 then { e.commit with p3 := some r } else { e.commit with p2 := some r }) :=
  movSlot_runs (op := movCmp cond p3 ds dt pred) he rfl fun _ _ => by subst hr; cases cond <;> rfl

end

end Sys2Proof.Proofs
end

section
/-!
PROOF. O3.
-/
namespace Sys2Proof.Proofs
open Sys2Proof Sys2Proof.Machine Sys2Proof.Laws

/-- Settles O3: each operation writes the result of its function, whose value the lemmas above give. -/
theorem wordOperationsOfTheMoveSlot : Obligations.WordOperationsOfTheMoveSlot := by
  intro s n e dd ds dt cnt imm pred he x y
  refine ⟨⟨_, _, hold32_held _, mov2_runs (f := opAdd) he rfl⟩, ⟨_, _, hold32_held _, mov2_runs (f := opSub) he rfl⟩,
    ⟨_, _, hold32_held _, mov1_runs (f := opShl cnt) he rfl⟩, mov2_runs (f := fun x y => (x + y, false)) he rfl,
    mov2_runs (f := fun x y => (x - y, false)) he rfl, mov2_runs (f := fun x y => (x * y, false)) he rfl,
    ⟨_, opMin_toInt x y, mov2_runs (f := opMin) he rfl⟩, ⟨_, opMax_toInt x y, mov2_runs (f := opMax) he rfl⟩,
    ⟨_, ?asr, mov1_runs (f := fun x => (x.sshiftRight cnt.val, false)) he rfl⟩,
    fun hcnt => ⟨_, _, opSat_toInt hcnt x, decide_eq_true_iff, mov1_runs (f := opSat cnt) he rfl⟩,
    fun heven => ⟨_, clampWord_toInt x, clamp_runs he dd ds pred heven⟩,
    mov1_runs (f := fun x => (x, false)) he rfl, ⟨_, ?ldi, movSlot_runs (op := movLdi dd imm) he rfl fun _ _ => rfl⟩,
    movSlot_runs (op := {}) he rfl fun _ _ => rfl⟩
  case asr => rw [BitVec.toInt_sshiftRight, Int.shiftRight_eq_div_pow]; norm_cast
  case ldi =>
    have hlo := imm.le_toInt
    have hhi := imm.toInt_lt
    exact w32_toInt (by omega) (by omega)

end Sys2Proof.Proofs
end

section
/-!
PROOF. O4.
-/
namespace Sys2Proof.Proofs
open Sys2Proof Sys2Proof.Machine Sys2Proof.Laws

/-- Settles O4: the operation reads or stores at the address of its access; its post-modify is that of the access. -/
theorem loadsAndStoresOfTheMoveSlot : Obligations.LoadsAndStoresOfTheMoveSlot := by
  intro s n e dd aj pm off pred he
  refine ⟨fun w hw => movSlot_runs (op := movLd dd aj pm off pred) he rfl fun _ b => ?load,
    fun hallowed => movSlot_runs (op := movSt dd aj pm off pred) he rfl fun _ b => ?store, load_mapped e _,
    fun ha hp => movSlot_faults (op := movLd dd aj pm off pred) he rfl hp fun b => ?noLoad,
    fun ha hp => movSlot_faults (op := movSt dd aj pm off pred) he rfl hp fun b => ?noStore⟩
  case load => simp only [movLd, joined_load, joined_addr, hw, joined_commit]; rfl
  case store => simp [movSt, accessed, hallowed]
  case noLoad => simp only [movLd, joined_load, joined_addr, load_unmapped e _ ha]; rfl
  case noStore => simp [movSt, ha]

end Sys2Proof.Proofs
end

section
/-!
PROOF. O6.
-/
namespace Sys2Proof.Proofs
open Sys2Proof Sys2Proof.Machine Sys2Proof.Laws

/-- Settles O6: a comparison writes the predicate it names, XRD the word of its source; SFCLR and SINCOS write whatever stood there. -/
theorem predicatesFlagsAndAngles : Obligations.PredicatesFlagsAndAngles := by
  intro s n e dd ds dt p3 pred he x y sets
  exact ⟨cmp_runs he pred .less p3 ds dt rfl, cmp_runs he pred .lessEq p3 ds dt rfl, cmp_runs he pred .equal p3 ds dt rfl,
    cmp_runs he pred .notEqual p3 ds dt rfl, ⟨_, xrdWord_nx e, xrd_runs he pred dd .nx⟩, ⟨_, xrdWord_sf e, xrd_runs he pred dd .sf⟩,
    ⟨_, predsWord_bits e.p1 e.p2 e.p3, xrd_runs he pred dd .preds⟩, movSlot_runs (op := movSfclr) he rfl fun _ _ => rfl,
    fun _ => ⟨_, _, sincos_runs he dd ds pred⟩⟩

end Sys2Proof.Proofs
end

section
/-!
PROOF. O10.
-/
namespace Sys2Proof.Proofs
open Sys2Proof Sys2Proof.Machine Sys2Proof.Laws

/-- A reserved opcode of the MAC slot (Table 3.8). -/
theorem decodeMac_reserved {w : Nat} (h : 0x0D ≤ bits w 63 59) : decodeMac w = none := by
  unfold decodeMac
  dsimp only
  split
  case h_14 => rfl
  all_goals omega

/-- A reserved opcode of the MOVE slot (Table 3.9). -/
theorem decodeMove_reserved {w : Nat} (h : 0x17 ≤ bits w 39 35) : decodeMove w = none := by
  unfold decodeMove
  dsimp only
  split
  case h_24 => rfl
  all_goals omega

/-- A reserved opcode of the ADDRESS slot (Table 3.10). -/
theorem decodeAddr_reserved {w : Nat} (h : 8 ≤ bits w 17 14 ∧ bits w 17 14 ≤ 14) : decodeAddr w = none := by
  unfold decodeAddr
  dsimp only
  split
  case h_10 => rfl
  all_goals omega

/-- A bundle is none where one of its slots is. -/
theorem decodeBundle_none {w : Nat} (h : decodeMac w = none ∨ decodeMove w = none ∨ decodeAddr w = none) : decodeBundle w = none := by
  unfold decodeBundle
  split
  next hm hv ha => simp [hm, hv, ha] at h
  next => rfl

/-- Where no register clashes, no register is written by both slots. -/
theorem writesClash_eq_false {a b : SlotInfo} (h : writesClash a b = false) (r : Res) : ¬(r ∈ a.writes ∧ r ∈ b.writes) := by
  rintro ⟨ha, hb⟩
  simp only [writesClash, List.any_eq_false] at h
  exact h r ha (List.contains_iff_mem.mpr hb)

/-- The slots of a bundle write no register twice (R119). -/
theorem decodeBundle_clash {w : Nat} {m v : SlotOp} {a : AddrOp} (h : decodeBundle w = some (m, v, a)) :
    writesClash m.info v.info = false ∧ writesClash m.info a.info = false ∧ writesClash v.info a.info = false := by
  unfold decodeBundle at h
  split at h
  case h_2 => cases h
  split at h
  · cases h
  next hclash =>
    cases h
    simpa [and_assoc] using hclash

/-- Settles O10: a reserved opcode leaves its slot none, and the clash of two slots is what a bundle is refused for. -/
theorem reservedBundlesAreRefused : Obligations.ReservedBundlesAreRefused := by
  intro w
  refine ⟨fun h => decodeBundle_none ?_, fun m v a h r => ?_⟩
  · exact h.imp decodeMac_reserved (.imp decodeMove_reserved decodeAddr_reserved)
  · obtain ⟨hmv, hma, hva⟩ := decodeBundle_clash h
    exact ⟨writesClash_eq_false hmv r, writesClash_eq_false hma r, writesClash_eq_false hva r⟩

end Sys2Proof.Proofs
end

section
/-!
SUPPORT. The close of a bundle (R121 to R123): what its writes leave in the registers and the memories, its timing, and where the run goes
on.
-/
namespace Sys2Proof.Proofs
open Sys2Proof Sys2Proof.Machine Sys2Proof.Laws

/-! ### Registers after the writes of a bundle (R121) -/

theorem putReg_getD {w : Nat} {n i : Nat} (hi : i < n) (l : List (BitVec w)) (r : Nat) (v : BitVec w) :
    (putReg n l r v).getD i 0 = if i = r then v else l.getD i 0 := by
  simp [putReg, List.getD_eq_getElem?_getD, hi]

theorem lastWrite_append {w : Nat} (a b : List (Nat × BitVec w)) (r : Nat) (old : BitVec w) :
    lastWrite (a ++ b) r old = lastWrite b r (lastWrite a r old) := by
  rw [lastWrite, List.reverse_append, kvGet_append, Option.getD_or]
  rfl

theorem lastWrite_singleton {w : Nat} (k : Nat) (v : BitVec w) (r : Nat) (old : BitVec w) :
    lastWrite [(k, v)] r old = if r = k then v else old := by
  by_cases h : k = r
  · simp [lastWrite, kvGet, h]
  · simp [lastWrite, kvGet, h, Ne.symm h]

/-- A register file after the writes of a bundle, made in their order. -/
theorem foldl_putReg_getD {w : Nat} {n i : Nat} (hi : i < n) : ∀ (ws : List (Nat × BitVec w)) (l : List (BitVec w)),
    (ws.foldl (fun l p => putReg n l p.1 p.2) l).getD i 0 = lastWrite ws i (l.getD i 0)
  | [], _ => rfl
  | p :: ws, l => by
    rw [List.foldl_cons, foldl_putReg_getD hi ws, putReg_getD hi, ← lastWrite_singleton, ← lastWrite_append]
    rfl

/-- A write under a key kept once is the last write to it as well as one put behind the others. -/
theorem lastWrite_kvSet {w : Nat} (l : List (Nat × BitVec w)) (k : Nat) (v : BitVec w) (r : Nat) (old : BitVec w) :
    lastWrite (kvSet l k v) r old = lastWrite (l ++ [(k, v)]) r old := by
  have hrev : (kvDel l k).reverse = kvDel l.reverse k := by simp only [kvDel, List.filter_reverse]
  rw [kvSet, lastWrite_append, lastWrite_append, lastWrite_singleton, lastWrite_singleton, lastWrite, hrev, kvGet_kvDel]
  split <;> rfl

/-! ### The memories after the writes of a bundle -/

theorem store_eq (e : Engine) (a : Nat) (v : BitVec 32) : e.store a v =
    { e with localMem := (e.store a v).localMem, ctxWrites := (e.store a v).ctxWrites, out := (e.store a v).out } := by
  unfold Engine.store
  split
  · rfl
  · split <;> rfl

theorem joined_store (e : Engine) (b : Bundle) (c : Commit) (a : Nat) (v : BitVec 32) :
    (joined e b c).store a v = joined (e.store a v) b c := by
  unfold Engine.store
  split
  · rfl
  · split <;> rfl

/-- The words that a bundle stores reach the memories alone, whatever its timing and its other writes. -/
theorem foldl_store_joined (b : Bundle) (c : Commit) : ∀ (ws : List (Nat × BitVec 32)) (e : Engine),
    let m := ws.foldl (fun e p => e.store p.1 p.2) e
    ws.foldl (fun e p => e.store p.1 p.2) (joined e b c) =
      joined { e with localMem := m.localMem, ctxWrites := m.ctxWrites, out := m.out } b c
  | [], _ => rfl
  | p :: ws, e => by
    have h := foldl_store_joined b c ws (e.store p.1 p.2)
    dsimp only [List.foldl_cons] at h ⊢
    rw [joined_store, h, store_eq e]

/-! ### The close (R121 to R123) -/

/-- Where the run goes after a bundle (R123): into the loop that it begins, or where those in progress lead. -/
def goesTo (e : Engine) : Option (Nat × Nat) → Nat × List LoopFrame
  | some (count, length) => (e.pc + 1, { first := e.pc + 1, last := e.pc + 1 + length, left := count } :: e.loops)
  | none => nextPc e.loops e.pc

/-- A bundle of timing `b` and writes `c` closes: the memories first, then the registers, the timing and the place of the run. -/
theorem closeBundle_eq (e : Engine) (b : Bundle) (c : Commit) (l : Option (Nat × Nat)) :
    let m := c.mem.foldl (fun e p => e.store p.1 p.2) e
    let start := max e.cyc b.startMin
    let len := b.len + (if b.macRegion.isSome && b.macRegion == b.movRegion then 1 else 0)
    (joined e b c).closeBundle l = ({ e with
      localMem := m.localMem, ctxWrites := m.ctxWrites, out := m.out
      d := c.dregs.foldl (fun l p => putReg 32 l p.1 p.2) e.d, acc := c.accs.foldl (fun l p => putReg 4 l p.1 p.2) e.acc
      a := c.aregs.foldl (fun l p => putReg 8 l p.1 p.2) e.a, m := c.mregs.foldl (fun l p => putReg 8 l p.1 p.2) e.m
      p2 := c.p2.getD e.p2, p3 := c.p3.getD e.p3, nx := c.nx.getD e.nx, sf := c.sf.getD e.sf
      ready := b.marks.foldl (fun t k => t.mark start (start + len) k) e.ready
      cyc := start + len, pc := (goesTo e l).1, loops := (goesTo e l).2, commit := {}, bundle := {} } : Engine) := by
  unfold Engine.closeBundle
  dsimp only [joined_commit]
  rw [foldl_store_joined]
  cases l <;> rfl

/-- A bundle whose writes are those so far, but for the address and modify registers, closes. -/
theorem closeBundle_closed {e : Engine} (b : Bundle) {c : Commit} (hc : c = { e.commit with aregs := c.aregs, mregs := c.mregs })
    (l : Option (Nat × Nat)) : Closed e ((joined e b c).closeBundle l) c.aregs c.mregs := by
  rw [closeBundle_eq, hc]
  exact ⟨fun r hr => foldl_putReg_getD hr _ _, fun r hr => foldl_putReg_getD hr _ _, fun r hr => foldl_putReg_getD hr _ _,
    fun r hr => foldl_putReg_getD hr _ _, rfl, rfl, rfl, rfl, rfl, rfl, rfl, rfl, rfl, rfl, rfl, rfl, rfl⟩

/-! ### The ADDRESS slot (Table 3.10) -/

/-- The loop that an operation begins. -/
def loopOf : AddrOp → Option (Nat × Nat)
  | .loop c l => some (c, l)
  | _ => none

/-- The timing of the bundle that an operation closes, its own operands awaited. -/
def closing (e : Engine) (op : AddrOp) : Bundle :=
  { e.bundle with startMin := (op.info.reads.map e.ready.at).foldl max e.bundle.startMin, marks := e.bundle.marks ++ op.info.marks }

/-- An ADDRESS-slot operation makes its write and closes the bundle. -/
theorem address_eq (e : Engine) {op : AddrOp} (h : op ≠ .end_) :
    e.address op = (joined e (closing e op) (op.write e)).closeBundle (loopOf op) := by
  cases op with
  | end_ => exact absurd rfl h
  | _ => rfl

/-- END completes the run besides (R107). -/
theorem address_end (e : Engine) :
    e.address .end_ = { (joined e (closing e .end_) (AddrOp.write .end_ e)).closeBundle none with done := true } := rfl

/-- An operation writes an address or a modify register, or none. -/
theorem write_eq (op : AddrOp) (e : Engine) : op.write e = { e.commit with aregs := (op.write e).aregs, mregs := (op.write e).mregs } := by
  cases op <;> rfl

theorem address_closed (e : Engine) (op : AddrOp) : Closed e (e.address op) (op.write e).aregs (op.write e).mregs := by
  by_cases h : op = .end_
  · subst h
    rw [address_end]
    exact closeBundle_closed (closing e .end_) (write_eq .end_ e) none
  · rw [address_eq e h]
    exact closeBundle_closed _ (write_eq op e) _

/-- The issue and the length of the bundle that an operation closes, which waits for `wait` (R122, R123). -/
theorem address_cyc (e : Engine) {op : AddrOp} {wait : Nat}
    (hwait : (op.info.reads.map e.ready.at).foldl max e.bundle.startMin = max e.bundle.startMin wait) : (e.address op).cyc =
      max (max e.cyc e.bundle.startMin) wait + e.bundle.len +
        (if e.bundle.macRegion ≠ none ∧ e.bundle.macRegion = e.bundle.movRegion then 1 else 0) := by
  have haddress : (e.address op).cyc = ((joined e (closing e op) (op.write e)).closeBundle (loopOf op)).cyc := by
    cases op <;> rfl
  rw [haddress, closeBundle_eq, closing, hwait, max_assoc, Nat.add_assoc]
  simp [Option.isSome_iff_ne_none]

/-- The bundle closes and the run goes on. -/
theorem address_goesOn (e : Engine) {op : AddrOp} (h : op ≠ .end_) (hl : loopOf op = none) : goesOn e (e.address op) := by
  rw [address_eq e h, hl, closeBundle_eq]
  exact ⟨rfl, rfl⟩

section
variable {s : State} {n : Fin 16} {e : Engine} (he : s.engines[n.val]? = some e) {i : Instr} {op : AddrOp}
include he

/-- An operation runs, whose writes are the last ones of `ad` and `md` to every register. -/
theorem address_runs (hi : exec i s = s.adrSlot n op) {wait : Nat} {ad md : List (Nat × BitVec 16)} {next : Engine → Prop}
    (hwait : (op.info.reads.map e.ready.at).foldl max e.bundle.startMin = max e.bundle.startMin wait)
    (had : ∀ r old, lastWrite (op.write e).aregs r old = lastWrite ad r old)
    (hmd : ∀ r old, lastWrite (op.write e).mregs r old = lastWrite md r old)
    (hnext : next (e.address op)) : AddressRuns i s n e wait ad md next := by
  obtain ⟨hd, hacc, ha, hm, hrest⟩ := address_closed e op
  exact ⟨e.address op, hi.trans (engineDo_ok he rfl),
    ⟨hd, hacc, fun r hr => (ha r hr).trans (had r _), fun r hr => (hm r hr).trans (hmd r _), hrest⟩, hnext, address_cyc e hwait⟩

end

end Sys2Proof.Proofs
end

section
/-!
PROOF. O7.
-/
namespace Sys2Proof.Proofs
open Sys2Proof Sys2Proof.Machine Sys2Proof.Laws

/-- Settles O7: each operation is the close of a bundle with its own write. -/
theorem addressOperationsCloseTheBundle : Obligations.AddressOperationsCloseTheBundle := by
  intro s n e j op cnt len he ad md
  have hset (i : Instr) (v : BitVec 16) (hi : exec i s = s.adrSlot n (.setA j v)) :
      AddressRuns i s n e 0 (ad ++ [(j.val, v)]) md (goesOn e) :=
    address_runs he hi (Nat.max_zero _).symm (lastWrite_kvSet ad j v) (fun _ _ => rfl) (address_goesOn e nofun rfl)
  refine ⟨address_runs (op := .nop) he rfl (Nat.max_zero _).symm (fun _ _ => rfl) (fun _ _ => rfl) (address_goesOn e nofun rfl),
    ⟨asetlV op, ?asetl, hset _ _ rfl⟩, ⟨asetcV op, ?asetc, hset _ _ rfl⟩, ⟨asetiV op, ?aseti, hset _ _ rfl⟩,
    address_runs (op := .addA j (op11 op)) he rfl rfl (lastWrite_kvSet ad j _) (fun _ _ => rfl) (address_goesOn e nofun rfl),
    address_runs (op := .setM j (op11 op)) he rfl (Nat.max_zero _).symm (fun _ _ => rfl) (lastWrite_kvSet md j _)
      (address_goesOn e nofun rfl),
    address_runs (op := .modA j) he rfl (Nat.max_assoc _ _ _) (lastWrite_kvSet ad j _) (fun _ _ => rfl) (address_goesOn e nofun rfl),
    address_runs (op := .loop cnt len) he rfl (Nat.max_zero _).symm (fun _ _ => rfl) (fun _ _ => rfl) ?loop,
    address_runs (op := .end_) he rfl (Nat.max_zero _).symm (fun _ _ => rfl) (fun _ _ => rfl) rfl⟩
  case asetl => exact (BitVec.toNat_ofNat _ _).trans (Nat.mod_eq_of_lt (by omega))
  case asetc => exact (BitVec.toNat_ofNat _ _).trans (Nat.mod_eq_of_lt (by omega))
  case aseti => exact (BitVec.toNat_ofNat _ _).trans (Nat.mod_eq_of_lt (by omega))
  case loop =>
    rw [address_eq e (op := .loop cnt len) nofun, closeBundle_eq]
    exact ⟨rfl, rfl, rfl⟩

end Sys2Proof.Proofs
end

section
/-!
SUPPORT. The fields of a bundle (Tables 3.6 to 3.10): what stands in each place of a word that was built from the fields of a slot command,
whatever stands in the fields of the other slots: `hi` before them and `rest` behind them.
-/
namespace Sys2Proof.Proofs
open Sys2Proof Sys2Proof.Machine Sys2Proof.Laws

/-- A bit as a number. -/
theorem bit_eq_iff {w n : Nat} {b : Bool} : bit w n = b ↔ w / 2 ^ n % 2 = b.toNat := by
  have h : w / 2 ^ n % 2 < 2 := Nat.mod_lt _ (by decide)
  rw [bit]
  cases b
  · simp
  · simp

section
variable {w hi rest : Nat}

/-- A product with memory (format M of the MAC slot). -/
theorem macMemField_bits {mop acc : Nat} {dx : Fin 32} {aj : Fin 8} {pm : Bool} {sci : Fin 32} {pred : Fin 4}
    (hw : w = encodeMac.memField mop dx aj pm acc sci pred + rest) (hr : rest < 2 ^ 40) (hm : mop < 32) (ha : acc < 4) :
    bits w 63 59 = mop ∧ bits w 58 54 = dx ∧ bits w 53 51 = aj ∧ bit w 50 = pm ∧ bits w 49 48 = acc ∧ bits w 47 43 = sci ∧
      bit w 42 = false ∧ bits w 41 40 = pred := by
  have hpm := pm.toNat_lt
  subst hw
  simp only [encodeMac.memField, bits, bit_eq_iff, Bool.toNat_false]
  omega

/-- A product of registers (format R of the MAC slot). -/
theorem macRegField_bits {mop : Nat} {dx dy : Fin 32} {acc : Fin 4} {sci : Fin 32} {pred : Fin 4}
    (hw : w = encodeMac.regField mop dx dy acc sci pred + rest) (hr : rest < 2 ^ 40) (hm : mop < 32) :
    bits w 63 59 = mop ∧ bits w 58 54 = dx ∧ bits w 53 49 = dy ∧ bits w 48 47 = acc ∧ bits w 46 42 = sci ∧ bits w 41 40 = pred := by
  subst hw
  simp only [encodeMac.regField, bits]
  omega

/-- MOVS. -/
theorem accField_bits {dd : Fin 32} {acc : Fin 4} {mode shift : Nat} {pred : Fin 4}
    (hw : w = hi * 2 ^ 40 + encodeMove.accField dd acc mode shift pred + rest) (hr : rest < 2 ^ 18) (hm : mode < 4) (hs : shift < 64) :
    bits w 39 35 = 1 ∧ bits w 34 30 = dd ∧ bits w 29 28 = acc ∧ bits w 27 26 = mode ∧ bits w 25 20 = shift ∧ bits w 19 18 = pred := by
  subst hw
  simp only [encodeMove.accField, bits]
  omega

/-- The scale register of MOVS stands in the low part of the shift's place (R125). -/
theorem scaleField_bits {dd : Fin 32} {acc : Fin 4} {mode : Nat} {sc : Fin 32} {pred : Fin 4}
    (hw : w = hi * 2 ^ 40 + encodeMove.accField dd acc mode sc pred + rest) (hr : rest < 2 ^ 18) :
    bits w 24 20 = sc ∧ bit w 25 = false := by
  subst hw
  simp only [encodeMove.accField, bits, bit_eq_iff, Bool.toNat_false]
  omega

/-- LD and ST. -/
theorem moveMemField_bits {vop : Nat} {dd : Fin 32} {aj : Fin 8} {pm : Bool} {off : Fin 64} {pred : Fin 4}
    (hw : w = hi * 2 ^ 40 + encodeMove.memField vop dd aj pm off pred + rest) (hr : rest < 2 ^ 18) (hv : vop < 32) :
    bits w 39 35 = vop ∧ bits w 34 30 = dd ∧ bits w 29 27 = aj ∧ bit w 26 = pm ∧ bits w 25 20 = off ∧ bits w 19 18 = pred := by
  have hpm := pm.toNat_lt
  subst hw
  simp only [encodeMove.memField, bits, bit_eq_iff]
  omega

/-- Format R of the MOVE slot. -/
theorem moveField_bits {vop : Nat} {dd ds dt : Fin 32} {pred : Fin 4}
    (hw : w = hi * 2 ^ 40 + encodeMove.field vop dd ds dt pred + rest) (hr : rest < 2 ^ 18) (hv : vop < 32) :
    bits w 39 35 = vop ∧ bits w 34 30 = dd ∧ bits w 29 25 = ds ∧ bits w 24 20 = dt ∧ bits w 19 18 = pred := by
  subst hw
  simp only [encodeMove.field, bits]
  omega

/-- The place of a destination register holds the condition and the predicate of CMP (Table 3.9). -/
theorem cmpField_bits (cond : CmpCond) (p3 : Bool) : let d := encodeMove.condCode cond * 8 + p3.toNat
    d < 32 ∧ cmpCond (bits d 4 3) = cond ∧ bits d 2 1 = 0 ∧ bit d 0 = p3 := by
  cases cond <;> cases p3 <;> decide

/-- LDI. -/
theorem immField_bits {dd : Fin 32} {imm : BitVec 12}
    (hw : w = hi * 2 ^ 40 + (5 * 2 ^ 35 + dd.val * 2 ^ 30 + imm.toNat * 2 ^ 18) + rest) (hr : rest < 2 ^ 18) :
    bits w 39 35 = 5 ∧ bits w 34 30 = dd ∧ bits w 29 18 = imm.toNat := by
  have himm := imm.isLt
  subst hw
  simp only [bits]
  omega

/-- The ADDRESS slot, which ends the word. -/
theorem addressField_bits {aop : Nat} {j : Fin 8} {op : BitVec 11} (hw : w = hi * 2 ^ 18 + encodeAddress.field aop j op) (ha : aop < 16) :
    bits w 17 14 = aop ∧ bits w 13 11 = j ∧ bits w 10 0 = op.toNat := by
  have hop := op.isLt
  subst hw
  simp only [encodeAddress.field, bits]
  omega

/-- LOOP. -/
theorem loopField_bits {cnt : Fin 256} {len : Fin 64} (hw : w = hi * 2 ^ 18 + (7 * 2 ^ 14 + cnt.val * 2 ^ 6 + len.val)) :
    bits w 17 14 = 7 ∧ bits w 13 6 = cnt ∧ bits w 5 0 = len := by
  subst hw
  simp only [bits]
  omega

end

end Sys2Proof.Proofs
end

section
/-!
SUPPORT. The decoders of a bundle's three slots (R114 to R119) on the field of a slot command, among any fields of the other slots.
-/
namespace Sys2Proof.Proofs
open Sys2Proof Sys2Proof.Machine Sys2Proof.Laws

/-! ### The MAC slot (Table 3.8) -/

section
variable {w rest : Nat} (hr : rest < 2 ^ 40)

theorem decodeMac_mnop (h : bits w 63 59 = 0) : decodeMac w = some {} := by
  simp [decodeMac, h]

theorem decodeMac_clr4 (h : bits w 63 59 = 12) : decodeMac w = some macClear := by
  simp [decodeMac, h]

/-- The opcode of a product by what it does with it, in each group of Table 3.8. -/
def macCode : MacKind → Nat
  | .set => 0
  | .add => 1
  | .sub => 2

include hr

theorem decodeMac_four (k : MacKind) {dx : Fin 32} {aj : Fin 8} {pm : Bool} {sci : Fin 32} {pred : Fin 4}
    (hw : w = encodeMac.memField (1 + macCode k) dx aj pm 0 sci pred + rest) : decodeMac w = some (macMem k 4 dx aj pm 0 sci pred) := by
  have hm : 1 + macCode k < 32 := by cases k <;> decide
  obtain ⟨hop, hdx, haj, hpm, hacc, hsci, hzero, hpred⟩ := macMemField_bits hw hr hm (by decide)
  cases k <;> simp [decodeMac, hop, hdx, haj, hpm, hacc, hsci, hzero, hpred, macCode]

theorem decodeMac_one (k : MacKind) {dx : Fin 32} {aj : Fin 8} {pm : Bool} {acc : Fin 4} {sci : Fin 32} {pred : Fin 4}
    (hw : w = encodeMac.memField (4 + macCode k) dx aj pm acc sci pred + rest) :
    decodeMac w = some (macMem k 1 dx aj pm acc sci pred) := by
  have hm : 4 + macCode k < 32 := by cases k <;> decide
  obtain ⟨hop, hdx, haj, hpm, hacc, hsci, hzero, hpred⟩ := macMemField_bits hw hr hm acc.isLt
  cases k <;> simp [decodeMac, hop, hdx, haj, hpm, hacc, hsci, hzero, hpred, macCode]

theorem decodeMac_reg (k : MacKind) {dx dy : Fin 32} {acc : Fin 4} {sci : Fin 32} {pred : Fin 4}
    (hw : w = encodeMac.regField (7 + macCode k) dx dy acc sci pred + rest) : decodeMac w = some (macReg k dx dy acc sci pred) := by
  have hm : 7 + macCode k < 32 := by cases k <;> decide
  obtain ⟨hop, hdx, hdy, hacc, hsci, hpred⟩ := macRegField_bits hw hr hm
  cases k <;> simp [decodeMac, hop, hdx, hdy, hacc, hsci, hpred, macCode]

theorem decodeMac_accl {dx : Fin 32} {acc : Fin 4} {sci : Fin 32} {pred : Fin 4}
    (hw : w = encodeMac.regField 10 dx 0 acc sci pred + rest) : decodeMac w = some (macLoad .set dx acc sci pred) := by
  obtain ⟨hop, hdx, hdy, hacc, hsci, hpred⟩ := macRegField_bits hw hr (by decide)
  simp [decodeMac, hop, hdx, hdy, hacc, hsci, hpred]

theorem decodeMac_acca {dx : Fin 32} {acc : Fin 4} {sci : Fin 32} {pred : Fin 4}
    (hw : w = encodeMac.regField 11 dx 0 acc sci pred + rest) : decodeMac w = some (macLoad .add dx acc sci pred) := by
  obtain ⟨hop, hdx, hdy, hacc, hsci, hpred⟩ := macRegField_bits hw hr (by decide)
  simp [decodeMac, hop, hdx, hdy, hacc, hsci, hpred]

/-- The MAC slot of a bundle decodes to the operation of its command. -/
theorem decodeMac_encodeMac {i : Instr} {n : Fin 16} {wm : Nat} (h : encodeMac i = some (n, wm)) :
    ∃ op, decodeMac (wm + rest) = some op ∧ ∀ s, exec i s = s.macSlot n op := by
  unfold encodeMac at h
  split at h <;> cases h
  case h_1 => exact ⟨{}, decodeMac_mnop (by simp only [bits]; omega), fun _ => rfl⟩
  case h_2 => exact ⟨_, decodeMac_four hr .set rfl, fun _ => rfl⟩
  case h_3 => exact ⟨_, decodeMac_four hr .add rfl, fun _ => rfl⟩
  case h_4 => exact ⟨_, decodeMac_four hr .sub rfl, fun _ => rfl⟩
  case h_5 => exact ⟨_, decodeMac_one hr .set rfl, fun _ => rfl⟩
  case h_6 => exact ⟨_, decodeMac_one hr .add rfl, fun _ => rfl⟩
  case h_7 => exact ⟨_, decodeMac_one hr .sub rfl, fun _ => rfl⟩
  case h_8 => exact ⟨_, decodeMac_reg hr .set rfl, fun _ => rfl⟩
  case h_9 => exact ⟨_, decodeMac_reg hr .add rfl, fun _ => rfl⟩
  case h_10 => exact ⟨_, decodeMac_reg hr .sub rfl, fun _ => rfl⟩
  case h_11 => exact ⟨_, decodeMac_accl hr rfl, fun _ => rfl⟩
  case h_12 => exact ⟨_, decodeMac_acca hr rfl, fun _ => rfl⟩
  case h_13 => exact ⟨_, decodeMac_clr4 (by simp only [bits]; omega), fun _ => rfl⟩

end

/-! ### The MOVE slot (Table 3.9) -/

section
variable {w hi rest : Nat}

theorem decodeMove_vnop (h : bits w 39 35 = 0) : decodeMove w = some {} := by
  simp [decodeMove, h]

theorem decodeMove_sfclr (h : bits w 39 35 = 22) : decodeMove w = some movSfclr := by
  simp [decodeMove, h]

section
variable (hr : rest < 2 ^ 18)
include hr

theorem decodeMove_shift {dd : Fin 32} {acc : Fin 4} {sh : Int} (h : -32 ≤ sh ∧ sh ≤ 31) {pred : Fin 4}
    (hw : w = hi * 2 ^ 40 + encodeMove.accField dd acc 0 (sh % 64).toNat pred + rest) :
    decodeMove w = some (movMovs dd acc (.shift sh) pred) := by
  have hsigned : toSigned 6 (sh % 64).toNat = sh := by simp only [toSigned]; omega
  obtain ⟨hop, hdd, hacc, hmode, hshift, hpred⟩ := accField_bits hw hr (by decide) (by omega)
  simp [decodeMove, hop, hdd, hacc, hmode, hshift, hpred, hsigned]

theorem decodeMove_scale {dd : Fin 32} {acc : Fin 4} {sc : Fin 32} {pred : Fin 4}
    (hw : w = hi * 2 ^ 40 + encodeMove.accField dd acc 1 sc pred + rest) : decodeMove w = some (movMovs dd acc (.scale sc) pred) := by
  obtain ⟨hop, hdd, hacc, hmode, -, hpred⟩ := accField_bits hw hr (by decide) (by omega)
  obtain ⟨hscale, hzero⟩ := scaleField_bits hw hr
  simp [decodeMove, hop, hdd, hacc, hmode, hzero, hscale, hpred, Nat.mod_eq_of_lt sc.isLt]

theorem decodeMove_normalise {dd : Fin 32} {acc : Fin 4} {pred : Fin 4}
    (hw : w = hi * 2 ^ 40 + encodeMove.accField dd acc 2 0 pred + rest) : decodeMove w = some (movMovs dd acc .normalise pred) := by
  obtain ⟨hop, hdd, hacc, hmode, hshift, hpred⟩ := accField_bits hw hr (by decide) (by decide)
  simp [decodeMove, hop, hdd, hacc, hmode, hshift, hpred]

theorem decodeMove_ld {dd : Fin 32} {aj : Fin 8} {pm : Bool} {off : Fin 64} {pred : Fin 4}
    (hw : w = hi * 2 ^ 40 + encodeMove.memField 2 dd aj pm off pred + rest) : decodeMove w = some (movLd dd aj pm off pred) := by
  obtain ⟨hop, hdd, haj, hpm, hoff, hpred⟩ := moveMemField_bits hw hr (by decide)
  simp [decodeMove, hop, hdd, haj, hpm, hoff, hpred]

theorem decodeMove_st {dd : Fin 32} {aj : Fin 8} {pm : Bool} {off : Fin 64} {pred : Fin 4}
    (hw : w = hi * 2 ^ 40 + encodeMove.memField 3 dd aj pm off pred + rest) : decodeMove w = some (movSt dd aj pm off pred) := by
  obtain ⟨hop, hdd, haj, hpm, hoff, hpred⟩ := moveMemField_bits hw hr (by decide)
  simp [decodeMove, hop, hdd, haj, hpm, hoff, hpred]

theorem decodeMove_ldi {dd : Fin 32} {imm : BitVec 12}
    (hw : w = hi * 2 ^ 40 + (5 * 2 ^ 35 + dd.val * 2 ^ 30 + imm.toNat * 2 ^ 18) + rest) : decodeMove w = some (movLdi dd imm) := by
  obtain ⟨hop, hdd, himm⟩ := immField_bits hw hr
  simp [decodeMove, hop, hdd, himm]

/-- The operations of format R with two operand registers (Table 3.9). -/
def twoOperands : Nat → Option (BitVec 32 → BitVec 32 → BitVec 32 × Bool)
  | 6 => some opAdd
  | 7 => some opSub
  | 8 => some fun x y => (x + y, false)
  | 9 => some fun x y => (x - y, false)
  | 10 => some opMin
  | 11 => some opMax
  | 17 => some fun x y => (x * y, false)
  | _ => none

theorem decodeMove_two {vop : Nat} {f : BitVec 32 → BitVec 32 → BitVec 32 × Bool} (hf : twoOperands vop = some f)
    {dd ds dt : Fin 32} {pred : Fin 4} (hw : w = hi * 2 ^ 40 + encodeMove.field vop dd ds dt pred + rest) :
    decodeMove w = some (mov2 dd ds dt pred f) := by
  unfold twoOperands at hf
  split at hf <;> cases hf
  all_goals
    obtain ⟨hop, hdd, hds, hdt, hpred⟩ := moveField_bits hw hr (by decide)
    simp [decodeMove, hop, hdd, hds, hdt, hpred]

/-- The operations of format R with one operand register and a count that any value of its place is (Table 3.9). -/
def oneOperand (count : Nat) : Nat → Option (BitVec 32 → BitVec 32 × Bool)
  | 4 => some fun x => (x, false)
  | 18 => some fun x => (x.sshiftRight count, false)
  | 19 => some (opShl count)
  | _ => none

theorem decodeMove_one {vop : Nat} {dd ds dt : Fin 32} {f : BitVec 32 → BitVec 32 × Bool} (hf : oneOperand dt vop = some f)
    {pred : Fin 4} (hw : w = hi * 2 ^ 40 + encodeMove.field vop dd ds dt pred + rest) :
    decodeMove w = some (mov1 dd ds pred f) := by
  unfold oneOperand at hf
  split at hf <;> cases hf
  all_goals
    obtain ⟨hop, hdd, hds, hdt, hpred⟩ := moveField_bits hw hr (by decide)
    simp [decodeMove, hop, hdd, hds, hdt, hpred]

section
variable {dd ds dt : Fin 32} {pred : Fin 4}

theorem decodeMove_sat (hcount : dt.val ≤ 30) (hw : w = hi * 2 ^ 40 + encodeMove.field 12 dd ds dt pred + rest) :
    decodeMove w = some (mov1 dd ds pred (opSat dt)) := by
  obtain ⟨hop, hdd, hds, hdt, hpred⟩ := moveField_bits hw hr (by decide)
  simp [decodeMove, hop, hdd, hds, hdt, hpred, hcount]

theorem decodeMove_clamp (heven : dt.val % 2 = 0) (hw : w = hi * 2 ^ 40 + encodeMove.field 13 dd ds dt pred + rest) :
    decodeMove w = some (movClamp dd ds dt pred) := by
  obtain ⟨hop, hdd, hds, hdt, hpred⟩ := moveField_bits hw hr (by decide)
  simp [decodeMove, hop, hdd, hds, hdt, hpred, heven]

theorem decodeMove_sincos (heven : dd.val % 2 = 0) (hw : w = hi * 2 ^ 40 + encodeMove.field 14 dd ds dt pred + rest) :
    decodeMove w = some (movSincos dd ds pred) := by
  obtain ⟨hop, hdd, hds, -, hpred⟩ := moveField_bits hw hr (by decide)
  simp [decodeMove, hop, hdd, hds, hpred, heven]

theorem decodeMove_rcp (hw : w = hi * 2 ^ 40 + encodeMove.field 15 dd ds dt pred + rest) : decodeMove w = some (movRcp dd ds pred) := by
  obtain ⟨hop, hdd, hds, -, hpred⟩ := moveField_bits hw hr (by decide)
  simp [decodeMove, hop, hdd, hds, hpred]

theorem decodeMove_rsq (hw : w = hi * 2 ^ 40 + encodeMove.field 16 dd ds dt pred + rest) : decodeMove w = some (movRsq dd ds pred) := by
  obtain ⟨hop, hdd, hds, -, hpred⟩ := moveField_bits hw hr (by decide)
  simp [decodeMove, hop, hdd, hds, hpred]

theorem decodeMove_xrd (src : XrdSrc) (hw : w = hi * 2 ^ 40 + encodeMove.field 21 dd (encodeMove.srcCode src) dt pred + rest) :
    decodeMove w = some (movXrd dd src pred) := by
  obtain ⟨hop, hdd, hds, -, hpred⟩ := moveField_bits hw hr (by decide)
  cases src <;> simp [decodeMove, hop, hdd, hds, hpred, encodeMove.srcCode]

theorem decodeMove_cmp (cond : CmpCond) (p3 : Bool)
    (hw : w = hi * 2 ^ 40 + (20 * 2 ^ 35 + (encodeMove.condCode cond * 8 + p3.toNat) * 2 ^ 30 + ds.val * 2 ^ 25 + dt.val * 2 ^ 20 +
      pred.val * 2 ^ 18) + rest) : decodeMove w = some (movCmp cond p3 ds dt pred) := by
  obtain ⟨hd, hcond, hzero, hp3⟩ := cmpField_bits cond p3
  obtain ⟨hop, hdd, hds, hdt, hpred⟩ := moveField_bits (dd := ⟨_, hd⟩) hw hr (by decide)
  simp [decodeMove, hop, hdd, hds, hdt, hpred, hcond, hzero, hp3]

end

/-- The MOVE slot of a bundle decodes to the operation of its command. -/
theorem decodeMove_encodeMove {i : Instr} {n : Fin 16} {wv : Nat} (h : encodeMove i = some (n, wv)) :
    ∃ op, decodeMove (hi * 2 ^ 40 + wv + rest) = some op ∧ ∀ s, exec i s = s.movSlot n op := by
  unfold encodeMove at h
  split at h
  case h_1 => cases h; exact ⟨{}, decodeMove_vnop (by simp only [bits]; omega), fun _ => rfl⟩
  case h_2 =>
    split at h <;> cases h
    next hsh => exact ⟨_, decodeMove_shift hr hsh rfl, fun _ => rfl⟩
  case h_3 => cases h; exact ⟨_, decodeMove_scale hr rfl, fun _ => rfl⟩
  case h_4 => cases h; exact ⟨_, decodeMove_normalise hr rfl, fun _ => rfl⟩
  case h_5 => cases h; exact ⟨_, decodeMove_ld hr rfl, fun _ => rfl⟩
  case h_6 => cases h; exact ⟨_, decodeMove_st hr rfl, fun _ => rfl⟩
  case h_7 | h_21 | h_22 => cases h; exact ⟨_, decodeMove_one hr rfl rfl, fun _ => rfl⟩
  case h_8 => cases h; exact ⟨_, decodeMove_ldi hr rfl, fun _ => rfl⟩
  case h_9 | h_10 | h_11 | h_12 | h_13 | h_14 | h_20 => cases h; exact ⟨_, decodeMove_two hr rfl rfl, fun _ => rfl⟩
  case h_15 =>
    split at h <;> cases h
    next hcount => exact ⟨_, decodeMove_sat hr hcount rfl, fun _ => rfl⟩
  case h_16 =>
    split at h <;> cases h
    next heven => exact ⟨_, decodeMove_clamp hr heven rfl, fun _ => rfl⟩
  case h_17 =>
    split at h <;> cases h
    next heven => exact ⟨_, decodeMove_sincos hr heven rfl, fun _ => rfl⟩
  case h_18 => cases h; exact ⟨_, decodeMove_rcp hr rfl, fun _ => rfl⟩
  case h_19 => cases h; exact ⟨_, decodeMove_rsq hr rfl, fun _ => rfl⟩
  case h_23 => cases h; exact ⟨_, decodeMove_cmp hr _ _ rfl, fun _ => rfl⟩
  case h_24 => cases h; exact ⟨_, decodeMove_xrd hr _ rfl, fun _ => rfl⟩
  case h_25 => cases h; exact ⟨_, decodeMove_sfclr (by simp only [bits]; omega), fun _ => rfl⟩
  case h_26 => cases h

end

end

/-! ### The ADDRESS slot (Table 3.10) -/

section
variable {w hi : Nat}

theorem decodeAddr_anop (h : bits w 17 14 = 0) : decodeAddr w = some .nop := by
  simp [decodeAddr, h]

theorem decodeAddr_end (h : bits w 17 14 = 15) : decodeAddr w = some .end_ := by
  simp [decodeAddr, h]

theorem decodeAddr_loop {cnt : Fin 256} {len : Fin 64} (hw : w = hi * 2 ^ 18 + (7 * 2 ^ 14 + cnt.val * 2 ^ 6 + len.val)) :
    decodeAddr w = some (.loop cnt len) := by
  obtain ⟨hop, hcnt, hlen⟩ := loopField_bits hw
  simp [decodeAddr, hop, hcnt, hlen]

/-- The operations on address and modify registers whose operand any value of its place is (Table 3.10). -/
def addressOp (j : Nat) (op : BitVec 11) : Nat → Option AddrOp
  | 1 => some (.setA j (asetlV op))
  | 2 => some (.setA j (asetcV op))
  | 4 => some (.addA j (op11 op))
  | 5 => some (.setM j (op11 op))
  | 6 => some (.modA j)
  | _ => none

theorem decodeAddr_field {aop : Nat} {j : Fin 8} {op : BitVec 11} {o : AddrOp} (ho : addressOp j op aop = some o)
    (hw : w = hi * 2 ^ 18 + encodeAddress.field aop j op) : decodeAddr w = some o := by
  unfold addressOp at ho
  split at ho <;> cases ho
  all_goals
    obtain ⟨hop, hj, hoperand⟩ := addressField_bits hw (by decide)
    simp [decodeAddr, hop, hj, hoperand]

theorem decodeAddr_aseti {j : Fin 8} {op : BitVec 11} (h : op.toNat ≤ 0xBF) (hw : w = hi * 2 ^ 18 + encodeAddress.field 3 j op) :
    decodeAddr w = some (.setA j (asetiV op)) := by
  obtain ⟨hop, hj, hoperand⟩ := addressField_bits hw (by decide)
  simp [decodeAddr, hop, hj, hoperand, h]

/-- The ADDRESS slot of a bundle decodes to the operation of its command. -/
theorem decodeAddr_encodeAddress {i : Instr} {n : Fin 16} {wa : Nat} (h : encodeAddress i = some (n, wa)) :
    ∃ op, decodeAddr (hi * 2 ^ 18 + wa) = some op ∧ ∀ s, exec i s = s.adrSlot n op := by
  unfold encodeAddress at h
  split at h
  case h_1 => cases h; exact ⟨_, decodeAddr_anop (by simp only [bits]; omega), fun _ => rfl⟩
  case h_2 | h_3 | h_5 | h_6 | h_7 => cases h; exact ⟨_, decodeAddr_field rfl rfl, fun _ => rfl⟩
  case h_4 =>
    split at h <;> cases h
    next hop => exact ⟨_, decodeAddr_aseti hop rfl, fun _ => rfl⟩
  case h_8 => cases h; exact ⟨_, decodeAddr_loop rfl, fun _ => rfl⟩
  case h_9 => cases h; exact ⟨_, decodeAddr_end (by simp only [bits]; omega), fun _ => rfl⟩
  case h_10 => cases h

end

/-! ### The three slots together (Table 3.6) -/

theorem encodeMac_place {i : Instr} {n : Fin 16} {w : Nat} (h : encodeMac i = some (n, w)) : w % 2 ^ 40 = 0 := by
  unfold encodeMac at h
  split at h <;> cases h
  case h_1 => rfl
  case h_13 => rfl
  all_goals
    simp only [encodeMac.memField, encodeMac.regField]
    omega

/-- A number stands in the place of the MOVE slot. -/
def InMovePlace (w : Nat) : Prop := w % 2 ^ 18 = 0 ∧ w < 2 ^ 40

theorem accField_place (dd : Fin 32) (acc : Fin 4) {mode shift : Nat} (pred : Fin 4) (hm : mode < 4) (hs : shift < 64) :
    InMovePlace (encodeMove.accField dd acc mode shift pred) := by
  simp only [InMovePlace, encodeMove.accField]
  omega

theorem moveMemField_place {vop : Nat} (hv : vop < 32) (dd : Fin 32) (aj : Fin 8) (pm : Bool) (off : Fin 64) (pred : Fin 4) :
    InMovePlace (encodeMove.memField vop dd aj pm off pred) := by
  have hpm := pm.toNat_lt
  simp only [InMovePlace, encodeMove.memField]
  omega

theorem moveField_place {vop : Nat} (hv : vop < 32) (dd ds dt : Fin 32) (pred : Fin 4) :
    InMovePlace (encodeMove.field vop dd ds dt pred) := by
  simp only [InMovePlace, encodeMove.field]
  omega

theorem immField_place (dd : Fin 32) (imm : BitVec 12) : InMovePlace (5 * 2 ^ 35 + dd.val * 2 ^ 30 + imm.toNat * 2 ^ 18) := by
  have himm := imm.isLt
  simp only [InMovePlace]
  omega

theorem encodeMove_place {i : Instr} {n : Fin 16} {w : Nat} (h : encodeMove i = some (n, w)) : InMovePlace w := by
  unfold encodeMove at h
  split at h
  case h_1 => cases h; exact ⟨rfl, by decide⟩
  case h_2 =>
    split at h <;> cases h
    exact accField_place _ _ _ (by decide) (by omega)
  case h_3 => cases h; exact accField_place _ _ _ (by decide) (by omega)
  case h_4 => cases h; exact accField_place _ _ _ (by decide) (by decide)
  case h_5 => cases h; exact moveMemField_place (by decide) ..
  case h_6 => cases h; exact moveMemField_place (by decide) ..
  case h_8 => cases h; exact immField_place ..
  case h_23 cond p3 _ _ _ => cases h; exact moveField_place (by decide) ⟨_, (cmpField_bits cond p3).1⟩ _ _ _
  case h_25 => cases h; exact ⟨rfl, by decide⟩
  case h_26 => cases h
  case h_15 | h_16 | h_17 =>
    split at h <;> cases h
    exact moveField_place (by decide) ..
  all_goals
    cases h
    exact moveField_place (by decide) ..

theorem encodeAddress_place {i : Instr} {n : Fin 16} {w : Nat} (h : encodeAddress i = some (n, w)) : w < 2 ^ 18 := by
  have hfield {aop : Nat} (ha : aop < 16) (j : Fin 8) (op : BitVec 11) : encodeAddress.field aop j op < 2 ^ 18 := by
    have hop := op.isLt
    simp only [encodeAddress.field]
    omega
  unfold encodeAddress at h
  split at h
  case h_1 => cases h; decide
  case h_4 =>
    split at h <;> cases h
    exact hfield (by decide) ..
  case h_8 => cases h; omega
  case h_9 => cases h; decide
  case h_10 => cases h
  all_goals
    cases h
    exact hfield (by decide) ..

end Sys2Proof.Proofs
end

section
/-!
PROOF. O9.
-/
namespace Sys2Proof.Proofs
open Sys2Proof Sys2Proof.Machine Sys2Proof.Laws

/-- Settles O9: each field lies in its own place of the word, so each decoder finds the field of its own command, the fields before it being a
multiple of its place and those behind it less than one unit of it. -/
theorem bundlesDecodeToTheirSlotCommands : Obligations.BundlesDecodeToTheirSlotCommands := by
  intro im iv ia n wm wv wa hm hv ha
  have hmac := encodeMac_place hm
  obtain ⟨hmod, hmove⟩ := encodeMove_place hv
  have haddr := encodeAddress_place ha
  obtain ⟨om, hom, hexecm⟩ := decodeMac_encodeMac (rest := wv + wa) (by omega) hm
  obtain ⟨ov, hov, hexecv⟩ := decodeMove_encodeMove (hi := wm / 2 ^ 40) haddr hv
  obtain ⟨oa, hoa, hexeca⟩ := decodeAddr_encodeAddress (hi := (wm + wv) / 2 ^ 18) ha
  rw [← Nat.add_assoc] at hom
  rw [Nat.div_mul_cancel (Nat.dvd_of_mod_eq_zero hmac)] at hov
  rw [Nat.div_mul_cancel (by omega)] at hoa
  exact ⟨om, ov, oa, hom, hov, hoa, fun s => ⟨hexecm s, hexecv s, hexeca s⟩⟩

end Sys2Proof.Proofs
end

section
/-!
SUPPORT. Accumulators moved and normalised (R125, R126), reciprocals and square roots within their free low bits (R128, log entry 5).
-/
namespace Sys2Proof.Proofs
open Sys2Proof Sys2Proof.Machine Sys2Proof.Laws

/-! ### Rounding to the nearest integer (R125) -/

theorem pow2_eq_zpow (e : Int) : pow2 e = (2 : Rat) ^ e := by
  unfold pow2
  split
  next h =>
    obtain ⟨n, rfl⟩ := Int.eq_ofNat_of_zero_le h
    simp
  next h =>
    obtain ⟨n, hn⟩ := Int.eq_ofNat_of_zero_le (show 0 ≤ -e by omega)
    rw [hn, ← neg_neg e, hn, zpow_neg]
    simp

theorem roundEven_nearestEven (q : Rat) : NearestEven q (roundEven q) := by
  have hfloor : (q.floor : Rat) ≤ q := Int.floor_le q
  have hlt : q < q.floor + 1 := Int.lt_floor_add_one q
  unfold roundEven NearestEven
  dsimp only
  split
  · exact ⟨by linarith, by linarith, fun h => by obtain h | h := h <;> linarith⟩
  · split
    · push_cast
      exact ⟨by linarith, by linarith, fun h => by obtain h | h := h <;> linarith⟩
    · split
      next heven => exact ⟨by linarith, by linarith, fun _ => heven⟩
      next hodd =>
        push_cast
        exact ⟨by linarith, by linarith, fun _ => by omega⟩

/-- No two integers are nearest with ties to even. -/
theorem nearestEven_unique {x : Rat} {y z : Int} (hy : NearestEven x y) (hz : NearestEven x z) : y = z := by
  obtain ⟨hy0, hy1, hy2⟩ := hy
  obtain ⟨hz0, hz1, hz2⟩ := hz
  have hzy : z ≤ y + 1 := by exact_mod_cast (show (z : Rat) ≤ y + 1 by linarith)
  have hyz : y ≤ z + 1 := by exact_mod_cast (show (y : Rat) ≤ z + 1 by linarith)
  obtain h | h | h : z = y + 1 ∨ y = z + 1 ∨ y = z := by omega
  · have hcast : (z : Rat) = y + 1 := by exact_mod_cast h
    have hzeven := hz2 (.inl (by linarith))
    have hyeven := hy2 (.inr (by linarith))
    omega
  · have hcast : (y : Rat) = z + 1 := by exact_mod_cast h
    have hzeven := hz2 (.inr (by linarith))
    have hyeven := hy2 (.inl (by linarith))
    omega
  · exact h

/-- An accumulator moved is its value at the shift, rounded. -/
theorem moved_nearestEven (acc : BitVec 80) (s : Int) : NearestEven ((acc.toInt : Rat) * (2 : Rat) ^ (s - 31)) (moved acc s) := by
  rw [moved, pow2_eq_zpow]
  exact roundEven_nearestEven _

/-! ### Normalisation (R126) -/

/-- The search ends at the first shift at which the result is in range, or at the last one it looks at. -/
theorem normShift_spec (acc : BitVec 80) : ∀ (fuel : Nat) (s : Int),
    s - fuel ≤ normShift acc fuel s ∧ normShift acc fuel s ≤ s ∧
    (∀ k, normShift acc fuel s < k → k ≤ s → (hold32 (moved acc k)).2 = true) ∧
    (normShift acc fuel s = s - fuel ∨ (hold32 (moved acc (normShift acc fuel s))).2 = false)
  | 0, s => ⟨by simp [normShift], le_refl s, fun k h1 h2 => absurd h1 (by simpa [normShift] using h2), .inl (by simp [normShift])⟩
  | n + 1, s => by
    rw [normShift]
    split
    next hlim =>
      obtain ⟨hlow, hhigh, hall, hend⟩ := normShift_spec acc n (s - 1)
      refine ⟨by omega, by omega, fun k h1 h2 => ?_, hend.imp_left fun h => by omega⟩
      obtain rfl | h := eq_or_lt_of_le h2
      · exact hlim
      · exact hall k h1 (by omega)
    next hlim => exact ⟨by omega, le_refl s, fun k h1 h2 => by omega, .inr (by simpa using hlim)⟩

/-- At the least shift every accumulator rounds to 0. -/
theorem moved_least (acc : BitVec 80) : moved acc (-64) = 0 := by
  refine nearestEven_unique (moved_nearestEven acc (-64)) ?_
  have hlow : -(2 ^ 79) ≤ acc.toInt := acc.le_toInt
  have hhigh : acc.toInt < 2 ^ 79 := acc.toInt_lt
  have hlow' : -(2 ^ 79) ≤ (acc.toInt : Rat) := by exact_mod_cast hlow
  have hhigh' : (acc.toInt : Rat) < 2 ^ 79 := by exact_mod_cast hhigh
  have hpow : (2 : Rat) ^ (-64 - 31 : Int) = 1 / 2 ^ 95 := by norm_num
  rw [hpow]
  refine ⟨?_, ?_, fun _ => rfl⟩ <;> push_cast <;> linarith

/-- The shift that MOVS finds from 63 down is the largest one at which R125 does not limit. -/
theorem normShift_inRange (acc : BitVec 80) : (hold32 (moved acc (normShift acc 127 63))).2 = false := by
  obtain ⟨-, -, -, hend | hend⟩ := normShift_spec acc 127 63
  · rw [hend, show (63 : Int) - (127 : Nat) = -64 from rfl, moved_least]
    rfl
  · exact hend

theorem hold32_eq_of_inRange {z : Int} (h : (hold32 z).2 = false) : (hold32 z).1.toInt = z := by
  have hrange : ¬(z < -(2 ^ 31) ∨ 2 ^ 31 ≤ z) := of_decide_eq_false h
  rw [hold32_toInt]
  omega

section
variable {s : State} {n : Fin 16} {e : Engine} (he : s.engines[n.val]? = some e) (dd : Fin 32) (acc : Fin 4) (pred : Fin 4)
include he

/-- MOVS with a shift of its own (R125). -/
theorem movs_shift_runs (sh : Int) : ∃ z, NearestEven (((e.ac acc).toInt : Rat) * (2 : Rat) ^ (sh - 31)) z ∧
    MovesHeld (.movs n dd acc (.shift sh) pred) s n e dd pred z :=
  ⟨_, moved_nearestEven _ _, _, _, hold32_held _, movSlot_runs (op := movMovs dd acc (.shift sh) pred) he rfl fun _ _ => rfl⟩

/-- MOVS with the shift of a scale register (R125). -/
theorem movs_scale_runs (sc : Fin 32) : ∃ z, NearestEven (((e.ac acc).toInt : Rat) * (2 : Rat) ^ (e.scale sc - 31)) z ∧
    MovesHeld (.movs n dd acc (.scale sc) pred) s n e dd pred z :=
  ⟨_, moved_nearestEven _ _, _, _, hold32_held _, movSlot_runs (op := movMovs dd acc (.scale sc) pred) he rfl fun _ _ => rfl⟩

/-- MOVS normalises (R126). -/
theorem movs_normalise_runs (h : e.ac acc ≠ 0) : let k := normShift (e.ac acc) 127 63
    MoveRuns (.movs n dd acc .normalise pred) s n e pred
      { e.commit.put dd (hold32 (moved (e.ac acc) k)).1 with nx := some (BitVec.ofInt 7 k) } :=
  movSlot_runs (op := movMovs dd acc .normalise pred) he rfl fun _ _ => if_neg h

theorem movs_normalise_zero (h : e.ac acc = 0) :
    MoveRuns (.movs n dd acc .normalise pred) s n e pred { e.commit.put dd 0 with nx := some 0 } :=
  movSlot_runs (op := movMovs dd acc .normalise pred) he rfl fun _ _ => if_pos h

end

/-! ### The reciprocal (R128) -/

/-- The exponent of a reciprocal brings the quotient between 2^30 and 2^31. -/
theorem rcpNx_spec {x : Nat} (h0 : x ≠ 0) (h1 : x ≤ 2 ^ 31) : 0 ≤ rcpNx x ∧ rcpNx x ≤ 32 ∧
    2 ^ 30 ≤ (2 : Rat) ^ (62 - rcpNx x) / x ∧ (2 : Rat) ^ (62 - rcpNx x) / x < 2 ^ 31 := by
  have hk : x.log2 ≤ 31 := Nat.lt_succ_iff.mp ((Nat.log2_lt h0).mpr (h1.trans_lt (by norm_num)))
  have hle : 2 ^ x.log2 ≤ x := Nat.log2_self_le h0
  have hlt : x < 2 ^ (x.log2 + 1) := Nat.lt_log2_self
  have hx : (0 : Rat) < x := by exact_mod_cast Nat.pos_of_ne_zero h0
  have hpow (m : Nat) : (2 : Rat) ^ ((m : Int) + x.log2) = 2 ^ m * 2 ^ x.log2 := by
    rw [← pow_add, ← zpow_natCast, Nat.cast_add]
  unfold rcpNx
  dsimp only
  split
  next heq =>
    have hcast : (x : Rat) = 2 ^ x.log2 := by exact_mod_cast heq.symm
    have hexp : (62 : Int) - (32 - x.log2) = (30 : Nat) + x.log2 := by push_cast; ring
    have hquot : (2 : Rat) ^ ((62 : Int) - (32 - x.log2)) / x = 2 ^ 30 := by
      rw [hexp, hpow, ← hcast, mul_div_cancel_right₀ _ hx.ne']
    rw [hquot]
    exact ⟨by omega, by omega, le_refl _, by norm_num⟩
  next hne =>
    have hlow : (2 : Rat) ^ x.log2 < x := by exact_mod_cast lt_of_le_of_ne hle hne
    have hhigh : (x : Rat) < 2 ^ x.log2 * 2 := by exact_mod_cast hlt
    have hexp : (62 : Int) - (31 - x.log2) = (31 : Nat) + x.log2 := by push_cast; ring
    rw [hexp, hpow, le_div_iff₀ hx, div_lt_iff₀ hx]
    exact ⟨by omega, by omega, by linarith, by linarith⟩

/-- The magnitude of a reciprocal whose exact value is `q` and whose free low bits are `d` (log entry 5). -/
def rcpMag (q : Rat) (d : Int) : Int := clampI (2 ^ 30) (2 ^ 31 - 1) (clampI (q - 2).ceil (q + 2).floor (q.floor + d))

theorem rcpMag_spec {q : Rat} (h0 : 2 ^ 30 ≤ q) (h1 : q < 2 ^ 31) (d : Int) :
    2 ^ 30 ≤ rcpMag q d ∧ rcpMag q d ≤ 2 ^ 31 - 1 ∧ |(rcpMag q d : Rat) - q| ≤ 2 := by
  have hceil : q - 2 ≤ ((q - 2).ceil : Rat) := Rat.le_ceil
  have hceil' : ((q - 2).ceil : Rat) < q - 2 + 1 := Rat.ceil_lt
  have hfloor : ((q + 2).floor : Rat) ≤ q + 2 := Int.floor_le _
  have hfloor' : q + 2 < ((q + 2).floor : Rat) + 1 := Int.lt_floor_add_one _
  have horder : (q - 2).ceil ≤ (q + 2).floor := by
    exact_mod_cast (show ((q - 2).ceil : Rat) ≤ (q + 2).floor by linarith)
  obtain ⟨hlow, hhigh⟩ := clampI_mem horder (q.floor + d)
  unfold rcpMag
  generalize clampI (q - 2).ceil (q + 2).floor (q.floor + d) = v at *
  have hv0 : ((q - 2).ceil : Rat) ≤ v := by exact_mod_cast hlow
  have hv1 : (v : Rat) ≤ (q + 2).floor := by exact_mod_cast hhigh
  obtain ⟨hm0, hm1⟩ := clampI_mem (lo := 2 ^ 30) (hi := 2 ^ 31 - 1) (by norm_num) v
  refine ⟨hm0, hm1, abs_le.mpr ?_⟩
  obtain h | ⟨h, hv⟩ | ⟨h, hv⟩ : clampI (2 ^ 30) (2 ^ 31 - 1) v = v ∨
      (clampI (2 ^ 30) (2 ^ 31 - 1) v = 2 ^ 30 ∧ v ≤ 2 ^ 30) ∨ (clampI (2 ^ 30) (2 ^ 31 - 1) v = 2 ^ 31 - 1 ∧ 2 ^ 31 - 1 ≤ v) := by
    unfold clampI
    omega
  · rw [h]
    exact ⟨by linarith, by linarith⟩
  · have hcast : (v : Rat) ≤ 2 ^ 30 := by exact_mod_cast hv
    rw [h]
    push_cast
    exact ⟨by linarith, by linarith⟩
  · have hcast : (2 : Rat) ^ 31 - 1 ≤ v := by exact_mod_cast hv
    rw [h]
    push_cast
    exact ⟨by linarith, by linarith⟩

/-- RCP of a word that is not 0, by its magnitude and its sign. -/
theorem rcpOf_eq {x : BitVec 32} (h : x ≠ 0) :
    let m := rcpMag ((2 : Rat) ^ (62 - rcpNx x.toInt.natAbs) / x.toInt.natAbs) (Config.rcpDev x)
    rcpOf x = (w32 (if x.toInt < 0 then -m else m), rcpNx x.toInt.natAbs, false) := by
  rw [← pow2_eq_zpow]
  exact if_neg h

theorem rcpOf_zero : rcpOf 0 = (0x7FFFFFFF, 63, true) := rfl

/-- The word and the exponent of a reciprocal (R128). -/
theorem rcpOf_spec {x : BitVec 32} (h : x ≠ 0) : ∃ (v : BitVec 32) (nx : Int), rcpOf x = (v, nx, false) ∧ -64 ≤ nx ∧ nx ≤ 63 ∧
    2 ^ 30 ≤ v.toInt.natAbs ∧ v.toInt.natAbs ≤ 2 ^ 31 - 1 ∧ |(v.toInt : Rat) - (2 : Rat) ^ (62 - nx) / (x.toInt : Rat)| ≤ 2 := by
  have hint : x.toInt ≠ 0 := fun h' => h (BitVec.toInt_inj.mp h')
  have hlow : -(2 ^ 31) ≤ x.toInt := x.le_toInt
  have hhigh : x.toInt < 2 ^ 31 := x.toInt_lt
  obtain ⟨hnx0, hnx1, hq0, hq1⟩ := rcpNx_spec (x := x.toInt.natAbs) (by omega) (by omega)
  obtain ⟨hm0, hm1, hm⟩ := rcpMag_spec hq0 hq1 (Config.rcpDev x)
  refine ⟨_, _, rcpOf_eq h, by omega, by omega, ?_⟩
  generalize rcpMag _ (Config.rcpDev x) = m at *
  split
  next hneg =>
    have habs : ((x.toInt.natAbs : Nat) : Rat) = -(x.toInt : Rat) := by
      rw [Nat.cast_natAbs, abs_of_neg hneg, Int.cast_neg]
    rw [habs, div_neg, sub_neg_eq_add] at hm
    rw [w32_toInt (by omega) (by omega)]
    refine ⟨by omega, by omega, ?_⟩
    rw [abs_sub_comm, Int.cast_neg, sub_neg_eq_add, add_comm]
    exact hm
  next hpos =>
    have habs : ((x.toInt.natAbs : Nat) : Rat) = (x.toInt : Rat) := by
      rw [Nat.cast_natAbs, abs_of_nonneg (by omega)]
    rw [habs] at hm
    rw [w32_toInt (by omega) (by omega)]
    exact ⟨by omega, by omega, hm⟩

/-! ### The square root (R128) -/

/-- The root whose free low bit is `d` (log entry 5). -/
def rsqRoot (n : Nat) (d : Int) : Int :=
  clampI (if (n.sqrt : Int) * n.sqrt = n then (n.sqrt : Int) - 1 else n.sqrt) (min ((n.sqrt : Int) + 1) (2 ^ 31 - 1)) (n.sqrt + d)

/-- The root lies within 1 of the exact one, and in the range of a word. -/
theorem rsqRoot_spec {n : Nat} (h : n < 2 ^ 62) (d : Int) : -1 ≤ rsqRoot n d ∧ rsqRoot n d ≤ 2 ^ 31 - 1 ∧
    (1 ≤ rsqRoot n d → (rsqRoot n d - 1) ^ 2 ≤ n) ∧ (n : Int) ≤ (rsqRoot n d + 1) ^ 2 := by
  have hsqrt : n.sqrt < 2 ^ 31 := Nat.sqrt_lt.mpr (by omega)
  have hle : (n.sqrt : Int) * n.sqrt ≤ n := by exact_mod_cast Nat.sqrt_le n
  have hlt : (n : Int) < (n.sqrt + 1) * (n.sqrt + 1) := by exact_mod_cast Nat.lt_succ_sqrt n
  unfold rsqRoot
  generalize n.sqrt = r at *
  have hlow : (if (r : Int) * r = n then (r : Int) - 1 else r) ≤ min ((r : Int) + 1) (2 ^ 31 - 1) := by split <;> omega
  obtain ⟨hv0, hv1⟩ := clampI_mem hlow (r + d)
  generalize clampI _ _ (r + d) = v at *
  have hbelow : -1 ≤ v ∧ (n : Int) ≤ (v + 1) ^ 2 := by
    split at hv0
    next hexact => exact ⟨by omega, by nlinarith⟩
    next => exact ⟨by omega, by nlinarith⟩
  exact ⟨hbelow.1, by omega, fun h1 => by nlinarith [show v - 1 ≤ r by omega], hbelow.2⟩

/-- The word of a root (R128). -/
theorem rsqOf_spec {x : BitVec 32} (h : 0 ≤ x.toInt) : ∃ v : BitVec 32, rsqOf x = (v, false) ∧
    (1 ≤ v.toInt → (v.toInt - 1) ^ 2 ≤ x.toInt * 2 ^ 31) ∧ -1 ≤ v.toInt ∧ x.toInt * 2 ^ 31 ≤ (v.toInt + 1) ^ 2 := by
  have hword : x.toInt = x.toNat := by
    have hcond := BitVec.toInt_eq_toNat_cond x
    have hlt := x.isLt
    split at hcond <;> omega
  have hlt : x.toInt < 2 ^ 31 := x.toInt_lt
  have hnat : ((x.toNat * 2 ^ 31 : Nat) : Int) = x.toInt * 2 ^ 31 := by rw [hword]; push_cast; rfl
  obtain ⟨hlow, hhigh, hbelow, habove⟩ := rsqRoot_spec (n := x.toNat * 2 ^ 31) (by omega) (Config.rsqDev x)
  rw [hnat] at hbelow habove
  refine ⟨w32 (rsqRoot (x.toNat * 2 ^ 31) (Config.rsqDev x)), if_neg (by omega), ?_⟩
  rw [w32_toInt (by omega) hhigh]
  exact ⟨hbelow, hlow, habove⟩

theorem rsqOf_negative {x : BitVec 32} (h : x.toInt < 0) : rsqOf x = (0, true) := if_pos h

section
variable {s : State} {n : Fin 16} {e : Engine} (he : s.engines[n.val]? = some e) {dd ds : Fin 32} {pred : Fin 4}
include he

theorem rcp_runs {v : BitVec 32} {nx : Int} {lim : Bool} (h : rcpOf (e.dr ds) = (v, nx, lim)) :
    MoveRuns (.rcp n dd ds pred) s n e pred { e.commit.put dd v lim with nx := some (BitVec.ofInt 7 nx) } :=
  movSlot_runs (op := movRcp dd ds pred) he rfl fun _ b => by simp [movRcp, h, accessed]

theorem rsq_runs {v : BitVec 32} {lim : Bool} (h : rsqOf (e.dr ds) = (v, lim)) :
    MoveRuns (.rsq n dd ds pred) s n e pred (e.commit.put dd v lim) :=
  movSlot_runs (op := movRsq dd ds pred) he rfl fun _ b => by simp [movRsq, h, accessed]

end

end Sys2Proof.Proofs
end

section
/-!
PROOF. O5.
-/
namespace Sys2Proof.Proofs
open Sys2Proof Sys2Proof.Machine Sys2Proof.Laws

/-- Settles O5: an accumulator is moved at the shift that the mode gives, the largest one in range for normalisation; the reciprocal and
the root take the exact value within their free low bits. -/
theorem accumulatorsReciprocalsAndRoots : Obligations.AccumulatorsReciprocalsAndRoots := by
  refine ⟨fun s n e dd acc sh sc pred he _ _ => ⟨movs_shift_runs he dd acc pred sh, movs_scale_runs he dd acc pred sc,
    movs_normalise_zero he dd acc pred, fun h => ?normalise⟩, fun s n e dd ds pred he => ?_⟩
  case normalise =>
    obtain ⟨hlow, hhigh, hall, -⟩ := normShift_spec (e.ac acc) 127 63
    refine ⟨_, _, _, by omega, hhigh, moved_nearestEven _ _, hold32_eq_of_inRange (normShift_inRange _), fun k z hk hk63 hz => ?_,
      movs_normalise_runs he dd acc pred h⟩
    rw [nearestEven_unique hz (moved_nearestEven _ _)]
    exact of_decide_eq_true (hall k hk hk63)
  · intro x
    refine ⟨fun h => ?_, fun h => ?_, fun h => ?_, fun h => rsq_runs he (rsqOf_negative h)⟩
    · obtain ⟨v, nx, heq, hrest⟩ := rcpOf_spec (x := e.dr ds) fun h' => h (by simp [x, h'])
      obtain ⟨h0, h1, h2, h3, h4⟩ := hrest
      exact ⟨v, nx, h0, h1, h2, h3, h4, rcp_runs he heq⟩
    · have hzero : e.dr ds = 0 := BitVec.toInt_inj.mp h
      exact rcp_runs he (hzero ▸ rcpOf_zero)
    · obtain ⟨v, heq, h0, h1, h2⟩ := rsqOf_spec h
      exact ⟨v, h0, h1, h2, rsq_runs he heq⟩

end Sys2Proof.Proofs
end

section
/-!
SUPPORT. The kernel store (R141 to R145), the requests for node parameters (R247, R579) and the branches of a hosted star (R578) under
their commands.
-/
namespace Sys2Proof.Proofs
open Sys2Proof Sys2Proof.Machine Sys2Proof.Laws

/-! ### Kernel loads (R141 to R145) -/

/-- The bytes of a part, put one after another at an offset. -/
theorem kvGet_part (o : Nat) (f : Nat → Byte) (d : List (Nat × Byte)) (k : Nat) : ∀ m : Nat,
    kvGet ((List.range m).foldl (fun d i => kvSet d (o + i) (f i)) d) k = if o ≤ k ∧ k < o + m then some (f (k - o)) else kvGet d k
  | 0 => by rw [if_neg (by omega)]; rfl
  | m + 1 => by
    rw [List.range_succ, List.foldl_append, List.foldl_cons, List.foldl_nil, kvGet_kvSet, kvGet_part o f d k m]
    by_cases h : k = o + m
    · rw [if_pos h, if_pos (by omega), h, Nat.add_sub_cancel_left]
    · rw [if_neg h]
      exact if_congr (by omega) rfl rfl

section
variable {s : State} {a : Accepted} {rest : List Accepted} {r : Req} {l : KernelLoad}

/-- A command of the kernel store at its effective cycle. -/
theorem kernelRow_next (h : TakesNext s a rest r r.opcode) {op : Nat} (hop : r.opcode = op)
    (hrow : op = 0x0120 ∨ op = 0x0121 ∨ op = 0x0122 ∨ op = 0x0123) :
    s.opRow op .effect r = { withPlaces s rest with kernels := kernelStep s.kernels s.clock.cycle r } := by
  obtain rfl | rfl | rfl | rfl := hrow <;> (rw [opRow_next h hop rfl]; simp only [State.effectOp, hop]; rfl)

theorem kernelOpen_effect (h : TakesNext s a rest r r.opcode) (hop : r.opcode = 0x0120) : exec (.kernelOpen .effect r) s =
    .next { withPlaces s rest with kernels := { s.kernels with
      load := some { length := le r.payload 0 4, last := s.clock.cycle, id := s.clock.cycle } } } := by
  refine congrArg _ ((kernelRow_next h hop (by decide)).trans ?_)
  simp only [kernelStep, hop]

theorem kernelWrite_effect (h : TakesNext s a rest r r.opcode) (hop : r.opcode = 0x0121) (hl : s.kernels.load = some l) :
    exec (.kernelWrite .effect r) s = .next { withPlaces s rest with kernels := { s.kernels with
      load := some { l with
        data := (List.range (r.payload.drop 4).length).foldl
          (fun d i => kvSet d (le r.payload 0 4 + i) ((r.payload.drop 4).getD i 0)) l.data
        last := s.clock.cycle } } } := by
  refine congrArg _ ((kernelRow_next h hop (by decide)).trans ?_)
  simp only [kernelStep, hop, hl]

theorem kernelClose_effect (h : TakesNext s a rest r r.opcode) (hop : r.opcode = 0x0122) (hl : s.kernels.load = some l) :
    exec (.kernelClose .effect r) s =
      .next { withPlaces s rest with kernels := { s.kernels with load := some { l with closing := true, closeTag := r.tag } } } := by
  refine congrArg _ ((kernelRow_next h hop (by decide)).trans ?_)
  simp only [kernelStep, hop, hl]

theorem kernelRemove_effect (h : TakesNext s a rest r r.opcode) (hop : r.opcode = 0x0123) : exec (.kernelRemove .effect r) s =
    .next { withPlaces s rest with kernels := { s.kernels with
      held := s.kernels.held.filter (fun k => k.id ≠ tNum r.target.toNat) } } := by
  refine congrArg _ ((kernelRow_next h hop (by decide)).trans ?_)
  simp only [kernelStep, hop]

/-- The voice lane passes on what the verification of a closed load gave (R144). -/
theorem kernelVerified_voice (hl : s.kernels.load = some l) (hc : l.closing = true) (hv : s.isVoice = true) :
    ∃ ok e, e.code = (if ok then 0x403 else 0x404) ∧ (ok = true ↔ ∃ cost, verifyImage s.kernels.held l.image = .ok cost) ∧
      exec .kernelVerified s = .next (withBody s (.kernelOutcome l.closeTag ok e)) := by
  have hexec : exec .kernelVerified s = execKernelVerified s := rfl
  rw [hexec, execKernelVerified, hl]
  simp only [hc, hv, Bool.and_self, if_true]
  cases hver : verifyImage s.kernels.held l.image with
  | ok cost => exact ⟨true, _, rfl, ⟨fun _ => ⟨cost, rfl⟩, fun _ => rfl⟩, rfl⟩
  | error x => exact ⟨false, _, rfl, ⟨nofun, nofun⟩, rfl⟩

/-- An open load lapses (R143). -/
theorem kernelLoadLapse_open (hl : s.kernels.load = some l) (hc : l.closing = false) (h : l.last + 65536 ≤ s.clock.cycle) :
    exec .kernelLoadLapse s = .next { s with kernels := { s.kernels with load := none } } := by
  have hexec : exec .kernelLoadLapse s = execKernelLoadLapse s := rfl
  simp [hexec, execKernelLoadLapse, hl, hc, loadLapse, h]

/-! ### Node requests (R247, R579) -/

theorem nodeParamRead_effect (h : TakesNext s a rest r r.opcode) (hop : r.opcode = 0x0401) :
    exec (.nodeParamRead .effect r) s = .next ((withPlaces s rest).nodeParamEffect r) := by
  refine congrArg _ ((opRow_next h hop rfl).trans ?_)
  simp only [State.effectOp, hop]

theorem nodeParamWrite_effect (h : TakesNext s a rest r r.opcode) (hop : r.opcode = 0x0402) :
    exec (.nodeParamWrite .effect r) s = .next ((withPlaces s rest).nodeParamEffect r) := by
  refine congrArg _ ((opRow_next h hop rfl).trans ?_)
  simp only [State.effectOp, hop]

theorem sendAcyc_eq (s : State) (ch : Channel) (i : Nat) (pay : List Byte) : ∃ tx, s.sendAcyc ch i pay = { s with tx := s.tx ++ tx } := by
  unfold State.sendAcyc
  dsimp only
  split
  · exact ⟨_, rfl⟩
  · exact ⟨[], by rw [List.append_nil]⟩

/-- Sending a request tells the state by what left the chip alone. -/
theorem sendReq_eq (s : State) (q : NodeReq) : ∃ tx, s.sendReq q = { s with tx := s.tx ++ tx } := by
  have hfold (l : List Channel) : ∀ s : State, ∃ tx, l.foldl (fun s ch => s.sendAcyc ch q.node q.payload) s = { s with tx := s.tx ++ tx } := by
    induction l with
    | nil => exact fun s => ⟨[], by rw [List.append_nil]; rfl⟩
    | cons ch l ih =>
      intro s
      obtain ⟨tx, h⟩ := sendAcyc_eq s ch q.node q.payload
      obtain ⟨tx', h'⟩ := ih (s.sendAcyc ch q.node q.payload)
      refine ⟨tx ++ tx', ?_⟩
      rw [List.foldl_cons, h', h, List.append_assoc]
  exact hfold s.channels s

/-- Outstanding requests of a tag and a node are changed, and no other one. -/
theorem updReq_getElem? (s : State) (q : NodeReq) (f : NodeReq → NodeReq) {i : Nat} {y : NodeReq} (h : s.services.reqs[i]? = some y) :
    (s.updReq q f).services.reqs[i]? = some (if y.tag = q.tag ∧ y.node = q.node ∧ y.outcome = 0xFE then f y else y) := by
  simp [State.updReq, h]

section
variable {q : NodeReq} (hq : s.services.reqs.find? (fun y => y.tag == q.tag && y.outcome == 0xFE && y.sent) = some q)
include hq

theorem nodeRequestTimeout_eq : exec (.nodeRequestTimeout q.tag) s = .next (if q.windows < 8 then s
    else if q.resent then s.updReq q (fun x => { x with outcome := 0x03 })
    else (s.updReq q (fun x => { x with resent := true, windows := 0 })).sendReq q) := by
  have hexec : exec (.nodeRequestTimeout q.tag) s = execNodeRequestTimeout q.tag s := rfl
  rw [hexec, execNodeRequestTimeout, hq]

/-- A request waits 8 windows for its answer (R247). -/
theorem nodeRequestTimeout_waits (h : q.windows < 8) : exec (.nodeRequestTimeout q.tag) s = .next s := by
  rw [nodeRequestTimeout_eq hq, if_pos h]

/-- A request that was resent ends without an answer (R579). -/
theorem nodeRequestTimeout_ends (h : 8 ≤ q.windows) (hr : q.resent = true) : ∃ l : List NodeReq,
    exec (.nodeRequestTimeout q.tag) s = .next { s with services := { s.services with reqs := l } } ∧
    ∀ (i : Nat) (y : NodeReq), s.services.reqs[i]? = some y →
      l[i]? = some (if y.tag = q.tag ∧ y.node = q.node ∧ y.outcome = 0xFE then { y with outcome := 0x03 } else y) := by
  rw [nodeRequestTimeout_eq hq, if_neg (by omega), if_pos hr]
  exact ⟨_, rfl, fun i y hy => updReq_getElem? s q _ hy⟩

/-- A request is resent once. -/
theorem nodeRequestTimeout_resends (h : 8 ≤ q.windows) (hr : q.resent = false) : ∃ (l : List NodeReq) (tx : List Tx),
    exec (.nodeRequestTimeout q.tag) s = .next { s with services := { s.services with reqs := l }, tx := s.tx ++ tx } ∧
    ∀ (i : Nat) (y : NodeReq), s.services.reqs[i]? = some y →
      l[i]? = some (if y.tag = q.tag ∧ y.node = q.node ∧ y.outcome = 0xFE then { y with resent := true, windows := 0 } else y) := by
  obtain ⟨tx, hsend⟩ := sendReq_eq (s.updReq q (fun x => { x with resent := true, windows := 0 })) q
  rw [nodeRequestTimeout_eq hq, if_neg (by omega), if_neg (by simp [hr]), hsend]
  exact ⟨_, tx, rfl, fun i y hy => updReq_getElem? s q _ hy⟩

end

/-! ### BRANCH_CTRL (R578) -/

theorem branchCtrl_effect (h : TakesNext s a rest r r.opcode) (hop : r.opcode = 0x0400) {ch : Channel}
    (hch : ch = .x ∧ byteAt r.payload 0 = 0 ∨ ch = .y ∧ byteAt r.payload 0 = 1) : exec (.branchCtrl .effect r) s =
      .next ((withPlaces s rest).branchCtrl ch (byteAt r.payload 1) (byteAt r.payload 2) (byteAt r.payload 3)) := by
  have hchannel : (if byteAt r.payload 0 = 0 then Channel.x else .y) = ch := by
    obtain ⟨rfl, hb⟩ | ⟨rfl, hb⟩ := hch <;> simp [hb]
  refine congrArg _ ((opRow_next h hop rfl).trans ?_)
  simp only [State.effectOp, hop, State.branchCtrlEffect, hchannel]

section
variable {ch : Channel} (hh : s.hosts ch = true) {b : Nat} {br : Branch} (hbr : s.branches[b]? = some br)
include hbr

/-- A branch that is there takes its change. -/
theorem updBranch_set (f : Branch → Branch) : s.updBranch b f = { s with branches := s.branches.set b (f br) } := by
  rw [State.updBranch, modAt_eq_set f hbr]

/-- A branch that its sluice has not closed stays open (R307). -/
theorem openBranch_open (hc : br.closed = false) : s.openBranch ch b = { s with branches := s.branches.set b { br with quietRun := 0 } } := by
  have hget : s.branches.getD b {} = br := by rw [List.getD_eq_getElem?_getD, hbr]; rfl
  have hkeep : ({ br with closed := false, quietRun := 0 } : Branch) = { br with quietRun := 0 } := by rw [← hc]
  simp only [State.openBranch, hget, hc, Bool.false_eq_true, if_false]
  rw [updBranch_set hbr, hkeep]

include hh

theorem branchCtrl_close (mask : Nat) : s.branchCtrl ch b 1 mask = { s with branches := s.branches.set b { br with hostClosed := true } } := by
  simp only [State.branchCtrl, hh, Bool.not_true, Bool.false_eq_true, if_false]
  exact updBranch_set hbr _

theorem branchCtrl_open (hc : br.closed = false) (mask : Nat) :
    s.branchCtrl ch b 2 mask = { s with branches := s.branches.set b { br with hostClosed := false, quietRun := 0 } } := by
  obtain ⟨hb, -⟩ := List.getElem?_eq_some_iff.mp hbr
  have hset : (s.updBranch b (fun r => { r with hostClosed := false })).branches[b]? = some { br with hostClosed := false } := by
    rw [updBranch_set hbr]
    exact List.getElem?_set_self hb
  simp only [State.branchCtrl, hh, Bool.not_true, Bool.false_eq_true, if_false]
  rw [openBranch_open hset hc, updBranch_set hbr]
  simp only [List.set_set]

omit hh

/-- Some of the positions of a branch are changed, one after another. -/
theorem foldl_updPos (f : Position → Position) (p : Nat → Bool) : ∀ m : Nat, ∃ x,
    (List.range m).foldl (fun s i => if p i then s.updPos b i f else s) s = { s with branches := s.branches.set b x } ∧
    x = { br with poss := x.poss } ∧ ∀ i, x.poss[i]? = (br.poss[i]?).map (fun y => if i < m ∧ p i then f y else y)
  | 0 => by
    obtain ⟨hb, hget⟩ := List.getElem?_eq_some_iff.mp hbr
    exact ⟨br, by rw [← hget, List.set_getElem_self]; rfl, rfl, fun i => by simp⟩
  | m + 1 => by
    obtain ⟨x, hfold, hx, hposs⟩ := foldl_updPos f p m
    obtain ⟨hb, -⟩ := List.getElem?_eq_some_iff.mp hbr
    have hset : ({ s with branches := s.branches.set b x } : State).branches[b]? = some x := List.getElem?_set_self hb
    rw [List.range_succ, List.foldl_append, hfold, List.foldl_cons, List.foldl_nil]
    cases hp : p m with
    | false =>
      refine ⟨x, rfl, hx, fun i => (hposs i).trans (congrArg (Option.map · _) (funext fun y => if_congr ?_ rfl rfl))⟩
      constructor
      · exact fun ⟨hlt, hi⟩ => ⟨by omega, hi⟩
      · rintro ⟨hlt, hi⟩
        obtain rfl | hne := eq_or_ne i m
        · rw [hp] at hi; cases hi
        · exact ⟨by omega, hi⟩
    | true =>
      refine ⟨{ x with poss := modAt x.poss m f }, ?_, by rw [hx], fun i => ?_⟩
      · rw [if_pos rfl, State.updPos, updBranch_set hset]
        simp only [List.set_set]
      · rw [modAt_getElem?, hposs i, Option.map_map]
        split
        next heq => subst heq; simp [hp, Function.comp_def]
        next hne =>
          refine congrArg (Option.map · _) (funext fun y => if_congr ?_ rfl rfl)
          exact and_congr_left fun _ => by omega

include hh

/-- Closing positions changes the branch in its positions alone. -/
theorem branchCtrl_closePositions (h8 : br.poss.length = 8) (mask : Nat) : ∃ x,
    s.branchCtrl ch b 3 mask = { s with branches := s.branches.set b x } ∧ x = { br with poss := x.poss } ∧
    ∀ i, x.poss[i]? = (br.poss[i]?).map (fun y => if bit mask i then { y with hostClosed := true, defer := 0 } else y) := by
  obtain ⟨x, hfold, hx, hposs⟩ := foldl_updPos hbr (fun q => { q with hostClosed := true, defer := 0 }) (bit mask) 8
  refine ⟨x, ?_, hx, fun i => (hposs i).trans ?_⟩
  · simp only [State.branchCtrl, hh, Bool.not_true, Bool.false_eq_true, if_false]
    exact hfold
  · by_cases hi : i < 8
    · simp [hi]
    · rw [List.getElem?_eq_none (by omega)]
      rfl

end

end

end Sys2Proof.Proofs
end

section
/-!
PROOF. O38.
-/
namespace Sys2Proof.Proofs
open Sys2Proof Sys2Proof.Machine Sys2Proof.Laws

/-- Settles O38: each command by its own operation of the state without its place; the request joins the others, and a change of a branch
stands in that branch. -/
theorem kernelsAndNodeRequests : Obligations.KernelsAndNodeRequests := by
  intro s a rest r l q br s0 n p o4 ks asked
  refine ⟨fun h => ⟨fun hop => kernelOpen_effect h hop, fun hop hl => ⟨_, kernelWrite_effect h hop hl, fun k => ?write⟩,
    fun hop hl => kernelClose_effect h hop hl, fun hop => kernelRemove_effect h hop, fun hop => ⟨_, nodeParamRead_effect h hop, ?read⟩,
    fun hop => ⟨_, nodeParamWrite_effect h hop, ?param⟩, fun ch b hop hch hh hb hbr h8 => ?branch⟩,
    kernelVerified_voice, kernelLoadLapse_open,
    fun hq => ⟨nodeRequestTimeout_waits hq, nodeRequestTimeout_ends hq, nodeRequestTimeout_resends hq⟩⟩
  case write =>
    rw [kvGet_part, List.length_drop, List.getD_eq_getElem?_getD, List.getElem?_drop, ← List.getD_eq_getElem?_getD]
  case read => exact ⟨_, rfl, rfl, by simp [hop], rfl, by simp [hop, p], rfl, rfl, rfl⟩
  case param => exact ⟨_, rfl, rfl, by simp [hop], rfl, by simp [hop, p], rfl, rfl, rfl⟩
  case branch =>
    have hexec := branchCtrl_effect h hop hch
    rw [← hb] at hexec
    have hhosts : s0.hosts ch = true := hh
    have hbr0 : s0.branches[b]? = some br := hbr
    refine ⟨fun hact => ?_, fun hact hc => ?_, fun hact => ?_⟩ <;> rw [hact] at hexec
    · exact hexec.trans (congrArg _ (branchCtrl_close hhosts hbr0 _))
    · exact hexec.trans (congrArg _ (branchCtrl_open hhosts hbr0 hc _))
    · obtain ⟨x, hset, hrest⟩ := branchCtrl_closePositions hhosts hbr0 h8 (byteAt p 3)
      exact ⟨x, hexec.trans (congrArg _ hset), hrest⟩

end Sys2Proof.Proofs
end

section
/-!
SUPPORT. A command that acts on one axis finds it due (R30, R60, R148, R433), and what a motion command does there by the state of the
axis and the motion in force (R154 to R158, R165 to R170).
-/
namespace Sys2Proof.Proofs
open Sys2Proof Sys2Proof.Machine Sys2Proof.Laws

/-! ### The command at a due axis -/

/-- What acceptance captured for the axis; an INJ_START reads its fields as it takes effect (R434). -/
def capturedFor (s : State) (a : Accepted) (r : Req) : List (FieldKey × BitVec 64) :=
  if r.opcode = 0x0703 then s.injFields r.target.toNat else a.captured

/-- The first command of the order that names its axis acts there at once if the axis is due; `i` is its row. -/
theorem exec_axisRow_due {s : State} {a : Accepted} {rest : List Accepted} {r : Req} {x : Axis} (h : TakesNext s a rest r r.opcode)
    (hn : r.target.toNat < 160) (hx : s.axis? r.target.toNat = some x) (hdue : s.due x = true) {op : Nat} (hop : r.opcode = op)
    (hax : isAxisOp op = true) {i : Instr} (hi : exec i s = .next (s.opRow op .effect r)) :
    exec i s = .next ((withPlaces s rest).axisEffect r r.target.toNat (capturedFor (withPlaces s rest) a r)) := by
  rw [hi]
  refine congrArg _ ?_
  subst hop
  obtain ⟨hacc, hbody, -, heff⟩ := h
  have hfirst : (decide (a.eff ≤ s.clock.cycle) && (!a.body.stops || r.opcode == 0x0007)) = true := by
    simp [heff, hbody, Body.stops]
  have hone (u : State) : u.effectOne a = (u.effectOnAxes a r, []) := by simp [State.effectOne, hbody, hax]
  have haxes : axesOf r = [r.target.toNat] := if_neg (by omega)
  have hx' : (withPlaces s rest).axis? r.target.toNat = some x := hx
  have hdue' : (withPlaces s rest).due x = true := hdue
  change s.takeEffect r = _
  simp only [State.takeEffect, hacc, List.find?_cons, hfirst]
  rw [if_pos hbody, List.erase_cons_head, hone]
  change (withPlaces s rest).effectOnAxes a r = _
  simp only [State.effectOnAxes, haxes, List.foldl_cons, List.foldl_nil, hx', hdue', if_true, capturedFor]

/-! ### Motion commands (R153 to R158) -/

/-- The motion commands that bring a motion of their own: opcode, row, motion; a PROFILE_MOVE with its target. -/
def motionRows (p : List Byte) : List (Nat × (Phase → Req → Instr) × Motion) :=
  [(0x0200, .profileMove, .move (pos48 p 2)), (0x0201, .profileVelocity, .velocity (f32D (le p 0 4))),
   (0x0206, .refSet, .reference (f32D (le p 0 4)) (f32D (le p 4 4)))]

theorem motionRows_isAxisOp (p : List Byte) : ∀ q ∈ motionRows p, isAxisOp q.1 = true := by
  simp only [motionRows, List.forall_mem_cons]
  exact ⟨rfl, rfl, rfl, nofun⟩

theorem motionRows_exec (p : List Byte) :
    ∀ q ∈ motionRows p, ∀ (r : Req) (s : State), exec (q.2.1 .effect r) s = .next (s.opRow q.1 .effect r) := by
  simp only [motionRows, List.forall_mem_cons]
  exact ⟨fun _ _ => rfl, fun _ _ => rfl, fun _ _ => rfl, nofun⟩

/-- OFF, READY and FAULTED, in which a motion command is void (R155). -/
def RefusesMotion (st : AxisSt) : Prop := st = .off ∨ st = .ready ∨ st = .faulted

/-- HOLD, COAST and STOP_RAMP, in which a motion waits as the pending one (R154). -/
def HoldsMotion (st : AxisSt) : Prop := st = .hold ∨ st = .coast ∨ st = .stopRamp

theorem HoldsMotion.takes {st : AxisSt} (h : HoldsMotion st) : ¬RefusesMotion st ∧ st ≠ .run := by
  obtain rfl | rfl | rfl := h <;> simp [RefusesMotion]

/-- The motion in force is neither a table nor a group's, so that it ends for another one without more (R168, R170, R185). -/
def SingleMotion (m : MotionRt) : Prop := m.motion ≠ some .table ∧ ∀ g, m.motion ≠ some (.group g)

theorem profileVoid_recorded {s : State} (hc : s.common = true) {n : Nat} (hn : n < 256) (tag : BitVec 32) (op reason : Nat) :
    recorded s (s.profileVoid n tag op reason) 0x440 n (toLe 4 tag.toNat ++ toLe 2 op ++ [BitVec.ofNat 8 reason]) :=
  event_recorded hc (by decide) hn _

section
variable {s : State} {n : Nat} {x : Axis} (hx : s.axis? n = some x)
include hx

theorem mot_of_axis : s.mot n = x.mot := by simp [State.mot, hx]

theorem st_of_axis : ((s.axis? n).map (·.st)).getD .off = x.st := by rw [hx]; rfl

/-- A motion that is neither a table nor a group's ends without more. -/
theorem endMotion_single (hs : SingleMotion x.mot) : s.endMotion n = s := by
  obtain ⟨htable, hgroup⟩ := hs
  unfold State.endMotion
  rw [mot_of_axis hx]
  split
  case h_1 h => exact absurd h htable
  case h_2 g h => exact absurd h (hgroup g)
  case h_3 => rfl

/-- In RUN a motion replaces the motion in force (R154). -/
theorem motionEffect_run (hs : SingleMotion x.mot) (m : Motion) (tag : BitVec 32) (op : Nat) :
    s.motionEffect n .run m none tag op =
      s.updMot n (fun m' => { m' with motion := some m, replan := true, moveDone := false, seg := none }) := by
  simp only [State.motionEffect, endMotion_single hx hs, State.force]

/-- In RUN a relative move is resolved against the motion in force (R158). -/
theorem motionEffect_run_relative (hs : SingleMotion x.mot) {d : Int} {to_ : BitVec 48} (hto : x.mot.relative d = some to_) (m : Motion)
    (tag' tag : BitVec 32) (op : Nat) : s.motionEffect n .run m (some (d, tag')) tag op =
      s.updMot n (fun m' => { m' with motion := some (.move to_), replan := true, moveDone := false }) := by
  simp [State.motionEffect, endMotion_single hx hs, State.force, mot_of_axis hx, hto]

/-- A relative move too far from the motion in force is void (R158). -/
theorem motionEffect_run_tooFar {d : Int} (hto : x.mot.relative d = none) (m : Motion) (tag' tag : BitVec 32) (op : Nat) :
    s.motionEffect n .run m (some (d, tag')) tag op = s.profileVoid n tag op 2 := by
  simp [State.motionEffect, mot_of_axis hx, hto]

end

/-- In HOLD, COAST and STOP_RAMP a motion waits as the pending one (R154). -/
theorem motionEffect_holds {st : AxisSt} (h : HoldsMotion st) (s : State) (n : Nat) (m : Motion)
    (rel : Option (Int × BitVec 32)) (tag : BitVec 32) (op : Nat) :
    s.motionEffect n st m rel tag op = s.updMot n (fun m' => { m' with pend := some m, pendRel := rel }) := by
  obtain rfl | rfl | rfl := h <;> rfl

/-- In OFF, READY and FAULTED a motion command is void (R155). -/
theorem motionEffect_refuses {st : AxisSt} (h : RefusesMotion st) (s : State) (n : Nat) (m : Motion)
    (rel : Option (Int × BitVec 32)) (tag : BitVec 32) (op : Nat) : s.motionEffect n st m rel tag op = s.profileVoid n tag op 1 := by
  obtain rfl | rfl | rfl := h <;> rfl

/-! ### Commands of the table (R165 to R170) -/

theorem tableStartEffect_refuses {st : AxisSt} (h : RefusesMotion st) (s : State) (n : Nat) (tag : BitVec 32) :
    s.tableStartEffect n st tag = s.profileVoid n tag 0x0203 1 := by
  obtain rfl | rfl | rfl := h <;> rfl

theorem tableClearEffect_refuses {st : AxisSt} (h : RefusesMotion st) (s : State) (n : Nat) (tag : BitVec 32) :
    s.tableClearEffect n st tag = s.profileVoid n tag 0x0204 1 := by
  obtain rfl | rfl | rfl := h <;> rfl

/-- Outside RUN a cleared table takes the points held and nothing else (R170). -/
theorem tableClearEffect_holds {st : AxisSt} (h : HoldsMotion st) (s : State) (n : Nat) (tag : BitVec 32) :
    s.tableClearEffect n st tag = s.discardPoints n := by
  obtain rfl | rfl | rfl := h <;> simp [State.tableClearEffect]

section
variable {s : State} {n : Nat} {x : Axis} (hx : s.axis? n = some x)
include hx

/-- An axis that takes motions starts its table: a void command without points, nothing where the table runs, and else a motion. -/
theorem tableStartEffect_takes {st : AxisSt} (h : ¬RefusesMotion st) (tag : BitVec 32) :
    s.tableStartEffect n st tag = if x.mot.points.isEmpty then s.profileVoid n tag 0x0203 3
    else if st = .run ∧ x.mot.motion = some .table then s else s.motionEffect n st .table none tag 0x0203 := by
  unfold State.tableStartEffect
  rw [mot_of_axis hx]
  split
  case h_1 => exact absurd (.inl rfl) h
  case h_2 => exact absurd (.inr (.inl rfl)) h
  case h_3 => exact absurd (.inr (.inr rfl)) h
  case h_4 => rfl

theorem discardPoints_empty (h : x.mot.points = []) : s.discardPoints n = s.updMot n (fun m => { m with points := [], seg := none }) := by
  simp [State.discardPoints, mot_of_axis hx, h]

theorem discardPoints_held (h : x.mot.points ≠ []) : s.discardPoints n =
    (s.updMot n (fun m => { m with points := [], seg := none })).event 0x444 n (toLe 2 x.mot.points.length) := by
  simp [State.discardPoints, mot_of_axis hx, h]

/-! ### What each command does at its axis -/

variable {r : Req} (cap : List (FieldKey × BitVec 64))

theorem axisEffect_motion : ∀ q ∈ motionRows r.payload, r.opcode = q.1 → (q.1 = 0x0200 → bit (byteAt r.payload 0) 0 = false) →
    s.axisEffect r n cap = s.motionEffect n x.st q.2.2 none r.tag q.1 := by
  rw [motionRows, List.forall_mem_cons, List.forall_mem_cons, List.forall_mem_cons]
  refine ⟨fun hop hrel => ?_, fun hop _ => ?_, fun hop _ => ?_, nofun⟩
  · simp only [State.axisEffect, hop, st_of_axis hx, hrel rfl, Bool.false_eq_true, if_false]
  · simp only [State.axisEffect, hop, st_of_axis hx]
  · simp only [State.axisEffect, hop, st_of_axis hx]

theorem axisEffect_relative (hop : r.opcode = 0x0200) (hrel : bit (byteAt r.payload 0) 0 = true) : s.axisEffect r n cap =
    s.motionEffect n x.st (.move x.mot.o) (some ((pos48 r.payload 2).toInt, r.tag)) r.tag 0x0200 := by
  simp only [State.axisEffect, hop, st_of_axis hx, mot_of_axis hx, hrel, if_true]

/-- Points join the table of an axis that takes motions (R165). -/
theorem axisEffect_append_takes (hop : r.opcode = 0x0202) (h : ¬RefusesMotion x.st) :
    s.axisEffect r n cap = s.appendPoints n (pointsOf r) := by
  simp only [State.axisEffect, hop, st_of_axis hx]
  split
  case h_1 hst => exact absurd (.inl hst) h
  case h_2 hst => exact absurd (.inr (.inl hst)) h
  case h_3 hst => exact absurd (.inr (.inr hst)) h
  case h_4 => rfl

theorem axisEffect_append_refuses (hop : r.opcode = 0x0202) (h : RefusesMotion x.st) :
    s.axisEffect r n cap = s.profileVoid n r.tag 0x0202 1 := by
  obtain hst | hst | hst := h <;> simp only [State.axisEffect, hop, st_of_axis hx, hst]

theorem axisEffect_tableStart (hop : r.opcode = 0x0203) : s.axisEffect r n cap = s.tableStartEffect n x.st r.tag := by
  simp only [State.axisEffect, hop, st_of_axis hx]

theorem axisEffect_tableClear (hop : r.opcode = 0x0204) : s.axisEffect r n cap = s.tableClearEffect n x.st r.tag := by
  simp only [State.axisEffect, hop, st_of_axis hx]

end

end Sys2Proof.Proofs
end

section
/-!
PROOF. O35.
-/
namespace Sys2Proof.Proofs
open Sys2Proof Sys2Proof.Machine Sys2Proof.Laws

/-- Settles O35: the command reaches its due axis, where the state of the axis decides whether the motion replaces the one in force,
waits or is void. -/
theorem motionCommandsComeIntoForce : Obligations.MotionCommandsComeIntoForce := by
  intro s a rest r x n s0 p h hn hx hdue hc upd void moves still single rel d ps rows
  have hx0 : s0.axis? n = some x := hx
  have hrow {op : Nat} {i : Instr} (hop : r.opcode = op) (hax : isAxisOp op = true) (hi : exec i s = .next (s.opRow op .effect r)) :
      exec i s = .next (s0.axisEffect r n (capturedFor s0 a r)) := exec_axisRow_due h hn hx hdue hop hax hi
  have hrelative (hop : r.opcode = 0x0200) (hrel : rel = true) :=
    (hrow (i := .profileMove .effect r) hop rfl rfl).trans (congrArg _ (axisEffect_relative hx0 _ hop hrel))
  have hvoid (op reason : Nat) : recorded s0 (s0.profileVoid n r.tag op reason) 0x440 n
      (toLe 4 r.tag.toNat ++ toLe 2 op ++ [BitVec.ofNat 8 reason]) :=
    profileVoid_recorded (s := s0) hc (hn.trans (by decide)) r.tag op reason
  refine ⟨fun q hq hop hrel => ?motions, fun hop hrel hm => ?pending, fun to_ hop hrel hst hs hto => ?resolved,
    fun hop hrel hst hto => ⟨_, ?tooFar, hvoid 0x0200 2⟩, fun hop => ?append, fun hop => ?start, fun hop => ?clear⟩
  case motions =>
    have heff := hrow hop (motionRows_isAxisOp p q hq) (motionRows_exec p q hq r s)
    rw [axisEffect_motion hx0 _ q hq hop hrel] at heff
    exact ⟨fun hst hs => heff.trans (congrArg _ (hst ▸ motionEffect_run hx0 hs ..)),
      fun hm => heff.trans (congrArg _ (motionEffect_holds hm ..)),
      fun hm => ⟨_, heff.trans (congrArg _ (motionEffect_refuses hm ..)), hvoid q.1 1⟩⟩
  case pending => exact (hrelative hop hrel).trans (congrArg _ (motionEffect_holds hm ..))
  case resolved => exact (hrelative hop hrel).trans (congrArg _ (hst ▸ motionEffect_run_relative hx0 hs hto ..))
  case tooFar => exact (hrelative hop hrel).trans (congrArg _ (hst ▸ motionEffect_run_tooFar hx0 hto ..))
  case append =>
    have heff := hrow (i := .tableAppend .effect r) hop rfl rfl
    exact ⟨fun hm => heff.trans (congrArg _ (axisEffect_append_takes hx0 _ hop hm)),
      fun hm => ⟨_, heff.trans (congrArg _ (axisEffect_append_refuses hx0 _ hop hm)), hvoid 0x0202 1⟩⟩
  case start =>
    have heff := (hrow (i := .tableStart .effect r) hop rfl rfl).trans (congrArg _ (axisEffect_tableStart hx0 _ hop))
    have htakes (hm : ¬still) := heff.trans (congrArg _ (tableStartEffect_takes hx0 hm r.tag))
    have hstarts (hm : ¬still) (hp : x.mot.points ≠ []) (hrun : ¬(x.st = .run ∧ x.mot.motion = some .table)) :
        exec (.tableStart .effect r) s = .next (s0.motionEffect n x.st .table none r.tag 0x0203) := by
      rw [htakes hm, if_neg (by simpa using hp), if_neg hrun]
    have htaken (hst : x.st = .run) : ¬still := by simp [still, hst]
    refine ⟨fun hm hp => ?waits, fun hst hp hs => ?replaces, fun hst hp hs => ?runs, fun hm hp => ⟨_, ?empty, hvoid 0x0203 3⟩,
      fun hm => ⟨_, heff.trans (congrArg _ (tableStartEffect_refuses hm s0 n r.tag)), hvoid 0x0203 1⟩⟩
    case waits =>
      obtain ⟨hstill, hrun⟩ := HoldsMotion.takes hm
      exact (hstarts hstill hp fun h => hrun h.1).trans (congrArg _ (motionEffect_holds hm ..))
    case replaces =>
      exact (hstarts (htaken hst) hp fun h => hs.1 h.2).trans (congrArg _ (hst ▸ motionEffect_run hx0 hs ..))
    case runs => rw [htakes (htaken hst), if_neg (by simpa using hp), if_pos ⟨hst, hs⟩]
    case empty => rw [htakes hm, if_pos (by simpa using hp)]
  case clear =>
    have heff := (hrow (i := .tableClear .effect r) hop rfl rfl).trans (congrArg _ (axisEffect_tableClear hx0 _ hop))
    have hmoves (hm : moves) := heff.trans (congrArg _ (tableClearEffect_holds hm s0 n r.tag))
    exact ⟨fun hm hp => (hmoves hm).trans (congrArg _ (discardPoints_empty hx0 hp)),
      fun hm hp => ⟨_, (hmoves hm).trans (congrArg _ (discardPoints_held hx0 hp)),
        event_recorded (s := s0.updMot n (fun m => { m with points := [], seg := none })) hc (by decide) (hn.trans (by decide)) _⟩,
      fun hm => ⟨_, heff.trans (congrArg _ (tableClearEffect_refuses hm s0 n r.tag)), hvoid 0x0204 1⟩⟩

end Sys2Proof.Proofs
end

section
/-!
SUPPORT. A GROUP_MOVE at its effective cycle, by its members' states (R155, R179, R184), and an injection that starts or is marked to
end in the due cycle of its axis (R433, R434, R436).
-/
namespace Sys2Proof.Proofs
open Sys2Proof Sys2Proof.Machine Sys2Proof.Laws

/-! ### Group moves (R179, R184) -/

/-- The members of the group are as many as the command names targets for, and each can take a move (R155); one that the map no longer
holds cannot (log entry 37). -/
def GroupAble (s : State) (r : Req) : Prop :=
  (s.groupMembers (tNum r.target.toNat)).length = byteAt r.payload 1 ∧ ∀ n ∈ s.groupMembers (tNum r.target.toNat),
    ∃ x, s.axis? n = some x ∧ (x.st = .hold ∨ x.st = .run ∨ x.st = .coast ∨ x.st = .stopRamp)

/-- The move that the command brings its group. -/
def groupMoveOf (s : State) (r : Req) : GroupMove :=
  { targets := groupTargets (s.groupMembers (tNum r.target.toNat)) r, eff := s.clock.cycle, tag := r.tag }

theorem groupMove_effect {s : State} {a : Accepted} {rest : List Accepted} {r : Req} (h : TakesNext s a rest r r.opcode)
    (hop : r.opcode = 0x0205) : exec (.groupMove .effect r) s = .next ((withPlaces s rest).groupMoveEffect r) := by
  refine congrArg _ ((opRow_next h hop rfl).trans ?_)
  simp only [State.effectOp, hop]

section
variable {s : State} {r : Req}

/-- The check of one member. -/
def memberTakes (s : State) (n : Nat) : Bool :=
  match s.axis? n with
  | some a => a.st == .hold || a.st == .run || a.st == .coast || a.st == .stopRamp
  | none => false

theorem memberTakes_iff (s : State) (n : Nat) : memberTakes s n = true ↔
    ∃ x, s.axis? n = some x ∧ (x.st = .hold ∨ x.st = .run ∨ x.st = .coast ∨ x.st = .stopRamp) := by
  unfold memberTakes
  cases s.axis? n with
  | none => simp
  | some x => simp [or_assoc]

/-- The check of the whole group. -/
theorem groupAble_iff (s : State) (r : Req) : ((s.groupMembers (tNum r.target.toNat)).length == byteAt r.payload 1 &&
    (s.groupMembers (tNum r.target.toNat)).all (memberTakes s)) = true ↔ GroupAble s r := by
  simp only [Bool.and_eq_true, beq_iff_eq, List.all_eq_true, memberTakes_iff, GroupAble]

/-- A move that a member cannot take is void (R155). -/
theorem groupMoveEffect_void (h : ¬GroupAble s r) : s.groupMoveEffect r = s.profileVoid 0xFF r.tag 0x0205 1 := by
  have hbad := Bool.eq_false_iff.mpr (mt (groupAble_iff s r).mp h)
  exact if_pos (congrArg (!·) hbad)

section
variable (h : GroupAble s r)
include h

theorem groupAble_check : ¬(!((s.groupMembers (tNum r.target.toNat)).length == byteAt r.payload 1 &&
    (s.groupMembers (tNum r.target.toNat)).all (memberTakes s))) = true := by
  rw [(groupAble_iff s r).mpr h]
  decide

/-- A move that does not abort joins those that wait. -/
theorem groupMoveEffect_waits (hab : bit (byteAt r.payload 0) 0 = false) : s.groupMoveEffect r =
    { s with groups := modAt s.groups (tNum r.target.toNat) (fun x => { x with waiting := x.waiting ++ [groupMoveOf s r] }) } :=
  (if_neg (groupAble_check h)).trans (if_neg (by simp [hab]))

/-- An aborting move waits alone; where none runs it stops none. -/
theorem groupMoveEffect_aborts (hab : bit (byteAt r.payload 0) 0 = true)
    (hrun : ∀ x, s.groups[tNum r.target.toNat]? = some x → x.run = none) : s.groupMoveEffect r =
    { s with groups := modAt s.groups (tNum r.target.toNat) (fun x => { x with waiting := [groupMoveOf s r] }) } := by
  have hnone : ((modAt s.groups (tNum r.target.toNat) (fun x => { x with waiting := [groupMoveOf s r] }))[tNum r.target.toNat]?).bind
      (·.run) = none := by
    rw [modAt_getElem?, if_pos rfl, Option.bind_map]
    exact Option.bind_eq_none_iff.mpr hrun
  refine (if_neg (groupAble_check h)).trans ((if_pos hab).trans ?_)
  unfold groupMoveOf at hnone ⊢
  simp only [hnone]

end

end

/-! ### Injections (R433, R434, R436) -/

section
variable {s : State} {n : Nat} {x : Axis} (hx : s.axis? n = some x)
include hx

/-- An axis in HOLD or RUN that has no injection gets one, which has not begun. -/
theorem injStart_gives (hst : x.st = .hold ∨ x.st = .run) (hi : x.inj = none) : ∃ j : Inj,
    s.injStart n = s.updAxis n (fun y => { y with inj := some j }) ∧ j.started = false ∧ j.stop = false ∧ j.n = 0 := by
  have hbind : (s.axis? n).bind (·.inj) = none := by rw [hx]; exact hi
  unfold State.injStart
  simp only [hbind]
  simp only [hx, hi, hst, Option.isNone_none, and_self, if_true]
  exact ⟨_, rfl, rfl, rfl, rfl⟩

/-- The captured fields of an INJ_START are in force while the injection is formed, and no longer. -/
theorem axisEffect_injStart {r : Req} (cap : List (FieldKey × BitVec 64)) (hop : r.opcode = 0x0703) (hst : x.st = .hold ∨ x.st = .run)
    (hi : x.inj = none) : ∃ j : Inj,
    s.axisEffect r n cap = s.updAxis n (fun y => { y with inj := some j }) ∧ j.started = false ∧ j.stop = false ∧ j.n = 0 := by
  obtain ⟨j, hj, hnew⟩ := injStart_gives
    (s := { s with cfg := { s.cfg with active := cap.foldl (fun l i => kvSet l i.1 i.2) s.cfg.active } }) hx hst hi
  refine ⟨j, ?_, hnew⟩
  simp only [State.axisEffect, hop, hj]
  rfl

end

theorem axisEffect_injStop {r : Req} (hop : r.opcode = 0x0704) (s : State) (n : Nat) (cap : List (FieldKey × BitVec 64)) :
    s.axisEffect r n cap = s.injStopEffect n := by
  simp only [State.axisEffect, hop]

/-- The injection of the one axis of a number is marked to end. -/
theorem injStopEffect_marks {s : State} {n : Nat} {x : Axis} {j : Inj} (hone : s.axes.filter (fun y => y.entry.axis == n) = [x])
    (hi : x.inj = some j) : s.injStopEffect n = s.updAxis n (fun y => { y with inj := some { j with stop := true } }) := by
  refine congrArg (fun l => ({ s with axes := l } : State)) (List.map_congr_left fun y hy => ?_)
  split
  case isFalse => rfl
  case isTrue hn =>
    have hyx : y ∈ s.axes.filter (fun y => y.entry.axis == n) := List.mem_filter.mpr ⟨hy, beq_iff_eq.mpr hn⟩
    rw [hone, List.mem_singleton] at hyx
    simp only [hyx, hi, Option.map_some]

end Sys2Proof.Proofs
end

section
/-!
PROOF. O36.
-/
namespace Sys2Proof.Proofs
open Sys2Proof Sys2Proof.Machine Sys2Proof.Laws

/-- Settles O36: the model's check of the members decides between a move that waits and one that is void; an injection is formed at,
and marked to end on, its due axis. -/
theorem groupMovesAndInjections : Obligations.GroupMovesAndInjections := by
  intro s a rest r h hc s0 g ms mv abort able groups
  refine ⟨fun hop => ?move, fun x hn hx hdue => ⟨fun hop hst hi => ?start, fun j hop hj hone => ?stop⟩⟩
  case move =>
    have heff := groupMove_effect h hop
    exact ⟨fun hm hab => heff.trans (congrArg _ (groupMoveEffect_waits (s := s0) hm hab)),
      fun hm hab hrun => heff.trans (congrArg _ (groupMoveEffect_aborts (s := s0) hm hab hrun)),
      fun hm => ⟨_, heff.trans (congrArg _ (groupMoveEffect_void (s := s0) hm)),
        profileVoid_recorded (s := s0) hc (by decide) r.tag 0x0205 1⟩⟩
  case start =>
    obtain ⟨j, hj, hnew⟩ := axisEffect_injStart (s := s0) hx (capturedFor s0 a r) hop hst hi
    exact ⟨j, (exec_axisRow_due h hn hx hdue hop rfl rfl).trans (congrArg _ hj), hnew⟩
  case stop =>
    exact (exec_axisRow_due h hn hx hdue hop rfl rfl).trans
      (congrArg _ ((axisEffect_injStop hop ..).trans (injStopEffect_marks (s := s0) hone hj)))

end Sys2Proof.Proofs
end

section
/-!
SUPPORT. The feedback channel of an axis: the shift of its position (R212), what INDEX_POLICY makes of a mismatch count that was reached
(R211), and the limits of the channel (R205, R207, R209, Table 5.10).
-/
namespace Sys2Proof.Proofs
open Sys2Proof Sys2Proof.Machine Sys2Proof.Laws

/-! ### What a shift leaves -/

/-- What a shift of another axis, or of an angle, leaves of an axis: its position, the shift that waits, its state. -/
def shiftMarks (a : Axis) : BitVec 48 × Option Int × AxisSt := (a.dec.pos, a.dec.deferred, a.st)

/-- `t` differs from `s` in the axes and in what a record changes alone, and axis `n` has the same marks. -/
structure KeepsShift (n : Nat) (s t : State) : Prop where
  frame : t = { s with axes := t.axes, events := t.events, host := t.host, tx := t.tx }
  marks : (t.axis? n).map shiftMarks = (s.axis? n).map shiftMarks

namespace KeepsShift
variable {n : Nat} {s t u : State}

theorem refl (s : State) : KeepsShift n s s := ⟨rfl, rfl⟩

theorem trans (h : KeepsShift n s t) (k : KeepsShift n t u) : KeepsShift n s u where
  frame := by rw [k.frame, h.frame]
  marks := k.marks.trans h.marks

/-- Steps that each keep the shift of an axis do so together. -/
theorem foldl {α : Type} {f : State → α → State} (hf : ∀ s a, KeepsShift n s (f s a)) :
    ∀ (l : List α) (s : State), KeepsShift n s (l.foldl f s)
  | [], s => refl s
  | a :: l, s => (hf s a).trans (foldl hf l (f s a))

/-- A change of any decoder that leaves its position and the shift that waits. -/
theorem updDec {m : Nat} {f : Decoder → Decoder} (hpos : ∀ d, (f d).pos = d.pos) (hdef : ∀ d, (f d).deferred = d.deferred) :
    KeepsShift n s (s.updDec m f) where
  frame := rfl
  marks := by
    have hstep : ∀ a : Axis, shiftMarks { a with dec := f a.dec } = shiftMarks a := fun a => by
      simp only [shiftMarks, hpos, hdef]
    by_cases h : n = m
    · subst h
      rw [updDec_eq, axis?_updAxis s n (f := fun a => { a with dec := f a.dec }) fun _ => rfl, Option.map_map]
      exact congrArg (Option.map · _) (funext hstep)
    · rw [updDec_eq, axis?_updAxis_ne s h (f := fun a => { a with dec := f a.dec }) fun _ => rfl]

theorem record (r : EvRec) : KeepsShift n s (s.record r) := by
  obtain ⟨ev, st, tx, h, -⟩ := record_eq s r
  rw [h]
  exact ⟨rfl, rfl⟩

end KeepsShift

/-- `t` is `s` with axis `n`, found there as `a`, shifted by `delta` counts and no shift waiting (R212). -/
def Shifted (s t : State) (n : Nat) (a : Axis) (delta : Int) : Prop :=
  (t.axis? n).map (·.dec.pos) = some (a.dec.pos + BitVec.ofInt 48 (delta * 65536)) ∧
  (t.axis? n).map (·.dec.deferred) = some none ∧ (t.axis? n).map (·.st) = some a.st ∧ t.clock = s.clock ∧ t.faults = s.faults ∧
  t.cfg = s.cfg

section
variable {s : State} {n : Nat} {a : Axis} {delta : Int}

theorem axis?_updDec (ha : s.axis? n = some a) (f : Decoder → Decoder) : (s.updDec n f).axis? n = some { a with dec := f a.dec } := by
  rw [updDec_eq, axis?_updAxis s n (f := fun a => { a with dec := f a.dec }) fun _ => rfl, ha]
  rfl

/-- The axis is shifted first; the angles that follow it and the record leave what the shift made. -/
theorem applyShift_stages (ha : s.axis? n = some a) (delta : Int) :
    KeepsShift n (s.updDec n (fun d => { d.shift delta with deferred := none })) (s.applyShift n delta) := by
  simp only [State.applyShift, ha]
  refine .trans ?_ (.record _)
  exact .foldl (fun _ _ => .updDec (fun _ => by rfl) fun _ => by rfl) _ _

theorem applyShift_shifted (ha : s.axis? n = some a) (delta : Int) : Shifted s (s.applyShift n delta) n a delta := by
  obtain ⟨hframe, hmarks⟩ := applyShift_stages ha delta
  rw [axis?_updDec ha] at hmarks
  obtain ⟨b, hb, hba⟩ := Option.map_eq_some_iff.mp hmarks
  obtain ⟨hpos, hdef, hst⟩ : b.dec.pos = a.dec.pos + BitVec.ofInt 48 (delta * 65536) ∧ b.dec.deferred = none ∧ b.st = a.st := by
    simpa only [shiftMarks, Decoder.shift, Prod.mk.injEq] using hba
  rw [Shifted, hb]
  exact ⟨congrArg some hpos, congrArg some hdef, congrArg some hst, by rw [hframe]; rfl, by rw [hframe]; rfl, by rw [hframe]; rfl⟩

/-! ### The policy and the deferred shift (R211, R212) -/

/-- A change of a decoder leaves the fields of Table 5.9. -/
theorem updDec_fb (s : State) (n m row : Nat) (f : Decoder → Decoder) : (s.updDec n f).fb m row = s.fb m row := rfl

theorem indexPolicyAction_idle (ha : s.axis? n = some a) (hd : a.dec.policyDue = none) : exec (.indexPolicyAction n) s = .next s := by
  change execIndexPolicyAction n s = _
  simp only [execIndexPolicyAction, ha, hd]

/-- `s` with the mismatch count of axis `n` acted upon. -/
def policyTaken (s : State) (n : Nat) : State := s.updDec n (fun d => { d with policyDue := none })

theorem indexPolicyAction_records (ha : s.axis? n = some a) (hd : a.dec.policyDue = some delta) (hp : s.fb n 21 = 0) :
    exec (.indexPolicyAction n) s = .next (policyTaken s n) := by
  change execIndexPolicyAction n s = _
  simp only [execIndexPolicyAction, ha, hd, updDec_fb, hp, policyTaken]

theorem indexPolicyAction_realigns (ha : s.axis? n = some a) (hd : a.dec.policyDue = some delta) (hp : s.fb n 21 = 1) :
    exec (.indexPolicyAction n) s = .next (if a.st.computes then (policyTaken s n).updDec n (fun d => { d with deferred := some delta })
      else (policyTaken s n).applyShift n delta) := by
  change execIndexPolicyAction n s = _
  simp only [execIndexPolicyAction, ha, hd, updDec_fb, hp, policyTaken]

theorem indexPolicyAction_faults (ha : s.axis? n = some a) (hd : a.dec.policyDue = some delta) (hp : s.fb n 21 = 2) :
    exec (.indexPolicyAction n) s = .next ((policyTaken s n).computed (mkFault 0x1C3 (locAxis n))) := by
  change execIndexPolicyAction n s = _
  simp only [execIndexPolicyAction, ha, hd, updDec_fb, hp, policyTaken]

/-- Two changes of a decoder are one. -/
theorem updDec_updDec (f g : Decoder → Decoder) : (s.updDec n f).updDec n g = s.updDec n (fun d => g (f d)) := by
  refine congrArg (fun l => ({ s with axes := l } : State)) (List.map_map.trans (List.map_congr_left fun x _ => ?_))
  by_cases h : x.entry.axis = n <;> simp [h]

/-- The decoder has the shift waiting as the policy left it. -/
theorem policy_defers (ha : s.axis? n = some a) (hd : a.dec.policyDue = some delta) (hp : s.fb n 21 = 1) (hst : a.st.computes = true) :
    exec (.indexPolicyAction n) s = .next (s.updDec n (fun d => { d with policyDue := none, deferred := some delta })) := by
  rw [indexPolicyAction_realigns ha hd hp, if_pos hst]
  exact congrArg _ (updDec_updDec _ _)

theorem policy_shifts (ha : s.axis? n = some a) (hd : a.dec.policyDue = some delta) (hp : s.fb n 21 = 1) (hst : a.st.computes = false) :
    ∃ t, exec (.indexPolicyAction n) s = .next t ∧ Shifted s t n a delta := by
  rw [indexPolicyAction_realigns ha hd hp, hst]
  exact ⟨_, rfl, applyShift_shifted (axis?_updDec ha _) delta⟩

/-- The feedback-index F2 is noted, and the axis is FAULTED in the same cycle (R62). -/
theorem policy_faults (ha : s.axis? n = some a) (hd : a.dec.policyDue = some delta) (hp : s.fb n 21 = 2)
    (hactive : s.isActive 0x1C3 (locAxis n) = false) (hc : s.faults.computed = []) (hoff : a.st ≠ .off) :
    ∃ t, exec (.indexPolicyAction n) s = .next t ∧ (t.axis? n).map (·.st) = some .faulted ∧
      t.faults = (withComputed s { code := 0x1C3, cls := .f2, loc := locAxis n }).faults := by
  have hnoted : (policyTaken s n).computed (mkFault 0x1C3 (locAxis n)) =
      (withComputed (policyTaken s n) (mkFault 0x1C3 (locAxis n))).faultAxis n := computed_f2 hactive hc rfl rfl
  have ha' : (withComputed (policyTaken s n) (mkFault 0x1C3 (locAxis n))).axis? n =
      some { a with dec := { a.dec with policyDue := none } } := axis?_updDec ha fun d => { d with policyDue := none }
  obtain ⟨hfault, hstate⟩ := faultAxis_spec ha'
  exact ⟨_, (indexPolicyAction_faults ha hd hp).trans (congrArg _ hnoted), hstate hoff, hfault.faults⟩

theorem realignShiftApply_waits (ha : s.axis? n = some a) (h : a.dec.deferred = none ∨ a.st.computes = true ∨ s.due a = false) :
    exec (.realignShiftApply n) s = .next s := by
  change execRealignShiftApply n s = _
  simp only [execRealignShiftApply, ha]
  cases hd : a.dec.deferred with
  | none => rfl
  | some delta =>
    obtain h | h | h := h
    · simp [hd] at h
    · simp [h]
    · simp [h]

theorem realignShiftApply_shifts (ha : s.axis? n = some a) (hd : a.dec.deferred = some delta) (hst : a.st.computes = false)
    (hdue : s.due a = true) : ∃ t, exec (.realignShiftApply n) s = .next t ∧ Shifted s t n a delta := by
  have hexec : exec (.realignShiftApply n) s = .next (s.applyShift n delta) := by
    change execRealignShiftApply n s = _
    simp [execRealignShiftApply, ha, hd, hst, hdue]
  exact ⟨_, hexec, applyShift_shifted ha delta⟩

/-! ### Limits (R205, R207, R209, Table 5.10) -/

theorem exec_feedbackSignalLimit (ha : s.axis? n = some a) : exec (.feedbackSignalLimit n) s =
    .next (if s.fb n 15 ≤ max a.dec.ampCount a.dec.lossCount then s.computed (mkFault 0x1C0 (locAxis n)) else s) := by
  change execFeedbackSignalLimit n s = _
  simp only [execFeedbackSignalLimit, ha]

theorem exec_feedbackSensorLimit (ha : s.axis? n = some a) : exec (.feedbackSensorLimit n) s =
    .next (if s.fb n 15 ≤ a.dec.sensCount then s.computed (mkFault 0x1C4 (locAxis n)) else s) := by
  change execFeedbackSensorLimit n s = _
  simp only [execFeedbackSensorLimit, ha]

theorem exec_feedbackSerialLimit (ha : s.axis? n = some a) : exec (.feedbackSerialLimit n) s =
    .next (if s.fb n 12 ≤ a.dec.serCount then
      (s.computed (mkFault 0x1C2 (locAxis n))).updDec n (fun d => { d with refNeeded := d.refNeeded.or (some 4) }) else s) := by
  change execFeedbackSerialLimit n s = _
  simp only [execFeedbackSerialLimit, ha]

theorem exec_feedbackTransitionLimit (ha : s.axis? n = some a) : exec (.feedbackTransitionLimit n) s =
    .next (if s.fb n 16 ≤ a.dec.illCount ∧ a.dec.illRaised = false then
      (s.computed (mkFault 0x1C1 (locAxis n))).updDec n (fun d => { d with illRaised := true }) else s) := by
  change execFeedbackTransitionLimit n s = _
  simp only [execFeedbackTransitionLimit, ha, Bool.not_eq_true']

/-- An F1 of a feedback channel that is the first of its axis is noted, and nothing else changes. -/
theorem computed_feedbackF1 {code : Nat} (hr : mkFault code (locAxis n) = { code := code, cls := .f1, loc := locAxis n })
    (hactive : s.isActive code (locAxis n) = false) (ht : s.faults.timers = []) (hc : s.faults.computed = []) :
    s.computed (mkFault code (locAxis n)) = withComputed s { code := code, cls := .f1, loc := locAxis n } := by
  rw [hr]
  exact computed_f1 hactive hc ht rfl rfl

end
end Sys2Proof.Proofs
end

section
/-!
SUPPORT. Edges on the receivers of a local channel (R193 to R195, R204, R219), and the record that the channel latches at its sampling
instant (R220).
-/
namespace Sys2Proof.Proofs
open Sys2Proof Sys2Proof.Machine Sys2Proof.Laws

/-! ### An edge on a channel -/

section
variable {c : LocalChan} {lv : Bool} (map : Nat) (gate : Option Nat) (k : Nat)

/-- The sense of a step as the counter adds it. -/
theorem ofInt_sense (lead : Bool) : BitVec.ofInt 16 (if lead then 1 else -1) = if lead then 1 else -1 := by
  cases lead <;> rfl

theorem edge_a_same (mode : Nat) : c.edge mode map gate (.a c.a) k = c := if_pos rfl

theorem edge_b_same (mode : Nat) : c.edge mode map gate (.b c.b) k = c := if_pos rfl

theorem edge_z_same (mode : Nat) : c.edge mode map gate (.z c.z) k = c := if_pos rfl

/-- In quadrature mode an edge of A leads where it takes A away from the level of B (R193). -/
theorem edge_a_quadrature (h : lv ≠ c.a) : c.edge 1 map gate (.a lv) k =
    ({ c with a := lv } : LocalChan).transition (if lv != c.b then 1 else -1) k := if_neg h

/-- An edge of B leads where it takes B to the level of A (R193). -/
theorem edge_b_quadrature (h : lv ≠ c.b) : c.edge 1 map gate (.b lv) k =
    ({ c with b := lv } : LocalChan).transition (if lv == c.a then 1 else -1) k := if_neg h

/-- A rising index edge latches the counter where no gate is set (R195). -/
theorem edge_z_index (h : c.z = false) : c.edge 1 map none (.z true) k =
    { c with z := true, latch := c.count, seen := true, multi := c.seen } := by
  simp [LocalChan.edge, h]

theorem transition_first (h : c.prev = none) (change : Int) : c.transition change k =
    { c with count := c.count + BitVec.ofInt 16 change, prev := some (k, change, c.edgeAt), edgeAt := k / 10 } := by
  simp only [LocalChan.transition, h]

/-- A second transition in the filter sample of a counted one takes it back and is illegal (R204). -/
theorem transition_illegal {counted : Int} {e : Nat} (h : c.prev = some (k, counted, e)) (hne : counted ≠ 0) (change : Int) :
    c.transition change k =
      { c with count := c.count - BitVec.ofInt 16 counted, edgeAt := e, ill := c.ill + 1, illegal := true, prev := some (k, 0, e) } := by
  simp [LocalChan.transition, h, hne]

/-! ### No edge changes the latched record -/

theorem transition_latched (c : LocalChan) (change : Int) (k : Nat) : (c.transition change k).latched = c.latched := by
  unfold LocalChan.transition
  split
  · split <;> rfl
  · rfl

theorem hallStep_latched (c : LocalChan) (map k : Nat) : (c.hallStep map k).latched = c.latched := by
  unfold LocalChan.hallStep
  split
  · rfl
  dsimp only
  split
  · rfl
  split
  · rfl
  split <;> rfl

theorem edge_latched (c : LocalChan) (mode map : Nat) (gate : Option Nat) (e : LocalEdge) (k : Nat) :
    (c.edge mode map gate e k).latched = c.latched := by
  cases e with
  | a lv | b lv =>
    simp only [LocalChan.edge]
    split
    · rfl
    split
    · exact transition_latched _ _ _
    split
    · exact hallStep_latched _ _ _
    · rfl
  | z lv =>
    simp only [LocalChan.edge]
    split
    · rfl
    split
    · exact hallStep_latched _ _ _
    · exact (apply_ite LocalChan.latched _ _ _).trans (ite_self _)
  | lost lv => rfl

end

/-! ### The channel in the chip -/

/-- INDEX_GATE of the axis that uses a channel; none without an axis, and for NONE. -/
def indexGate (s : State) (ch : Nat) : Option Nat :=
  (s.localUser ch).bind (fun a => (s.fldO (tgtAxis a.entry.axis) 0x0509 18 0).map Int.toNat)

/-- A channel takes an edge. -/
def takesEdge (s : State) (ch : Nat) (e : LocalEdge) (k : Nat) : State :=
  s.updLocal ch (fun c => c.edge (s.lcMode ch) (s.hallMap ch) (indexGate s ch) e k)

theorem exec_localFeedbackEdge (s : State) (ch : Nat) (e : LocalEdge) (k : Nat) : exec (.localFeedbackEdge ch e k) s =
    .next (takesEdge (if s.lcInstant ch * 10 ≤ k then s.latchLocal ch else s) ch e k) := by
  change execLocalFeedbackEdge ch e k s = _
  unfold execLocalFeedbackEdge takesEdge indexGate
  extract_lets u gate
  have hgate : gate = (u.localUser ch).bind (fun a => (u.fldO (tgtAxis a.entry.axis) 0x0509 18 0).map Int.toNat) := by
    unfold gate
    cases u.localUser ch <;> rfl
  rw [hgate]

section
variable {s : State} {ch k : Nat} {c : LocalChan}

theorem updLocal_setAt (hc : s.locals[ch]? = some c) (f : LocalChan → LocalChan) :
    s.updLocal ch f = { s with locals := setAt s.locals ch (f c) } := by
  rw [State.updLocal, setAt, modAt_eq_set f hc, modAt_eq_set _ hc]

/-- Before the sampling instant an edge changes its own channel alone. -/
theorem localFeedbackEdge_before (hc : s.locals[ch]? = some c) (hk : k < s.lcInstant ch * 10) (e : LocalEdge) :
    exec (.localFeedbackEdge ch e k) s =
      .next { s with locals := setAt s.locals ch (c.edge (s.lcMode ch) (s.hallMap ch) (indexGate s ch) e k) } := by
  rw [exec_localFeedbackEdge, if_neg (by omega), takesEdge, updLocal_setAt hc]

/-- A channel that has latched no record yet latches that of this cycle (R220). -/
theorem latchLocal_first (hc : s.locals[ch]? = some c) (hl : c.latched = none) : ∃ c1 : LocalChan,
    s.latchLocal ch = { s with locals := setAt s.locals ch c1 } ∧
    c1.latched = some (s.clock.cycle, localRecord (s.lcMode ch) (s.lcInstant ch) (s.hallMap ch) c) := by
  simp only [State.latchLocal, hc, hl, Bool.false_eq_true, if_false]
  rw [updLocal_setAt hc]
  exact ⟨_, rfl, (apply_ite LocalChan.latched _ _ _).trans (ite_self _)⟩

/-- An edge at or after the sampling instant finds the record latched, and leaves it. -/
theorem localFeedbackEdge_after (hc : s.locals[ch]? = some c) (hk : s.lcInstant ch * 10 ≤ k) (hl : c.latched = none) (e : LocalEdge) :
    ∃ t c', exec (.localFeedbackEdge ch e k) s = .next t ∧ t.locals[ch]? = some c' ∧
      c'.latched = some (s.clock.cycle, localRecord (s.lcMode ch) (s.lcInstant ch) (s.hallMap ch) c) ∧
      t = { s with locals := t.locals } ∧ ∀ m, m ≠ ch → t.locals[m]? = s.locals[m]? := by
  obtain ⟨c1, hlatch, hrecord⟩ := latchLocal_first hc hl
  have hc1 : (s.latchLocal ch).locals[ch]? = some c1 := by simp [hlatch, setAt_getElem?, hc]
  refine ⟨takesEdge (s.latchLocal ch) ch e k, _, by rw [exec_localFeedbackEdge, if_pos hk], modAt_getElem?_self _ hc1,
    (edge_latched ..).trans hrecord, ?_, fun m hm => ?_⟩
  · rw [takesEdge, State.updLocal, hlatch]
  · refine (modAt_getElem?_ne _ hm).trans ?_
    simp [hlatch, setAt_getElem?, hm]

end
end Sys2Proof.Proofs
end

section
/-!
PROOF. O48.
-/
namespace Sys2Proof.Proofs
open Sys2Proof Sys2Proof.Machine Sys2Proof.Laws

/-- Settles O48: each row reads the one axis or channel it names; a shift, a noted fault and an edge each have their own rule. -/
theorem feedbackChannelsLimitsAndShifts : Obligations.FeedbackChannelsLimitsAndShifts := by
  refine ⟨fun s n a ha => ?axis, fun s ch k c lv hc => ?channel⟩
  case axis =>
    intro shifted found calm
    have hf1 {code : Nat} (hr : mkFault code (locAxis n) = { code := code, cls := .f1, loc := locAxis n }) (h : calm code) :
        s.computed (mkFault code (locAxis n)) = found code .f1 := by
      obtain ⟨hactive, ht, hc⟩ := h
      exact computed_feedbackF1 hr hactive ht hc
    refine ⟨indexPolicyAction_idle ha, fun delta hd => ⟨indexPolicyAction_records ha hd, policy_defers ha hd, policy_shifts ha hd,
      fun hp h hoff _ => ?index⟩, realignShiftApply_waits ha, fun delta => realignShiftApply_shifts ha, fun hlim h => ?signal,
      fun hlim => ?noSignal, fun hlim h => ?sensor, fun hlim => ?noSensor, fun hlim h => ?serial, fun hlim => ?noSerial,
      fun hlim hraised h => ?transition, fun hno => ?noTransition⟩
    case index =>
      obtain ⟨hactive, -, hc⟩ := h
      exact policy_faults ha hd hp hactive hc hoff
    case signal => rw [exec_feedbackSignalLimit ha, if_pos hlim, hf1 rfl h]
    case noSignal => rw [exec_feedbackSignalLimit ha, if_neg (by omega)]
    case sensor => rw [exec_feedbackSensorLimit ha, if_pos hlim, hf1 rfl h]
    case noSensor => rw [exec_feedbackSensorLimit ha, if_neg (by omega)]
    case serial => rw [exec_feedbackSerialLimit ha, if_pos hlim, hf1 rfl h]
    case noSerial => rw [exec_feedbackSerialLimit ha, if_neg (by omega)]
    case transition => rw [exec_feedbackTransitionLimit ha, if_pos ⟨hlim, hraised⟩, hf1 rfl h]
    case noTransition =>
      rw [exec_feedbackTransitionLimit ha, if_neg]
      rintro ⟨hlim, hraised⟩
      obtain h | h := hno
      · omega
      · simp [h] at hraised
  case channel =>
    intro upd step
    refine ⟨fun hk => ?before, fun hk hl => localFeedbackEdge_after hc hk hl⟩
    have hupd {e : LocalEdge} {c' : LocalChan} (h : c.edge (s.lcMode ch) (s.hallMap ch) (indexGate s ch) e k = c') : upd e c' :=
      h ▸ localFeedbackEdge_before hc hk e
    refine ⟨fun b => hupd rfl, hupd (edge_a_same ..), hupd (edge_b_same ..), hupd (edge_z_same ..),
      fun hm hp hne => ⟨if lv != c.b then 1 else -1, hupd ?edgeA⟩,
      fun hm hp hne => ⟨if lv == c.a then 1 else -1, hupd ?edgeB⟩, fun hm hp hne => hupd ?illegal, fun hm hu hz => hupd ?index⟩
    case edgeA => rw [hm, edge_a_quadrature _ _ _ hne, transition_first (c := { c with a := lv }) k hp, ofInt_sense]
    case edgeB => rw [hm, edge_b_quadrature _ _ _ hne, transition_first (c := { c with b := lv }) k hp, ofInt_sense]
    case illegal => rw [hm, edge_b_quadrature _ _ _ hne, transition_illegal (c := { c with b := lv }) k hp one_ne_zero]; rfl
    case index =>
      have hgate : indexGate s ch = none := by rw [indexGate, hu]; rfl
      rw [hm, hgate, edge_z_index _ _ hz]

end Sys2Proof.Proofs
end

section
/-!
SUPPORT. A local command from its mailbox to its answer (R541, R546, R563): the checks it passes, what it answers, and what every local
command that is no read does.
-/
namespace Sys2Proof.Proofs
open Sys2Proof Sys2Proof.Machine Sys2Proof.Laws

/-! ### The answer in the mailbox (R546) -/

/-- A mailbox that has taken a command is BUSY (R541). -/
def took (b : Mailbox) : Mailbox := { b with st := .busy, rsp := patch b.rsp 2 [0xFF] }

/-- Mailbox `n` has taken a command. -/
def taken (s : State) (n : Nat) : State :=
  { s with host := { s.host with boxes := modAt s.host.boxes n took } }

/-- The header of a response (Table 14.10). -/
def responseHead (r : Req) (v : Verdict) (eff : Nat) : List Byte :=
  toLe 2 r.opcode ++ [BitVec.ofNat 8 v.status, 0] ++ toLe 4 r.tag.toNat ++ toLe 2 v.rsp.length ++ toLe 2 v.aux ++ toLe 4 eff

theorem responseHead_length (r : Req) (v : Verdict) (eff : Nat) : (responseHead r v eff).length = 16 := by simp [responseHead]

/-- A response is its header, its payload, and what the area held behind them. -/
theorem responseBytes_eq (old : List Byte) (r : Req) (v : Verdict) (eff : Nat) :
    ∃ tail, responseBytes old r v eff = responseHead r v eff ++ (v.rsp ++ tail) := by
  have hpatch (bs : List Byte) (k : Nat) (w : List Byte) : patch bs k w = padTo k bs ++ (w ++ bs.drop (k + w.length)) := List.append_assoc ..
  have hhead (rest : List Byte) : padTo 16 (responseHead r v eff ++ rest) = responseHead r v eff := by
    rw [padTo, List.take_left' (responseHead_length r v eff), List.length_append, responseHead_length]
    simp
  have hnone : padTo 0 old = [] := by simp [padTo]
  refine ⟨(responseHead r v eff ++ old.drop (0 + (responseHead r v eff).length)).drop (16 + v.rsp.length), ?_⟩
  rw [responseBytes, ← responseHead, hpatch, hpatch old, hnone, List.nil_append, hhead]

/-- The fields of a response. -/
theorem responseBytes_fields (old : List Byte) {r : Req} {v : Verdict} {eff : Nat} (hop : r.opcode < 65536) (hst : v.status < 256)
    (hlen : v.rsp.length < 65536) {b : List Byte} (hb : b = responseBytes old r v eff) :
    le b 0 2 = r.opcode ∧ byteAt b 2 = v.status ∧ le b 4 4 = r.tag.toNat ∧ le b 8 2 = v.rsp.length ∧
      (b.drop 16).take v.rsp.length = v.rsp := by
  obtain ⟨tail, h⟩ := responseBytes_eq old r v eff
  have hle {k n x : Nat} {pre post : List Byte} (hpre : pre.length = k) (hx : x < 256 ^ n) :
      le (pre ++ (toLe n x ++ post)) k n = x := by
    rw [le, List.drop_left' hpre, List.take_left' (toLe_length n x), leNat_toLe, Nat.mod_eq_of_lt hx]
  rw [hb, h]
  refine ⟨?op, ?status, ?tag, ?len, ?rsp⟩
  case rsp => rw [List.drop_left' (responseHead_length r v eff), List.take_left' rfl]
  all_goals simp only [responseHead, List.append_assoc]
  case op => exact hle (pre := []) rfl hop
  case status =>
    simp [byteAt, toLe, Nat.mod_eq_of_lt hst]
  case tag => simpa using hle (pre := toLe 2 r.opcode ++ [BitVec.ofNat 8 v.status, 0]) (k := 4) (by simp) r.tag.isLt
  case len =>
    simpa using hle (pre := toLe 2 r.opcode ++ [BitVec.ofNat 8 v.status, 0] ++ toLe 4 r.tag.toNat) (k := 8) (n := 2) (by simp) hlen

/-- A response in the mailbox that took the command is its answer, with the interrupt cause 0 (R546). -/
theorem respond_answers {s u : State} {n : Nat} {r : Req} {v : Verdict} {b : Mailbox} (hb : s.host.boxes[n]? = some b)
    (hu : u.host = (taken s n).host) (hr : r.origin = .mailbox n) (hop : r.opcode < 65536) (hst : v.status < 256)
    (hlen : v.rsp.length < 65536) : ∃ boxes tx, u.respond r v 0 =
      { u with host := { s.host with boxes := boxes, irqStatus := s.host.irqStatus ||| 1 }, tx := tx } ∧
      (tx = u.tx ∨ tx = u.tx ++ [.msix 0]) ∧ Answer s (u.respond r v 0) n r r.opcode v.status v.rsp := by
  let done (b : Mailbox) : Mailbox := { b with st := .done, rsp := responseBytes b.rsp r v 0 }
  let t : State := { u with host := { u.host with boxes := modAt u.host.boxes n done } }
  have hrespond : u.respond r v 0 = t.irq 0 := by simp [State.respond, Req.box, hr, t, done]
  obtain ⟨tx, hirq, htx⟩ := irq_eq t 0
  have hboxes (m : Nat) : (modAt u.host.boxes n done)[m]? =
      if m = n then (s.host.boxes[m]?).map (fun b => done (took b)) else s.host.boxes[m]? := by
    rw [hu, taken, modAt_getElem?, modAt_getElem?]
    split
    · rw [Option.map_map]; rfl
    · rfl
  rw [hrespond, hirq]
  refine ⟨modAt u.host.boxes n done, tx, ?_, htx, ⟨done (took b), ?_, rfl, responseBytes_fields (took b).rsp hop hst hlen rfl⟩, ?_, fun m hm => ?_⟩
  · simp only [t, hu, taken]; rfl
  · exact (hboxes n).trans (by rw [if_pos rfl, hb]; rfl)
  · simp
  · exact (hboxes m).trans (if_neg hm)

/-! ### A command that the host submits (R541, R542) -/

section
variable {s : State} {n : Nat} {r : Req} (h : Submits s n r)
include h

/-- The mailbox takes the command, and the lane serves it. -/
theorem opRow_submits (op : Nat) : s.opRow op .service r = (taken s n).serve { r with opcode := op } := by
  obtain ⟨hon, -, -, -, horigin, -, -, b, hb, hst⟩ := h
  simp only [State.opRow, State.submit, horigin, hb, hon, hst]
  rfl

/-- The header of the command is well formed. -/
theorem laneCheck_submits {op : Nat} {i : OpInfo} (hi : opInfo op = some i) (hcls : i.cls = 3) (hf3 : s.faults.f3 = false) (hrd : i.rd = false) :
    (taken s n).laneCheck { r with opcode := op } =
      if op = 0x000C then some (refuse stDenied)
      else if !s.voting ∧ op ≠ 0x0503 ∧ !(s.alone && listed { r with opcode := op } i) then some (refuse stDenied)
      else if s.stopped ∧ op ≠ 0x0503 ∧ !listed { r with opcode := op } i then some (refuse stState)
      else none := by
  obtain ⟨-, himage, h2, hcls', horigin, hlen, hflags, -⟩ := h
  have hhead : ¬(240 < r.payload.length ∨ r.cls ≠ i.cls ∨ 2 ≤ r.flags.toNat ∨
      (({ r with opcode := op } : Req).box.any (fun n => decide (n < 2)) = true ∧ i.cls ≠ 0)) := by
    simp only [Req.box, horigin, Option.any_some, decide_eq_true_eq]
    omega
  have himage' : (taken s n).power.noImage = false := himage
  have hf3' : (taken s n).faults.f3 = false := hf3
  simp only [State.laneCheck, hi]
  rw [if_neg hhead]
  simp only [himage', hf3', hrd]
  rfl

/-- A local command that is no read passes the checks of a lane that votes or acts alone; LANE_REJOIN passes those of every lane (R564). -/
theorem laneCheck_local {op : Nat} (hi : opInfo op = some opLocal) (hf3 : s.faults.f3 = false)
    (hhere : (s.voting = true ∨ s.alone = true) ∨ op = 0x0503) : (taken s n).laneCheck { r with opcode := op } = none := by
  have hinject : op ≠ 0x000C := by rintro rfl; cases hi
  have hlisted : listed { r with opcode := op } opLocal = true := rfl
  rw [laneCheck_submits h hi rfl hf3 rfl, if_neg hinject, hlisted, if_neg, if_neg (by simp)]
  rintro ⟨hv, hop, hal⟩
  simp_all

/-- A local command is answered at once with what serving it gives. -/
theorem serve_local {c : Instr} {op : Nat} {v : Verdict} {u : State} (hc : exec c s = .next (s.opRow op .service r))
    (hi : opInfo op = some opLocal) (hop : op < 65536) (hf3 : s.faults.f3 = false)
    (hhere : (s.voting = true ∨ s.alone = true) ∨ op = 0x0503) (hs : (taken s n).serveLocal { r with opcode := op } = (v, u))
    (hu : u.host = (taken s n).host) (hst : v.status < 256) (hlen : v.rsp.length < 65536) :
    ∃ t, exec c s = .next t ∧ Answer s t n r op v.status v.rsp ∧ (t.tx = u.tx ∨ t.tx = u.tx ++ [.msix 0]) ∧
      t = { u with host := { s.host with boxes := t.host.boxes, irqStatus := s.host.irqStatus ||| 1 }, tx := t.tx } := by
  have hrow : s.opRow op .service r = u.respond { r with opcode := op } v 0 := by
    simp only [opRow_submits h, State.serve, laneCheck_local h hi hf3 hhere, hi, hs]
    rfl
  obtain ⟨-, -, -, -, horigin, -, -, b, hb, -⟩ := h
  obtain ⟨boxes, tx, heq, htx, hans⟩ := respond_answers (r := { r with opcode := op }) hb hu horigin hop hst hlen
  refine ⟨u.respond { r with opcode := op } v 0, ?_, hans, ?_, ?_⟩
  · rw [hc, hrow]
  · rw [heq]; exact htx
  · rw [heq]

/-- The same where nothing but the answer and what it sends tells the state after it from `t0`. -/
theorem serves_local {c : Instr} {op status : Nat} {rsp : List Byte} {v : Verdict} {t0 : State} {tx : List Tx}
    (hc : exec c s = .next (s.opRow op .service r)) (hi : opInfo op = some opLocal) (hop : op < 65536) (hf3 : s.faults.f3 = false)
    (hhere : (s.voting = true ∨ s.alone = true) ∨ op = 0x0503)
    (hs : (taken s n).serveLocal { r with opcode := op } = (v, { t0 with host := (taken s n).host, tx := tx }))
    (hst : v.status = status) (hrsp : v.rsp = rsp) (hst256 : status < 256) (hlen : rsp.length < 65536) :
    Serves c s n r op status rsp t0 := by
  subst hst hrsp
  obtain ⟨t, hexec, hans, -, ht⟩ := serve_local h hc hi hop hf3 hhere hs rfl hst256 hlen
  exact ⟨t, hexec, hans, ht⟩

/-- FAULT_INJECT is denied outside factory test mode (R519). -/
theorem serves_faultInject (hf3 : s.faults.f3 = false) : Serves (.faultInject .service r) s n r 0x000C 0xB [] s := by
  have hcheck := laneCheck_submits h (op := 0x000C) rfl rfl hf3 rfl
  have hhead : headerBad { r with opcode := 0x000C } = false := by
    obtain ⟨-, -, h2, hcls, horigin, hlen, hflags, -⟩ := h
    simp [headerBad, opInfo, opOrder, hcls, Req.box, horigin]
    omega
  have hrow : s.opRow 0x000C .service r = (taken s n).respond { r with opcode := 0x000C } (refuse stDenied) 0 := by
    rw [opRow_submits h, State.serve, hcheck, if_pos rfl]
    simp only [hhead]
    rfl
  obtain ⟨-, -, -, -, horigin, -, -, b, hb, -⟩ := h
  obtain ⟨boxes, tx, heq, -, hans⟩ := respond_answers (r := { r with opcode := 0x000C }) (v := refuse stDenied) hb rfl horigin
    (show (0x000C : Nat) < 65536 by decide) (by decide) (by decide)
  exact ⟨_, congrArg Host.Outcome.next hrow, hans, by rw [heq]; rfl⟩

end

/-! ### What each local command does (Tables 15.5, 15.10, 15.11, 15.13, 15.14) -/

section
variable {s : State} {r : Req}

theorem clusterStart_stopped (ht : r.target.toNat = 0xFFFF) (hp : r.payload = []) (hs : s.stopped = true) (hw : s.power.steward = true) :
    clusterStart s r = ({}, { s with
      net := { s.net with st := .listen, listenCount := 0, cands := [], foreign := 0, spareWokenThisStart := false }
      lanes := { s.lanes with role := if s.lanes.role = .voting then .unassigned else s.lanes.role, vset := [], voice := none } }) := by
  simp [clusterStart, plainReq, isNoneT, ht, hp, hs, hw, State.startCluster]

theorem clusterStart_running (ht : r.target.toNat = 0xFFFF) (hp : r.payload = []) (hs : s.stopped = false) :
    clusterStart s r = (refuse stState, s) := by
  simp [clusterStart, plainReq, isNoneT, ht, hp, hs]

theorem laneRejoin_couched (ht : r.target.toNat = 0xFFFF) (hp : r.payload = []) (hr : s.lanes.role = .removed ∨ s.lanes.role = .isolated)
    (hc : s.lanes.couch.active = false) : ∃ tx, laneRejoin s r = ({ status := stAccepted }, { s with
      lanes := { s.lanes with role := .joining, couch := { active := true, source := s.couchSource, joiner := some s.lane, tried := [] } }
      tx := tx }) := by
  have hrole : (s.lanes.role != .removed && s.lanes.role != .isolated) = false := by obtain h | h := hr <;> simp [h]
  refine ⟨(s.beginCouch s.couchSource []).tx, ?_⟩
  simp only [laneRejoin, plainReq, isNoneT, ht, hp, hrole, hc]
  rfl

/-- A frame that comes whole in one command is sent (R585). -/
theorem ethSend_whole {p : List Byte} (ht : r.target.toNat = 0xFFFF) (hpay : r.payload = p) (hlen : 64 ≤ p.length)
    (hl : p.length = 4 + le p 0 2) (ho : le p 2 2 = 0) (h240 : p.length ≤ 240) (htx : s.time.ethTx = []) (htl : s.time.ethTxLen = none)
    (hb : s.time.ethBusy = false) (hptp : ¬(p.getD 16 0 = 0x88 ∧ p.getD 17 0 = 0xF7)) (hen : s.tf 0 0 = 1) (hup : s.time.linkUp = true) :
    ∃ d, ethSend s r = ({}, { s with time := { s.time with ethTx := d, ethTxLen := some (le p 0 2), ethBusy := true },
                                     tx := s.tx ++ [.eth (p.drop 4)] }) := by
  let d : List (Nat × Byte) := (List.range (p.drop 4).length).foldl (fun d i => kvSet d (0 + i) ((p.drop 4).getD i 0)) []
  have hd (k : Nat) : kvGet d k = if k < le p 0 2 then some (p.getD (4 + k) 0) else none := by
    rw [kvGet_part, List.length_drop, Nat.sub_zero, List.getD_eq_getElem?_getD, List.getElem?_drop, ← List.getD_eq_getElem?_getD]
    exact if_congr (by omega) rfl rfl
  have hfit : p.length - 4 = le p 0 2 := by omega
  have hwhole : (List.range (le p 0 2)).all (fun i => (kvGet d i).isSome) = true := by
    rw [List.all_eq_true]
    intro i hi
    rw [hd, if_pos (List.mem_range.mp hi)]
    rfl
  have hframe : (List.range (le p 0 2)).map (fun i => (kvGet d i).getD 0) = p.drop 4 := by
    refine List.ext_getElem (by simp [hfit]) fun i hi _ => ?_
    have hi' : i < le p 0 2 := by simpa using hi
    rw [List.getElem_map, List.getElem_range, hd, if_pos hi', List.getElem_drop, Option.getD_some,
      List.getD_eq_getElem _ _ (by omega)]
  have htype : ptpType d = false := by
    rw [ptpType, hd, hd, if_pos (by omega), if_pos (by omega)]
    simpa using hptp
  refine ⟨d, ?_⟩
  have hform : (!isNoneT r.target.toNat || decide (p.length < 5) || decide (le p 0 2 < 60) || decide (1514 < le p 0 2) ||
      decide (le p 0 2 < 0 + (p.drop 4).length) || s.time.ethTxLen.any (fun n => n ≠ le p 0 2) || ptpType d) = false := by
    simp [isNoneT, ht, htl, htype]
    omega
  simp only [ethSend, hpay, ho, htx]
  rw [if_neg (by rw [hform]; exact Bool.false_ne_true), if_neg (by simp [hb]), if_neg (by simp [hen, hup])]
  simp only [d] at hwhole hframe ⊢
  simp only [hwhole, hframe]
  rfl

/-- Bits of one fuse byte blown. -/
def blow (w : List (Nat × Byte)) (k : Nat) (b : Byte) : List (Nat × Byte) :=
  let v := (kvGet w k).getD 0 ||| b
  if v = 0 then w else kvSet w k v

theorem kvGet_blow (w : List (Nat × Byte)) (k : Nat) (b : Byte) (a : Nat) :
    (kvGet (blow w k b) a).getD 0 = (kvGet w a).getD 0 ||| if a = k then b else 0 := by
  have hnone (x : Byte) : x ||| 0 = x := BitVec.or_zero
  unfold blow
  dsimp only
  split
  next hv =>
    split
    next hk => rw [hk, hv, (BitVec.or_eq_zero_iff.mp hv).1]; rfl
    next => rw [hnone]
  next =>
    rw [kvGet_kvSet]
    split
    next hk => rw [hk]; rfl
    next => rw [hnone]

/-- Bytes blown one after another at an offset. -/
theorem kvGet_blown (o : Nat) (f : Nat → Byte) (w : List (Nat × Byte)) (a : Nat) : ∀ m : Nat,
    (kvGet ((List.range m).foldl (fun w i => blow w (o + i) (f i)) w) a).getD 0 =
      (kvGet w a).getD 0 ||| if o ≤ a ∧ a < o + m then f (a - o) else 0
  | 0 => by rw [if_neg (by omega)]; exact BitVec.or_zero.symm
  | m + 1 => by
    rw [List.range_succ, List.foldl_append, List.foldl_cons, List.foldl_nil, kvGet_blow, kvGet_blown o f w a m, BitVec.or_assoc]
    refine congrArg _ ?_
    by_cases h : a = o + m
    · rw [if_pos h, if_neg (by omega), if_pos (by omega), h, Nat.add_sub_cancel_left]
      exact BitVec.zero_or
    · rw [if_neg h]
      exact BitVec.or_zero.trans (if_congr (by omega) rfl rfl)

/-- Fuses that may be blown take the bits of the command (R466). -/
theorem watermarkProgram_blows {p : List Byte} {o m : Nat} (ht : r.target.toNat = 0xFFFF) (hpay : r.payload = p) (ho : le p 0 2 = o)
    (hm : byteAt p 2 = m) (hlen : p.length = 4 + m) (h1 : 1 ≤ m) (h200 : m ≤ 200) (hend : o + m ≤ 2048)
    (hdone : (s.fuses 4 1).all (fun b => !b.getLsbD 1) = true) (hmask : ∀ i < m, p.getD (4 + i) 0 &&& ~~~(fuseMask (o + i)) = 0)
    (hs : s.stopped = true) : ∃ w, watermarkProgram s r =
      ({ rsp := ({ s with safety := { s.safety with watermark := w } } : State).fuses o m },
       { s with safety := { s.safety with watermark := w } }) ∧
      ∀ a, (kvGet w a).getD 0 = (kvGet s.safety.watermark a).getD 0 ||| if o ≤ a ∧ a < o + m then p.getD (4 + (a - o)) 0 else 0 := by
  have hdrop (i : Nat) : (p.drop 4).getD i 0 = p.getD (4 + i) 0 := by
    rw [List.getD_eq_getElem?_getD, List.getElem?_drop, ← List.getD_eq_getElem?_getD]
  have hopen : bit ((s.fuses 4 1).headD 0).toNat 1 = false := by
    have hone : (s.fuses 4 1) = [(s.fuses 4 1).headD 0] := rfl
    rw [hone] at hdone
    rw [List.all_cons, List.all_nil, Bool.and_true, Bool.not_eq_true'] at hdone
    rw [bit, ← hdone, BitVec.getLsbD, Nat.testBit_eq_decide_div_mod_eq]
    rfl
  have hany : (List.range m).any (fun i => (p.drop 4).getD i 0 &&& ~~~(fuseMask (o + i)) ≠ 0) = false := by
    rw [List.any_eq_false]
    intro i hi
    rw [hdrop, hmask i (List.mem_range.mp hi)]
    decide
  refine ⟨(List.range m).foldl (fun w i => blow w (o + i) ((p.drop 4).getD i 0)) s.safety.watermark, ?_, fun a => ?_⟩
  · simp only [watermarkProgram, hpay, ho, hm]
    rw [if_neg (by simp [isNoneT, ht]; omega), if_neg (by rw [hopen]; exact Bool.false_ne_true),
      if_neg (by rw [hany]; exact Bool.false_ne_true), if_neg (by simp [hs])]
    rfl
  · rw [kvGet_blown o (fun i => (p.drop 4).getD i 0), hdrop]

theorem fwOpen_opens (ht : r.target.toNat = 0xFFFF) (hlen : r.payload.length = 4) (h1 : 1 ≤ le r.payload 0 4)
    (hmax : le r.payload 0 4 ≤ 2097152) (hf : s.power.fw = none) : fwOpen s r = ({}, { s with
      free := s.free + 1
      power := { s.power with fw := some { length := le r.payload 0 4, last := s.clock.cycle, id := s.free } } }) := by
  have hform : ¬((!isNoneT r.target.toNat || decide (r.payload.length ≠ 4) || decide (le r.payload 0 4 < 1) ||
      decide (2097152 < le r.payload 0 4)) = true) := by
    simp [isNoneT, ht, hlen]
    omega
  simp only [fwOpen]
  rw [if_neg hform, if_neg (by simp [hf])]
  rfl

section
variable {f : FwLoad} (ht : r.target.toNat = 0xFFFF) (hf : s.power.fw = some f) (hc : f.checking = false)
include ht hf hc

theorem fwWrite_takes (h5 : 5 ≤ r.payload.length) (hfit : le r.payload 0 4 + (r.payload.length - 4) ≤ f.length) :
    ∃ d, fwWrite s r = ({}, { s with power := { s.power with fw := some { f with data := d, last := s.clock.cycle } } }) ∧
      ∀ a, kvGet d a = if le r.payload 0 4 ≤ a ∧ a < le r.payload 0 4 + (r.payload.length - 4)
        then some (r.payload.getD (4 + (a - le r.payload 0 4)) 0) else kvGet f.data a := by
  refine ⟨_, ?_, fun a => (kvGet_part (le r.payload 0 4) (fun i => (r.payload.drop 4).getD i 0) f.data a
    (r.payload.drop 4).length).trans ?_⟩
  · simp only [fwWrite]
    rw [if_neg (by simp [isNoneT, ht]; omega), hf]
    dsimp only
    rw [if_neg (by simp [hc]), if_neg (by rw [List.length_drop]; omega)]
  · rw [List.length_drop, List.getD_eq_getElem?_getD, List.getElem?_drop, ← List.getD_eq_getElem?_getD]

/-- The image as far as its parts gave it; a byte that none gave is free (log entry 14). -/
def loadedImage (f : FwLoad) : List Byte := (List.range f.length).map (fun i => (kvGet f.data i).getD (Config.openByte f.id i))

theorem fwClose_eq (hlen : r.payload.length = 4) : fwClose s r =
    if crc32 (loadedImage f) ≠ le r.payload 0 4 then (refuse stIntegrity, { s with power := { s.power with lastResult := 4 } })
    else ({ status := stAccepted }, { s with power := { s.power with fw := some { f with checking := true } } }) := by
  simp only [fwClose]
  rw [if_neg (by simp [isNoneT, ht, hlen]), hf]
  simp only [hc]
  rfl

end

theorem standby_stopped (ht : r.target.toNat = 0xFFFF) (hp : r.payload = []) (hs : s.stopped = true) :
    standby s r = ({}, { s with power := { s.power with standbyDue := true } }) := by
  simp [standby, plainReq, isNoneT, ht, hp, hs]

theorem standby_running (ht : r.target.toNat = 0xFFFF) (hp : r.payload = []) (hs : s.stopped = false) :
    standby s r = (refuse stState, s) := by
  simp [standby, plainReq, isNoneT, ht, hp, hs]

end

end Sys2Proof.Proofs
end

section
/-!
PROOF. O33.
-/
namespace Sys2Proof.Proofs
open Sys2Proof Sys2Proof.Machine Sys2Proof.Laws

/-- Settles O33: every command passes the checks of the lane that owns the mailbox, and is answered with what its own operation gives. -/
theorem localCommandsActAtOnce : Obligations.LocalCommandsActAtOnce := by
  intro s n r f h hf3 p here none_ o4 acts fw
  have ⟨_, _, _, _, _, h240, _, _⟩ := h
  refine ⟨fun _ => serves_faultInject h hf3, fun ⟨ht, hh⟩ hp hs hw => ?start, fun ⟨ht, hh⟩ hp hs => ?running,
    fun ht hp hr hc => ?rejoin, fun ⟨ht, hh⟩ hlen hl ho htx htl hb hptp hen hup => ?eth,
    fun ⟨ht, hh⟩ => ?fuses, fun ⟨ht, hh⟩ hlen h1 hmax hfw => ?fwOpen,
    fun ⟨ht, hh⟩ h5 hfw hc hfit => ?fwWrite, fun ⟨ht, hh⟩ hlen hfw hc => ?fwClose, fun ⟨ht, hh⟩ hp hs => ?standby,
    fun ⟨ht, hh⟩ hp hs => ?noStandby⟩
  case start =>
    have heq := clusterStart_stopped (s := taken s n) (r := { r with opcode := 0x0006 }) ht hp hs hw
    exact serves_local h rfl rfl (by decide) hf3 (.inl hh) heq rfl rfl (by decide) (by decide)
  case running =>
    have heq := clusterStart_running (s := taken s n) (r := { r with opcode := 0x0006 }) ht hp hs
    exact serves_local h rfl rfl (by decide) hf3 (.inl hh) heq rfl rfl (by decide) (by decide)
  case rejoin =>
    have ht' : r.target.toNat = 0xFFFF := by rw [ht]
    obtain ⟨tx, heq⟩ := laneRejoin_couched (s := taken s n) (r := { r with opcode := 0x0503 }) ht' hp hr hc
    exact serves_local h rfl rfl (by decide) hf3 (.inr rfl) heq rfl rfl (by decide) (by decide)
  case eth =>
    obtain ⟨d, heq⟩ := ethSend_whole (s := taken s n) (r := { r with opcode := 0x0601 }) ht rfl hlen hl ho h240 htx htl hb hptp hen hup
    obtain ⟨t, hexec, hans, htx', ht'⟩ := serve_local h (c := .ethSend .service r) rfl rfl (by decide) hf3 (.inl hh) heq rfl
      (by decide) (by decide)
    refine ⟨t, d, hexec, hans, ?_, by rw [ht']; rfl, by rw [ht']; rfl⟩
    obtain hsame | hint := htx'
    · rw [hsame]; simp [p]
    · rw [hint]; simp [p]
  case fuses =>
    intro m o hl h1 h200 hend hdone hmask hs
    obtain ⟨w, heq, hw⟩ := watermarkProgram_blows (s := taken s n) (r := { r with opcode := 0x0804 }) ht rfl rfl rfl hl h1 h200 hend
      hdone hmask hs
    refine ⟨w, serves_local h rfl rfl (by decide) hf3 (.inl hh) heq rfl rfl (by decide) ?_, hw⟩
    rw [State.fuses, List.length_map, List.length_range]
    omega
  case fwOpen =>
    have heq := fwOpen_opens (s := taken s n) (r := { r with opcode := 0x0902 }) ht hlen h1 hmax hfw
    exact serves_local h rfl rfl (by decide) hf3 (.inl hh) heq rfl rfl (by decide) (by decide)
  case fwWrite =>
    obtain ⟨d, heq, hd⟩ := fwWrite_takes (s := taken s n) (r := { r with opcode := 0x0903 }) ht hfw hc h5 hfit
    exact ⟨d, serves_local h rfl rfl (by decide) hf3 (.inl hh) heq rfl rfl (by decide) (by decide), hd⟩
  case fwClose =>
    have heq := fwClose_eq (s := taken s n) (r := { r with opcode := 0x0904 }) ht hfw hc hlen
    refine ⟨fun hcrc => ?_, fun hcrc => ?_⟩
    · exact serves_local h rfl rfl (by decide) hf3 (.inl hh) (heq.trans (if_neg (not_not.mpr hcrc))) rfl rfl (by decide) (by decide)
    · exact serves_local h rfl rfl (by decide) hf3 (.inl hh) (heq.trans (if_pos hcrc)) rfl rfl (by decide) (by decide)
  case standby =>
    have heq := standby_stopped (s := taken s n) (r := { r with opcode := 0x0905 }) ht hp hs
    exact serves_local h rfl rfl (by decide) hf3 (.inl hh) heq rfl rfl (by decide) (by decide)
  case noStandby =>
    have heq := standby_running (s := taken s n) (r := { r with opcode := 0x0905 }) ht hp hs
    exact serves_local h rfl rfl (by decide) hf3 (.inl hh) heq rfl rfl (by decide) (by decide)

end Sys2Proof.Proofs
end

section
/-!
SUPPORT. What the switches of the safe drive outputs change as they follow (R450 to R453, R459), the records of a lane outside the
common sequence (R550), and its own collector (R517).
-/
namespace Sys2Proof.Proofs
open Sys2Proof Sys2Proof.Machine Sys2Proof.Laws

/-! ### Switches of the safe drive outputs -/

/-- `t` is `s` but for the safety unit, the drivers, the command order and the counter of free values. -/
def Switches (s t : State) : Prop := t = { s with safety := t.safety, drivers := t.drivers, order := t.order, free := t.free }

theorem Switches.refl (s : State) : Switches s s := rfl

theorem Switches.trans {s t u : State} (h : Switches s t) (k : Switches t u) : Switches s u := by
  rw [Switches] at h k ⊢
  rw [k, h]

theorem Switches.faults {s t : State} (h : Switches s t) (f : Collector) : Switches { s with faults := f } { t with faults := f } := by
  rw [Switches] at h ⊢
  rw [h]

theorem Switches.foldl {α : Type} {f : State → α → State} (hf : ∀ s a, Switches s (f s a)) :
    ∀ (l : List α) (s : State), Switches s (l.foldl f s)
  | [], s => refl s
  | a :: l, s => (hf s a).trans (foldl hf l (f s a))

theorem supersede_switches (s : State) (m : Nat) : Switches s (s.supersede m) := by
  unfold State.supersede
  split
  · dsimp only
    split
    · rfl
    · exact .refl s
  · exact .refl s

theorem settleOutput_switches (s : State) (m : Nat) : Switches s (s.settleOutput m) := by
  unfold State.settleOutput
  dsimp only
  split
  · rfl
  split
  · split
    · exact .refl s
    · rfl
  · rfl

/-- The state of the safety unit from which the switches follow: release requests and cross lines as the conditions stand now. -/
def crossed (s : State) : State :=
  let s := if s.faults.sysF2 || s.faults.f3 || s.lockedOut || !s.voting then s.clearReleases else s
  { s with safety := { s.safety with
    proc := { s.safety.proc with off := (List.range 4).map s.offP },
    dyke := { s.safety.dyke with off := (List.range 4).map s.offD } } }

theorem settle_eq (s : State) :
    s.settle = (List.range 4).foldl State.settleOutput ((List.range 4).foldl State.supersede (crossed s)) := rfl

theorem crossed_switches (s : State) : Switches s (crossed s) := by
  unfold crossed
  dsimp only
  split <;> rfl

theorem crossed_tests (s : State) : (crossed s).safety.tests = s.safety.tests := by
  unfold crossed
  dsimp only
  split <;> rfl

theorem crossed_order (s : State) : (crossed s).order = s.order := by
  unfold crossed
  dsimp only
  split <;> rfl

theorem settle_switches (s : State) : Switches s s.settle := by
  rw [settle_eq]
  exact ((crossed_switches s).trans (.foldl supersede_switches _ _)).trans (.foldl settleOutput_switches _ _)

theorem settleOutput_order (s : State) (m : Nat) : (s.settleOutput m).order = s.order := by
  unfold State.settleOutput
  dsimp only
  split
  · rfl
  split
  · split <;> rfl
  · rfl

/-- A test that does not run yields to nothing (R459). -/
theorem supersede_idle {s : State} (h : ∀ x ∈ s.safety.tests, x.phase = 0) (m : Nat) : s.supersede m = s := by
  unfold State.supersede
  split
  next t ht =>
    dsimp only
    rw [if_neg]
    simp [h t (List.mem_of_getElem? ht)]
  next => rfl

/-- Where no test runs the switches follow without an event. -/
theorem settle_order_idle {s : State} (h : ∀ x ∈ s.safety.tests, x.phase = 0) : s.settle.order = s.order := by
  have hfold (l : List Nat) : ∀ u : State, (∀ x ∈ u.safety.tests, x.phase = 0) → l.foldl State.supersede u = u := by
    induction l with
    | nil => exact fun _ _ => rfl
    | cons m l ih => exact fun u hu => by rw [List.foldl_cons, supersede_idle hu, ih u hu]
  have hout (l : List Nat) : ∀ u : State, (l.foldl State.settleOutput u).order = u.order := by
    induction l with
    | nil => exact fun _ => rfl
    | cons m l ih => exact fun u => by rw [List.foldl_cons, ih, settleOutput_order]
  rw [settle_eq, hfold _ _ (by rw [crossed_tests]; exact h), hout, crossed_order]

/-! ### Records outside the common sequence (R550) -/

/-- A lane outside the common sequence writes a record to its own ring, with its own number. -/
theorem record_own {s : State} (h : s.common = false) (r : EvRec) : ∃ st tx, s.record r = { s with
    events := { s.events with ring := ({ r with seq := s.events.ownSeq } :: s.events.ring).take 256, localWr := s.events.localWr + 1,
                              ownSeq := s.events.ownSeq + 1 }
    host := { s.host with irqStatus := st }, tx := tx } := by
  obtain ⟨st, tx, hw⟩ := ringWrite_eq s { r with seq := s.events.ownSeq }
  refine ⟨st, tx, ?_⟩
  rw [State.record, if_neg (by simp [h]), hw]

/-- An event body is one record of its code. -/
theorem eventBody_record (s : State) (e : EvBody) (l : Option Lane) :
    ∃ r : EvRec, s.eventBody e l = s.record r ∧ r.kind = BitVec.ofNat 16 e.code := by
  unfold State.eventBody
  split
  · exact ⟨_, rfl, rfl⟩
  split
  · exact ⟨_, rfl, rfl⟩
  · exact ⟨_, rfl, rfl⟩

/-! ### The collector of a lane on its own (R507, R508, R517) -/

/-- `t` is `s` but for the collector, the records with what they raise, and the mark of a fault for the acquisition. -/
def Collects (s t : State) : Prop := t = { s with faults := t.faults, events := t.events, acq := t.acq, host := t.host, tx := t.tx }

theorem Collects.trans {s t u : State} (h : Collects s t) (k : Collects t u) : Collects s u := by
  rw [Collects] at h k ⊢
  rw [k, h]

theorem Collects.common {s t : State} (h : Collects s t) : t.common = s.common := by
  rw [Collects] at h
  rw [h]
  rfl

/-- The kind of a fault record (R524). -/
def faultKind (code cls : Nat) : BitVec 16 := BitVec.ofNat 16 (code + cls * 4096 + 2 ^ 14)

/-- The lane's own ring holds the records `l`, the newest first, before those of `s`. -/
def Rings (s t : State) (l : List (BitVec 16)) : Prop :=
  ∃ rs : List EvRec, rs.map (·.kind) = l ∧ t.events.ring.take 256 = (rs ++ s.events.ring).take 256

theorem Rings.trans {s t u : State} {k l : List (BitVec 16)} (h : Rings s t k) (h' : Rings t u l) : Rings s u (l ++ k) := by
  obtain ⟨rs, hk, hr⟩ := h
  obtain ⟨rs', hl, hr'⟩ := h'
  refine ⟨rs' ++ rs, by rw [List.map_append, hl, hk], ?_⟩
  rw [hr', ← take_append_take, hr, take_append_take, List.append_assoc]

/-- The newest records of the ring are those. -/
theorem Rings.newest {s t : State} {l : List (BitVec 16)} (h : Rings s t l) (hl : l.length ≤ 256) :
    (t.events.ring.take l.length).map (·.kind) = l := by
  obtain ⟨rs, hk, hr⟩ := h
  have hlen : rs.length = l.length := by rw [← hk, List.length_map]
  have htake : t.events.ring.take l.length = (t.events.ring.take 256).take l.length := by rw [List.take_take, min_eq_left hl]
  rw [htake, hr, List.take_take, min_eq_left hl, List.take_left' hlen, hk]

theorem record_rings {s : State} (h : s.common = false) (r : EvRec) :
    Collects s (s.record r) ∧ Rings s (s.record r) [r.kind] ∧ (s.record r).faults = s.faults := by
  obtain ⟨st, tx, heq⟩ := record_own h r
  rw [heq]
  exact ⟨rfl, ⟨[{ r with seq := s.events.ownSeq }], rfl, by rw [List.take_take, min_self]; rfl⟩, rfl⟩

theorem faultRecord_rings {s : State} (h : s.common = false) (kind code cls : Nat) (loc : Loc) (lane : Option Lane) (inst cycles raise : Nat) :
    let t := s.faultRecord kind code cls loc lane inst cycles raise
    Collects s t ∧ Rings s t [faultKind code cls] ∧ t.faults = s.faults := by
  unfold State.faultRecord
  dsimp only
  obtain ⟨hc, hr, hf⟩ := record_rings h (s.mkRec (s.sourceOf lane) (loc.axis.getD 0xFF) (code + cls * 4096 + 2 ^ 14)
    ([BitVec.ofNat 8 kind, BitVec.ofNat 8 ((lane.map Lane.num).getD 0xFF)] ++ toLe 2 (Loc.word loc) ++ toLe 4 inst ++ toLe 2 cycles ++
      toLe 2 raise))
  exact ⟨hc.trans rfl, hr, hf⟩

theorem eventAfter_rings {s : State} (h : s.common = false) (r : FaultRep) :
    Collects s (s.eventAfter r) ∧ Rings s (s.eventAfter r) (r.event.toList.map (fun e => BitVec.ofNat 16 e.code)) ∧
      (s.eventAfter r).faults = s.faults := by
  unfold State.eventAfter
  cases r.event with
  | none => exact ⟨rfl, ⟨[], rfl, rfl⟩, rfl⟩
  | some e =>
    obtain ⟨rec, heq, hkind⟩ := eventBody_record s e r.lane
    dsimp only
    rw [heq]
    obtain ⟨hc, hr, hf⟩ := record_rings h rec
    exact ⟨hc, by simpa [hkind] using hr, hf⟩

/-- The first F1 that a lane on its own takes: its source becomes active, its record and its event are the newest of the ring, and its
handling timer runs (R507, R508). -/
theorem takeNow_firstF1 {s : State} {r : FaultRep} (hc : s.common = false) (ht : s.faults.timers = []) (hcls : r.cls = .f1)
    (hnew : (r.kindL && s.isActive r.code r.loc) = false) :
    Collects s (s.takeNow r) ∧ Rings s (s.takeNow r) (r.event.toList.map (fun e => BitVec.ofNat 16 e.code) ++ [faultKind r.code 1]) ∧
      (s.takeNow r).faults.timers.map (·.rep.code) = [r.code] ∧ (r.kindL = true → (s.takeNow r).isActive r.code r.loc = true) := by
  have hact (u : State) : Collects u (u.activate r .f1) ∧ (u.activate r .f1).events = u.events ∧
      (u.activate r .f1).faults.timers = u.faults.timers ∧ (r.kindL = true → (u.activate r .f1).isActive r.code r.loc = true) := by
    unfold State.activate
    split
    next h => exact ⟨rfl, rfl, rfl, fun _ => by simp [State.isActive]⟩
    next h => exact ⟨rfl, rfl, rfl, fun h' => absurd h' h⟩
  let s1 : State := { s with faults := { s.faults with inst := nextInst s.faults.inst } }
  let s2 := (s1.activate r .f1).faultRecord frRaised r.code 1 r.loc r.lane (nextInst s.faults.inst).toNat s1.handlingCycles s.clock.cycle
  let timer : Timer := { inst := nextInst s.faults.inst, rep := r, start := s.clock.cycle, expiry := s.clock.cycle + s1.handlingCycles }
  let s3 : State := { s2 with faults := { s2.faults with timers := s2.faults.timers ++ [timer] } }
  have htake : s.takeNow r = s3.eventAfter r := by
    have hfind : s.faults.timers.find? (fun t => sameHandling t.rep r) = none := by rw [ht]; rfl
    simp only [State.takeNow, State.takeFault, hnew, hfind, hcls, Bool.false_eq_true, if_false]
    rfl
  obtain ⟨hc1, he1, ht1, ha1⟩ := hact s1
  have hcol1 : Collects s (s1.activate r .f1) := Collects.trans (t := s1) rfl hc1
  obtain ⟨hc2, hr2, hf2⟩ := faultRecord_rings (hcol1.common.trans hc) frRaised r.code 1 r.loc r.lane (nextInst s.faults.inst).toNat
    s1.handlingCycles s.clock.cycle
  have hcol3 : Collects s s3 := (hcol1.trans hc2).trans rfl
  obtain ⟨hc3, hr3, hf3⟩ := eventAfter_rings (hcol3.common.trans hc) r
  have hr1 : Rings s s3 [faultKind r.code 1] := by
    obtain ⟨rs, hk, hring⟩ := hr2
    exact ⟨rs, hk, by rw [← show s1.events = s.events from rfl, ← he1]; exact hring⟩
  rw [htake]
  refine ⟨hcol3.trans hc3, hr1.trans hr3, ?_, fun hk => ?_⟩
  · have htimers : s2.faults.timers = [] := by rw [hf2, ht1]; exact ht
    rw [hf3]
    simp [s3, htimers, timer]
  · have hactive2 : s2.faults.active = (s1.activate r .f1).faults.active := by rw [hf2]
    rw [State.isActive, hf3]
    exact (congrArg (fun l => l.any (fun a => a.code == r.code && a.loc == r.loc)) hactive2).trans (ha1 hk)

/-- A lane on its own that holds one report and no body takes that report at once. -/
theorem collectOwn_one {s : State} {r : FaultRep} (hc : s.common = false) (hr : s.faults.reports = [r]) (hh : s.order.held = []) :
    s.collectOwn = ({ s with faults := { s.faults with reports := [] } } : State).takeNow r := by
  have horder : { s.order with held := [] } = s.order := by rw [← hh]
  simp only [State.collectOwn, hc, hr, hh, List.filterMap_nil, List.filter_nil, List.foldl_cons, List.foldl_nil, horder]
  rfl

/-- A kind L source that is not known yet makes a report of this lane (R504). -/
theorem reportL_quiet {s : State} {code : Nat} (hq : Quiet s code locNone) :
    s.reportL (mkFault code) = s.report (mkFault code) := by
  obtain ⟨hactive, hreports⟩ := hq
  rw [State.reportL, if_neg]
  rw [Bool.or_eq_true, not_or]
  exact ⟨Bool.eq_false_iff.mp hactive, Bool.eq_false_iff.mp hreports⟩

end Sys2Proof.Proofs
end

section
/-!
SUPPORT. The changes of a lane's network state (R263 to R266, R272): the role that it takes as it enters SYNC, and what leaving SYNC does.
-/
namespace Sys2Proof.Proofs
open Sys2Proof Sys2Proof.Machine Sys2Proof.Laws

/-! ### LISTEN (R263, R264, R266) -/

theorem listenTimeout_due {s : State} {l : Lane} (hst : s.net.st = .listen) (ha : s.lanes.addr = some l) (hl : l ≠ .s)
    (hcount : 8 + 4 * l.num ≤ s.net.listenCount) : exec .listenTimeout s = .next { s with
      net := { s.net with st := .coldstart, coldCount := 0, cands := [], laneIn := [], laneOut := [], outvoted := 0,
                          spareWokenThisStart := false }
      clock := { s.clock with cycle := 0, running := true, kappa := 0, kappaHeld := 0, csum := 0, corr := 0, devs := [], rateFirst := [],
                              rateLast := [], steer := 0, steerNext := none, steerHeld := 0 }
      lanes := { s.lanes with epoch := 1, voice := some l }
      events := { s.events with seq := 0 }
      time := { s.time with map := {}, mapNext := none } } := by
  have hlane : s.lane = l := by rw [State.lane, ha]; rfl
  have hexec : exec .listenTimeout s = execListenTimeout s := rfl
  rw [hexec, execListenTimeout, if_pos (by simp [hst, ha, hlane, hl, hcount]), hlane]

theorem listenTimeout_waits {s : State} (h : s.net.st ≠ .listen ∨ s.lanes.addr = some .s ∨ s.net.listenCount < 8 + 4 * s.lane.num) :
    exec .listenTimeout s = .next s := by
  have hexec : exec .listenTimeout s = execListenTimeout s := rfl
  rw [hexec, execListenTimeout, if_neg]
  simp only [Bool.and_eq_true, beq_iff_eq, bne_iff_ne, decide_eq_true_eq]
  rintro ⟨⟨⟨hst, hlane⟩, -⟩, hcount⟩
  obtain h | h | h := h
  · exact h hst
  · exact hlane (by rw [State.lane, h]; rfl)
  · omega

theorem layoutMismatchReached_eq {s : State} (hst : s.net.st = .listen) (hf : 8 ≤ s.net.foreign) (hq : Quiet s 0x201 locNone) :
    exec .layoutMismatchReached s = .next (reported s 0x201 .f1 locNone).collectOwn := by
  have hreport : s.reportL (mkFault 0x201) = reported s 0x201 .f1 locNone := reportL_quiet hq
  have hexec : exec .layoutMismatchReached s = execLayoutMismatchReached s := rfl
  rw [hexec, execLayoutMismatchReached, if_pos (by simp [hst, hf]), hreport]

/-- A lane on its own takes the layout-mismatch F1 at once (R266, R517). -/
theorem reported_collectOwn {s : State} {code : Nat} (hc : s.common = false) (hq : Quiet s code locNone) (hr : s.faults.reports = [])
    (hh : s.order.held = []) (ht : s.faults.timers = []) (hk : (faultInfo code).map (·.kindL) = some true) :
    let t := (reported s code .f1 locNone).collectOwn
    t.isActive code locNone = true ∧ t.faults.timers.map (·.rep.code) = [code] ∧ Rings s t [faultKind code 1] ∧ Collects s t := by
  let r : FaultRep := { code := code, cls := .f1, loc := locNone, lane := some s.lane }
  have hreports : (reported s code .f1 locNone).faults.reports = [r] := by simp [reported, hr, r]
  obtain ⟨hactive, -⟩ := hq
  let s1 : State := { reported s code .f1 locNone with faults := { (reported s code .f1 locNone).faults with reports := [] } }
  have hnew : (r.kindL && s1.isActive r.code r.loc) = false := by
    rw [show s1.isActive r.code r.loc = false from hactive, Bool.and_false]
  obtain ⟨hcol, hring, htimers, hact⟩ := takeNow_firstF1 (s := s1) (r := r) hc ht rfl hnew
  have hkind : r.kindL = true := by rw [FaultRep.kindL, hk]; rfl
  intro t
  have heq : t = s1.takeNow r := collectOwn_one (s := reported s code .f1 locNone) hc hreports hh
  rw [heq]
  exact ⟨hact hkind, htimers, hring, Collects.trans (t := s1) rfl hcol⟩

/-! ### Entering SYNC (R264, R265) -/

/-- Reports pass out one after another (R605). -/
theorem foldl_report (l : List FaultRep) : ∀ s : State, l.foldl State.report s =
    { s with faults := { s.faults with reports := s.faults.reports ++ l.map (fun r => { r with lane := some s.lane }) } } := by
  induction l with
  | nil => intro s; simp
  | cons r l ih => intro s; simp [ih, State.report, State.lane]

/-- The schedule of a node distributed anew (R612). -/
def rescheduled (x : NodeRt) : NodeRt :=
  { x with schedId := x.schedId + 1, actMatrix := 1, schedPending := true, confirmed := false, schedSeq := none, active := false }

/-- The lane in VOTING with others, its start-up faults taken out of their place. -/
def voter (s : State) (with_ : List Lane) : State :=
  { s with
    lanes := { s.lanes with role := .voting, vset := laneSort (s.lane :: with_), present := laneSort (s.lane :: with_), absent := [],
                            noMajority := 0 }
    power := { s.power with pending := [], fresh := false }
    nodes := if s.power.fresh then s.nodes.map rescheduled else s.nodes }

theorem beginVoting_eq (s : State) (with_ : List Lane) :
    s.beginVoting with_ = s.power.pending.foldl State.report (voter s with_).settle := rfl

/-- `s` with the reports that it held for the start (R605). -/
def startReports (s : State) : Collector :=
  { s.faults with reports := s.faults.reports ++ s.power.pending.map (fun r => { r with lane := some s.lane }) }

/-- What a lane that enters VOTING with others changes: its switches follow, and the start-up faults go out (R264, R605, R612). -/
theorem beginVoting_spec (s : State) (with_ : List Lane) : Switches { voter s with_ with faults := startReports s } (s.beginVoting with_) := by
  have h := settle_switches (voter s with_)
  rw [beginVoting_eq, foldl_report]
  generalize (voter s with_).settle = u at h
  have hfaults : u.faults = s.faults := by rw [h]; rfl
  have hlane : u.lane = s.lane := by rw [h]; rfl
  rw [hfaults, hlane]
  exact h.faults (startReports s)

/-- The lane that enters SYNC records it (Table 6.16). -/
theorem syncEntered_common {s : State} (h : s.common = true) (on : Nat) : ∃ e : EvRec, e.kind = 0x4C0 ∧
    s.syncEntered on = { s with events := { s.events with fresh := s.events.fresh ++ [e] } } :=
  ⟨_, rfl, record_common s _ h⟩

section
variable {s : State} (hu : s.lanes.role = .unassigned) (ha : s.addrAllowed = true) (hl : s.lane ≠ .s)
include hu ha hl

theorem takeRole_cold : s.takeRole true = s.beginVoting (s.net.laneIn ++ s.net.intOn.toList) := by
  simp [State.takeRole, hu, ha, hl]

theorem takeRole_running : s.takeRole false =
    ({ s with lanes := { s.lanes with role := .removed } } : State).roleEvent s.lane .unassigned .removed 5 := by
  simp [State.takeRole, hu, ha, hl]

/-- A lane in network SYNC takes its place among the voting lanes. -/
theorem takeRole_synced (hst : s.net.st = .sync) (on : Nat) : ∃ t e, (s.takeRole true).syncEntered on =
    { t with events := { t.events with fresh := t.events.fresh ++ [e] } } ∧ e.kind = 0x4C0 ∧
    Switches { voter s (s.net.laneIn ++ s.net.intOn.toList) with faults := startReports s } t := by
  have hsw := beginVoting_spec s (s.net.laneIn ++ s.net.intOn.toList)
  have hcommon : (s.beginVoting (s.net.laneIn ++ s.net.intOn.toList)).common = true := by
    rw [hsw]
    simp [State.common, State.computing, State.voting, State.stopped, voter, hst]
  obtain ⟨e, hkind, heq⟩ := syncEntered_common hcommon on
  rw [takeRole_cold hu ha hl]
  exact ⟨_, e, heq, hkind, hsw⟩

end

theorem coldstartComplete_due {s : State} (hst : s.net.st = .coldstart) (hc : 4 ≤ s.net.coldCount) : exec .coldstartComplete s =
    .next (({ s with net := { s.net with st := .sync } } : State).takeRole true |>.syncEntered 0xFF) := by
  have hexec : exec .coldstartComplete s = execColdstartComplete s := rfl
  rw [hexec, execColdstartComplete, if_pos (by simp [hst, hc])]

theorem coldstartComplete_waits {s : State} (h : s.net.st ≠ .coldstart ∨ s.net.coldCount < 4) : exec .coldstartComplete s = .next s := by
  have hexec : exec .coldstartComplete s = execColdstartComplete s := rfl
  rw [hexec, execColdstartComplete, if_neg]
  simp only [Bool.and_eq_true, beq_iff_eq, decide_eq_true_eq]
  rintro ⟨hst, hc⟩
  obtain h | h := h
  · exact h hst
  · omega

section
variable {s : State} (hst : s.net.st = .integrate)
include hst

theorem integrateComplete_eq : exec .integrateComplete s = .next (
    if s.net.intBad then
      { s with net := { s.net with st := .listen, listenCount := 0, intOn := none, cands := [] }, clock := { s.clock with running := false } }
    else if 2 ≤ s.net.intGood then
      ({ s with net := { s.net with st := .sync } } : State).takeRole s.net.intCold |>.syncEntered ((s.net.intOn.map Lane.num).getD 0xFF)
    else s) := by
  have hexec : exec .integrateComplete s = execIntegrateComplete s := rfl
  rw [hexec, execIntegrateComplete, if_neg (by simp [hst])]

/-- A lane that integrated takes the role that the cluster it met leaves it (R265, R365). -/
theorem integrateComplete_joins (hb : s.net.intBad = false) (hg : 2 ≤ s.net.intGood) (hu : s.lanes.role = .unassigned)
    (ha : s.addrAllowed = true) (hl : s.lane ≠ .s) : ∃ t, exec .integrateComplete s = .next t ∧ t.net = { s.net with st := .sync } ∧
      t.lanes.role = (if s.net.intCold then .voting else .removed) ∧ t.clock = s.clock ∧ t.axes = s.axes ∧ t.cfg = s.cfg := by
  rw [integrateComplete_eq hst, hb, if_neg Bool.false_ne_true, if_pos hg]
  refine ⟨_, rfl, ?_⟩
  let s1 : State := { s with net := { s.net with st := .sync } }
  cases s.net.intCold with
  | true =>
    obtain ⟨t, e, heq, -, ht⟩ := takeRole_synced (s := s1) hu ha hl rfl ((s.net.intOn.map Lane.num).getD 0xFF)
    rw [heq, ht]
    exact ⟨rfl, rfl, rfl, rfl, rfl⟩
  | false =>
    have hrole := takeRole_running (s := s1) hu ha hl
    rw [hrole, State.syncEntered, State.roleEvent, State.event, State.event]
    obtain ⟨ev, st, tx, h, -⟩ := record_eq ({ s1 with lanes := { s1.lanes with role := .removed } } : State) _
    obtain ⟨ev', st', tx', h', -⟩ := record_eq _ _
    rw [h', h]
    exact ⟨rfl, rfl, rfl, rfl, rfl⟩

end

/-! ### Leaving SYNC (R272) -/

/-- `t` is `s` but for the safety unit, the drivers, the records with what they raise, the lanes and the counter of free values. -/
def Leaves (s t : State) : Prop := t = { s with
  safety := t.safety, drivers := t.drivers, free := t.free, events := t.events, host := t.host, tx := t.tx, lanes := t.lanes }

theorem record_leaves (s : State) (r : EvRec) : Leaves s (s.record r) ∧ (s.record r).lanes = s.lanes := by
  obtain ⟨ev, st, tx, h, -⟩ := record_eq s r
  rw [h]
  exact ⟨rfl, rfl⟩

theorem Leaves.trans {s t u : State} (h : Leaves s t) (k : Leaves t u) : Leaves s u := by
  rw [Leaves] at h k ⊢
  rw [k, h]

/-- Where no test runs the switches follow without an event. -/
theorem settle_leaves {s : State} (hidle : ∀ x ∈ s.safety.tests, x.phase = 0) : Leaves s s.settle ∧ s.settle.lanes = s.lanes := by
  have h := settle_switches s
  have horder := settle_order_idle hidle
  generalize s.settle = t at h horder
  rw [Switches, horder] at h
  rw [h]
  exact ⟨rfl, rfl⟩

/-- A lane that leaves its voting set at once is REMOVED, and in no voting set of its own (R272). -/
theorem leaveNow_removed {s : State} (hidle : ∀ x ∈ s.safety.tests, x.phase = 0) (reason : Nat) : let t := s.leaveNow .removed reason
    Leaves s t ∧ t.lanes.role = .removed ∧ (s.voting = true → s.lane ∉ t.lanes.vset) := by
  unfold State.leaveNow
  split
  next hv =>
    let s1 : State := { s with
      lanes := { s.lanes with role := .removed, vset := s.lanes.vset.filter (· ≠ s.lane),
                              voice := if s.lanes.voice = some s.lane then none else s.lanes.voice }
      events := { s.events with ownSeq := 0 } }
    have hdown : s.standDown .removed = s1.settle := by simp only [State.standDown, hv, if_true]; rfl
    obtain ⟨hsettle, hlanes⟩ := settle_leaves (s := s1) hidle
    rw [hdown, State.roleEvent, State.event]
    obtain ⟨hrecord, hlanes'⟩ := record_leaves s1.settle (s1.settle.mkRec (s1.settle.sourceOf none) 0xFF 0x500
      [BitVec.ofNat 8 (Lane.num s.lane), BitVec.ofNat 8 (roleCode .voting), BitVec.ofNat 8 (roleCode .removed), BitVec.ofNat 8 reason])
    refine ⟨(Leaves.trans (t := s1) rfl hsettle).trans hrecord, ?_, fun _ => ?_⟩
    · rw [hlanes', hlanes]
    · rw [hlanes', hlanes]; simp [s1]
  next hv => exact ⟨rfl, rfl, fun h => absurd h hv⟩

theorem outvotedLimit_waits {s : State} (h : s.net.st ≠ .sync ∨ s.net.outvoted < 3) : exec .outvotedLimit s = .next s := by
  have hexec : exec .outvotedLimit s = execOutvotedLimit s := rfl
  rw [hexec, execOutvotedLimit, if_neg]
  simp only [Bool.and_eq_true, beq_iff_eq, decide_eq_true_eq]
  rintro ⟨hst, hc⟩
  obtain h | h := h
  · exact h hst
  · omega

/-- SYNC_LEFT (Table 6.16). -/
def syncLeft (s : State) : EvBody :=
  { code := 0x4C1, payload := [BitVec.ofNat 8 (Lane.num s.lane), BitVec.ofNat 8 s.net.gLast.1, BitVec.ofNat 8 s.net.gLast.2] }

/-- The lane that left its voting set listens again, its clock stopped and its star silent, and reports the sync-left F1 (R272). -/
def unsynced (s t : State) : State :=
  ({ t with net := { t.net with st := .listen, listenCount := 0, outvoted := 0, cands := [] }
            clock := { t.clock with running := false } } : State).silence.report (mkFault 0x200 {} none (some (syncLeft s)))

theorem outvotedLimit_due {s : State} (hst : s.net.st = .sync) (hc : 3 ≤ s.net.outvoted) :
    exec .outvotedLimit s = .next (unsynced s (s.leaveNow .removed 5)).collectOwn := by
  have hexec : exec .outvotedLimit s = execOutvotedLimit s := rfl
  rw [hexec, execOutvotedLimit, if_pos (by simp [hst, hc])]
  rfl

/-- The lane is REMOVED and on its own by then, so it takes its report at once (R517). -/
theorem outvotedLimit_leaves {s : State} (hst : s.net.st = .sync) (hc : 3 ≤ s.net.outvoted) (hr : s.faults.reports = [])
    (hh : s.order.held = []) (ht : s.faults.timers = []) (hidle : ∀ x ∈ s.safety.tests, x.phase = 0) :
    ∃ t, exec .outvotedLimit s = .next t ∧ t.net = { s.net with st := .listen, listenCount := 0, outvoted := 0, cands := [] } ∧
      t.lanes.role = .removed ∧ (s.lanes.role = .voting → s.lane ∉ t.lanes.vset) ∧ t.clock = { s.clock with running := false } ∧
      t.faults.timers.map (·.rep.code) = [0x200] ∧ (t.events.ring.take 2).map (·.kind) = [0x4C1, 0x5200] ∧
      (∀ b ∈ t.branches, b.eBranch = none) ∧ t.axes = s.axes ∧ t.cfg = s.cfg := by
  obtain ⟨hleave, hrole, hset⟩ := leaveNow_removed hidle 5
  rw [outvotedLimit_due hst hc]
  generalize s.leaveNow .removed 5 = u at hleave hrole hset
  let r : FaultRep := { code := 0x200, cls := .f1, lane := some u.lane, event := some (syncLeft s) }
  have hown : (unsynced s u).common = false := by
    simp [State.common, State.computing, State.voting, unsynced, State.silence, State.report, hrole]
  have hfaults : u.faults = s.faults := by rw [hleave]
  have horder : u.order = s.order := by rw [hleave]
  have hreports : (unsynced s u).faults.reports = [r] := by
    change u.faults.reports ++ [r] = [r]
    rw [hfaults, hr, List.nil_append]
  have hcollect := collectOwn_one hown hreports (congrArg Order.held horder |>.trans hh)
  let s1 : State := { unsynced s u with faults := { (unsynced s u).faults with reports := [] } }
  have htimers : s1.faults.timers = [] := by
    change u.faults.timers = []
    rw [hfaults, ht]
  obtain ⟨hcol, hring, hcodes, -⟩ := takeNow_firstF1 (s := s1) (r := r) hown htimers rfl rfl
  have hkind : faultKind 0x200 1 = 0x5200 := by decide
  rw [hkind] at hring
  have hnewest : ((s1.takeNow r).events.ring.take 2).map (·.kind) = [0x4C1, 0x5200] := hring.newest (by simp [r])
  rw [hcollect]
  refine ⟨_, rfl, ?_⟩
  change (s1.takeNow r).net = _ ∧ _
  generalize s1.takeNow r = t at hcol hcodes hnewest
  rw [Collects] at hcol
  have hnet : u.net = s.net := by rw [hleave]
  have hclock : u.clock = s.clock := by rw [hleave]
  have haxes : u.axes = s.axes := by rw [hleave]
  have hcfg : u.cfg = s.cfg := by rw [hleave]
  have hlanes : t.lanes = u.lanes := by rw [hcol]; rfl
  refine ⟨?_, by rw [hlanes, hrole], fun hv => ?_, ?_, hcodes, hnewest, ?_, ?_, ?_⟩
  · rw [← hnet, hcol]; rfl
  · rw [hlanes]
    exact hset (by simp [State.voting, hv])
  · rw [← hclock, hcol]; rfl
  · rw [hcol]
    simp [s1, unsynced, State.silence, State.report]
  · rw [← haxes, hcol]; rfl
  · rw [← hcfg, hcol]; rfl

end Sys2Proof.Proofs
end

section
/-!
PROOF. O41.
-/
namespace Sys2Proof.Proofs
open Sys2Proof Sys2Proof.Machine Sys2Proof.Laws

/-- Settles O41: each row acts where its condition is met, by the role that the lane takes or leaves, and leaves the state otherwise. -/
theorem networkStatesChangeByTheirTable : Obligations.NetworkStatesChangeByTheirTable := by
  intro s l ring2
  have hring2 {t : State} {ks : List (BitVec 16)} {k : Nat} (h : (t.events.ring.take k).map (·.kind) = ks) :
      (t.events.ring.take k).map (fun e => e.kind.toNat) = ks.map (·.toNat) := by rw [← h, List.map_map]; rfl
  refine ⟨fun hst ha hl hc => ⟨_, listenTimeout_due hst ha hl hc, rfl, rfl, rfl, rfl, rfl, rfl, rfl, rfl, rfl⟩, listenTimeout_waits,
    fun hst hc hu ha hl => ?cold, coldstartComplete_waits, fun hst hb => ?failed, fun hst hb hg hu ha hl =>
    integrateComplete_joins hst hb hg hu ha hl, fun hst hb hg => ?waits, fun hst hc hr hh ht hidle => ?outvoted, outvotedLimit_waits,
    fun hst hf hc hq => ?mismatch, fun hst hf hc hq hr hh ht => ?own⟩
  case cold =>
    rw [coldstartComplete_due hst hc]
    obtain ⟨t, e, heq, hkind, ht⟩ := takeRole_synced (s := { s with net := { s.net with st := .sync } }) hu ha hl rfl 0xFF
    rw [Switches] at ht
    rw [heq]
    refine ⟨_, e, rfl, ?_⟩
    rw [ht]
    exact ⟨rfl, rfl, rfl, rfl, rfl, rfl, rfl, by rw [hkind]; rfl, rfl, rfl, rfl, rfl⟩
  case failed => rw [integrateComplete_eq hst, if_pos hb]
  case waits => rw [integrateComplete_eq hst, if_neg (by simp [hb]), if_neg (by omega)]
  case outvoted =>
    obtain ⟨t, hexec, hnet, hrole, hset, hclock, hcodes, hring, hrest⟩ := outvotedLimit_leaves hst hc hr hh ht hidle
    exact ⟨t, hexec, hnet, hrole, hset, hclock, hcodes, hring2 hring, hrest⟩
  case mismatch => rw [layoutMismatchReached_eq hst hf hq, collectOwn_common (s := reported s 0x201 .f1 locNone) hc]
  case own =>
    obtain ⟨hactive, hcodes, hring, hcol⟩ := reported_collectOwn hc hq hr hh ht rfl
    have hkind : faultKind 0x201 1 = 0x5201 := by decide
    have hnewest := hring2 (k := 1) (hring.newest (by simp))
    rw [layoutMismatchReached_eq hst hf hq]
    generalize (reported s 0x201 .f1 locNone).collectOwn = t at hactive hcodes hnewest hcol
    rw [Collects] at hcol
    refine ⟨t, rfl, hactive, hcodes, ?_, by rw [hcol], by rw [hcol]⟩
    rw [hkind] at hnewest
    change ((t.events.ring.take 2).map (fun e => e.kind.toNat)).head? = some 0x5201
    cases hl : t.events.ring with
    | nil => rw [hl] at hnewest; cases hnewest
    | cons e l =>
      rw [hl] at hnewest
      exact congrArg List.head? hnewest

end Sys2Proof.Proofs
end

section
/-!
SUPPORT. LANE frames sent and taken (R244, R264, R268, R269), and the time base of a rate period: the limits of rate correction and
steering, and the map that the voice lane forms (R275, R277, R393 to R399).
-/
namespace Sys2Proof.Proofs
open Sys2Proof Sys2Proof.Machine Sys2Proof.Laws

/-! ### LANE frames (R244, R268, R269) -/

/-- A frame leaves on each of the ports whose link is up, and nothing else changes. -/
theorem foldl_sendUp (f : List Byte) : ∀ (l : List Nat) (s : State),
    l.foldl (fun s n => if s.linkSt (0x40 + 4 * n) = .up then s.send (.frame (0x40 + 4 * n) f) else s) s =
      { s with tx := s.tx ++ (l.filter (fun n => s.linkSt (0x40 + 4 * n) == .up)).map (fun n => .frame (0x40 + 4 * n) f) }
  | [], s => by simp
  | n :: l, s => by
    rw [List.foldl_cons, foldl_sendUp f l, List.filter_cons]
    by_cases h : s.linkSt (0x40 + 4 * n) = .up
    · rw [if_pos h, if_pos (by rw [h]; rfl), List.map_cons, send_tx, List.append_assoc]
      rfl
    · rw [if_neg h, if_neg (by simpa using h)]

/-- What the lane sends as its steering value (R277). -/
def sentSteer (s : State) : Int := if s.isVoice then s.steerOut else s.clock.steer

/-- The LANE frame of the lane's cycle (R244). -/
def laneFrameOf (s : State) : List Byte :=
  frame { s.hdr 3 0 0 0 with sync := true, epoch := s.lanes.epoch.toNat, cold := s.net.st == .coldstart } (s.lanePayload (sentSteer s))

theorem laneFrameSend_sends {s : State} (hx : s.simplex = false) (hst : s.net.st = .coldstart ∨ s.net.st = .sync) :
    exec .laneFrameSend s = .next { s with
      tx := s.tx ++ ((List.range 3).filter (fun n => s.linkSt (0x40 + 4 * n) == .up)).map (fun n => .frame (0x40 + 4 * n) (laneFrameOf s))
      clock := { s.clock with
        steerNext := if s.isVoice = true ∧ s.clock.cycle % 16 = 7 then some (sentSteer s) else s.clock.steerNext } } := by
  have hsends : (s.simplex || !(s.net.st == .coldstart || s.net.st == .sync)) = false := by obtain h | h := hst <;> simp [hx, h]
  have hexec : exec .laneFrameSend s = execLaneFrameSend s := rfl
  rw [hexec, execLaneFrameSend, if_neg (by rw [hsends]; exact Bool.false_ne_true)]
  dsimp only
  rw [foldl_sendUp]
  by_cases h : s.isVoice = true ∧ s.clock.cycle % 16 = 7
  · have h7 : (s.isVoice && s.clock.cycle % 16 == 7) = true := by simpa using h
    rw [if_pos h, if_pos]
    · rfl
    · exact h7
  · have h7 : ¬(s.isVoice && s.clock.cycle % 16 == 7) = true := by simpa using h
    rw [if_neg h, if_neg]
    · rfl
    · exact h7

theorem laneFrameSend_silent {s : State} (h : s.simplex = true ∨ s.net.st = .config ∨ s.net.st = .listen ∨ s.net.st = .integrate) :
    exec .laneFrameSend s = .next s := by
  have hexec : exec .laneFrameSend s = execLaneFrameSend s := rfl
  rw [hexec, execLaneFrameSend, if_pos]
  obtain h | h | h | h := h <;> simp [h]

section
variable {s : State} {port : Nat} {bytes : List Byte} {ok : Bool} {arr : Int}

theorem laneFrameReceived_drops (h : s.simplex = true ∨ frameOk bytes ok = false) : exec (.laneFrameReceived port bytes ok arr) s = .next s := by
  have hexec : exec (.laneFrameReceived port bytes ok arr) s = execLaneFrameReceived port bytes ok arr s := rfl
  rw [hexec, execLaneFrameReceived]
  dsimp only
  rw [if_pos]
  obtain h | h := h <;> simp [h]

variable (hx : s.simplex = false) (hok : frameOk bytes ok = true) (hty : (Hdr.of bytes).ty = 3) (hlen : (Hdr.of bytes).len = 16)
  (hport : port ∉ s.lanes.weirWrong)
include hx hok hty hlen hport

/-- A LANE frame of another layout only counts as foreign (R266). -/
theorem laneFrameReceived_foreign (hcrc : be (payloadOf bytes) 9 4 ≠ s.layoutCrc) :
    exec (.laneFrameReceived port bytes ok arr) s = .next { s with net := { s.net with foreignNow := true } } := by
  have hexec : exec (.laneFrameReceived port bytes ok arr) s = execLaneFrameReceived port bytes ok arr s := rfl
  rw [hexec, execLaneFrameReceived]
  dsimp only
  rw [if_neg (by simp [hx, hok, hty, hlen, hport]), if_pos hcrc]

/-- A LANE frame of this layout that carries no voice is taken as the network state says. -/
theorem laneFrameReceived_own (hcrc : be (payloadOf bytes) 9 4 = s.layoutCrc) (hv : bit (byteAt (payloadOf bytes) 8) 2 = false) :
    exec (.laneFrameReceived port bytes ok arr) s =
      let delta := arr - (50 + s.inwardOf (0x40 + 4 * port))
      .next (({ s with net := { s.net with ownNow := true } } : State).takeLaneFrame (Hdr.of bytes) (payloadOf bytes) delta
        (decide (delta.natAbs ≤ s.accWin))) := by
  have hexec : exec (.laneFrameReceived port bytes ok arr) s = execLaneFrameReceived port bytes ok arr s := rfl
  rw [hexec, execLaneFrameReceived]
  dsimp only
  rw [if_neg (by simp [hx, hok, hty, hlen, hport]), if_neg (not_not.mpr hcrc), hv, if_neg (by simp)]
  rfl

end

/-- In SYNC a frame without voice adds its deviation within the acceptance window, and its lane to those that missed it outside
(R268, R269). -/
theorem takeLaneFrame_sync {s : State} {h : Hdr} {p : List Byte} {delta : Int} {inWin : Bool} (hst : s.net.st = .sync)
    (hv : bit (byteAt p 8) 2 = false) (hc : 4 < s.clock.cycle) : s.takeLaneFrame h p delta inWin =
      let l := laneOf h.lane
      if inWin ∧ be p 0 8 = s.clock.cycle then
        { s with net := { s.net with laneIn := s.net.laneIn ++ [l] }
                 clock := { s.clock with devs := s.clock.devs ++ [{ member := .lane l, delta := delta, isLane := true }] } }
      else { s with net := { s.net with laneOut := s.net.laneOut ++ [l] } } := by
  have hhear : s.hearVoice (laneOf h.lane) false h.cold (BitVec.ofNat 16 h.epoch) = s := by
    simp [State.hearVoice, Nat.not_le.mpr hc]
  simp only [State.takeLaneFrame, hst, hv, hhear, Bool.and_eq_true, beq_iff_eq]

/-! ### Rate correction and steering (R275, R399) -/

theorem rateLimitReached_eq (s : State) : exec .rateLimitReached s = .next (if 4 ≤ s.clock.kappaHeld then s.reportL (mkFault 0x202) else s) := rfl

theorem steeringLimitReached_eq (s : State) : exec .steeringLimitReached s =
    .next (if s.isVoice && decide (16 ≤ s.clock.steerHeld) then s.found (mkFault 0x284) else s) := rfl

/-- In the common sequence a quiet kind L source that is no system F2 is one more report. -/
theorem found_quiet {s : State} {code : Nat} (hc : s.common = true) (hq : Quiet s code locNone) (hk : (mkFault code).kindL = true)
    (hcls : (mkFault code).cls ≠ .f2) : s.found (mkFault code) = s.report (mkFault code) := by
  have hno : ((mkFault code).cls = .f2 && (mkFault code).scope == 3) = false := by simp [hcls]
  simp only [State.found, hk, if_true, reportL_quiet hq]
  rw [if_neg]
  · exact collectOwn_common (s := s.report (mkFault code)) hc
  · rw [hno]; exact Bool.false_ne_true

/-! ### The map (R393, R394, R398) -/

/-- The map stands for the start of the next rate period, and is valid only while the servo is locked or holds over (R394, R395). -/
theorem formMap_spec (s : State) : let m := s.formMap
    m.baseCount = s.clock.cycle + 8 ∧ (m.valid = true → s.time.servo = .locked ∨ s.time.servo = .holdover) ∧
    (m.step = false → m.vtBase = s.mapped (s.clock.cycle + 8) 0) := by
  unfold State.formMap
  dsimp only
  split
  · split
    · exact ⟨rfl, nofun, fun _ => rfl⟩
    next h =>
      refine ⟨rfl, fun _ => ?_, fun hs => ?_⟩
      · simp only [Bool.or_eq_true, not_or, Bool.not_eq_true', Bool.not_eq_false] at h
        simpa using h.1
      · exact if_neg fun h => Bool.false_ne_true (hs.symm.trans h)
  · exact ⟨rfl, nofun, fun _ => rfl⟩

/-- The steering target stays within its limit where the steering value does (R398). -/
theorem formTarget_bound {s : State} (h : s.clock.steer.natAbs ≤ 20 * 65536) : s.formTarget.natAbs ≤ 20 * 65536 := by
  unfold State.formTarget
  dsimp only
  split
  · exact h
  · have hmem := clampI_mem (lo := -steerMax) (hi := steerMax) (by decide)
    obtain ⟨hlo, hhi⟩ := hmem (s.clock.steer + roundNear (-(((s.time.rates.length * 16 * s.tNs : Nat) : Rat) / (s.time.rates.sum : Rat) - 1 +
      if s.tc 21 0 = 1 then (s.gridError : Rat) / (s.tc 22 0 : Nat) else 0) * 1000000 * 65536))
    have hmax : steerMax = 20 * 65536 := rfl
    omega

/-- The rates of the last rate periods with that of the one that ended, where both of its latches stand (R398). -/
def formedRates (s : State) : List Int :=
  match s.latch (s.clock.cycle - 8), s.latch (s.clock.cycle - 24) with
  | some a, some b => if 24 ≤ s.clock.cycle then ((a - b) :: s.time.rates).take 16 else s.time.rates
  | _, _ => s.time.rates

theorem formedRates_length (s : State) : (formedRates s).length ≤ max 16 s.time.rates.length := by
  unfold formedRates
  split
  · split
    · exact (List.length_take_le _ _).trans (le_max_left _ _)
    · exact le_max_right _ _
  · exact le_max_right _ _

/-- The state once that rate has joined the others. -/
def rated (s : State) : State :=
  match s.latch (s.clock.cycle - 8), s.latch (s.clock.cycle - 24) with
  | some a, some b => if 24 ≤ s.clock.cycle then { s with time := { s.time with rates := ((a - b) :: s.time.rates).take 16 } } else s
  | _, _ => s

theorem rated_eq (s : State) : rated s = { s with time := { s.time with rates := formedRates s } } := by
  unfold rated formedRates
  split
  · split <;> rfl
  · rfl

theorem mapFormation_eq (s : State) : exec .mapFormation s = .next (if !s.isVoice || s.clock.cycle % 16 ≠ 8 then s else
    ({ rated s with time := { (rated s).time with
      target := if s.formMap.valid then (rated s).formTarget else (rated s).clock.steer } } : State).reportBody (.timeMap s.formMap)) := rfl

theorem mapFormation_voice {s : State} (hv : s.isVoice = true) (hc : s.clock.cycle % 16 = 8) : exec .mapFormation s =
    .next (withBody { s with time := { s.time with
      rates := formedRates s
      target := if s.formMap.valid then ({ s with time := { s.time with rates := formedRates s } } : State).formTarget
        else s.clock.steer } } (.timeMap s.formMap)) := by
  rw [mapFormation_eq, if_neg (by simp [hv, hc]), rated_eq]
  rfl

theorem mapFormation_waits {s : State} (h : s.isVoice = false ∨ s.clock.cycle % 16 ≠ 8) : exec .mapFormation s = .next s := by
  rw [mapFormation_eq, if_pos]
  obtain h | h := h <;> simp [h]

end Sys2Proof.Proofs
end

section
/-!
PROOF. O42.
-/
namespace Sys2Proof.Proofs
open Sys2Proof Sys2Proof.Machine Sys2Proof.Laws

/-- Settles O42: a frame is sent and taken as the network state says; the two limits are reports of this lane, and the map is a body. -/
theorem laneFramesCarryTheTimeBase : Obligations.LaneFramesCarryTheTimeBase := by
  intro s port bytes ok arr h p l delta took st f
  refine ⟨fun hx hst => ⟨_, laneFrameSend_sends hx hst, rfl⟩, laneFrameSend_silent, laneFrameReceived_drops,
    fun hx hok hty hlen hport hcrc => laneFrameReceived_foreign hx hok hty hlen hport hcrc,
    fun hx hok hty hlen hport hcrc hst hv hc => ?taken, fun hk hq => ?rate, fun hk => ?noRate, fun hv hs hc hq => ?steer, fun hno => ?noSteer,
    fun hv hc => ⟨_, _, _, mapFormation_voice hv hc, ?map⟩, mapFormation_waits⟩
  case taken =>
    rw [laneFrameReceived_own hx hok hty hlen hport hcrc hv]
    dsimp only
    rw [takeLaneFrame_sync (s := { s with net := { s.net with ownNow := true } }) hst hv hc]
    by_cases hwin : delta.natAbs ≤ s.accWin ∧ be p 0 8 = s.clock.cycle
    · obtain ⟨hnear, hcount⟩ := hwin
      rw [if_pos ⟨decide_eq_true hnear, hcount⟩, decide_eq_true ⟨hnear, hcount⟩]
      simp only [took, if_true, List.append_nil]
      rfl
    · rw [if_neg fun ⟨hnear, hcount⟩ => hwin ⟨of_decide_eq_true hnear, hcount⟩, decide_eq_false hwin]
      simp only [took, Bool.false_eq_true, if_false, List.append_nil]
      rfl
  case rate => rw [rateLimitReached_eq, if_pos hk, reportL_quiet hq]; rfl
  case noRate => rw [rateLimitReached_eq, if_neg (by omega)]
  case steer => rw [steeringLimitReached_eq, if_pos (by simp [hv, hs]), found_quiet hc hq rfl (by decide)]; rfl
  case noSteer =>
    rw [steeringLimitReached_eq, if_neg]
    obtain h | h := hno <;> simp [h]
  case map =>
    obtain ⟨hbase, hvalid, hstep⟩ := formMap_spec s
    refine ⟨hbase, hvalid, hstep, fun hm => if_neg (by simp [hm]), fun hs => ?_, formedRates_length s⟩
    split
    · exact formTarget_bound hs
    · exact hs

end Sys2Proof.Proofs
end

section
/-!
SUPPORT. The start of a basic cycle (R227): what the end of the last one leaves as it was, and what a lane with no axis and no node does
as it starts (R21, R92, R512).
-/
namespace Sys2Proof.Proofs
open Sys2Proof Sys2Proof.Machine Sys2Proof.Laws

/-! ### The end of a cycle -/

/-- `t` has what the start of a cycle asks about as `s` has it: count and interval, time base, coupling table, configuration and axes, the
accepted commands, the network state, and this lane's role with what is decided about it. -/
structure KeepsCycle (s t : State) : Prop where
  cycle : t.clock.cycle = s.clock.cycle := by rfl
  interval : t.clock.interval = s.clock.interval := by rfl
  time : t.time = s.time := by rfl
  coupling : t.coupling = s.coupling := by rfl
  cfg : t.cfg = s.cfg := by rfl
  axes : t.axes = s.axes := by rfl
  nodes : t.nodes.length = s.nodes.length := by rfl
  accepted : t.order.accepted = s.order.accepted := by rfl
  mapPending : t.order.mapPending = s.order.mapPending := by rfl
  net : t.net.st = s.net.st := by rfl
  woken : t.net.spareWokenThisStart = s.net.spareWokenThisStart := by rfl
  role : t.lanes.role = s.lanes.role := by rfl
  leaving : t.lanes.leaving = s.lanes.leaving := by rfl
  couch : t.lanes.couch = s.lanes.couch := by rfl
  realign : t.lanes.realign = s.lanes.realign := by rfl

namespace KeepsCycle
variable {s t u : State}

theorem refl (s : State) : KeepsCycle s s := {}

theorem trans (h : KeepsCycle s t) (k : KeepsCycle t u) : KeepsCycle s u where
  cycle := k.cycle.trans h.cycle
  interval := k.interval.trans h.interval
  time := k.time.trans h.time
  coupling := k.coupling.trans h.coupling
  cfg := k.cfg.trans h.cfg
  axes := k.axes.trans h.axes
  nodes := k.nodes.trans h.nodes
  accepted := k.accepted.trans h.accepted
  mapPending := k.mapPending.trans h.mapPending
  net := k.net.trans h.net
  woken := k.woken.trans h.woken
  role := k.role.trans h.role
  leaving := k.leaving.trans h.leaving
  couch := k.couch.trans h.couch
  realign := k.realign.trans h.realign

end KeepsCycle

/-- This lane is no source of a couch: it does not vote, or no lane joins. -/
def NoCouch (s : State) : Prop := s.voting = false ∨ s.lanes.couch.joiner = none

theorem KeepsCycle.noCouch {s t : State} (h : KeepsCycle s t) (hc : NoCouch s) : NoCouch t := by
  rw [NoCouch, State.voting, h.role, h.couch]
  exact hc

theorem sealEnd_keepsCycle {s : State} (h : s.order.sealMsg = none) : KeepsCycle s s.sealEnd := by
  unfold State.sealEnd State.voiceMoved
  rw [h]
  dsimp only
  split
  · exact .refl s
  · split <;> exact {}

theorem captureCouch_none {s : State} (h : NoCouch s) : s.captureCouch = s := by
  unfold State.captureCouch
  dsimp only
  split
  next j hj =>
    rw [if_neg]
    obtain hv | hn := h
    · simp [hv]
    · cases hn.symm.trans hj
  next => rfl

theorem captureSave_keepsCycle (s : State) : KeepsCycle s s.captureSave := by
  unfold State.captureSave
  split
  · split
    · exact {}
    · exact .refl s
  · exact .refl s

theorem netCycleEnd_keepsCycle {s : State} (h : s.net.st ≠ .listen) : KeepsCycle s s.netCycleEnd := by
  unfold State.netCycleEnd
  split
  next hl => exact absurd hl h
  next => dsimp only; split <;> exact {}
  next => exact {}
  next => dsimp only; split <;> exact {}
  next => exact {}

theorem starCycleEnd_keepsCycle (s : State) : KeepsCycle s s.starCycleEnd := by
  unfold State.starCycleEnd
  dsimp only
  split
  · obtain ⟨tx, heq, -⟩ := irq_eq { s with
      branches := s.branches.map (fun b => b.cycleEnd s.j s.clock.cycle)
      trunks := s.trunks.map (fun l => { l with outCycles := if l.st = .up then 0 else l.outCycles + 1 })
      relays := s.relays.map (fun l => { l with outCycles := if l.st = .up then 0 else l.outCycles + 1 })
      weirs := s.weirs.map (fun l => { l with outCycles := if l.st = .up then 0 else l.outCycles + 1 }) } 7
    rw [heq]
    exact {}
  · exact {}

theorem voteCycleEnd_keepsCycle (s : State) : KeepsCycle s s.voteCycleEnd :=
  {}

theorem inputCycleEnd_keepsCycle (s : State) : KeepsCycle s s.inputCycleEnd :=
  { nodes := List.length_map _ }

/-- A cycle that ends with no seal, nothing accepted and no couch to serve. -/
theorem endCycle_keepsCycle {s : State} (hst : s.net.st ≠ .listen) (hseal : s.order.sealMsg = none) (ha : s.order.accepted = [])
    (hc : NoCouch s) : KeepsCycle s s.endCycle := by
  have h1 := sealEnd_keepsCycle hseal
  have h2 := h1.trans (captureSave_keepsCycle _)
  have h3 := h2.trans (netCycleEnd_keepsCycle (h2.net.trans_ne hst))
  have h6 := ((h3.trans (starCycleEnd_keepsCycle _)).trans (voteCycleEnd_keepsCycle _)).trans (inputCycleEnd_keepsCycle _)
  unfold State.endCycle
  dsimp only
  rw [captureCouch_none (h1.noCouch hc), h6.accepted, ha, if_neg (by simp)]
  exact h6

/-! ### The new count -/

theorem acqCycleStart_keepsCycle (s : State) : KeepsCycle s s.acqCycleStart :=
  {}

theorem takeSamples_keepsCycle (xs : List LocalSample) : ∀ s : State, KeepsCycle s (s.takeSamples xs) := by
  unfold State.takeSamples
  induction xs with
  | nil => exact .refl
  | cons x xs ih =>
    intro s
    rw [List.foldl_cons]
    exact .trans {} (ih _)

theorem sendReplay_none {s : State} (h : NoCouch s) (k : Nat) (agreed : List (Nat × List Byte)) (bodies : List Accepted) :
    s.sendReplay k agreed bodies = s := by
  unfold State.sendReplay
  dsimp only
  split
  next j hj =>
    rw [if_neg]
    obtain hv | hn := h
    · simp [hv]
    · cases hn.symm.trans hj
  next => rfl

/-- The last cycle has ended, and the next one is counted and sampled. -/
def cycleCounted (s : State) (clk : Int) (xs : List LocalSample) : State :=
  ((({ s with tx := [] } : State).endCycle.nextCount clk).acqCycleStart).takeSamples xs

section
variable {s : State} (hst : s.net.st ≠ .listen) (hseal : s.order.sealMsg = none) (ha : s.order.accepted = []) (hc : NoCouch s)
include hst hseal ha hc

/-- The count has risen by one with the PHC latched (R227, R393); the rest that the start asks about stands as before. -/
theorem cycleCounted_spec (clk : Int) (xs : List LocalSample) : KeepsCycle { s with
    clock := { s.clock with cycle := s.clock.cycle + 1, interval := .lead }
    time := { s.time with latches := ((s.clock.cycle + 1, s.phc clk) :: s.time.latches).take 32, capReports := 0 } } (cycleCounted s clk xs) := by
  have h : KeepsCycle s ({ s with tx := [] } : State).endCycle :=
    .trans (t := { s with tx := [] }) {} (endCycle_keepsCycle (s := { s with tx := [] }) hst hseal ha hc)
  refine .trans ?_ ((acqCycleStart_keepsCycle _).trans (takeSamples_keepsCycle xs _))
  exact { h with
    cycle := congrArg (· + 1) h.cycle
    interval := rfl
    time := by rw [State.nextCount, State.phc, State.phc, h.time, h.cycle] }

/-- A lane about which nothing is decided and that does not join goes on to the part of a lane that computes. -/
theorem basicCycleStart_eq (hp : s.power.steward = true) (hl : s.lanes.leaving = []) (hr : s.lanes.role ≠ .joining) (clk : Int)
    (xs : List LocalSample) : exec (.basicCycleStart clk xs) s = .next (if (cycleCounted s clk xs).computing then
      (cycleCounted s clk xs).startCycle.refreshAtStart else cycleCounted s clk xs) := by
  have h := cycleCounted_spec hst hseal ha hc clk xs
  have hleave : (cycleCounted s clk xs).applyLeaving = cycleCounted s clk xs := by
    rw [State.applyLeaving, h.leaving]
    simp [hl]
  have htrial : (cycleCounted s clk xs).beginTrial = cycleCounted s clk xs := by
    rw [State.beginTrial, h.role, if_neg]
    simp [hr]
  have hcounted : ((({ s with tx := [] } : State).endCycle.nextCount clk).acqCycleStart).takeSamples xs = cycleCounted s clk xs := rfl
  have hexec : exec (.basicCycleStart clk xs) s = execBasicCycleStart clk xs s := rfl
  rw [hexec, execBasicCycleStart, if_neg (by simp [hp])]
  simp only [hcounted, hleave, sendReplay_none (h.noCouch hc), htrial]

end

/-! ### A lane with no axis and no node starts -/

/-- `t` has the clock, the network state and the axes of `s`, and hands out the same coupling words. -/
structure KeepsLone (s t : State) : Prop where
  clock : t.clock = s.clock
  net : t.net = s.net
  rd : t.coupling.rd = s.coupling.rd
  axes : t.axes = s.axes

namespace KeepsLone
variable {s t u : State}

theorem refl (s : State) : KeepsLone s s := ⟨rfl, rfl, rfl, rfl⟩

theorem trans (h : KeepsLone s t) (k : KeepsLone t u) : KeepsLone s u :=
  ⟨k.clock.trans h.clock, k.net.trans h.net, k.rd.trans h.rd, k.axes.trans h.axes⟩

theorem foldl {α : Type} {f : State → α → State} (hf : ∀ s a, KeepsLone s (f s a)) :
    ∀ (l : List α) (s : State), KeepsLone s (l.foldl f s)
  | [], s => refl s
  | a :: l, s => (hf s a).trans (foldl hf l (f s a))

end KeepsLone

theorem record_keepsLone (s : State) (r : EvRec) : KeepsLone s (s.record r) := by
  obtain ⟨ev, st, tx, h, -⟩ := record_eq s r
  rw [h]
  exact ⟨rfl, rfl, rfl, rfl⟩

theorem faultRecord_keepsLone (s : State) (kind code cls : Nat) (loc : Loc) (lane : Option Lane) (inst cycles raise : Nat) :
    KeepsLone s (s.faultRecord kind code cls loc lane inst cycles raise) :=
  (record_keepsLone s _).trans ⟨rfl, rfl, rfl, rfl⟩

theorem eventAfter_keepsLone (s : State) (r : FaultRep) : KeepsLone s (s.eventAfter r) := by
  unfold State.eventAfter
  split
  next e _ =>
    obtain ⟨rec, h, -⟩ := eventBody_record s e r.lane
    rw [h]
    exact record_keepsLone s rec
  next => exact .refl s

theorem releaseOne_keepsLone (s : State) (n : Queued) :
    KeepsLone s ((s.faultRecord frRaised n.rep.code 0 n.rep.loc n.rep.lane n.inst.toNat (s.clock.cycle - n.raised) n.raised).eventAfter
      n.rep) :=
  (faultRecord_keepsLone s _ _ _ _ _ _ _ _).trans (eventAfter_keepsLone _ n.rep)

theorem releaseQueue_keepsLone (s : State) : KeepsLone s s.releaseQueue := by
  unfold State.releaseQueue
  dsimp only
  split
  · have hfold := KeepsLone.foldl releaseOne_keepsLone s.faults.queue { s with faults := { s.faults with queue := [], dropped := 0 } }
    have h : KeepsLone s _ := .trans (t := { s with faults := { s.faults with queue := [], dropped := 0 } }) ⟨rfl, rfl, rfl, rfl⟩ hfold
    split
    · exact h
    · exact h.trans (record_keepsLone _ _)
  · exact .refl s

theorem setCoef_keepsLone (s : State) (g : Nat) (c : CoefRt) : KeepsLone s (s.setCoef (.group g) c) := ⟨rfl, rfl, rfl, rfl⟩

theorem coefStep_keepsLone (s : State) (g : Nat) : KeepsLone s (s.coefStep (.group g)) := by
  have helem (s : State) (e : CoefElem) : KeepsLone s (s.elementEffect (.group g) e) :=
    (setCoef_keepsLone s g _).trans (setCoef_keepsLone _ g _)
  unfold State.coefStep
  dsimp only
  split
  · exact .foldl helem _ _
  · exact (setCoef_keepsLone s g _).trans (.foldl helem _ _)

theorem coefSteps_keepsLone {s : State} (h : s.axes = []) : KeepsLone s s.coefSteps := by
  unfold State.coefSteps
  rw [h]
  exact .foldl coefStep_keepsLone _ s

/-- With no axis no group moves and no set-point is formed. -/
theorem formSetpoints_lone {s : State} (h : s.axes = []) : s.formSetpoints = s := by
  have hnone (o : Option Nat) : o.bind s.axis? = none := by
    cases o with
    | none => rfl
    | some n => simp [State.axis?, h]
  have hbegin (g : Nat) : s.groupBegin g = s := by
    unfold State.groupBegin
    split
    · rfl
    · simp only [hnone]
  have hend (g : Nat) : s.groupEnd g = s := by
    unfold State.groupEnd
    split
    · rfl
    · rw [hnone]
      split
      next hx => cases hx
      next => rfl
  have hfold {f : State → Nat → State} (hf : ∀ g, f s g = s) (l : List Nat) : l.foldl f s = s := by
    induction l with
    | nil => rfl
    | cons g l ih => rw [List.foldl_cons, hf, ih]
  simp only [State.formSetpoints, h, List.filter_nil, List.map_nil, List.foldl_nil, hfold hbegin, hfold hend]

theorem adopt_none {s : State} (h : s.lanes.realign = []) :
    s.adopt = { s with lanes := { s.lanes with realignData := s.lanes.realignData.filter (fun p => decide (p.1 ∉ ([] : List Nat))) } } := by
  simp [State.adopt, h]

theorem matrixStart_lone {s : State} (hm : s.order.mapPending = none) (hn : s.nodes = []) : s.matrixStart = s := by
  simp [State.matrixStart, State.lateSchedules, hm, hn]

theorem takeAccepted_none {s : State} (h : s.order.accepted = []) : s.takeAccepted = s := by
  have horder : { s.order with accepted := [] } = s.order := by rw [← h]
  simp [State.takeAccepted, h, horder]

/-- The coupling table's buffers swap, and with no axis nothing else is due (R21). -/
theorem startCycle_lone {s : State} (hr : s.lanes.realign = []) (hm : s.order.mapPending = none) (hn : s.nodes = []) (hax : s.axes = [])
    (ha : s.order.accepted = []) : KeepsLone s.swapCoupling s.startCycle := by
  let s1 := s.swapCoupling.adopt
  have hs1 : s1 = _ := adopt_none (s := s.swapCoupling) hr
  have hkeep : KeepsLone s.swapCoupling s1 := by rw [hs1]; exact ⟨rfl, rfl, rfl, rfl⟩
  have hax1 : s1.axes = [] := hkeep.axes.trans hax
  have hq := hkeep.trans (releaseQueue_keepsLone s1)
  have hq' := hq.trans (coefSteps_keepsLone (hq.axes.trans hax))
  have heq : s.startCycle = s1.releaseQueue.coefSteps := by
    have hmat : s1.matrixStart = s1 := matrixStart_lone (by rw [hs1]; exact hm) (by rw [hs1]; exact hn)
    have htake : s1.takeAccepted = s1 := takeAccepted_none (by rw [hs1]; exact ha)
    unfold State.startCycle
    change State.formSetpoints (State.coefSteps (State.releaseQueue (State.takeAccepted _))) = _
    simp only [show s.swapCoupling.adopt = s1 from rfl, hmat, hax1, List.filter_nil, List.map_nil, List.foldl_nil, htake]
    exact formSetpoints_lone (hq'.axes.trans hax)
  rw [heq]
  exact hq'

theorem refreshAtStart_woken {s : State} (h : s.net.spareWokenThisStart = true) : s.refreshAtStart = s := by
  simp [State.refreshAtStart, h]

end Sys2Proof.Proofs
end

section
/-!
PROOF. O43.
-/
namespace Sys2Proof.Proofs
open Sys2Proof Sys2Proof.Machine Sys2Proof.Laws

theorem basicCycleStart_off {s : State} (h : s.power.steward = false) (clk : Int) (xs : List LocalSample) :
    exec (.basicCycleStart clk xs) s = .next s := by
  have hexec : exec (.basicCycleStart clk xs) s = execBasicCycleStart clk xs s := rfl
  rw [hexec, execBasicCycleStart, if_pos (by simp [h])]

theorem ratePeriodStart_idle {s : State} (h : s.clock.running = false ∨ s.clock.cycle % 16 ≠ 0) : exec .ratePeriodStart s = .next s := by
  have hexec : exec .ratePeriodStart s = execRatePeriodStart s := rfl
  rw [hexec, execRatePeriodStart, if_pos (by simpa using h)]

/-- The clock of a rate period that begins (R274, R275, R277, R399). -/
def rateClock (s : State) : Clock :=
  let k := clampI (-250000) 250000 (s.clock.kappa + s.rho)
  let v := if s.simplex then s.steerOut else s.clock.steerNext.getD s.clock.steer
  { s.clock with
    kappa := k, kappaHeld := if k.natAbs = 250000 then s.clock.kappaHeld + 1 else 0, csum := 0, steer := v, steerNext := none
    steerHeld := if v.natAbs = 20 * 65536 then s.clock.steerHeld + 1 else 0 }

/-- Where neither limit stands as a fault, and no map waits, a rate period changes the clock alone. -/
theorem ratePeriodStart_quiet {s : State} (hrun : s.clock.running = true) (hcyc : s.clock.cycle % 16 = 0) (hmap : s.time.mapNext = none)
    (hrate : Quiet s 0x202 locNone) (hsteer : Quiet s 0x284 locNone) (hh : s.order.held = []) (ha : s.order.accepted = [])
    (hc : s.common = true) : exec .ratePeriodStart s = .next { s with clock := rateClock s } := by
  let t : State := { s with clock := rateClock s }
  have hend {code : Nat} (hq : Quiet s code locNone) : t.foundEnd code locNone = t :=
    (foundEnd_common (s := t) hc code locNone).trans (reportEnd_quiet (s := t) hq hh ha)
  have hinto : t.mapInForce = t := by rw [State.mapInForce, show t.time.mapNext = none from hmap]
  have hexec : exec .ratePeriodStart s = execRatePeriodStart s := rfl
  rw [hexec, execRatePeriodStart, if_neg (by simp [hrun, hcyc])]
  simp only [decide_eq_true_eq]
  change Host.Outcome.next (State.mapInForce (if _ then State.foundEnd (if _ then t.foundEnd 0x202 locNone else t) 0x284 locNone
    else if _ then t.foundEnd 0x202 locNone else t)) = .next t
  simp only [hend hrate, hend hsteer, ite_self, hinto]

/-- Settles O43. -/
theorem cyclesAndRatePeriodsBegin : Obligations.CyclesAndRatePeriodsBegin := by
  intro s clk xs
  refine ⟨fun h => basicCycleStart_off h clk xs, fun hp hst hv hj hl hseal ha => ?counts,
    fun hp hst hw hv hl hseal ha hm hax hn hcouch hre hx => ?lone, ratePeriodStart_idle, ratePeriodStart_quiet⟩
  case counts =>
    have hnv : s.voting = false := by simpa [State.voting] using hv
    have hnone : NoCouch s := .inl hnv
    have h := cycleCounted_spec hst hseal ha hnone clk xs
    have hidle : (cycleCounted s clk xs).computing = false := by
      simp [State.computing, State.voting, h.role, hv, hj]
    refine ⟨cycleCounted s clk xs, ?_, h.cycle, h.interval, by rw [h.time], h.coupling⟩
    rw [basicCycleStart_eq hst hseal ha hnone hp hl hj, if_neg (by simp [hidle])]
  case lone =>
    have hnl : s.net.st ≠ .listen := by simp [hst]
    have hnone : NoCouch s := .inr (by rw [hcouch])
    have h := cycleCounted_spec hnl hseal ha hnone clk xs
    have hcomp : (cycleCounted s clk xs).computing = true := by
      simp [State.computing, State.voting, State.stopped, h.role, h.net, hv, hst]
    have hk := startCycle_lone (h.realign.trans hre) (h.mapPending.trans hm) (List.eq_nil_of_length_eq_zero (h.nodes.trans (by simp [hn])))
      (h.axes.trans hax) (h.accepted.trans ha)
    refine ⟨(cycleCounted s clk xs).startCycle, ?_, by rw [hk.clock]; exact h.cycle, by rw [hk.clock]; exact h.interval,
      by rw [hk.rd]; exact congrArg Coupling.wr h.coupling, hk.axes.trans (h.axes.trans hax)⟩
    rw [basicCycleStart_eq hnl hseal ha hnone hp hl (by simp [hv]), if_pos hcomp,
      refreshAtStart_woken (by rw [hk.net]; exact h.woken.trans hw)]

end Sys2Proof.Proofs
end

section
/-!
SUPPORT. What holds the outputs off, and the switches of an output whose release request is gone (R450 to R453).
-/
namespace Sys2Proof.Proofs
open Sys2Proof Sys2Proof.Machine Sys2Proof.Laws

/-- `t` holds the outputs off as `s` does: release requests, cross lines, lock-out and the parameter set. -/
structure KeepsHold (s t : State) : Prop where
  release : t.safety.release = s.safety.release := by rfl
  procOff : t.safety.proc.off = s.safety.proc.off := by rfl
  set : t.safety.setInForce = s.safety.setInForce := by rfl
  lockedOut : t.lockedOut = s.lockedOut := by rfl
  lockoutId : t.safety.lockoutId = s.safety.lockoutId := by rfl

namespace KeepsHold
variable {s t u : State}

theorem refl (s : State) : KeepsHold s s := {}

theorem trans (h : KeepsHold s t) (k : KeepsHold t u) : KeepsHold s u where
  release := k.release.trans h.release
  procOff := k.procOff.trans h.procOff
  set := k.set.trans h.set
  lockedOut := k.lockedOut.trans h.lockedOut
  lockoutId := k.lockoutId.trans h.lockoutId

theorem foldl {α : Type} {f : State → α → State} (hf : ∀ s a, KeepsHold s (f s a)) :
    ∀ (l : List α) (s : State), KeepsHold s (l.foldl f s)
  | [], s => refl s
  | a :: l, s => (hf s a).trans (foldl hf l (f s a))

theorem sdoSafe (h : KeepsHold s t) (m : Nat) : t.sdoSafe m = s.sdoSafe m := by
  rw [State.sdoSafe, State.sdoSafe, State.setByte, State.setByte, h.set]

end KeepsHold

theorem supersede_keepsHold (s : State) (m : Nat) : KeepsHold s (s.supersede m) := by
  unfold State.supersede
  split
  · dsimp only
    split
    · exact {}
    · exact .refl s
  · exact .refl s

theorem settleOutput_keepsHold (s : State) (m : Nat) : KeepsHold s (s.settleOutput m) := by
  unfold State.settleOutput
  dsimp only
  split
  · exact {}
  split
  · split
    · exact .refl s
    · exact {}
  · exact {}

theorem settle_keepsHold (s : State) : KeepsHold (crossed s) s.settle := by
  rw [settle_eq]
  exact (KeepsHold.foldl supersede_keepsHold _ _).trans (.foldl settleOutput_keepsHold _ _)

/-- Something clears every release request of the lane (R453). -/
def clearsAll (s : State) : Bool := s.faults.sysF2 || s.faults.f3 || s.lockedOut || !s.voting

theorem crossed_release (s : State) :
    (crossed s).safety.release = if clearsAll s then List.replicate 4 false else s.safety.release := by
  unfold crossed clearsAll
  dsimp only
  split <;> rfl

theorem crossed_lock (s : State) : (crossed s).lockedOut = s.lockedOut ∧ (crossed s).safety.lockoutId = s.safety.lockoutId ∧
    (crossed s).safety.setInForce = s.safety.setInForce := by
  unfold crossed
  dsimp only
  split <;> exact ⟨rfl, rfl, rfl⟩

theorem settle_release (s : State) : s.settle.safety.release = if clearsAll s then List.replicate 4 false else s.safety.release :=
  (settle_keepsHold s).release.trans (crossed_release s)

theorem noRelease (m : Nat) : (List.replicate 4 false).getD m false = false := by
  by_cases h : m < 4
  · exact List.getD_replicate false h
  · exact List.getD_eq_default _ _ (by simpa using h)

/-- A request that is not set is not set after the switches followed. -/
theorem settle_release_unset {s : State} {m : Nat} (h : s.safety.release.getD m false = false) :
    s.settle.safety.release.getD m false = false := by
  rw [settle_release]
  split
  · exact noRelease m
  · exact h

/-- An output without its release request is held off by the processor (R450). -/
theorem crossed_procOff {s : State} {m : Nat} (hm : m < 4) (h : s.safety.release.getD m false = false) :
    (crossed s).safety.proc.off.getD m true = true := by
  have hoff (u : State) (hu : u.safety.release.getD m false = false) : ((List.range 4).map u.offP).getD m true = true := by
    have hmap : ((List.range 4).map u.offP).getD m true = u.offP m := by simp [List.getD_eq_getElem?_getD, hm]
    rw [hmap, State.offP, hu]
    simp
  have hclear : s.clearReleases.safety.release.getD m false = false := noRelease m
  unfold crossed
  dsimp only
  split
  · exact hoff _ hclear
  · exact hoff _ h

/-- Both switches of an output are off. -/
def OutputOff (s : State) (m : Nat) : Prop := ∀ o : Sdo, s.drivers.outs[m]? = some o → o.hs.on = false ∧ o.ls.on = false

theorem turn_off (sw : Switch) : (sw.turn false).on = false := by
  unfold Switch.turn
  simp only [Bool.false_eq_true, if_false]
  split
  · rfl
  next h =>
    simp only [Bool.or_eq_true, not_or, Bool.not_eq_true] at h
    obtain ⟨⟨-, hon⟩, -⟩ := h
    exact hon

/-- A safe output that the processor holds off is switched off (R450, R451). -/
theorem settleOutput_off {s : State} {m : Nat} (hs : s.sdoSafe m = true) (ho : s.safety.proc.off.getD m true = true) :
    OutputOff (s.settleOutput m) m := by
  intro o h
  have hh : s.highAllowed m = false := by rw [State.highAllowed, ho]; rfl
  have hl : s.lowAllowed m = false := by rw [State.lowAllowed, ho]; simp
  rw [State.settleOutput, if_pos hs, hh, hl] at h
  simp only [Bool.and_false] at h
  change (modAt s.drivers.outs m _)[m]? = some o at h
  rw [modAt_getElem?, if_pos rfl, Option.map_eq_some_iff] at h
  obtain ⟨o', -, rfl⟩ := h
  exact ⟨turn_off _, turn_off _⟩

theorem settleOutput_other {s : State} {m n : Nat} (h : m ≠ n) : (s.settleOutput n).drivers.outs[m]? = s.drivers.outs[m]? := by
  unfold State.settleOutput
  dsimp only
  split
  · exact modAt_getElem?_ne _ h
  split
  · split
    · rfl
    · exact modAt_getElem?_ne _ h
  · exact modAt_getElem?_ne _ h

/-- The steps over the outputs leave a safe output that is held off switched off, whichever are taken, once its own was. -/
theorem foldl_settleOutput_off {m : Nat} (l : List Nat) : ∀ s : State, s.sdoSafe m = true → s.safety.proc.off.getD m true = true →
    m ∈ l ∨ OutputOff s m → OutputOff (l.foldl State.settleOutput s) m := by
  induction l with
  | nil => exact fun s _ _ h => h.resolve_left List.not_mem_nil
  | cons n l ih =>
    intro s hs ho h
    have hk := settleOutput_keepsHold s n
    refine ih _ ((hk.sdoSafe m).trans hs) (by rw [hk.procOff]; exact ho) ?_
    by_cases hn : m = n
    · subst hn
      exact .inr (settleOutput_off hs ho)
    · obtain hmem | hoff := h
      · exact .inl ((List.mem_cons.mp hmem).resolve_left hn)
      · exact .inr fun o => by rw [settleOutput_other hn]; exact hoff o

/-- A safe output without its release request is off once the switches followed. -/
theorem settle_unset_off {s : State} {m : Nat} (hm : m < 4) (hs : s.sdoSafe m = true) (h : s.safety.release.getD m false = false) :
    OutputOff s.settle m := by
  have hk := KeepsHold.foldl supersede_keepsHold (List.range 4) (crossed s)
  obtain ⟨-, -, hset⟩ := crossed_lock s
  have hsafe : (crossed s).sdoSafe m = true := by rw [State.sdoSafe, State.setByte, hset]; exact hs
  rw [settle_eq]
  exact foldl_settleOutput_off _ _ ((hk.sdoSafe m).trans hsafe) (by rw [hk.procOff]; exact crossed_procOff hm h)
    (.inl (List.mem_range.mpr hm))

end Sys2Proof.Proofs
end

section
/-!
PROOF. O39.
-/
namespace Sys2Proof.Proofs
open Sys2Proof Sys2Proof.Machine Sys2Proof.Laws

/-! ### Voice and the spare lane (R355, R361, R364) -/

/-- The lanes of `s` once voice has passed to a lane (R351). -/
def voicePassed (s : State) (l : Lane) : Lanes :=
  { s.lanes with voice := some l, epoch := s.lanes.epoch + 1, voiceSeen := true, voiceStop := false, voiceAt := s.clock.cycle }

/-- In the common sequence the passing of voice is one record, VOICE_CHANGED. -/
theorem passVoice_common {s : State} (hc : s.common = true) (l : Lane) (reason : Nat) : ∃ e : EvRec, e.kind = 0x501 ∧
    s.passVoice l reason = { s with
      lanes := voicePassed s l, events := (s.passVoice l reason).events, host := (s.passVoice l reason).host
      tx := (s.passVoice l reason).tx } ∧ (s.passVoice l reason).events.fresh = s.events.fresh ++ [e] := by
  let s1 : State := { s with
    lanes := voicePassed s l, events := { s.events with rewrite := s.events.rewrite || (l == s.lane && s.voting) } }
  obtain ⟨st, tx, hirq⟩ := irq7_eq (s1.event 0x501 0xFF ([BitVec.ofNat 8 ((s.lanes.voice.map Lane.num).getD 0xFF), BitVec.ofNat 8 l.num] ++
    toLe 2 (s.lanes.epoch + 1).toNat ++ [BitVec.ofNat 8 reason])) s.lanes.voiceSeen
  have heq : s.passVoice l reason = _ := hirq
  rw [State.event, record_common s1 _ hc] at heq
  refine ⟨_, ?_, by rw [heq], by rw [heq]⟩
  rfl

theorem wakeRefresh_dormant {s : State} (h3 : s.config = 3) (hl : s.lane ≠ .s) (hd : s.lanes.spareState = .dormant) :
    s.wakeRefresh = { s with lanes := { s.lanes with spareState := .refresh }, tx := s.tx ++ [.wakeLow 1500] } := by
  rw [State.wakeRefresh, if_pos ⟨h3, hl, hd⟩]
  rfl

theorem wakeSpare_sleeping {s : State} (h3 : s.config = 3) (hl : s.lane ≠ .s)
    (hd : s.lanes.spareState = .dormant ∨ s.lanes.spareState = .refresh) (hw : s.lanes.spareWake = false) :
    s.wakeSpare = { s with lanes := { s.lanes with spareWake := true, couchWait := true }, tx := s.tx ++ [.wakeLow 100] } := by
  rw [State.wakeSpare, if_pos (by simp [h3, hl, hd, hw])]
  rfl

/-- A SPARE_TAKEOVER that names no lane only wakes the spare lane (R583). -/
theorem takeover_none {s : State} {r : Req} (h : r.target = 0xFFFF) : s.takeover r = s.wakeSpare := by
  have hno : isLaneT r.target.toNat = false := by rw [h]; rfl
  simp [State.takeover, hno]

/-! ### The acquisition set-up (R418, R423, R429, R431) -/

theorem acqArm_spec (s : State) : let t := s.acqArm
    t = { s with acq := t.acq } ∧ t.acq.running = true ∧ t.acq.mem = s.acq.mem ∧
      t.acq.openLanes = s.lanes.vset.filter (fun l => bit (s.aq 0 0) l.num) ∧
      (s.voting = true → bit (s.aq 0 0) s.lane.num = true → t.acq.st = .filling ∧ t.acq.segment = 0 ∧
        t.acq.written = 0 ∧ t.acq.descrs = [] ∧ t.acq.missedTotal = 0 ∧ t.acq.lastTrig = s.clock.cycle) := by
  intro t
  have hrec : ({ s with acq := { s.acq with running := true, openLanes := s.lanes.vset.filter (fun l => bit (s.aq 0 0) l.num) } } :
      State).recording = (s.voting && bit (s.aq 0 0) s.lane.num) := rfl
  cases h : s.voting && bit (s.aq 0 0) s.lane.num with
  | false =>
    have ht : t = _ := if_pos (by rw [hrec, h]; rfl)
    rw [ht]
    refine ⟨rfl, rfl, rfl, rfl, fun hv hb => ?_⟩
    simp [hv, hb] at h
  | true =>
    have ht : t = _ := if_neg (by rw [hrec, h]; exact Bool.false_ne_true)
    rw [ht]
    exact ⟨rfl, rfl, rfl, rfl, fun _ _ => ⟨rfl, rfl, rfl, rfl, rfl, rfl⟩⟩

/-- The report of a complete set-up waits for the command order in the common sequence (R431). -/
theorem acqComplete_common {s : State} (hc : s.common = true) (closed reason : Nat) :
    ∃ b : Body, s.acqComplete closed reason = withBody s b :=
  ⟨_, collectOwn_common (s := withBody s _) hc⟩

/-- The set-up of `s` as ACQ_STOP leaves it, before it is reported complete (R429): a segment in POST is closed. -/
def acqHalted (s : State) : State :=
  let s' := if s.recording && s.acq.st == .post then (if s.acq.trigPending then s.fixPre else s).writeDescr else s
  { s' with acq := { s'.acq with running := false, openLanes := [], st := if s.recording then .idle else s'.acq.st } }

theorem acqHalted_spec (s : State) : acqHalted s = { s with acq := (acqHalted s).acq } ∧ (acqHalted s).acq.running = false ∧
    (acqHalted s).acq.mem = s.acq.mem ∧ (acqHalted s).acq.openLanes = [] ∧ (s.recording = true → (acqHalted s).acq.st = .idle) := by
  unfold acqHalted
  dsimp only
  split
  · split <;> exact ⟨rfl, rfl, rfl, rfl, fun h => if_pos h⟩
  · exact ⟨rfl, rfl, rfl, rfl, fun h => if_pos h⟩

theorem acqStop_spec {s : State} (hc : s.common = true) : let t := s.acqStop
    t = { s with acq := t.acq, order := t.order } ∧ t.acq.running = false ∧ t.acq.mem = s.acq.mem ∧ t.acq.openLanes = [] ∧
      (s.recording = true → t.acq.st = .idle) ∧ (s.recording = true → s.acq.st = .idle ∨ s.acq.st = .complete → t.order = s.order) := by
  intro t
  obtain ⟨hframe, hrun, hmem, hopen, hidle⟩ := acqHalted_spec s
  have ht : t = if s.recording && (s.acq.st == .filling || s.acq.st == .armed || s.acq.st == .post) then
      (acqHalted s).acqComplete (s.acq.segment + (if s.acq.st == .post then 1 else 0)) 1 else acqHalted s := rfl
  have hcommon : (acqHalted s).common = true := by rw [hframe]; exact hc
  rw [ht]
  split
  next hwas =>
    obtain ⟨b, hb⟩ := acqComplete_common hcommon (s.acq.segment + (if s.acq.st == .post then 1 else 0)) 1
    rw [hb]
    refine ⟨?_, hrun, hmem, hopen, hidle, fun _ hst => ?_⟩
    · rw [hframe]; rfl
    · obtain hst | hst := hst <;> simp [hst] at hwas
  next =>
    refine ⟨?_, hrun, hmem, hopen, hidle, fun _ _ => by rw [hframe]⟩
    rw [hframe]

/-! ### The safe outputs (R453, R470) -/

/-- `s` with other release requests. -/
def withReleases (s : State) (l : List Bool) : State := { s with safety := { s.safety with release := l } }

theorem withReleases_settle_switches (s : State) (l : List Bool) : Switches s (withReleases s l).settle :=
  Switches.trans (s := s) (t := withReleases s l) rfl (settle_switches _)

theorem sdoRelease_spec {s : State} (hl : s.lockedOut = false) (h2 : s.faults.sysF2 = false) (h3 : s.faults.f3 = false)
    (hv : s.voting = true) (mask : Nat) : Switches s (s.sdoRelease mask) ∧ (s.sdoRelease mask).safety.release =
      (List.range 4).map (fun m => s.safety.release.getD m false || (bit mask m && s.sdoSafe m)) := by
  have hkeep (l : List Bool) : clearsAll (withReleases s l) = false := by
    change (s.faults.sysF2 || s.faults.f3 || s.lockedOut || !s.voting) = false
    rw [hl, h2, h3, hv]
    rfl
  have heq : s.sdoRelease mask = (withReleases s _).settle := rfl
  rw [heq, settle_release, hkeep]
  exact ⟨withReleases_settle_switches s _, rfl⟩

theorem sdoApply_spec (s : State) (mask : Nat) : Switches s (s.sdoApply mask) ∧ ∀ m < 4, bit mask m = true →
    (s.sdoApply mask).safety.release.getD m false = false ∧ (s.sdoSafe m = true → OutputOff (s.sdoApply mask) m) := by
  have heq : s.sdoApply mask = (withReleases s ((List.range 4).map (fun m => s.safety.release.getD m false && !bit mask m))).settle := rfl
  rw [heq]
  refine ⟨withReleases_settle_switches s _, fun m hm hb => ?_⟩
  have hunset : ((List.range 4).map (fun m => s.safety.release.getD m false && !bit mask m)).getD m false = false := by
    simp [List.getD_eq_getElem?_getD, hm, hb]
  exact ⟨settle_release_unset hunset, fun hs => settle_unset_off (s := withReleases s _) hm hs hunset⟩

theorem safetyAck_spec {s : State} {id : Nat} (hl : s.lockedOut = true) (hid : s.safety.lockoutId.toNat = id) :
    Switches s (s.safetyAck id) ∧ (s.safetyAck id).safety.ackPending = some id ∧
      (s.safetyAck id).safety.release = List.replicate 4 false := by
  have hk := settle_keepsHold s.clearReleases
  have hsw : Switches s s.clearReleases.settle := withReleases_settle_switches s _
  have hrel : s.clearReleases.settle.safety.release = List.replicate 4 false := (settle_release _).trans (ite_self _)
  obtain ⟨hlock, hlid, -⟩ := crossed_lock s.clearReleases
  have h1 : s.clearReleases.settle.lockedOut = true := (hk.lockedOut.trans hlock).trans hl
  have h2 : s.clearReleases.settle.safety.lockoutId.toNat = id := by
    rw [hk.lockoutId, hlid]
    exact hid
  rw [State.safetyAck]
  generalize s.clearReleases.settle = t at hsw hrel h1 h2 ⊢
  dsimp only
  rw [if_pos (by simp [h1, h2])]
  exact ⟨hsw.trans rfl, rfl, hrel⟩

/-! ### The effects -/

/-- The effect row of an instruction whose opcode's operation leaves `t`. -/
theorem effectRow_next {s t : State} {a : Accepted} {rest : List Accepted} {r : Req} {i : Instr} {op : Nat}
    (hi : exec i s = .next (s.opRow op .effect r)) (h : TakesNext s a rest r r.opcode) (hop : r.opcode = op) (hax : isAxisOp op = false)
    (ht : (withPlaces s rest).effectOp r a.captured = t) : exec i s = .next t := by
  rw [hi, opRow_next h hop hax, ht]

/-- Settles O39: each command's operation finds the state without the command's place. -/
theorem systemCommandsTakeEffect : Obligations.SystemCommandsTakeEffect := by
  intro s a rest r h hc s0 lane mask q outs does
  refine ⟨fun hop hv hn => ?voice, fun hop h3 hl hd => ?refresh, fun hop ht h3 hl hd hw => ?takeover, fun hop => ?arm, fun hop => ?stop,
    fun hop => ?force, fun hop hl hlo h2 h3 hv => ?release, fun hop hl => ?apply, fun hop hl hlo hid => ?ack, fun hop => ?save,
    fun hop => ?cluster⟩
  case voice =>
    obtain ⟨e, he, ht, hfresh⟩ := passVoice_common (s := s0) hc lane 4
    refine ⟨s0.passVoice lane 4, e, effectRow_next rfl h hop rfl ?_, ht, hfresh, he⟩
    simp only [State.effectOp, hop]
    exact if_pos ⟨hv, hn⟩
  case refresh =>
    refine effectRow_next rfl h hop rfl ?_
    simp only [State.effectOp, hop]
    exact wakeRefresh_dormant (s := s0) h3 hl hd
  case takeover =>
    refine effectRow_next rfl h hop rfl ?_
    simp only [State.effectOp, hop, takeover_none ht]
    exact wakeSpare_sleeping (s := s0) h3 hl hd hw
  case arm =>
    refine ⟨s0.acqArm, effectRow_next rfl h hop rfl ?_, acqArm_spec s0⟩
    simp only [State.effectOp, hop]
    rfl
  case stop =>
    refine ⟨s0.acqStop, effectRow_next rfl h hop rfl ?_, acqStop_spec (s := s0) hc⟩
    simp only [State.effectOp, hop]
    rfl
  case force =>
    refine effectRow_next rfl h hop rfl ?_
    simp only [State.effectOp, hop]
    rfl
  case release =>
    refine ⟨s0.sdoRelease mask, effectRow_next rfl h hop rfl ?_, sdoRelease_spec (s := s0) hlo h2 h3 hv mask⟩
    simp only [State.effectOp, hop]
    exact if_pos hl
  case apply =>
    obtain ⟨hsw, hoff⟩ := sdoApply_spec s0 mask
    refine ⟨s0.sdoApply mask, effectRow_next rfl h hop rfl ?_, hsw, fun m hm hb => ?_⟩
    · simp only [State.effectOp, hop]
      exact if_pos (hl.imp_left fun ht => by rw [ht]; rfl)
    · obtain ⟨hrel, hout⟩ := hoff m hm hb
      exact ⟨hrel, fun o hs => hout hs o⟩
  case ack =>
    refine ⟨s0.safetyAck mask, effectRow_next rfl h hop rfl ?_, safetyAck_spec (s := s0) hlo hid⟩
    simp only [State.effectOp, hop]
    exact if_pos hl
  case save =>
    refine effectRow_next rfl h hop rfl ?_
    simp only [State.effectOp, hop]
    rfl
  case cluster =>
    refine effectRow_next rfl h hop rfl ?_
    simp only [State.effectOp, hop]
    rfl

end Sys2Proof.Proofs
end

section
/-!
SUPPORT. The sluices (R289 to R294, R300, R306 to R308): a branch port and a position after a change, frames that pass to the lane
links, and what each row of the sluice does with the position or the branch it names.
-/
namespace Sys2Proof.Proofs
open Sys2Proof Sys2Proof.Machine Sys2Proof.Laws

/-! ### Branch ports and positions -/

theorem modAt_getD {α : Type} (f : α → α) {l : List α} {n : Nat} (h : n < l.length) (d : α) : (modAt l n f).getD n d = f (l.getD n d) := by
  rw [List.getD_eq_getElem?_getD, List.getD_eq_getElem?_getD, modAt_getElem?_self f (List.getElem?_eq_getElem h), List.getElem?_eq_getElem h]
  rfl

theorem updBranch_self (s : State) (b : Nat) : s.updBranch b (fun r => r) = s := by
  have h : modAt s.branches b (fun r => r) = s.branches := List.ext_getElem? fun m => by rw [modAt_getElem?, Option.map_id', ite_self]
  rw [State.updBranch, h]

section
variable {s : State} {b p : Nat} (hb : b < s.branches.length)
include hb

theorem branch_updBranch (f : Branch → Branch) : (s.updBranch b f).branches.getD b {} = f (s.branches.getD b {}) :=
  modAt_getD f hb {}

theorem pos_updPos (hp : p < (s.branches.getD b {}).poss.length) (f : Position → Position) :
    (s.updPos b p f).pos b p = f (s.pos b p) := by
  rw [State.pos, State.updPos, branch_updBranch hb]
  exact modAt_getD f hp {}

end

/-! ### Frames to the lane links (R282, R283) -/

theorem foldl_send {α : Type} (g : α → Tx) : ∀ (l : List α) (s : State),
    l.foldl (fun s a => s.send (g a)) s = { s with tx := s.tx ++ l.map g }
  | [], s => by simp
  | a :: l, s => by
    rw [List.foldl_cons, foldl_send g l, send_tx, List.append_assoc]
    rfl

theorem forwardUp_eq (s : State) (b : Nat) (bytes : List Byte) (cut : Bool) (stamp : Int) : s.forwardUp b bytes cut stamp =
    { s with tx := s.tx ++ (s.laneLinks b).map (fun c => .up c bytes cut stamp) } :=
  foldl_send _ _ s

/-- Trunks and relays lead to the lanes, so no change of a branch port changes the links that are up. -/
theorem laneLinks_updBranch (s : State) (n : Nat) (f : Branch → Branch) (b : Nat) : (s.updBranch n f).laneLinks b = s.laneLinks b := by
  have hst (c : Nat) (h : 8 ≤ c) : (s.updBranch n f).linkSt c = s.linkSt c := by
    rw [State.linkSt, State.linkSt, if_neg (by omega), if_neg (by omega)]
    rfl
  have hen (c : Nat) : (s.updBranch n f).linkEnabled c = s.linkEnabled c := rfl
  rw [State.laneLinks, State.laneLinks]
  refine congrArg _ (List.filter_congr fun c hc => ?_)
  simp only [List.mem_cons, List.not_mem_nil, or_false] at hc
  rw [hst c (by omega), hen c]

/-! ### Reports of the star -/

/-- A kind L source that is not known yet makes a report of this lane (R504). -/
theorem reportL_new {s : State} {r : FaultRep} (hq : Quiet s r.code r.loc) : s.reportL r = s.report r := by
  obtain ⟨hactive, hreports⟩ := hq
  simp [State.reportL, hactive, hreports]

/-- A condition that ended adds to the bodies that wait for the command order, and changes nothing else. -/
theorem reportEnd_held (s : State) (code : Nat) (loc : Loc) : ∃ l, s.reportEnd code loc =
    { s with order := { s.order with held := s.order.held ++ l } } := by
  obtain h | h := reportEnd_cases s code loc
  · exact ⟨[], by rw [h, List.append_nil]⟩
  · exact ⟨_, h⟩

/-! ### Frames at a branch port (R289, R290, R294, R300) -/

/-- A frame that R241 keeps of position `p` of branch `b`, of a type, for this channel and this cycle. -/
def FrameOf (s : State) (ty b p : Nat) (bytes : List Byte) : Prop :=
  frameOk bytes true = true ∧ (Hdr.of bytes).ty = ty ∧ (Hdr.of bytes).branch = b ∧ (Hdr.of bytes).pos = p ∧
    (Hdr.of bytes).cycle = s.clock.cycle % 64 ∧ (Hdr.of bytes).matrix = s.clock.cycle / 64 % 256

/-- `w` alone is the uplink entry active in this cycle, it is that of position `p`, and the frame begins and ends within it (R289). -/
def OpensFor (s : State) (b p : Nat) (w : BitVec 32) (sof eof : Int) : Prop :=
  (s.branches.getD b {}).sched.filter (fun w => entWin w == 0 && entActive w (s.clock.cycle % 64)) = [w] ∧ entPos w = p ∧
    (sof - upStartNs w).natAbs ≤ s.accWin ∧ eof ≤ upStartNs w + 50 * entLen w - s.accWin

/-- A position whose frame was admitted (R293, R301). -/
def admitted (bytes : List Byte) (q : Position) : Position :=
  { q with goodNow := true, viol := if q.violNow then q.viol else 0, req := byteAt (payloadOf bytes) 2 % 8 }

theorem frameOk_hdrOk {bytes : List Byte} {codeOk : Bool} (h : frameOk bytes codeOk = true) : hdrOk bytes = true := by
  simp only [frameOk, Bool.and_eq_true] at h
  obtain ⟨⟨⟨⟨⟨-, hhdr⟩, -⟩, -⟩, -⟩, -⟩ := h
  exact hhdr

/-- What keeps a position or a branch closed (R294, R307, R578). -/
theorem not_reopened {closed hostClosed : Bool} {auto least count : Nat}
    (h : closed = false ∨ hostClosed = true ∨ auto ≠ 1 ∨ count < least) :
    ¬(closed = true ∧ hostClosed = false ∧ auto = 1 ∧ least ≤ count) := by
  rintro ⟨hc, hh, ha, hl⟩
  obtain h | h | h | h := h
  · exact Bool.false_ne_true (h.symm.trans hc)
  · exact Bool.false_ne_true (hh.symm.trans h)
  · exact h ha
  · exact Nat.not_le.mpr h hl

section
variable {s : State} {ch : Channel} (hr : s.relaying = some ch) {b p : Nat} {bytes : List Byte} {sof eof : Int}
include hr

/-- A frame that fits the open entry passes whole, or only counts as one that would have passed (R289, R294). -/
theorem uplinkFrameArrival_fits {w : BitVec 32} (hf : FrameOf s 1 b p bytes) (hch : (Hdr.of bytes).ch = chNum ch)
    (ho : OpensFor s b p w sof eof) : exec (.uplinkFrameArrival b bytes true sof eof 0) s =
      .next (if (s.pos b p).shut || (s.branches.getD b {}).shut then s.updPos b p (fun q => { q with wouldNow := true })
        else (s.updPos b p (admitted bytes)).forwardUp b bytes false sof) := by
  obtain ⟨hok, hty, hbr, hpos, hcyc, hmat⟩ := hf
  obtain ⟨hact, hentry, hin, hend⟩ := ho
  have hhdr := frameOk_hdrOk hok
  have hact' : ((s.branches.getD b {}).sched.filter (fun w => entWin w == 0)).filter (fun w => entActive w s.j) = [w] := by
    rw [List.filter_filter, ← hact]
    exact List.filter_congr fun _ _ => Bool.and_comm _ _
  have hopen : ([w].find? fun w => decide ((sof - upStartNs w).natAbs ≤ s.accWin)) = some w := by simp [hin]
  have hfits : (true && (Hdr.of bytes).ty == 1 && (Hdr.of bytes).ch == chNum ch && (Hdr.of bytes).branch == b
      && (Hdr.of bytes).pos == entPos w && (Hdr.of bytes).cycle == s.j && (Hdr.of bytes).matrix == s.matrix
      && decide (eof ≤ upStartNs w + 50 * entLen w - s.accWin) && true) = true := by
    simp [hty, hch, hbr, hpos, hentry, hcyc, hmat, hend, State.j, State.matrix]
  change execUplinkFrameArrival b bytes true sof eof 0 s = _
  simp only [execUplinkFrameArrival, hr, hhdr, hok, if_true, Nat.add_zero, updBranch_self, hact', hopen]
  rw [if_pos hfits, hpos]
  rfl

/-- A frame of the granted position that fits the arbitrating window passes whole (R300). -/
theorem acycUpAdmit_fits (hf : FrameOf s 6 b p bytes) (hgrant : (s.branches.getD b {}).grant = p)
    (hin : s.arbStartNs - s.accWin ≤ sof) (hend : eof ≤ s.arbEndNs - s.accWin) (hopen : (s.pos b p).shut = false)
    (hup : (s.branches.getD b {}).shut = false) :
    exec (.acycUpAdmit b bytes true sof eof) s = .next (s.forwardUp b bytes false sof) := by
  obtain ⟨hok, hty, hbr, hpos, hcyc, hmat⟩ := hf
  have hhdr := frameOk_hdrOk hok
  have hlate : ¬s.arbEndNs - s.accWin < eof := by omega
  change execAcycUpAdmit b bytes true sof eof s = _
  simp only [execAcycUpAdmit, hr, hhdr, hok, if_true, Nat.add_zero, updBranch_self, hbr, hpos, hgrant, hty, hcyc, hmat, hopen, hup]
  simp [hin, hlate, State.j, State.matrix]

/-! ### Positions (R293, R294) -/

theorem exec_nodeClosed : exec (.nodeClosed b p) s = .next (if 3 ≤ (s.pos b p).viol ∧ (s.pos b p).closed = false then
      (s.updPos b p (fun q => { q with closed := true, good := 0, defer := 0 })).reportL (mkFault 0x208 (locNode (chNum ch) b p) none
        (some { code := 0x4C6, payload := [BitVec.ofNat 8 (chNum ch), BitVec.ofNat 8 b, BitVec.ofNat 8 p] }))
    else s) := by
  change execNodeClosed b p s = _
  simp only [execNodeClosed, hr, Bool.not_eq_true']

theorem exec_nodeReopened : exec (.nodeReopened b p) s = .next (if (s.pos b p).closed = true ∧ (s.pos b p).hostClosed = false ∧
      s.fld (tgtChan ch) 0x0704 5 0 = 1 ∧ s.fld (tgtChan ch) 0x0704 4 0 ≤ (s.pos b p).good then s.openPos ch b p else s) := by
  change execNodeReopened b p s = _
  simp only [execNodeReopened, hr, Bool.and_eq_true, Bool.not_eq_true', beq_iff_eq, decide_eq_true_eq, and_assoc]

/-! ### Branches (R306, R307) -/

theorem exec_branchClosed : exec (.branchClosed b) s = .next (if (s.branches.getD b {}).closed = false ∧
      s.fld (tgtChan ch) 0x0704 6 0 ≤ (s.branches.getD b {}).babbleRun then
      (s.updBranch b (fun r => { r with closed := true, quietRun := 0 })).reportL (mkFault 0x209 (locPort b) none (some {
        code := 0x4C8, payload := [BitVec.ofNat 8 (chNum ch), BitVec.ofNat 8 b, 0xFF] ++ toLe 2 (s.branches.getD b {}).babbleRun }))
    else s) := by
  change execBranchClosed b s = _
  simp only [execBranchClosed, hr, Bool.and_eq_true, Bool.not_eq_true', decide_eq_true_eq]

theorem exec_branchReopened : exec (.branchReopened b) s = .next (if (s.branches.getD b {}).closed = true ∧
      (s.branches.getD b {}).hostClosed = false ∧ s.fld (tgtChan ch) 0x0704 5 0 = 1 ∧ 64 ≤ (s.branches.getD b {}).quietRun then
      s.openBranch ch b else s) := by
  change execBranchReopened b s = _
  simp only [execBranchReopened, hr, Bool.and_eq_true, Bool.not_eq_true', beq_iff_eq, decide_eq_true_eq, and_assoc]

end

/-- A position that its sluice had closed opens with its event (R294). -/
theorem openPos_closed {s : State} {b p : Nat} (hc : (s.pos b p).closed = true) (ch : Channel) : ∃ o,
    s.openPos ch b p = { s.updPos b p (fun q => { q with closed := false, hostClosed := false, viol := 0, good := 0 }) with order := o } ∧
    s.order.held.length + 1 ≤ o.held.length := by
  obtain ⟨l, hl⟩ := reportEnd_held (s.updPos b p (fun q => { q with closed := false, hostClosed := false, viol := 0, good := 0 })) 0x208
    (locNode (chNum ch) b p)
  rw [State.openPos, if_pos hc, hl]
  exact ⟨_, rfl, by simp⟩

/-- A branch that its sluice had closed opens with its event (R307). -/
theorem openBranch_closed {s : State} {b : Nat} (hc : (s.branches.getD b {}).closed = true) (ch : Channel) : ∃ o,
    s.openBranch ch b = { s.updBranch b (fun r => { r with closed := false, quietRun := 0 }) with order := o } ∧
    s.order.held.length + 1 ≤ o.held.length := by
  rw [State.openBranch, if_pos hc]
  obtain ⟨l, hl⟩ := reportEnd_held ((s.updBranch b (fun r => { r with closed := false, quietRun := 0 })).reportEvent {
    code := 0x4C9, payload := [BitVec.ofNat 8 (chNum ch), BitVec.ofNat 8 b, 0xFF] ++ toLe 2 (s.branches.getD b {}).babbleRun }) 0x209 (locPort b)
  rw [hl]
  exact ⟨_, rfl, by simp [State.reportEvent, State.reportBody]⟩

/-! ### Counts within 64 cycles (R308, Table 6.15) -/

theorem exec_frameErrorLimit (b : Nat) (s : State) : exec (.frameErrorLimit b) s =
    .next (if 16 ≤ (s.branches.getD b {}).discards.length then
      (s.updBranch b (fun r => { r with discards := [] })).report (mkFault 0x206 (locPort b)) else s) := rfl

theorem exec_laneLinkDropLimit (b : Nat) (l : Lane) (s : State) : exec (.laneLinkDropLimit b l) s =
    .next (if 16 ≤ ((s.branches.getD b {}).drops.filter (fun d => d.1 == l)).length then
      (s.updBranch b (fun r => { r with drops := r.drops.filter (fun d => d.1 != l) })).report (mkFault 0x20B (locLane l)) else s) := rfl

end Sys2Proof.Proofs
end

section
/-!
The obligation about the sluices.
-/
namespace Sys2Proof.Proofs
open Sys2Proof Sys2Proof.Machine Sys2Proof.Laws

/-- Settles O44: each row of the sluice by its equation, its conditions met or not. -/
theorem sluicesAdmitAndClose : Obligations.SluicesAdmitAndClose := by
  intro s b p bytes sof eof ch w hr hb hp br q h j matches_ opens bytes3 up babbled limit rep
  refine ⟨fun hm ho hq hup => ?passes, fun hm ho hshut => ?counts, fun hok hty hbr hpos hgrant hcyc hmat hin hend hq hup => ?window,
    fun hv hc hquiet => ?closes, fun hno => (exec_nodeClosed hr).trans (congrArg _ (if_neg fun ⟨hv, hc⟩ => ?staysOpen)),
    fun hc hh ha hg => ?reopens, fun hno => (exec_nodeReopened hr).trans (congrArg _ (if_neg (not_reopened hno))),
    fun hc hrun hquiet => ?branchCloses, fun hc hh ha hrun => ?branchReopens,
    fun hno => (exec_branchReopened hr).trans (congrArg _ (if_neg (not_reopened hno))),
    fun hd => (exec_frameErrorLimit b s).trans (congrArg _ (if_pos hd)),
    fun hd => (exec_frameErrorLimit b s).trans (congrArg _ (if_neg (Nat.not_le.mpr hd))),
    fun l hd => (exec_laneLinkDropLimit b l s).trans (congrArg _ (if_pos hd))⟩
  case passes =>
    obtain ⟨hok, hty, hch, hbr, hpos, hcyc, hmat⟩ := hm
    have hpass : ((s.pos b p).shut || (s.branches.getD b {}).shut) = false := Bool.or_eq_false_iff.mpr ⟨hq, hup⟩
    refine ⟨_, (uplinkFrameArrival_fits hr ⟨hok, hty, hbr, hpos, hcyc, hmat⟩ hch ho).trans
      (congrArg _ (if_neg (Bool.eq_false_iff.mp hpass))), ?_, ?_, ?_, fun m hne => ?_⟩
    all_goals rw [forwardUp_eq]
    · change s.tx ++ ((s.updPos b p (admitted bytes)).laneLinks b).map _ = _
      rw [updPos_eq, laneLinks_updBranch]
    · exact pos_updPos hb hp (admitted bytes)
    · rfl
    · exact modAt_getElem?_ne _ hne
  case counts =>
    obtain ⟨hok, hty, hch, hbr, hpos, hcyc, hmat⟩ := hm
    exact (uplinkFrameArrival_fits hr ⟨hok, hty, hbr, hpos, hcyc, hmat⟩ hch ho).trans
      (congrArg _ (if_pos (Bool.or_eq_true_iff.mpr hshut)))
  case window =>
    refine ⟨_, acycUpAdmit_fits hr ⟨hok, hty, hbr, hpos, hcyc, hmat⟩ hgrant hin hend hq hup, ?_, ?_⟩
    all_goals rw [forwardUp_eq]
  case closes =>
    rw [exec_nodeClosed hr, if_pos ⟨hv, hc⟩, reportL_new hquiet]
    rfl
  case staysOpen =>
    obtain hlt | hcl := hno
    · exact Nat.not_le.mpr hlt hv
    · exact Bool.false_ne_true (hc.symm.trans hcl)
  case reopens =>
    obtain ⟨o, hopen, hlen⟩ := openPos_closed hc ch
    refine ⟨s.openPos ch b p, (exec_nodeReopened hr).trans (congrArg _ (if_pos ⟨hc, hh, ha, hg⟩)), ?_, ?_, ?_⟩
    all_goals rw [hopen]
    · refine (pos_updPos hb hp _).trans ?_
      rw [← hh]
    · rfl
    · exact hlen
  case branchCloses =>
    rw [exec_branchClosed hr, if_pos ⟨hc, hrun⟩, reportL_new hquiet]
    rfl
  case branchReopens =>
    obtain ⟨o, hopen, hlen⟩ := openBranch_closed hc ch
    refine ⟨s.openBranch ch b, (exec_branchReopened hr).trans (congrArg _ (if_pos ⟨hc, hh, ha, hrun⟩)), ?_, ?_, ?_⟩
    all_goals rw [hopen]
    · refine modAt_getElem?_self _ ?_
      rw [List.getElem?_eq_getElem hb, List.getElem_eq_getD]
    · rfl
    · exact hlen

end Sys2Proof.Proofs
end

section
/-!
SUPPORT. Links (R309, R310, Table 7.3): what a port's link reads after a change of one port, what the reports of a port leave of the
ports, and what a link that enters or leaves UP comes to.
-/
namespace Sys2Proof.Proofs
open Sys2Proof Sys2Proof.Machine Sys2Proof.Laws

/-! ### The link of a port code (Table 7.6) -/

/-- The link of a port code is looked up in the trunks, the relays or the weirs. -/
theorem link?_congr {s t : State} {m : Nat}
    (ht0 : 0x10 ≤ m ∧ m ≤ 0x17 → t.trunks[m - 0x10]? = s.trunks[m - 0x10]? := by exact fun _ => rfl)
    (ht1 : 0x20 ≤ m ∧ m ≤ 0x27 → t.trunks[m - 0x18]? = s.trunks[m - 0x18]? := by exact fun _ => rfl)
    (hr : 0x30 ≤ m ∧ m ≤ 0x37 → t.relays[m - 0x30]? = s.relays[m - 0x30]? := by exact fun _ => rfl)
    (hw : 0x40 ≤ m ∧ m ≤ 0x4B → t.weirs[m - 0x40]? = s.weirs[m - 0x40]? := by exact fun _ => rfl) : t.link? m = s.link? m :=
  ite_congr rfl ht0 fun _ => ite_congr rfl ht1 fun _ => ite_congr rfl hr fun _ => ite_congr rfl hw fun _ => rfl

/-- No two port codes name the same link. -/
theorem link?_updLink_ne (s : State) {c m : Nat} (h : m ≠ c) (f : Link → Link) : (s.updLink c f).link? m = s.link? m := by
  unfold State.updLink
  split_ifs with ht0 ht1 hr hw
  · exact link?_congr (fun _ => modAt_getElem?_ne f (by omega)) (fun _ => modAt_getElem?_ne f (by omega))
  · exact link?_congr (fun _ => modAt_getElem?_ne f (by omega)) (fun _ => modAt_getElem?_ne f (by omega))
  · exact link?_congr (hr := fun _ => modAt_getElem?_ne f (by omega))
  · exact link?_congr (hw := fun _ => modAt_getElem?_ne f (by omega))
  · rfl

theorem link?_updLink_self {s : State} {c : Nat} {k : Link} (hk : s.link? c = some k) (f : Link → Link) :
    (s.updLink c f).link? c = some (f k) := by
  unfold State.updLink
  unfold State.link? at hk ⊢
  split_ifs at hk ⊢
  all_goals exact modAt_getElem?_self f hk

/-- A change of a link changes nothing but the trunks, the relays and the weirs. -/
theorem updLink_frame (s : State) (c : Nat) (f : Link → Link) : (s.updLink c f).branches = s.branches ∧ (s.updLink c f).clock = s.clock ∧
    (s.updLink c f).axes = s.axes ∧ (s.updLink c f).lane = s.lane ∧ (s.updLink c f).order = s.order ∧ (s.updLink c f).tx = s.tx := by
  unfold State.updLink
  split_ifs <;> exact ⟨rfl, rfl, rfl, rfl, rfl, rfl⟩

/-- The codes below 8 are those of the branch ports. -/
theorem link?_code {s : State} {c : Nat} {k : Link} (hk : s.link? c = some k) : 8 ≤ c := by
  by_contra h
  rw [State.link?, if_neg (by omega), if_neg (by omega), if_neg (by omega), if_neg (by omega)] at hk
  cases hk

theorem linkSt_branch (s : State) {c : Nat} (h : c < 8) : s.linkSt c = (s.branches.getD c {}).links := if_pos h

theorem linkSt_link {s : State} {c : Nat} {k : Link} (hk : s.link? c = some k) : s.linkSt c = k.st := by
  rw [State.linkSt, if_neg (Nat.not_lt.mpr (link?_code hk)), hk]
  rfl

theorem outCycles_link {s : State} {c : Nat} {k : Link} (hk : s.link? c = some k) : s.outCycles c = k.outCycles := by
  rw [State.outCycles, if_neg (Nat.not_lt.mpr (link?_code hk)), hk]
  rfl

/-- The link states of two states agree where they have the same branch port or the same link. -/
theorem linkSt_congr {s t : State} {m : Nat} (hb : m < 8 → (t.branches.getD m {}).links = (s.branches.getD m {}).links)
    (hl : t.link? m = s.link? m) : t.linkSt m = s.linkSt m :=
  ite_congr rfl hb fun _ => by rw [hl]

theorem linkSt_updLink_ne (s : State) {c m : Nat} (h : m ≠ c) (f : Link → Link) : (s.updLink c f).linkSt m = s.linkSt m := by
  obtain ⟨hbranches, -⟩ := updLink_frame s c f
  exact linkSt_congr (fun _ => by rw [hbranches]) (link?_updLink_ne s h f)

/-- The chip has a port of this code. -/
def HasPort (s : State) (c : Nat) : Prop := c < 8 ∧ c < s.branches.length ∨ ∃ k, s.link? c = some k

/-! ### What leaves the ports as they are -/

/-- `t` has the ports, the clock, the axes and the address of `s`, and what waited for the command order still does. -/
structure KeepsPorts (s t : State) : Prop where
  branches : t.branches = s.branches := by rfl
  link : ∀ m, t.link? m = s.link? m := by exact fun _ => rfl
  clock : t.clock = s.clock := by rfl
  axes : t.axes = s.axes := by rfl
  lane : t.lane = s.lane := by rfl
  held : s.order.held ⊆ t.order.held := by exact fun _ h => h

namespace KeepsPorts
variable {s t u : State}

theorem refl (s : State) : KeepsPorts s s := {}

theorem trans (h : KeepsPorts s t) (k : KeepsPorts t u) : KeepsPorts s u where
  branches := k.branches.trans h.branches
  link m := (k.link m).trans (h.link m)
  clock := k.clock.trans h.clock
  axes := k.axes.trans h.axes
  lane := k.lane.trans h.lane
  held := List.Subset.trans h.held k.held

theorem ite {c : Prop} [Decidable c] (h : KeepsPorts s t) (k : KeepsPorts s u) : KeepsPorts s (if c then t else u) := by
  split
  · exact h
  · exact k

theorem hasPort (h : KeepsPorts s t) {c : Nat} (hp : HasPort s c) : HasPort t c := by
  rw [HasPort, h.branches, h.link]
  exact hp

theorem linkSt (h : KeepsPorts s t) (m : Nat) : t.linkSt m = s.linkSt m :=
  linkSt_congr (fun _ => by rw [h.branches]) (h.link m)

theorem outCycles (h : KeepsPorts s t) (m : Nat) : t.outCycles m = s.outCycles m := by
  rw [State.outCycles, State.outCycles, h.branches, h.link]

theorem reportBody (s : State) (b : Body) : KeepsPorts s (s.reportBody b) where
  held := List.subset_append_left _ _

theorem reportEnd (s : State) (code : Nat) (loc : Loc) : KeepsPorts s (s.reportEnd code loc) :=
  ite (reportBody s _) (refl s)

theorem weirState (s : State) : KeepsPorts s s.weirState := {}

theorem setPath (s : State) (n path : Nat) : KeepsPorts s (s.setPath n path) :=
  ite (refl s) (trans (t := { s with lanes := { s.lanes with weirPath := kvSet s.lanes.weirPath n path } }) {} (reportBody _ _))

end KeepsPorts

/-! ### One port's link set -/

/-- `t` has the link of port `c` in a state, every other one as in `s`, and the clock, the axes and the address of `s`. -/
structure AtPort (c : Nat) (st : LinkState) (s t : State) : Prop where
  self : t.linkSt c = st
  others : ∀ m, m ≠ c → t.linkSt m = s.linkSt m
  clock : t.clock = s.clock
  axes : t.axes = s.axes
  lane : t.lane = s.lane

theorem AtPort.keeps {c : Nat} {st : LinkState} {s t u : State} (h : AtPort c st s t) (k : KeepsPorts t u) : AtPort c st s u where
  self := (k.linkSt c).trans h.self
  others m hm := (k.linkSt m).trans (h.others m hm)
  clock := k.clock.trans h.clock
  axes := k.axes.trans h.axes
  lane := k.lane.trans h.lane

section
variable {s : State} {c : Nat} (hp : HasPort s c) (st : LinkState)
include hp

theorem setLink_atPort : AtPort c st s (s.setLink c st) := by
  obtain ⟨hc, hlen⟩ | ⟨k, hk⟩ := hp
  · rw [State.setLink, if_pos hc]
    refine ⟨?_, fun m hm => linkSt_congr (fun _ => ?_) rfl, rfl, rfl, rfl⟩
    · rw [linkSt_branch _ hc, branch_updBranch hlen]
    · rw [updBranch_branches, List.getD_eq_getElem?_getD, List.getD_eq_getElem?_getD, modAt_getElem?_ne _ hm]
  · rw [State.setLink, if_neg (Nat.not_lt.mpr (link?_code hk))]
    obtain ⟨-, hclock, haxes, hlane, -⟩ := updLink_frame s c (fun l => { l with st := st })
    exact ⟨linkSt_link (link?_updLink_self hk _), fun m hm => linkSt_updLink_ne s hm _, hclock, haxes, hlane⟩

theorem setLink_hasPort : HasPort (s.setLink c st) c := by
  obtain ⟨hc, hlen⟩ | ⟨k, hk⟩ := hp
  · rw [State.setLink, if_pos hc]
    exact .inl ⟨hc, by rw [updBranch_branches, modAt_length]; exact hlen⟩
  · rw [State.setLink, if_neg (Nat.not_lt.mpr (link?_code hk))]
    exact .inr ⟨_, link?_updLink_self hk _⟩

end

/-- Setting a link sends nothing and reports nothing. -/
theorem setLink_frame (s : State) (c : Nat) (st : LinkState) : (s.setLink c st).tx = s.tx ∧ (s.setLink c st).order = s.order := by
  unfold State.setLink
  split
  · exact ⟨rfl, rfl⟩
  · obtain ⟨-, -, -, -, horder, htx⟩ := updLink_frame s c (fun l => { l with st := st })
    exact ⟨htx, horder⟩

/-- Changes of a port that leave its link state leave every one. -/
theorem AtPort.updBranch {c : Nat} {st : LinkState} {s t : State} (h : AtPort c st s t) (b : Nat) {f : Branch → Branch}
    (hf : ∀ r, (f r).links = r.links) : AtPort c st s (t.updBranch b f) := by
  have hsame (m : Nat) : (t.updBranch b f).linkSt m = t.linkSt m := by
    refine linkSt_congr (fun _ => ?_) rfl
    rw [updBranch_branches, List.getD_eq_getElem?_getD, List.getD_eq_getElem?_getD, modAt_getElem?]
    split
    · cases t.branches[m]? with
      | none => rfl
      | some r => exact hf r
    · rfl
  exact ⟨(hsame c).trans h.self, fun m hm => (hsame m).trans (h.others m hm), h.clock, h.axes, h.lane⟩

theorem AtPort.updLink {c : Nat} {st : LinkState} {s t : State} (h : AtPort c st s t) {k : Link} (hk : t.link? c = some k)
    {f : Link → Link} (hf : (f k).st = k.st) : AtPort c st s (t.updLink c f) := by
  have hself : (t.updLink c f).linkSt c = st := by
    rw [linkSt_link (link?_updLink_self hk f), hf, ← linkSt_link hk, h.self]
  obtain ⟨-, hclock, haxes, hlane, -⟩ := updLink_frame t c f
  exact ⟨hself, fun m hm => (linkSt_updLink_ne t hm f).trans (h.others m hm), hclock.trans h.clock, haxes.trans h.axes, hlane.trans h.lane⟩

/-! ### PORT_STATE (R310) -/

/-- A PORT_STATE event of a lane waits for the command order. -/
def PortEvent (l : Lane) (t : State) : Prop :=
  ∃ h ∈ t.order.held, ∃ e : EvBody, h.body = some (.event e) ∧ e.code = 0x4CA ∧ h.lane = l

theorem portState_event (s : State) (c : Nat) (st : LinkState) : PortEvent s.lane (s.portState c st) :=
  ⟨_, List.mem_append_right _ (List.mem_singleton_self _), _, rfl, rfl, rfl⟩

theorem PortEvent.keeps {l : Lane} {t u : State} (h : PortEvent l t) (hsub : t.order.held ⊆ u.order.held) : PortEvent l u := by
  obtain ⟨x, hx, hev⟩ := h
  exact ⟨x, hsub hx, hev⟩

/-! ### Link training (Table 7.3) -/

/-- A link that is up leaves UP with its event, whatever state it goes to. -/
theorem leaveUp_spec {s : State} {c : Nat} (hp : HasPort s c) (hst : s.linkSt c = .up) (st : LinkState) :
    AtPort c st s (s.leaveUp c st) ∧ PortEvent s.lane (s.leaveUp c st) := by
  have hset := (setLink_atPort hp st).keeps (.weirState _)
  have heq : s.leaveUp c st = ((s.setLink c st).weirState).portState c st := if_pos (by rw [hst]; rfl)
  rw [heq, ← hset.lane]
  exact ⟨hset.keeps (.reportBody _ _), portState_event _ c st⟩

/-- A link just entered UP: the state of its port set, the event, and the end of the port-down condition. -/
def enteredUp (s : State) (c : Nat) : State := ((s.setLink c .up).portState c .up).reportEnd 0x20A (locPort c)

theorem enteredUp_spec {s : State} {c : Nat} (hp : HasPort s c) :
    AtPort c .up s (enteredUp s c) ∧ PortEvent s.lane (enteredUp s c) ∧ HasPort (enteredUp s c) c := by
  have hset := setLink_atPort hp .up
  have hstate : KeepsPorts (s.setLink c .up) ((s.setLink c .up).portState c .up) := .reportBody _ _
  have hend := KeepsPorts.reportEnd ((s.setLink c .up).portState c .up) 0x20A (locPort c)
  have hkeeps := hstate.trans hend
  refine ⟨hset.keeps hkeeps, ?_, hkeeps.hasPort (setLink_hasPort hp .up)⟩
  rw [← hset.lane]
  exact (portState_event _ c .up).keeps hend.held

section
variable {s : State} {c : Nat} (hen : s.linkEnabled c = true)
include hen

theorem linkSignalDetect_detects (hst : s.linkSt c = .off ∨ s.linkSt c = .down) :
    exec (.linkSignalDetect c) s = .next (s.setLink c .align) := by
  refine congrArg _ (if_pos ?_)
  obtain h | h := hst <;> simp [hen, h]

theorem linkSignalLost_up (hst : s.linkSt c = .up) : exec (.linkSignalLost c) s = .next (s.leaveUp c .down) :=
  congrArg _ (if_pos (by rw [hen, hst]; rfl))

theorem linkCodeErrors_up (hst : s.linkSt c = .up) : exec (.linkCodeErrors c) s = .next (s.leaveUp c .align) :=
  congrArg _ (if_pos (by rw [hen, hst]; rfl))

/-- A branch port starts its first pass of probes (R312). -/
theorem linkAligned_branch (hst : s.linkSt c = .align) (hc : c < 8) : exec (.linkAligned c) s = .next ((enteredUp s c).updBranch c
    (fun r => { r with firstPass := true, probeNext := 0, probeWait := 0, outCycles := 0 })) := by
  refine congrArg _ ((if_pos ?_).trans (if_pos hc))
  rw [hen, hst]; rfl

/-- Any other link counts afresh; what a weir link does besides leaves the ports (R325, R358). -/
theorem linkAligned_link (hst : s.linkSt c = .align) (hc : 8 ≤ c) : ∃ t, exec (.linkAligned c) s = .next t ∧
    KeepsPorts ((enteredUp s c).updLink c (fun l => { l with outCycles := 0 })) t := by
  have haligned : (s.linkEnabled c && s.linkSt c == .align) = true := by rw [hen, hst]; rfl
  refine ⟨_, congrArg Host.Outcome.next ((if_pos haligned).trans (if_neg (Nat.not_lt.mpr hc))),
    (KeepsPorts.weirState _).trans (.ite (.trans (.ite {} (.refl _)) (.ite ?_ (.refl _))) (.refl _))⟩
  exact (KeepsPorts.setPath _ _ _).trans (.reportEnd _ _ _)

/-- A link that is aligned enters UP with its event and counts its cycles out of UP afresh. -/
theorem linkAligned_spec (hp : HasPort s c) (hst : s.linkSt c = .align) : ∃ t, exec (.linkAligned c) s = .next t ∧
    AtPort c .up s t ∧ PortEvent s.lane t ∧ t.outCycles c = 0 := by
  obtain ⟨hat, hev, hhas⟩ := enteredUp_spec hp
  obtain ⟨hc, hlen⟩ | ⟨k, hk⟩ := hhas
  · refine ⟨_, linkAligned_branch hen hst hc, ?_, hev, ?_⟩
    · exact hat.updBranch c fun _ => rfl
    · rw [State.outCycles, if_pos hc, branch_updBranch hlen]
  · obtain ⟨t, hexec, hkeeps⟩ := linkAligned_link hen hst (link?_code hk)
    obtain ⟨-, -, -, -, horder, -⟩ := updLink_frame (enteredUp s c) c (fun l => { l with outCycles := 0 })
    refine ⟨t, hexec, (hat.updLink hk rfl).keeps hkeeps, hev.keeps (horder ▸ hkeeps.held), ?_⟩
    rw [hkeeps.outCycles, outCycles_link (link?_updLink_self hk _)]

end

end Sys2Proof.Proofs
end

section
/-!
SUPPORT. Probes and the arbitrating window (R311 to R314, R247): a probe that leaves, an answer that measures, and a position that does
not answer.
-/
namespace Sys2Proof.Proofs
open Sys2Proof Sys2Proof.Machine Sys2Proof.Laws

/-- A row of which one condition fails. -/
theorem not_both {a b : Bool} (h : a = false ∨ b = false) : ¬(a && b) = true := by
  rw [Bool.and_eq_true, not_and_or, Bool.not_eq_true, Bool.not_eq_true]
  exact h

/-! ### A probe leaves -/

section
variable {s : State} {c : Nat} (p : Nat)

theorem probeSend_down (h : s.linkSt c ≠ .up) : exec (.probeSend c p) s = .next s :=
  congrArg _ (if_pos (by simpa using h))

theorem probeSend_link (hc : 8 ≤ c) (h : s.linkSt c = .up) : exec (.probeSend c p) s = .next (s.send (.probe c 0x40)) :=
  congrArg _ ((if_neg (by simp [h])).trans (if_pos hc))

/-- While the star does not relay, no grant keeps a branch from being probed. -/
theorem probeSend_branch (hc : c < 8) (h : s.linkSt c = .up) (hr : s.relaying = none) :
    exec (.probeSend c p) s = .next ((s.send (.probe c p)).updBranch c (fun r => { r with
      probe := some p, probeNext := (p + 1) % 8, firstPass := r.firstPass && p < 7, probeDue := false, probeWait := 0 })) :=
  congrArg _ ((if_neg (by simp [h])).trans ((if_neg (by omega)).trans (if_neg (by simp [hr]))))

end

/-! ### The end of a probe -/

/-- A branch whose probe of position `p` has ended, the position changed by its outcome (R311). -/
def probeEnded (p : Nat) (f : Position → Position) (r : Branch) : Branch := { r with probe := none, poss := modAt r.poss p f }

theorem probeEnded_spec {s : State} {b p : Nat} (hb : b < s.branches.length) (hp : p < (s.branches.getD b {}).poss.length)
    (f : Position → Position) : let t := s.updBranch b (probeEnded p f)
    t.pos b p = f (s.pos b p) ∧ (t.branches.getD b {}).probe = none ∧ t = { s with branches := t.branches } := by
  refine ⟨?_, by rw [branch_updBranch hb]; rfl, rfl⟩
  rw [State.pos, branch_updBranch hb]
  exact modAt_getD f hp {}

theorem updBranch_updPos (s : State) (b p : Nat) (f : Position → Position) :
    (s.updBranch b (fun r => { r with probe := none })).updPos b p f = s.updBranch b (probeEnded p f) := by
  rw [updPos_eq, State.updBranch, updBranch_branches, modAt_modAt]
  rfl

section
variable {s : State} {b p : Nat}

theorem probeAnswer_link {c : Nat} (hc : 8 ≤ c) (p rt : Nat) :
    exec (.probeAnswer c p rt) s = .next (s.updLink c (fun l => { l with delay := some (rt - 100) })) :=
  congrArg _ (if_pos hc)

/-- An answer that no probe waits for, or that comes too late, measures nothing. -/
theorem probeAnswer_ignored {rt : Nat} (hb : b < 8) (hh : s.hosted ≠ none) (h : (s.branches.getD b {}).probe ≠ some p ∨ 1100 < rt) :
    exec (.probeAnswer b p rt) s = .next s := by
  obtain ⟨ch, hch⟩ := Option.ne_none_iff_exists'.mp hh
  change execProbeAnswer b p rt s = _
  simp only [execProbeAnswer, if_neg (Nat.not_le.mpr hb), hch, if_pos h]

/-- An answer in time measures the delay of the position (R311, R287). -/
theorem probeAnswer_measures {rt : Nat} (hb : b < 8) (hh : s.hosted ≠ none) (hprobe : (s.branches.getD b {}).probe = some p)
    (hrt : rt ≤ 1100) (hforce : (s.pos b p).inForce = none) : exec (.probeAnswer b p rt) s = .next (s.updBranch b (probeEnded p (fun q =>
      { q with present := decide ((s.outward b (rt - 100)).toNat ≤ 500), delay := some (s.outward b (rt - 100)).toNat }))) := by
  obtain ⟨ch, hch⟩ := Option.ne_none_iff_exists'.mp hh
  have hintime : ¬((s.branches.getD b {}).probe ≠ some p ∨ 1100 < rt) := by
    rw [not_or, not_not]
    exact ⟨hprobe, Nat.not_lt.mpr hrt⟩
  change execProbeAnswer b p rt s = _
  simp only [execProbeAnswer, if_neg (Nat.not_le.mpr hb), hch, if_neg hintime, hforce, updBranch_updPos]

theorem probeTimeout_probed (h : (s.branches.getD b {}).probe = some p) :
    exec (.probeTimeout b p) s = .next (s.updBranch b (probeEnded p (fun q => { q with present := false }))) :=
  congrArg _ ((if_pos h).trans (updBranch_updPos s b p _))

theorem probeTimeout_other (h : (s.branches.getD b {}).probe ≠ some p) : exec (.probeTimeout b p) s = .next s :=
  congrArg _ (if_neg h)

theorem probeIntervalExpiry_due {ch : Channel} (hh : s.hosted = some ch) (hfirst : (s.branches.getD b {}).firstPass = false)
    (hwait : s.fld (tgtChan ch) 0x0704 7 0 ≤ (s.branches.getD b {}).probeWait) :
    exec (.probeIntervalExpiry b) s = .next (s.updBranch b (fun r => { r with probeDue := true })) := by
  change execProbeIntervalExpiry b s = _
  simp only [execProbeIntervalExpiry, hh, hfirst, hwait, decide_true, Bool.not_false, Bool.and_self, if_true]

end

/-! ### The arbitrating window opens (R235, R247) -/

/-- `s` in its arbitrating window. -/
def inWindow (s : State) : State := { s with clock := { s.clock with interval := .arbitrating } }

theorem arbitratingWindowStart_idle {s : State} (h : s.computing = false ∨ s.net.st ≠ .sync) :
    exec .arbitratingWindowStart s = .next (inWindow s) := by
  refine congrArg _ (if_pos ?_)
  change (!s.computing || s.net.st != .sync) = true
  obtain h | h := h <;> simp [h]

/-- A request that was sent and waits for its answer counts the window; with no other request and no SCHEDULE to send, nothing leaves. -/
theorem arbitratingWindowStart_waits {s : State} {r : NodeReq} (hc : s.computing = true) (hst : s.net.st = .sync) (hn : s.nodes = [])
    (hreqs : s.services.reqs = [r]) (ho : r.outcome = 0xFE) (hsent : r.sent = true) :
    exec .arbitratingWindowStart s = .next ((inWindow s).updReq r (fun x => { x with windows := x.windows + 1 })) := by
  refine congrArg _ ((if_neg ?_).trans ?_)
  · change ¬(!s.computing || s.net.st != .sync) = true
    simp [hc, hst]
  · simp [hn, hreqs, ho, hsent, inWindow]

theorem updReq_single {s : State} {r : NodeReq} (hreqs : s.services.reqs = [r]) (ho : r.outcome = 0xFE) (f : NodeReq → NodeReq) :
    s.updReq r f = { s with services := { s.services with reqs := [f r] } } := by
  simp [State.updReq, hreqs, ho]

end Sys2Proof.Proofs
end

section
/-!
The obligation about links and probes.
-/
namespace Sys2Proof.Proofs
open Sys2Proof Sys2Proof.Machine Sys2Proof.Laws

/-- Settles O46: link training by what each port reads afterwards, each probe row by its equation. -/
theorem linksTrainAndProbesMeasure : Obligations.LinksTrainAndProbesMeasure := by
  intro s c b p rt at_ known br q event
  refine ⟨fun hp hen hst => ?detect, fun hno => congrArg _ (if_neg (not_both (hno.imp_right ?noSignal))), fun hp hen hst => ?align,
    fun hno => congrArg _ (if_neg (not_both (hno.imp_right beq_eq_false_iff_ne.mpr))), fun hp hen hst => ⟨?lost, ?errors⟩,
    fun hno => congrArg _ (if_neg (not_both (hno.imp_right bne_eq_false_iff_eq.mpr))),
    fun hno => congrArg _ (if_neg (not_both (hno.imp_right beq_eq_false_iff_ne.mpr))), fun hm hout hq => ?portDown,
    fun hno => congrArg _ (if_neg (not_both (hno.imp_right fun h => decide_eq_false (Nat.not_le.mpr h)))),
    fun h => probeSend_down p h, fun hc h => probeSend_link p hc h, fun hb _ h hr => probeSend_branch p hb h hr,
    fun hc => probeAnswer_link hc p rt, fun hb hh h => probeAnswer_ignored hb hh h, fun hb hlen hp hh hprobe hrt hforce => ?answers,
    fun hlen hp hprobe => ?absent, fun h => probeTimeout_other h, fun ch hh hfirst hwait => probeIntervalExpiry_due hh hfirst hwait,
    fun h => arbitratingWindowStart_idle h, fun r hcomp hst hn hreqs ho hsent => ?waits⟩
  case detect =>
    have hset := setLink_atPort hp .align
    obtain ⟨htx, horder⟩ := setLink_frame s c .align
    exact ⟨_, linkSignalDetect_detects hen hst, ⟨hset.self, hset.others⟩, htx, horder⟩
  case noSignal => rintro (h | h) <;> rw [h] <;> rfl
  case align =>
    obtain ⟨t, hexec, hat, hev, hout⟩ := linkAligned_spec hen hp hst
    exact ⟨t, hexec, ⟨hat.self, hat.others⟩, hev, hout, hat.clock, hat.axes⟩
  case lost =>
    obtain ⟨hat, hev⟩ := leaveUp_spec hp hst .down
    exact ⟨_, linkSignalLost_up hen hst, ⟨hat.self, hat.others⟩, hev, hat.clock, hat.axes⟩
  case errors =>
    obtain ⟨hat, hev⟩ := leaveUp_spec hp hst .align
    exact ⟨_, linkCodeErrors_up hen hst, ⟨hat.self, hat.others⟩, hev, hat.clock, hat.axes⟩
  case portDown => exact congrArg _ ((if_pos (by rw [hm, decide_eq_true hout]; rfl)).trans (reportL_new hq))
  case answers => exact ⟨_, probeAnswer_measures hb hh hprobe hrt hforce, probeEnded_spec hlen hp _⟩
  case absent => exact ⟨_, probeTimeout_probed hprobe, probeEnded_spec hlen hp _⟩
  case waits =>
    rw [arbitratingWindowStart_waits hcomp hst hn hreqs ho hsent, updReq_single (s := inWindow s) hreqs ho]
    rfl

end Sys2Proof.Proofs
end

section
/-!
SUPPORT. Input consensus (R331 to R336): what agreed frames reach, the copies of a cycle, the copy map, digests and the resolution.
-/
namespace Sys2Proof.Proofs
open Sys2Proof Sys2Proof.Machine Sys2Proof.Laws

/-! ### What the agreed inputs change (R197, R236, R332) -/

/-- `t` is `s` but for what agreed frames reach: the axes with their decoders, the nodes and their requests, the local channels, the
collector and the records; its agreed frames are those of `s` with more after them. -/
structure TakesInputs (s t : State) : Prop where
  frame : t = { s with
    axes := t.axes, nodes := t.nodes, locals := t.locals, services := t.services, faults := t.faults, events := t.events, acq := t.acq
    host := t.host, tx := t.tx, lanes := { s.lanes with agreed := t.lanes.agreed } }
  agreed : s.lanes.agreed <+: t.lanes.agreed

namespace TakesInputs
variable {s t u : State}

theorem refl (s : State) : TakesInputs s s := ⟨rfl, List.prefix_rfl⟩

theorem trans (h : TakesInputs s t) (k : TakesInputs t u) : TakesInputs s u :=
  ⟨by rw [k.frame, h.frame], h.agreed.trans k.agreed⟩

theorem foldl {α : Type} {f : State → α → State} (hf : ∀ s a, TakesInputs s (f s a)) :
    ∀ (l : List α) (s : State), TakesInputs s (l.foldl f s)
  | [], s => refl s
  | a :: l, s => (hf s a).trans (foldl hf l (f s a))

/-- A state that differs from another only in fields named here, its lanes as they were. -/
theorem of_frame (h : t = { s with
    axes := t.axes, nodes := t.nodes, locals := t.locals, services := t.services, faults := t.faults, events := t.events, acq := t.acq
    host := t.host, tx := t.tx }) : TakesInputs s t := by
  have hl : t.lanes = s.lanes := by rw [h]
  exact ⟨by rw [hl]; exact h, by rw [hl]⟩

theorem updDec (n : Nat) (f : Decoder → Decoder) : TakesInputs s (s.updDec n f) := of_frame rfl

theorem updNode (n : Nat) (f : NodeRt → NodeRt) : TakesInputs s (s.updNode n f) := of_frame rfl

theorem record (r : EvRec) : TakesInputs s (s.record r) := by
  obtain ⟨ev, st, tx, h, -⟩ := record_eq s r
  rw [h]
  exact of_frame rfl

theorem report (r : FaultRep) : TakesInputs s (s.report r) := of_frame rfl

theorem ite {c : Prop} [Decidable c] (h : TakesInputs s t) (k : TakesInputs s u) : TakesInputs s (if c then t else u) := by
  split
  · exact h
  · exact k

end TakesInputs

theorem endSource_takesInputs (s : State) (code : Nat) (loc : Loc) : TakesInputs s (s.endSource code loc) := by
  unfold State.endSource
  dsimp only
  split
  · refine .trans (.of_frame rfl) (.trans (.record _) (.of_frame rfl))
  · exact .of_frame rfl

theorem computedEnd_takesInputs (s : State) (code : Nat) (loc : Loc) : TakesInputs s (s.computedEnd code loc) :=
  .ite (endSource_takesInputs s code loc) (.refl s)

theorem feedbackEnds_takesInputs (s : State) (n : Nat) : TakesInputs s (s.feedbackEnds n) := by
  unfold State.feedbackEnds
  split
  · exact .refl s
  · exact .trans (.ite (computedEnd_takesInputs s _ _) (.refl s)) (.trans (.ite (.trans (computedEnd_takesInputs _ _ _) (.updDec _ _)) (.refl _))
      (.trans (.ite (computedEnd_takesInputs _ _ _) (.refl _)) (.ite (computedEnd_takesInputs _ _ _) (.refl _))))

theorem dirChange_takesInputs (s : State) (n : Nat) (d : Decoder) : TakesInputs s (s.dirChange n d) := by
  unfold State.dirChange
  dsimp only
  split
  · exact .refl s
  refine .ite (.updDec n _) ?_
  exact .trans (.record _) (.updDec n _)

theorem decodeRecord_takesInputs (s : State) (n : Nat) (d : Decoder) (restart : Bool) (r : PosRec) :
    TakesInputs s (s.decodeRecord n d restart r) := by
  unfold State.decodeRecord
  extract_lets
  split
  extract_lets d3 s1 s2 s3
  have h1 : TakesInputs s s1 := .updDec n _
  have h2 : TakesInputs s1 s2 := .ite (.record _) (.refl s1)
  have h3 : TakesInputs s2 s3 := by
    unfold s3
    split
    · exact .record _
    · exact .refl s2
  exact h1.trans (h2.trans (h3.trans (dirChange_takesInputs s3 n d3)))

theorem decodeAxis_takesInputs (s : State) (a : Axis) (nstat : Option Nat) (part : List Byte) (r : Option PosRec) :
    TakesInputs s (s.decodeAxis a nstat part r) := by
  unfold State.decodeAxis
  extract_lets n raws src d0 edge s1
  have h1 : TakesInputs s s1 := by
    unfold s1
    split
    · exact .updDec n _
    · exact .ite (decodeRecord_takesInputs s n _ _ _) (.updDec n _)
  exact h1.trans (.trans (.updDec n _) (feedbackEnds_takesInputs _ n))

theorem latchLocal_takesInputs (s : State) (ch : Nat) : TakesInputs s (s.latchLocal ch) := by
  unfold State.latchLocal
  split
  · exact .refl s
  · exact .ite (.refl s) (.of_frame rfl)

theorem decodeNode_takesInputs (s : State) (i : Nat) (pay : Option (List Byte)) : TakesInputs s (s.decodeNode i pay) := by
  unfold State.decodeNode
  extract_lets
  refine .trans (.foldl (fun u k => ?_) _ s) (.updNode i _)
  split
  · exact .refl u
  refine .ite (.refl u) ?_
  dsimp only
  split
  · exact decodeAxis_takesInputs u _ _ _ _
  · exact (latchLocal_takesInputs u _).trans (decodeAxis_takesInputs _ _ _ _ _)

/-- The agreed frame of a node joins the agreed frames, and the rest is what agreed inputs reach. -/
theorem agreeNode_takesInputs (s : State) (i : Nat) (ch : Channel) (p : List Byte) :
    TakesInputs s (s.agreeNode i ch p) ∧ (i, p) ∈ (s.agreeNode i ch p).lanes.agreed := by
  unfold State.agreeNode
  extract_lets f s1 s2 s3 l s4
  have h1 : TakesInputs s s1 := .updNode i _
  have h2 : TakesInputs s1 s2 := .ite (.report _) (.refl _)
  have h3 : TakesInputs s2 s3 := .ite (.report _) (.refl _)
  have h4 : TakesInputs s3 s4 := ⟨rfl, List.prefix_append _ _⟩
  have h5 := decodeNode_takesInputs s4 i (some p)
  exact ⟨h1.trans (h2.trans (h3.trans (h4.trans h5))), h5.agreed.subset (List.mem_append_right _ (List.mem_singleton_self _))⟩

theorem nodeService_takesInputs (s : State) (i : Nat) (p : List Byte) : TakesInputs s (s.nodeService i p) := by
  unfold State.nodeService
  split
  · exact .updNode i _
  · exact .updNode i _
  · exact .of_frame rfl
  · exact .of_frame rfl
  · exact .of_frame rfl
  · exact .refl s

theorem agreeAcyc_takesInputs (s : State) (b : Nat) (ch : Channel) : TakesInputs s (s.agreeAcyc b ch) :=
  .trans ⟨rfl, List.prefix_append _ _⟩ (.foldl (fun u c => nodeService_takesInputs u (Copy.node c) (Copy.payload c)) _ _)

/-- Every agreed ACYC_UP set acts, and the copies are done with. -/
theorem agreeAcycs_spec (s : State) (maps : List (List Byte)) : ∃ u, TakesInputs s u ∧
    s.agreeAcycs maps = { u with lanes := { u.lanes with acycCopies := [] } } := by
  refine ⟨_, .foldl (fun u b => ?_) (List.range 8) s, rfl⟩
  split
  · exact agreeAcyc_takesInputs u b _
  · exact .refl u

theorem decodeFinish_takesInputs (s : State) : TakesInputs s s.decodeFinish :=
  .trans (.foldl (fun u a => by
    unfold State.formAngle
    split
    · exact .updDec _ _
    · exact .updDec _ _) _ s) (.foldl (fun u a => .updDec _ _) _ _)

/-- An open input set is closed once its nodes and angles are decoded. -/
theorem closeInputs_spec {s : State} (h : s.lanes.resolved = false) : ∃ u, TakesInputs s u ∧
    s.closeInputs = { u with lanes := { u.lanes with resolved := true } } := by
  refine ⟨_, ?_, if_neg (by simp [h])⟩
  exact .trans (.foldl (fun u r => decodeNode_takesInputs u (NodeRt.node r) none) _ s) (decodeFinish_takesInputs _)

/-! ### Copies of a frame (R331, R353) -/

/-- A whole frame of type UPLINK passes R241, is of this cycle and channel, and has the length that the schedule gives its active node,
which is no sync node. -/
structure GoodCopy (s : State) (ch : Channel) (bytes : List Byte) (ok : Bool) (i : Nat) : Prop where
  st : s.net.st = .sync
  computing : s.computing = true
  frame : frameOk bytes ok = true
  ty : (Hdr.of bytes).ty = 1
  fits : (Hdr.of bytes).ch = chNum ch ∧ (Hdr.of bytes).cycle = s.clock.cycle % 64 ∧ (Hdr.of bytes).matrix = s.clock.cycle / 64 % 256
  node : (Hdr.of bytes).branch * 8 + (Hdr.of bytes).pos = i
  active : s.nodeActive i = true
  len : (Hdr.of bytes).len = s.fld (tgtNode (Hdr.of bytes).branch (Hdr.of bytes).pos) 0x060E 7 0
  sync : s.syncNode i = false

section
variable {s : State} {ch : Channel} {bytes : List Byte} {ok : Bool}

/-- The header's channel, cycle and matrix cycle as the row checks them. -/
theorem header_fits_iff : ((Hdr.of bytes).ch == chNum ch && (Hdr.of bytes).cycle == s.j && (Hdr.of bytes).matrix == s.matrix) = true ↔
    (Hdr.of bytes).ch = chNum ch ∧ (Hdr.of bytes).cycle = s.clock.cycle % 64 ∧ (Hdr.of bytes).matrix = s.clock.cycle / 64 % 256 := by
  simp [State.j, State.matrix, and_assoc]

/-- Counting a copy for the epochs changes those counts alone (R353, R354). -/
theorem countEpoch_eq (s : State) (i : Nat) (p : List Byte) : ∃ n e, s.countEpoch i p = { s with lanes := { s.lanes with
    uplinks := s.lanes.uplinks + 1, holdH := s.lanes.holdH + b2n (bit (byteAt p 0) 1), holdN := n, otherEpoch := e } } := ⟨_, _, rfl⟩

theorem uplinkCopyReceived_idle (h : s.net.st ≠ .sync ∨ s.computing = false) (own : Bool) (done stamp : Int) :
    exec (.uplinkCopyReceived ch own bytes ok done stamp) s = .next s :=
  congrArg _ (if_pos (h.imp_right fun hc => by rw [hc]; rfl))

section
variable {i : Nat} (h : GoodCopy s ch bytes ok i) (own : Bool) {done : Int} (stamp : Int)
include h

theorem uplinkCopyReceived_good : exec (.uplinkCopyReceived ch own bytes ok done stamp) s = .next (
    let u := s.countEpoch i (payloadOf bytes)
    if 50 * (8 + (s.uMt : Int)) + 200 < done || s.lanes.resolved then u
    else if s.simplex then
      (if ch == .x && !(u.lanes.agreed.any (fun a => a.1 == i)) then u.agreeNode i ch (payloadOf bytes) else u)
    else { u with lanes := { u.lanes with copies := u.lanes.copies ++ [{ ch := ch, node := i, payload := payloadOf bytes, valid := true }] } }) := by
  obtain ⟨hst, hc, hframe, hty, hfits, rfl, hact, hlen, hsync⟩ := h
  have hfits := header_fits_iff (s := s).mpr hfits
  refine congrArg _ ((if_neg ?idle).trans ((if_neg ?acyclic).trans ((if_neg ?refused).trans ?_)))
  case idle => simp [hst, hc]
  case acyclic => simp [hty]
  case refused => simp [hframe, hty, hfits, hact, hlen]
  have hcounted (i : Nat) (h : s.syncNode i = false) : (s.countEpoch i (payloadOf bytes)).syncNode i = false := h
  simp only [hcounted _ hsync, Bool.false_eq_true, if_false]
  rfl

/-- A copy that comes late is counted alone. -/
theorem uplinkCopyReceived_late (hl : s.lanes.resolved = true ∨ 50 * (8 + (s.uMt : Int)) + 200 < done) :
    exec (.uplinkCopyReceived ch own bytes ok done stamp) s = .next (s.countEpoch i (payloadOf bytes)) :=
  (uplinkCopyReceived_good h own stamp).trans (congrArg _ (if_pos (by simpa [or_comm] using hl)))

/-- A copy that comes in time joins the copies of the cycle. -/
theorem uplinkCopyReceived_joins (hx : s.simplex = false) (hr : s.lanes.resolved = false) (hd : done ≤ 50 * (8 + (s.uMt : Int)) + 200) :
    exec (.uplinkCopyReceived ch own bytes ok done stamp) s = .next (let u := s.countEpoch i (payloadOf bytes);
      { u with lanes := { u.lanes with copies := s.lanes.copies ++ [{ ch := ch, node := i, payload := payloadOf bytes, valid := true }] } }) := by
  refine (uplinkCopyReceived_good h own stamp).trans (congrArg _ ((if_neg ?late).trans (if_neg (by simp [hx]))))
  simp [hr, hd]

end

/-- A frame of the arbitrating window joins its set, marked by whether it passes (R331). -/
theorem uplinkCopyReceived_acyclic (hst : s.net.st = .sync) (hc : s.computing = true) (hty : (Hdr.of bytes).ty = 6)
    (hok : hdrOk bytes = true) (hch : (Hdr.of bytes).ch = chNum ch) (own : Bool) (done stamp : Int) :
    exec (.uplinkCopyReceived ch own bytes ok done stamp) s = .next { s with lanes := { s.lanes with
      acycCopies := s.lanes.acycCopies ++ [{
        ch := ch, node := (Hdr.of bytes).branch * 8 + (Hdr.of bytes).pos, payload := payloadOf bytes
        valid := frameOk bytes ok && ((Hdr.of bytes).ch == chNum ch && (Hdr.of bytes).cycle == s.j && (Hdr.of bytes).matrix == s.matrix) }] } } :=
  congrArg _ ((if_neg (by simp [hst, hc])).trans (if_pos ⟨hty, hok, hch⟩))

end

/-! ### CONSENSUS (R331, R332, R345) -/

/-- One body passes to the voice lane; a command of a mailbox waits there. -/
def passBody (s : State) (h : Held) : State :=
  let n := match h.req.origin with | .mailbox n => n | _ => 0xFF
  let s := s.send (.body s.lanes.voice n (h.body.getD (.cmd h.req)))
  match h.body, h.req.origin with
  | none, .mailbox n => { s with host := { s.host with boxes := modAt s.host.boxes n (fun b =>
      { b with st := .wait, rsp := patch b.rsp 2 [0x07] }) } }
  | _, _ => s

theorem passBody_eq (s : State) (h : Held) : ∃ host tx, passBody s h = { s with host := host, tx := s.tx ++ [tx] } := by
  unfold passBody
  dsimp only
  split <;> exact ⟨_, _, rfl⟩

theorem foldl_passBody (l : List Held) : ∀ s : State, ∃ host tx, l.foldl passBody s = { s with host := host, tx := s.tx ++ tx } ∧
    tx.length = l.length := by
  induction l with
  | nil => exact fun s => ⟨s.host, [], by simp, rfl⟩
  | cons h l ih =>
    intro s
    obtain ⟨host, m, hbody⟩ := passBody_eq s h
    obtain ⟨host', tx, hrest, hlen⟩ := ih (passBody s h)
    refine ⟨host', m :: tx, ?_, by simp [hlen]⟩
    rw [List.foldl_cons, hrest, hbody]
    simp

/-- The lane's own reports as bodies (R349). -/
def ownBodies (s : State) : List Held :=
  s.faults.reports.map (fun r => { lane := s.lane, body := some (if r.cls = .f3 then .f3 r else .fault r) })

/-- What waits for the voice lane leaves for it, one message each (R345). -/
theorem passBodies_spec (s : State) : let out := s.order.forward ++ s.order.held ++ ownBodies s
    ∃ host tx, s.passBodies = { s with
      faults := { s.faults with reports := [] }
      order := { s.order with forward := [], held := [], forwarded := s.order.forwarded ++ out }
      host := host, tx := s.tx ++ tx } ∧ tx.length = out.length := by
  intro out
  exact foldl_passBody out { s with
    faults := { s.faults with reports := [] }, order := { s.order with forward := [], held := [], forwarded := s.order.forwarded ++ out } }

section
variable {s : State}

theorem consensusSend_idle (h : s.simplex = true ∨ s.computing = false) : exec .consensusSend s = .next s :=
  congrArg _ (if_pos (by simpa using h))

/-- `s` in the consensus interval, its copy map among the maps. -/
def mapSent (s : State) : State := { s with
  clock := { s.clock with interval := .consensus }
  lanes := { s.lanes with maps := s.lanes.maps.filter (fun q => q.1 != s.lane) ++ [(s.lane, s.copyMap)] } }

theorem consensusSend_voting (hx : s.simplex = false) (hv : s.voting = true) (hc : s.computing = true) : exec .consensusSend s = .next (
    if s.isVoice then (mapSent s).weirSend 0x02 none s.copyMap else ((mapSent s).weirSend 0x02 none s.copyMap).passBodies) := by
  refine congrArg _ ((if_neg (by simp [hx, hc])).trans (if_neg ?_))
  change ¬(!s.voting) = true
  simp [hv]

theorem consensusReceived_takes {port : Nat} {bytes p : List Byte} {l : Lane} {cnt : Nat} (hm : s.weirMsg 0x02 bytes = some (l, cnt, p))
    (h : p.length = 18 ∧ cnt = s.clock.cycle % 65536 ∧ l ∈ s.lanes.vset ∧ (!s.lanes.resolved) = true ∧ port ∉ s.lanes.weirWrong ∧ l ≠ s.lane) :
    exec (.consensusReceived port bytes) s =
      .next { s with lanes := { s.lanes with maps := s.lanes.maps.filter (fun q => q.1 != l) ++ [(l, p)] } } := by
  change execConsensusReceived port bytes s = _
  simp only [execConsensusReceived, hm]
  rw [if_pos h]

theorem consensusReceived_ignored {port : Nat} {bytes : List Byte}
    (h : s.weirMsg 0x02 bytes = none ∨ s.lanes.resolved = true ∨ port ∈ s.lanes.weirWrong) :
    exec (.consensusReceived port bytes) s = .next s := by
  change execConsensusReceived port bytes s = _
  unfold execConsensusReceived
  split
  next l cnt p hm =>
    rw [if_neg]
    rintro ⟨-, -, -, hopen, hright, -⟩
    obtain h | h | h := h
    · rw [h] at hm
      cases hm
    · simp [h] at hopen
    · exact hright h
  next => rfl

end

/-! ### Digests (R334) -/

theorem dedup'_eq_dedup {α : Type} [DecidableEq α] : ∀ l : List α, dedup' l = l.dedup
  | [] => rfl
  | a :: l => by
    by_cases h : a ∈ l
    · rw [dedup', if_pos h, List.dedup_cons_of_mem h, dedup'_eq_dedup l]
    · rw [dedup', if_neg h, List.dedup_cons_of_notMem h, dedup'_eq_dedup l]

/-- At most one value is left where all of them are equal. -/
theorem dedup'_length_le_one {α : Type} [DecidableEq α] (l : List α) : (dedup' l).length ≤ 1 ↔ ∀ x ∈ l, ∀ y ∈ l, x = y := by
  rw [dedup'_eq_dedup, ← List.card_toFinset, Finset.card_le_one]
  simp

section
variable {s : State}

theorem digestJudge_alike (h : ∀ x ∈ s.lanes.digests, ∀ y ∈ s.lanes.digests, x.2 = y.2) (count : Nat) : s.digestJudge count = s :=
  if_pos ((dedup'_length_le_one _).mpr (List.forall_mem_map.mpr fun x hx => List.forall_mem_map.mpr (h x hx)))

/-- Digests that differ are one INPUT_MISMATCH. -/
theorem digestJudge_differ (h : ∃ x ∈ s.lanes.digests, ∃ y ∈ s.lanes.digests, x.2 ≠ y.2) (count : Nat) :
    ∃ e : EvBody, e.code = 0x503 ∧ s.digestJudge count = withBody s (.event e) := by
  refine ⟨_, ?_, if_neg fun hone => ?_⟩
  · rfl
  · obtain ⟨x, hx, y, hy, hne⟩ := h
    exact hne ((dedup'_length_le_one _).mp hone _ (List.mem_map_of_mem hx) _ (List.mem_map_of_mem hy))

theorem digestJudge_eq (s : State) (count : Nat) : ∃ order, s.digestJudge count = { s with order := order } := by
  unfold State.digestJudge
  dsimp only
  split
  · exact ⟨s.order, rfl⟩
  · exact ⟨_, rfl⟩

theorem inputDigestReceived_takes {port : Nat} {bytes p : List Byte} {l : Lane} {cnt : Nat} (hm : s.weirMsg 0x03 bytes = some (l, cnt, p))
    (h : p.length = 8 ∧ cnt = s.clock.cycle % 65536 ∧ s.voting = true ∧ l ∈ s.lanes.vset ∧ port ∉ s.lanes.weirWrong ∧
      (!s.lanes.digests.any (fun d => d.1 == l)) = true) : exec (.inputDigestReceived port bytes) s = .next (
    let t : State := { s with lanes := { s.lanes with digests := s.lanes.digests ++ [(l, BitVec.ofNat 64 (be p 0 8))] } };
    if t.lanes.digests.length = s.lanes.vset.length then t.digestJudge s.clock.cycle else t) := by
  change execInputDigestReceived port bytes s = _
  simp only [execInputDigestReceived, hm]
  rw [if_pos h]

theorem inputDigestReceived_ignored {port : Nat} {bytes : List Byte} (h : s.weirMsg 0x03 bytes = none ∨ s.voting = false) :
    exec (.inputDigestReceived port bytes) s = .next s := by
  change execInputDigestReceived port bytes s = _
  unfold execInputDigestReceived
  split
  next l cnt p hm =>
    rw [if_neg]
    rintro ⟨-, -, hv, -⟩
    obtain h | h := h
    · rw [h] at hm
      cases hm
    · rw [h] at hv
      cases hv
  next => rfl

end

/-! ### Resolution (R332 to R336) -/

/-- The agreed copy of entry `i` acts, where the maps agree on one and it is here. -/
def agreeEntry (maps : List (List Byte)) (s : State) (i : Nat) : State :=
  match agreedChannel maps i with
  | some ch => (match s.lanes.copies.find? (fun c => c.node == i && c.ch == ch && c.valid) with
    | some c => s.agreeNode i ch c.payload
    | none => s)
  | none => s

theorem agreeEntry_takesInputs (maps : List (List Byte)) (s : State) (i : Nat) : TakesInputs s (agreeEntry maps s i) := by
  unfold agreeEntry
  split
  · split
    · exact (agreeNode_takesInputs s i _ _).1
    · exact .refl s
  · exact .refl s

/-- Among the entries resolved, the copy that the maps agree on is an agreed frame. -/
theorem mem_agreed_of_resolved {maps : List (List Byte)} {n : Nat} {k : Channel} {c : Copy} (hk : agreedChannel maps n = some k) :
    ∀ {l : List Nat}, n ∈ l → ∀ {s : State}, s.lanes.copies.find? (fun x => x.node == n && x.ch == k && x.valid) = some c →
      (n, c.payload) ∈ (l.foldl (agreeEntry maps) s).lanes.agreed
  | i :: l, hn, s, hc => by
    have hfirst := agreeEntry_takesInputs maps s i
    by_cases hl : n ∈ l
    · exact mem_agreed_of_resolved hk hl (s := agreeEntry maps s i) (by rw [hfirst.frame]; exact hc)
    · obtain rfl : n = i := (List.mem_cons.mp hn).resolve_right hl
      have hacts : agreeEntry maps s n = s.agreeNode n k c.payload := by simp only [agreeEntry, hk, hc]
      have hrest := TakesInputs.foldl (agreeEntry_takesInputs maps) l (agreeEntry maps s n)
      exact hrest.agreed.subset (hacts ▸ (agreeNode_takesInputs s n k c.payload).2)

/-- `t` is `s` with its input set closed: but for what agreed frames reach, the set is resolved and its copies of the arbitrating window
are done with. -/
structure ClosesInputs (s t : State) : Prop where
  frame : t = { s with
    axes := t.axes, nodes := t.nodes, locals := t.locals, services := t.services, faults := t.faults, events := t.events, acq := t.acq
    host := t.host, tx := t.tx, lanes := { s.lanes with agreed := t.lanes.agreed, acycCopies := [], resolved := true } }
  agreed : s.lanes.agreed ⊆ t.lanes.agreed

theorem ClosesInputs.kept {s t : State} (h : ClosesInputs s t) : t.lanes.resolved = true ∧ t.lanes.acycCopies = [] ∧ t.clock = s.clock ∧
    t.cfg = s.cfg ∧ t.safety = s.safety ∧ t.pending = s.pending ∧ t.lanes.deficient = s.lanes.deficient := by
  rw [h.frame]
  exact ⟨rfl, rfl, rfl, rfl, rfl, rfl, rfl⟩

theorem closeInputs_closes {s u : State} (h : TakesInputs s u) (hr : s.lanes.resolved = false) (maps : List (List Byte)) :
    ClosesInputs s (u.agreeAcycs maps).closeInputs := by
  obtain ⟨v, hv, hacycs⟩ := agreeAcycs_spec u maps
  have hsv := h.trans hv
  have hopen : (u.agreeAcycs maps).lanes.resolved = false := by rw [hacycs, hsv.frame]; exact hr
  obtain ⟨w, hw, hclose⟩ := closeInputs_spec hopen
  rw [hacycs] at hw
  rw [hclose]
  refine ⟨?_, List.Subset.trans hsv.agreed.subset hw.agreed.subset⟩
  rw [hw.frame, hsv.frame]

theorem closeInputs_closes_agreed {s u : State} (h : TakesInputs s u) (hr : s.lanes.resolved = false) (maps : List (List Byte)) :
    u.lanes.agreed ⊆ (u.agreeAcycs maps).closeInputs.lanes.agreed := by
  have hopen : u.lanes.resolved = false := by rw [h.frame]; exact hr
  exact (closeInputs_closes (.refl u) hopen maps).agreed

section
variable {s : State}

theorem consensusResolution_done (h : s.computing = false ∨ s.lanes.resolved = true) : exec .consensusResolution s = .next s :=
  congrArg _ (if_pos (by simpa using h))

theorem consensusResolution_simplex (hc : s.computing = true) (hr : s.lanes.resolved = false) (hx : s.simplex = true) :
    ∃ t, exec .consensusResolution s = .next t ∧ ClosesInputs s t := by
  refine ⟨_, congrArg Host.Outcome.next ((if_neg (by simp [hc, hr])).trans ((if_pos hx).trans (if_neg (by simp [hc, hr])))), ?_⟩
  exact closeInputs_closes (.refl s) hr _

/-- `s` with the deficiency of its copies counted (R335). -/
def deficiency (s : State) : State :=
  { s with lanes := { s.lanes with deficient := if s.lacking.1 < 2 * s.lacking.2 then s.lanes.deficient + 1 else 0 } }

/-- `s` with the agreed copy of every active entry taken. -/
def entriesAgreed (s : State) : State := ((List.range 64).filter s.nodeActive).foldl (agreeEntry s.mapsUsed) (deficiency s)

/-- The resolution takes the agreed copies, closes the input set and adds its digest; digests that are all there are judged. -/
theorem consensusResolution_duplex (hc : s.computing = true) (hr : s.lanes.resolved = false) (hx : s.simplex = false) :
    let u := ((entriesAgreed s).agreeAcycs s.mapsUsed).closeInputs
    ∃ d order tx, exec .consensusResolution s =
      .next { u with lanes := { u.lanes with digests := s.lanes.digests ++ [(s.lane, d)] }, order := order, tx := tx } := by
  intro u
  have htakes : TakesInputs (deficiency s) (entriesAgreed s) := .foldl (agreeEntry_takesInputs s.mapsUsed) _ _
  have hcl : ClosesInputs (deficiency s) u := closeInputs_closes htakes hr s.mapsUsed
  have hdigests : u.lanes.digests = s.lanes.digests := by rw [hcl.frame]; rfl
  have hlane : u.lane = s.lane := by rw [hcl.frame]; rfl
  let v : State := { u with lanes := { u.lanes with digests := u.lanes.digests ++ [(u.lane, u.inputDigest)] } }
  let w : State := if v.voting then v.weirSend 0x03 none (toBe 8 u.inputDigest.toNat) else v
  have hexec : exec .consensusResolution s =
      .next (if w.lanes.digests.length == w.lanes.vset.length then w.digestJudge w.clock.cycle else w) :=
    congrArg _ ((if_neg (by simp [hc, hr])).trans (if_neg (by simp [hx])))
  have hw : ∃ tx, w = { v with tx := tx } := by
    unfold w
    split
    · exact ⟨_, rfl⟩
    · exact ⟨_, rfl⟩
  obtain ⟨tx, hw⟩ := hw
  obtain ⟨order, hj⟩ := digestJudge_eq w w.clock.cycle
  rw [hexec, hj, ← hdigests, ← hlane]
  split
  · exact ⟨u.inputDigest, order, tx, by rw [hw]⟩
  · exact ⟨u.inputDigest, u.order, tx, by rw [hw]⟩

end

end Sys2Proof.Proofs
end

section
/-!
SUPPORT. The voting set as it is decided to change (R329, R364).
-/
namespace Sys2Proof.Proofs
open Sys2Proof Sys2Proof.Machine Sys2Proof.Laws

theorem wakeAuto_eq (s : State) : ∃ wake wait tx, s.wakeAuto =
    { s with lanes := { s.lanes with spareWake := wake, couchWait := wait }, tx := tx } := by
  unfold State.wakeAuto State.wakeSpare
  split
  · split
    · exact ⟨_, _, _, rfl⟩
    · exact ⟨_, _, _, rfl⟩
  · exact ⟨_, _, _, rfl⟩

/-- A lane of the voting set that nothing takes out of it yet is to leave: LANE_ROLE is recorded, and the spare may be woken (R329). -/
theorem decideLeave_eq {s : State} {l : Lane} (hl : l ∈ s.lanes.vset) (hn : s.lanes.leaving.any (fun p => p.1 == l) = false) (new : Role)
    (reason : Nat) : ∃ ev st wake wait tx, s.decideLeave l new reason = { s with
      lanes := { s.lanes with leaving := s.lanes.leaving ++ [(l, new)], spareWake := wake, couchWait := wait }
      events := ev, host := { s.host with irqStatus := st }, tx := tx } := by
  obtain ⟨ev, st, tx, hrole, -⟩ := record_eq s (s.mkRec (s.sourceOf none) 0xFF 0x500
    [BitVec.ofNat 8 (Lane.num l), BitVec.ofNat 8 (roleCode .voting), BitVec.ofNat 8 (roleCode new), BitVec.ofNat 8 reason])
  obtain ⟨wake, wait, tx', hwake⟩ := wakeAuto_eq { s.roleEvent l .voting new reason with
    lanes := { s.lanes with leaving := s.lanes.leaving ++ [(l, new)] } }
  refine ⟨ev, st, wake, wait, tx', (if_pos ⟨hl, by simp [hn]⟩).trans (hwake.trans ?_)⟩
  rw [show s.roleEvent l .voting new reason = _ from hrole]

end Sys2Proof.Proofs
end

section
/-!
PROOF. O47.
-/
namespace Sys2Proof.Proofs
open Sys2Proof Sys2Proof.Machine Sys2Proof.Laws

section
variable {s : State}

theorem inputDeficient_leaves (hv : s.voting = true) (hd : 3 ≤ s.lanes.deficient) : exec .inputDeficient s = .next
    ((({ s with lanes := { s.lanes with deficient := 0 } } : State).report (mkFault 0x243 (locLane s.lane))).decideLeave s.lane .removed 3) :=
  congrArg _ (if_pos (by simp [hv, hd]))

theorem inputDeficient_stays (h : s.voting = false ∨ s.lanes.deficient < 3) : exec .inputDeficient s = .next s :=
  congrArg _ (if_neg (not_both (h.imp_right fun h => decide_eq_false (Nat.not_le.mpr h))))

end

/-- Settles O47: each row by its equation; the resolution by what agreed frames reach. -/
theorem inputConsensusTakesTheAgreedCopies : Obligations.InputConsensusTakesTheAgreedCopies := by
  intro s ch own ok bytes done stamp port l cnt p h i pay fits end_ good recv counted maps own_
  have hgood (hg : good) : GoodCopy s ch bytes ok i := by
    obtain ⟨hst, hc, hframe, hty, hfits, hact, hlen, hsync⟩ := hg
    exact ⟨hst, hc, hframe, hty, hfits, rfl, hact, hlen, hsync⟩
  refine ⟨fun hno => uplinkCopyReceived_idle hno own done stamp, fun hg hx hr hd => ?joins, fun hg hlate => ?late,
    fun hst hc hty hok hch => ⟨_, uplinkCopyReceived_acyclic hst hc hty hok hch own done stamp, ?passes⟩, consensusSend_idle,
    fun hx hv hc => ?voice, fun hx hv hvote hc => ?other,
    fun hm hp hcnt hl hr hport hne => consensusReceived_takes hm ⟨hp, hcnt, hl, by simp [hr], hport, hne⟩, consensusReceived_ignored,
    consensusResolution_done, fun hc hr => ?resolves, fun hm hp hcnt hv hl hport hnew => ?digest, inputDigestReceived_ignored,
    fun hv hd hl hn => ?deficient, inputDeficient_stays⟩
  case joins =>
    obtain ⟨n, e, hcount⟩ := countEpoch_eq s i pay
    exact ⟨_, uplinkCopyReceived_joins (hgood hg) own stamp hx hr hd, n, e, by rw [hcount]⟩
  case late => exact ⟨_, uplinkCopyReceived_late (hgood hg) own stamp hlate, countEpoch_eq s i pay⟩
  case passes => rw [Bool.and_eq_true, header_fits_iff]
  case voice =>
    have hvote : s.voting = true := (Bool.and_eq_true_iff.mp hv).1
    rw [consensusSend_voting hx hvote hc, if_pos hv]
    rfl
  case other =>
    obtain ⟨host, tx, hpass, hlen⟩ := passBodies_spec ((mapSent s).weirSend 0x02 none s.copyMap)
    refine ⟨_, (consensusSend_voting hx hvote hc).trans (congrArg _ ((if_neg (by simp [hv])).trans hpass)), rfl, rfl, rfl, rfl, ?_, rfl⟩
    rw [List.length_append, hlen]
    exact congrArg (· + _) (List.length_append ..)
  case resolves =>
    by_cases hx : s.simplex = true
    · obtain ⟨t, hexec, hcl⟩ := consensusResolution_simplex hc hr hx
      obtain ⟨hres, hacyc, hclock, hcfg, hsafe, hpend, -⟩ := hcl.kept
      exact ⟨t, hexec, hres, hacyc, hclock, hcfg, hsafe, hpend, fun h => absurd (hx.symm.trans h) nofun⟩
    · have hx : s.simplex = false := eq_false_of_ne_true hx
      obtain ⟨d, order, tx, hexec⟩ := consensusResolution_duplex hc hr hx
      have htakes : TakesInputs (deficiency s) (entriesAgreed s) := .foldl (agreeEntry_takesInputs s.mapsUsed) _ _
      obtain ⟨hres, hacyc, hclock, hcfg, hsafe, hpend, hdef⟩ := (closeInputs_closes htakes hr s.mapsUsed).kept
      refine ⟨_, hexec, hres, hacyc, hclock, hcfg, hsafe, hpend, fun _ => ⟨hdef, ⟨d, rfl⟩, fun n c k hn hact hk hfind => ?_⟩⟩
      have hmem := mem_agreed_of_resolved hk (List.mem_filter.mpr ⟨List.mem_range.mpr hn, hact⟩) (s := deficiency s) hfind
      exact closeInputs_closes_agreed htakes hr s.mapsUsed hmem
  case digest =>
    intro ds
    let t : State := { s with lanes := { s.lanes with digests := ds } }
    have hexec := inputDigestReceived_takes hm ⟨hp, hcnt, hv, hl, hport, by simp [hnew]⟩
    by_cases hlen : ds.length = s.lanes.vset.length
    · obtain ⟨order, hj⟩ := digestJudge_eq t s.clock.cycle
      refine ⟨_, hexec.trans (congrArg _ (if_pos hlen)), ?_, fun hsame => ?_, fun _ hdiff => ?_⟩
      · change t.digestJudge s.clock.cycle = _
        rw [hj]
      · have hj : (t.digestJudge s.clock.cycle).order = t.order :=
          congrArg State.order (digestJudge_alike (hsame.resolve_left (not_not_intro hlen)) _)
        exact hj
      · obtain ⟨e, hcode, hj⟩ := digestJudge_differ (s := t) hdiff s.clock.cycle
        have hj : (t.digestJudge s.clock.cycle).order = (withBody t (.event e)).order := congrArg State.order hj
        exact ⟨e, hcode, hj⟩
    · exact ⟨t, hexec.trans (congrArg _ (if_neg hlen)), rfl, fun _ => rfl, fun h => absurd h hlen⟩
  case deficient =>
    let t : State := ({ s with lanes := { s.lanes with deficient := 0 } } : State).report (mkFault 0x243 (locLane s.lane))
    obtain ⟨ev, st, wake, wait, tx, hleave⟩ := decideLeave_eq (s := t) hl (by rw [show t.lanes.leaving = [] from hn]; rfl) .removed 3
    refine ⟨_, (inputDeficient_leaves hv hd).trans (congrArg _ hleave), rfl, ?_, rfl, rfl, rfl, rfl⟩
    change s.lanes.leaving ++ [(s.lane, .removed)] = _
    rw [hn]
    rfl

end Sys2Proof.Proofs
end

section
/-!
SUPPORT. The output vote (R337 to R343, R350 to R354): VOTE and EXCHANGE, the quick and the final evaluation, and what their outcome
leaves.
-/
namespace Sys2Proof.Proofs
open Sys2Proof Sys2Proof.Machine Sys2Proof.Laws

/-! ### VOTE and EXCHANGE (R339, R342, R353) -/

/-- A mismatch is marked, its interrupt cause set and EXCHANGE sent; nothing else changes (R342). -/
theorem mismatchFound_eq (s : State) : ∃ mm seen exch st tx, s.mismatchFound = { s with
    lanes := { s.lanes with mismatch := mm, divSeen := seen, exch := exch }, host := { s.host with irqStatus := st }, tx := tx } := by
  unfold State.mismatchFound
  split
  · exact ⟨_, _, _, _, _, rfl⟩
  · dsimp only
    obtain ⟨st, tx, h⟩ := irq7_eq { s with lanes := { s.lanes with
      mismatch := true, divSeen := true, exch := s.lanes.exch ++ s.axes.map (fun a => (s.lane, a.entry.axis, s.axisDigest a)) } } s.lanes.divSeen
    rw [h]
    exact ⟨_, _, _, _, _, rfl⟩

theorem mismatchFound_alike {s : State} (h : s.differs = false) : s.mismatchFound = s := if_pos (by simp [h])

section
variable {s : State} {port : Nat} {bytes p : List Byte} {l : Lane} {cnt : Nat}

/-- A voice lane stops its downlinks for a VOTE of a newer epoch, or for a voice of its own epoch at a lower address (R353). -/
def stopsVoice (s : State) (l : Lane) (e : BitVec 16) : Bool :=
  s.isVoice && (epochNewer e s.lanes.epoch || (e == s.lanes.epoch && l ∈ s.lanes.claims && decide (Lane.num l < Lane.num s.lane)))

theorem stopsVoice_iff {e : BitVec 16} : stopsVoice s l e = true ↔
    s.isVoice = true ∧ (epochNewer e s.lanes.epoch = true ∨ e = s.lanes.epoch ∧ l ∈ s.lanes.claims ∧ l.num < s.lane.num) := by
  simp [stopsVoice, and_assoc]

/-- `s` with the VOTE `p` of lane `l` among those of the cycle. -/
def voteTaken (s : State) (l : Lane) (p : List Byte) : State := { s with lanes := { s.lanes with
  votes := s.lanes.votes ++ [{ lane := l, vote := p }]
  voiceStop := if stopsVoice s l (BitVec.ofNat 16 (be p 44 2)) then true else s.lanes.voiceStop } }

theorem voteReceived_takes (hm : s.weirMsg 0x04 bytes = some (l, cnt, p)) (hl : l ∈ s.lanes.vset)
    (h : p.length = 46 ∧ cnt = s.clock.cycle % 65536 ∧ s.computing = true ∧ port ∉ s.lanes.weirWrong ∧ l ≠ s.lane)
    (hnew : s.lanes.votes.any (fun v => v.lane == l) = false) :
    exec (.voteReceived port bytes) s = .next (voteTaken s l p).mismatchFound := by
  obtain ⟨hlen, hcnt, hc, hport, hne⟩ := h
  change execVoteReceived port bytes s = _
  simp only [execVoteReceived, hm]
  rw [if_pos ⟨hlen, hcnt, hc, hport, hne, .inl hl, by simp [hnew]⟩]
  let u : State := { s with lanes := { s.lanes with votes := s.lanes.votes ++ [{ lane := l, vote := p }] } }
  let w : State := if stopsVoice s l (BitVec.ofNat 16 (be p 44 2)) then { u with lanes := { u.lanes with voiceStop := true } } else u
  have hw : w = voteTaken s l p := by
    unfold w voteTaken
    split <;> rfl
  have hin : l ∈ w.lanes.vset := by rw [hw]; exact hl
  exact congrArg Host.Outcome.next ((if_pos hin).trans (congrArg State.mismatchFound hw))

theorem voteReceived_none (h : s.weirMsg 0x04 bytes = none) : exec (.voteReceived port bytes) s = .next s := by
  change execVoteReceived port bytes s = _
  simp only [execVoteReceived, h]

theorem exchangeReceived_takes (hm : s.weirMsg 0x08 bytes = some (l, cnt, p))
    (h : s.computing = true ∧ l ∈ s.lanes.vset ∧ l ≠ s.lane ∧ port ∉ s.lanes.weirWrong ∧ p.length % 9 = 0) :
    exec (.exchangeReceived port bytes) s = .next { s with lanes := { s.lanes with
      exch := s.lanes.exch.filter (fun q => q.1 != l) ++
        (List.range (p.length / 9)).map (fun i => (l, byteAt p (9 * i), BitVec.ofNat 64 (be p (9 * i + 1) 8))) } } := by
  change execExchangeReceived port bytes s = _
  simp only [execExchangeReceived, hm]
  rw [if_pos h]

theorem exchangeReceived_none (h : s.weirMsg 0x08 bytes = none) : exec (.exchangeReceived port bytes) s = .next s := by
  change execExchangeReceived port bytes s = _
  simp only [execExchangeReceived, h]

end

/-! ### Quick evaluation (R340, R351) -/

section
variable {s : State}

theorem quickEvaluation_idle (h : s.simplex = true ∨ s.voting = false ∨ s.stopped = true) : exec .quickEvaluation s = .next s :=
  congrArg _ (if_pos (by simpa [or_assoc] using h))

section
variable {v : Lane} (hx : s.simplex = false) (hv : s.voting = true) (hst : s.stopped = false) (hvoice : s.lanes.voice = some v)
  (hne : v ≠ s.lane)
include hx hv hst hvoice hne

/-- With the voice lane not heard by a majority, voice passes to the lowest lane heard, under the next epoch. -/
theorem quickEvaluation_passes (hout : v ∉ s.heardNow) (hmaj : s.majority s.heardNow = true) {w : Lane}
    (hw : lowest s.heardNow = some w) : exec .quickEvaluation s = .next (s.mismatchFound.passVoice w 1) := by
  have hidle : ¬(s.simplex || !s.voting || s.stopped) = true := by simp [hx, hv, hst]
  change execQuickEvaluation s = _
  rw [execQuickEvaluation, if_neg hidle]
  obtain ⟨mm, seen, exch, st, tx, h⟩ := mismatchFound_eq s
  generalize s.mismatchFound = u at h
  have hother : u.isVoice = false := by
    have hsame : u.isVoice = s.isVoice := by rw [h]; rfl
    rw [hsame]
    simp [State.isVoice, hvoice, hne]
  have hlane : u.lane = s.lane := by rw [h]; rfl
  have hheard : u.heardNow = s.heardNow := by rw [h]; rfl
  have hmaj' : u.majority s.heardNow = true := by rw [h]; exact hmaj
  have hvoice' : u.lanes.voice = some v := by rw [h]; exact hvoice
  simp only [hother, hvoice', hlane, hheard, hmaj', hw, hout, hne, Bool.false_eq_true, if_false, if_true, beq_iff_eq, Bool.or_eq_true,
    decide_eq_true_eq, or_self]

theorem quickEvaluation_hears (hin : v ∈ s.heardNow) (hd : s.differs = false) : exec .quickEvaluation s = .next s := by
  have hidle : ¬(s.simplex || !s.voting || s.stopped) = true := by simp [hx, hv, hst]
  have hother : s.isVoice = false := by simp [State.isVoice, hvoice, hne]
  change execQuickEvaluation s = _
  rw [execQuickEvaluation, if_neg hidle]
  simp only [mismatchFound_alike hd, hother, hvoice, hin, Bool.false_eq_true, if_false, if_true, Bool.or_eq_true, decide_true, or_true]

end
end

/-! ### What the outcome of a vote leaves (R341, R370) -/

/-- `t` has the presence, the voting set and the clock of `s`, and every change of the voting set that `s` has decided. -/
structure KeepsPresence (s t : State) : Prop where
  present : t.lanes.present = s.lanes.present
  noMajority : t.lanes.noMajority = s.lanes.noMajority
  vset : t.lanes.vset = s.lanes.vset
  clock : t.clock = s.clock
  leaving : s.lanes.leaving ⊆ t.lanes.leaving

namespace KeepsPresence
variable {s t u : State}

theorem refl (s : State) : KeepsPresence s s := ⟨rfl, rfl, rfl, rfl, List.Subset.refl _⟩

theorem trans (h : KeepsPresence s t) (k : KeepsPresence t u) : KeepsPresence s u :=
  ⟨k.present.trans h.present, k.noMajority.trans h.noMajority, k.vset.trans h.vset, k.clock.trans h.clock,
    List.Subset.trans h.leaving k.leaving⟩

theorem foldl {α : Type} {f : State → α → State} (hf : ∀ s a, KeepsPresence s (f s a)) :
    ∀ (l : List α) (s : State), KeepsPresence s (l.foldl f s)
  | [], s => refl s
  | a :: l, s => (hf s a).trans (foldl hf l (f s a))

theorem of_lanes (hl : t.lanes = s.lanes) (hc : t.clock = s.clock) : KeepsPresence s t :=
  ⟨by rw [hl], by rw [hl], by rw [hl], hc, by rw [hl]; exact List.Subset.refl _⟩

theorem record (s : State) (r : EvRec) : KeepsPresence s (s.record r) :=
  have h := record_keepsRuns (fr := False) (co := False) s r
  .of_lanes h.lanes h.clock

end KeepsPresence

theorem mismatchFound_keepsPresence (s : State) : KeepsPresence s s.mismatchFound := by
  obtain ⟨mm, seen, exch, st, tx, h⟩ := mismatchFound_eq s
  rw [h]
  exact ⟨rfl, rfl, rfl, rfl, List.Subset.refl _⟩

theorem decideLeave_keepsPresence (s : State) (l : Lane) (new : Role) (reason : Nat) : KeepsPresence s (s.decideLeave l new reason) := by
  by_cases h : l ∈ s.lanes.vset ∧ (!s.lanes.leaving.any (fun p => p.1 == l)) = true
  · obtain ⟨hl, hn⟩ := h
    obtain ⟨ev, st, wake, wait, tx, heq⟩ := decideLeave_eq hl (by simpa using hn) new reason
    rw [heq]
    exact ⟨rfl, rfl, rfl, rfl, List.subset_append_left _ _⟩
  · rw [State.decideLeave, if_neg h]
    exact .refl s

theorem reportStay_eq (s : State) (r : FaultRep) : ∃ reports, s.reportStay r = { s with faults := { s.faults with reports := reports } } := by
  unfold State.reportStay
  split
  · exact ⟨_, rfl⟩
  · exact ⟨_, rfl⟩

theorem reportStay_keepsPresence (s : State) (r : FaultRep) : KeepsPresence s (s.reportStay r) := by
  obtain ⟨reports, h⟩ := reportStay_eq s r
  rw [h]
  exact .of_lanes rfl rfl

theorem voteOutcome_keepsPresence (s : State) : KeepsPresence s s.voteOutcome := by
  unfold State.voteOutcome
  split
  · exact .refl s
  extract_lets js found s1 lanes und axes s2
  have h1 : KeepsPresence s s1 := .foldl (fun u j => .record u _) _ s
  refine h1.trans ?_
  clear_value lanes und
  split
  · exact (decideLeave_keepsPresence s1 _ _ _).trans (reportStay_keepsPresence _ _)
  · have h2 : KeepsPresence s1 s2 := .foldl (fun u n =>
      .trans (t := u.updAxis n (fun a => { a with divergent := true })) (.of_lanes rfl rfl) (reportStay_keepsPresence _ _)) _ s1
    refine h2.trans ?_
    split
    · exact reportStay_keepsPresence s2 _
    · exact .refl s2

theorem decideJoin_keepsPresence (s : State) (l : Lane) : KeepsPresence s (s.decideJoin l) := by
  unfold State.decideJoin
  split
  · exact .refl s
  · have h := KeepsPresence.record s (s.mkRec (s.sourceOf none) 0xFF 0x500
      [BitVec.ofNat 8 (Lane.num l), BitVec.ofNat 8 (roleCode .joining), BitVec.ofNat 8 (roleCode .voting), BitVec.ofNat 8 7])
    exact ⟨rfl, rfl, rfl, h.clock, List.subset_append_left _ _⟩

theorem recouch_keepsPresence (s : State) : KeepsPresence s s.recouch := by
  unfold State.recouch
  dsimp only
  split
  · exact ⟨rfl, rfl, rfl, rfl, List.Subset.refl _⟩
  · split <;> exact ⟨rfl, rfl, rfl, rfl, List.Subset.refl _⟩

theorem eventBody_keepsPresence (s : State) (e : EvBody) (l : Option Lane) : KeepsPresence s (s.eventBody e l) :=
  have h := eventBody_keepsRuns (fr := False) (co := False) s e l
  .of_lanes h.lanes h.clock

theorem trialResult_keepsPresence (s : State) : KeepsPresence s s.trialResult := by
  unfold State.trialResult
  split
  next l _ =>
    split
    · exact .refl s
    split
    next p _ =>
      extract_lets ok lanes couch s1 s2
      have h1 : KeepsPresence s s1 := ⟨rfl, rfl, rfl, rfl, List.Subset.refl _⟩
      have h2 : KeepsPresence s1 s2 := (decideJoin_keepsPresence s1 l).trans (eventBody_keepsPresence _ _ _)
      split
      · exact h1.trans (h2.trans ⟨rfl, rfl, rfl, rfl, List.Subset.refl _⟩)
      split
      · exact h1.trans (recouch_keepsPresence s1)
      · exact h1
    next => exact .refl s
  next => exact .refl s

/-! ### Final evaluation (R341, R350) -/

/-- A list that names one lane alone, however often. -/
theorem laneSort_singleton {l : List Lane} {x : Lane} (h : ∀ y, y ∈ l ↔ y = x) : laneSort l = [x] := by
  simp only [laneSort, h]
  cases x <;> rfl

section
variable {s : State}

/-- Where the vote finds one lane divergent and nothing undecided, that lane is to leave. -/
theorem voteOutcome_removes {x : Lane} (hd : s.differs = true) (hin : x ∈ s.lanes.vset) (hn : s.lanes.leaving = [])
    (hj : ∀ c < 17, s.judge c = ([], false) ∨ s.judge c = ([x], false)) (hx : ∃ c < 17, s.judge c = ([x], false)) :
    (x, .removed) ∈ s.voteOutcome.lanes.leaving := by
  have hnamed : laneSort (((List.range 17).map (fun c => (c, s.judge c))).flatMap (fun j => j.2.1)) = [x] := by
    refine laneSort_singleton fun y => ?_
    simp only [List.mem_flatMap, List.mem_map, List.mem_range]
    constructor
    · rintro ⟨_, ⟨c, hc, rfl⟩, hy⟩
      obtain h | h := hj c hc
      · simp [h] at hy
      · simpa [h] using hy
    · rintro rfl
      obtain ⟨c, hc, h⟩ := hx
      exact ⟨_, ⟨c, hc, rfl⟩, by rw [h]; exact List.mem_singleton_self y⟩
  have hdecided : ((List.range 17).map (fun c => (c, s.judge c))).any (fun j => j.2.2) = false := by
    simp only [List.any_map, List.any_eq_false, List.mem_range]
    intro c hc
    obtain h | h := hj c hc <;> simp [h]
  unfold State.voteOutcome
  rw [if_neg (by simp [hd])]
  extract_lets js found s1 lanes und axes s2
  have h1 : s1.lanes = s.lanes := (KeepsRuns.foldl (fr := False) (co := False) (fun u j => event_keepsRuns u _ _ _ _) _ s).lanes
  rw [show lanes = [x] from hnamed, show und = false from hdecided]
  obtain ⟨ev, st, wake, wait, tx, hleave⟩ := decideLeave_eq (s := s1) (l := x) (by rw [h1]; exact hin) (by rw [h1, hn]; rfl) .removed 1
  obtain ⟨reports, hstay⟩ := reportStay_eq (s1.decideLeave x .removed 1) (mkFault 0x240 (locLane x))
  change _ ∈ ((s1.decideLeave x .removed 1).reportStay (mkFault 0x240 (locLane x))).lanes.leaving
  rw [hstay, hleave]
  exact List.mem_append_right _ (List.mem_singleton_self _)

/-- `s` with who is present at the final evaluation noted (R350). -/
def presenceNoted (s : State) : State := { s with lanes := { s.lanes with
  present := s.heardFinal
  absent := s.lanes.vset.map (fun l => (l, if l ∈ s.heardFinal then 0 else (kvGet s.lanes.absent l).getD 0 + 1))
  noMajority := if s.majority s.heardFinal then 0 else s.lanes.noMajority + 1
  voiceAbsent := match s.lanes.voice with | some v => decide (v ∉ s.heardFinal) | none => true } }

/-- A lone voice lane drops the lanes that are not heard (R354). -/
def unheardDropped (s : State) : State :=
  if s.isVoice && decide (2 ≤ s.lanes.noMajority) then
    (s.lanes.vset.filter (fun l => decide (l ∉ s.lanes.present))).foldl (fun s l =>
      (s.decideLeave l .removed 2).reportStay (mkFault 0x241 (locLane l))) s
  else s

theorem unheardDropped_keepsPresence (s : State) : KeepsPresence s (unheardDropped s) := by
  unfold unheardDropped
  split
  · exact .foldl (fun u l => (decideLeave_keepsPresence u l _ _).trans (reportStay_keepsPresence _ _)) _ s
  · exact .refl s

theorem finalEvaluation_idle (h : s.simplex = true ∨ s.computing = false) : exec .finalEvaluation s = .next s :=
  congrArg _ (if_pos (by simpa using h))

theorem finalEvaluation_eq (hx : s.simplex = false) (hc : s.computing = true) :
    exec .finalEvaluation s = .next (unheardDropped (presenceNoted s)).mismatchFound.voteOutcome.trialResult :=
  congrArg Host.Outcome.next (if_neg (by simp [hx, hc]))

theorem finalEvaluation_keepsPresence :
    KeepsPresence (presenceNoted s) (unheardDropped (presenceNoted s)).mismatchFound.voteOutcome.trialResult :=
  (unheardDropped_keepsPresence _).trans ((mismatchFound_keepsPresence _).trans
    ((voteOutcome_keepsPresence _).trans (trialResult_keepsPresence _)))

/-- The one lane that differs leaves, in a lane that is not voice. -/
theorem finalEvaluation_removes {x : Lane} (hv : s.isVoice = false) (hd : s.differs = true) (hn : s.lanes.leaving = [])
    (hin : x ∈ s.lanes.vset) (hj : ∀ c < 17, s.judge c = ([], false) ∨ s.judge c = ([x], false))
    (hx : ∃ c < 17, s.judge c = ([x], false)) :
    (x, .removed) ∈ (unheardDropped (presenceNoted s)).mismatchFound.voteOutcome.trialResult.lanes.leaving := by
  have hdrop : unheardDropped (presenceNoted s) = presenceNoted s :=
    if_neg (not_both (.inl (show (presenceNoted s).isVoice = false from hv)))
  rw [hdrop]
  refine (trialResult_keepsPresence _).leaving ?_
  obtain ⟨mm, seen, exch, st, tx, h⟩ := mismatchFound_eq (presenceNoted s)
  generalize (presenceNoted s).mismatchFound = u at h
  have hjudge (c : Nat) : u.judge c = s.judge c := by rw [h]; rfl
  refine voteOutcome_removes (by rw [h]; exact hd) (by rw [h]; exact hin) (by rw [h]; exact hn) ?_ ?_
  · simpa only [hjudge] using hj
  · simpa only [hjudge] using hx

/-! ### Lanes that are lost or isolated (R350, R354), and realignment (R343) -/

/-- A lane leaves: the decision is made, and the axes, the clock, the configuration and the set in force stay. -/
theorem decideLeave_leaves {l : Lane} (hl : l ∈ s.lanes.vset) (hn : s.lanes.leaving = []) (new : Role) (reason : Nat) :
    let t := s.decideLeave l new reason
    (t.lanes.leaving = [(l, new)] ∧ t.axes = s.axes ∧ t.clock = s.clock ∧ t.cfg = s.cfg ∧ t.lanes.vset = s.lanes.vset ∧
      t.lanes.voice = s.lanes.voice) ∧ t.faults = s.faults ∧ t.lane = s.lane := by
  obtain ⟨ev, st, wake, wait, tx, h⟩ := decideLeave_eq hl (by rw [hn]; rfl) new reason
  rw [h]
  exact ⟨⟨congrArg (· ++ [(l, new)]) hn, rfl, rfl, rfl, rfl, rfl⟩, rfl, rfl⟩

theorem laneLost_leaves {l : Lane} (hv : s.voting = true) (hne : l ≠ s.lane) (hl : l ∈ s.lanes.vset)
    (ha : 2 ≤ (kvGet s.lanes.absent l).getD 0) (hn : s.lanes.leaving = []) (hm : s.majority s.lanes.present = true ∨ s.isVoice = true) :
    exec (.laneLost l) s = .next ((s.decideLeave l .removed 2).reportStay (mkFault 0x241 (locLane l))) :=
  congrArg _ (if_pos (by simp [hv, hne, hl, ha, hn, hm]))

theorem laneLost_stays {l : Lane} (h : s.voting = false ∨ l = s.lane ∨ l ∉ s.lanes.vset ∨ (kvGet s.lanes.absent l).getD 0 < 2) :
    exec (.laneLost l) s = .next s := by
  refine congrArg _ (if_neg fun hall => ?_)
  simp only [Bool.and_eq_true, bne_iff_ne, decide_eq_true_eq] at hall
  obtain ⟨⟨⟨⟨⟨hv, hne⟩, hl⟩, ha⟩, -⟩, -⟩ := hall
  obtain h | h | h | h := h
  · rw [h] at hv
    cases hv
  · exact hne h
  · exact h hl
  · omega

theorem laneIsolated_leaves (hv : s.voting = true) (hn : s.isVoice = false) (hm : 2 ≤ s.lanes.noMajority) :
    exec .laneIsolated s = .next ((s.decideLeave s.lane .isolated 6).report (mkFault 0x242 (locLane s.lane))) :=
  congrArg _ (if_pos (by simp [hv, hn, hm]))

theorem laneIsolated_stays (h : s.voting = false ∨ s.isVoice = true ∨ s.lanes.noMajority < 2) : exec .laneIsolated s = .next s := by
  refine congrArg _ (if_neg fun hall => ?_)
  simp only [Bool.and_eq_true, Bool.not_eq_true', decide_eq_true_eq] at hall
  obtain ⟨⟨hv, hvoice⟩, hm⟩ := hall
  obtain h | h | h := h
  · rw [h] at hv
    cases hv
  · rw [h] at hvoice
    cases hvoice
  · omega

theorem realignReceived_takes {n : Nat} (im : AxisImage) (hc : s.computing = true) (hv : s.isVoice = false) (hr : s.realigning n = true) :
    exec (.realignReceived n im) s = .next { s with lanes := { s.lanes with realignData := kvSet s.lanes.realignData n im } } :=
  congrArg _ (if_pos (by simp [hc, hv, hr]))

theorem realignReceived_ignored {n : Nat} (im : AxisImage) (h : s.computing = false ∨ s.isVoice = true ∨ s.realigning n = false) :
    exec (.realignReceived n im) s = .next s :=
  congrArg _ (if_neg (by
    rw [Bool.and_assoc]
    exact not_both (h.imp_right fun h => Bool.and_eq_false_iff.mpr (h.imp_left fun h => by rw [h]; rfl))))

end

end Sys2Proof.Proofs
end

section
/-!
PROOF. O53.
-/
namespace Sys2Proof.Proofs
open Sys2Proof Sys2Proof.Machine Sys2Proof.Laws

/-- Settles O53: each row by its equation, the final evaluation by what every part of its outcome leaves. -/
theorem theVoteKeepsTheVotingSet : Obligations.TheVoteKeepsTheVotingSet := by
  intro s port bytes l cnt p valid e stops heard maj leaves
  refine ⟨fun hvalid => ?takes, voteReceived_none, quickEvaluation_idle, fun v w hx hv hst hvoice hne hout hmaj hw => ?passes,
    fun v hx hv hst hvoice hne hin hd => quickEvaluation_hears hx hv hst hvoice hne hin hd, finalEvaluation_idle, fun hx hc => ?final,
    fun hv hne hl ha hn hm => ?lost, laneLost_stays, fun hv hnv hm hl hn => ?isolated, laneIsolated_stays,
    fun hm hc hl hne hport hp => ⟨_, exchangeReceived_takes hm ⟨hc, hl, hne, hport, hp⟩, by simp, by simp⟩, exchangeReceived_none,
    fun n im => ⟨realignReceived_takes im, realignReceived_ignored im⟩⟩
  case takes =>
    obtain ⟨hm, hlen, hcnt, hc, hport, hne, hl, hnew⟩ := hvalid
    obtain ⟨mm, seen, exch, st, tx, h⟩ := mismatchFound_eq (voteTaken s l p)
    have hexec := voteReceived_takes hm hl ⟨hlen, hcnt, hc, hport, hne⟩ hnew
    rw [h] at hexec
    exact ⟨_, hexec, rfl, fun hs => if_pos (stopsVoice_iff.mpr hs), fun hs => if_neg (mt stopsVoice_iff.mp hs), rfl⟩
  case passes =>
    obtain ⟨mm, seen, exch, st, tx, h⟩ := mismatchFound_eq s
    have hexec := quickEvaluation_passes hx hv hst hvoice hne hout hmaj hw
    generalize s.mismatchFound = u at h hexec
    have hcommon : u.common = true := by
      have hsame : u.common = s.common := by rw [h]; rfl
      rw [hsame]
      simp [State.common, State.computing, hv, hst]
    obtain ⟨-, -, hpass, -⟩ := passVoice_common hcommon w 1
    rw [hpass, h] at hexec
    exact ⟨_, hexec, rfl, rfl, rfl, rfl, rfl, rfl, rfl⟩
  case final =>
    obtain ⟨hpresent, hmajority, hvset, hclock, -⟩ := finalEvaluation_keepsPresence (s := s)
    exact ⟨_, finalEvaluation_eq hx hc, hpresent, hmajority, hvset, hclock,
      fun x hv hd hn hin hj hone => finalEvaluation_removes hv hd hn hin hj hone⟩
  case lost =>
    obtain ⟨hleaves, -, -⟩ := decideLeave_leaves hl hn .removed 2
    obtain ⟨reports, hstay⟩ := reportStay_eq (s.decideLeave l .removed 2) (mkFault 0x241 (locLane l))
    exact ⟨_, laneLost_leaves hv hne hl ha hn hm, by rw [hstay]; exact hleaves⟩
  case isolated =>
    obtain ⟨hleaves, hfaults, hlane⟩ := decideLeave_leaves hl hn .isolated 6
    refine ⟨_, laneIsolated_leaves hv hnv hm, hleaves, ?_⟩
    rw [State.report, hfaults, hlane]
    rfl

end Sys2Proof.Proofs
end

section
/-!
SUPPORT. Couching (R365 to R370): checkpoint and frames at the voting lanes, the image, its commit and the replay at the lane that is
couched, and the live cycle.
-/
namespace Sys2Proof.Proofs
open Sys2Proof Sys2Proof.Machine Sys2Proof.Laws

/-! ### The part of the voting lanes (R366, R367, R370) -/

/-- `s` with the couch as given. -/
def withCouch (s : State) (c : Couch) : State := { s with lanes := { s.lanes with couch := c } }

section
variable {s : State} {l : Lane} {crcs : List (BitVec 32)}

theorem couchReqReceived_ignored (h : s.voting = false ∨ s.stopped = true ∨ s.simplex = true ∨ l ∈ s.lanes.vset) :
    exec (.couchReqReceived l crcs) s = .next s := by
  refine congrArg _ (if_pos ?_)
  rw [Bool.or_eq_true]
  exact .inl (by simpa [or_assoc] using h)

/-- The kernels whose images the joining lane lacks (R365). -/
def lackedKernels (s : State) (crcs : List (BitVec 32)) : List CouchPart :=
  (s.kernels.held.filter (fun x => decide (BitVec.ofNat 32 (crc32 x.image) ∉ crcs))).map CouchPart.kernel

/-- `s` with the couch of lane `l` begun, the present cycle its checkpoint (R366). -/
def couchBegun (s : State) (l : Lane) (crcs : List (BitVec 32)) : State := { s with lanes := { s.lanes with
  couchWait := false, spareWake := false, spareState := if l = .s then .joining else s.lanes.spareState
  couch := { active := true, source := s.couchSource, joiner := some l, checkpoint := some s.clock.cycle, parts := lackedKernels s crcs } } }

/-- The couch source sends its settings to a lane that rejoins, before it reports the start (R616). -/
def refreshSent (s : State) (l : Lane) : State := if l = .s then s else s.send (.refresh (s.capture 2))

theorem couchReqReceived_begins (hv : s.voting = true) (hst : s.stopped = false) (hx : s.simplex = false) (hl : l ∉ s.lanes.vset)
    (ha : s.lanes.couch.active = false) : exec (.couchReqReceived l crcs) s = .next (
      let t := couchBegun s l crcs;
      if s.couchSource = some s.lane then
        (refreshSent t l).reportEvent ((refreshSent t l).couchBody l 1 ((refreshSent t l).imageKb ((refreshSent t l).couchImage (lackedKernels s crcs))) [])
      else t) := by
  change execCouchReqReceived l crcs s = _
  rw [execCouchReqReceived, if_neg (by simp [hv, hst, hx, hl, ha]), ha]
  rfl

theorem refreshSent_eq (s : State) (l : Lane) : ∃ tx, refreshSent s l = { s with tx := tx } := by
  unfold refreshSent
  split
  · exact ⟨_, rfl⟩
  · exact ⟨_, rfl⟩

theorem frameRequest_answers {k n : Nat} {pay : List Byte} (hv : s.voting = true) (hx : s.simplex = false)
    (h : (kvGet s.lanes.past k).bind (fun x => kvGet x n) = some pay) :
    exec (.frameRequest l k n) s = .next (s.weirSend 0x11 (some l) pay) := by
  change execFrameRequest l k n s = _
  rw [execFrameRequest, if_neg (by simp [hv, hx]), h]

theorem frameRequest_silent {k n : Nat}
    (h : s.voting = false ∨ s.simplex = true ∨ (kvGet s.lanes.past k).bind (fun x => kvGet x n) = none) :
    exec (.frameRequest l k n) s = .next s := by
  change execFrameRequest l k n s = _
  unfold execFrameRequest
  split
  · rfl
  next hon =>
    obtain ⟨hv, hx⟩ := not_or.mp (mt Bool.or_eq_true_iff.mpr hon)
    rw [(h.resolve_left (by simpa using hv)).resolve_left hx]

theorem joinReceived_begins (hv : s.voting = true) (ha : s.lanes.couch.active = true) (hj : s.lanes.couch.joiner = some l) :
    exec (.joinReceived l) s = .next (withCouch s { s.lanes.couch with trial := true }) :=
  congrArg _ (if_pos (by simp [hv, ha, hj]))

theorem joinReceived_ignored (h : s.voting = false ∨ s.lanes.couch.active = false ∨ s.lanes.couch.joiner ≠ some l) :
    exec (.joinReceived l) s = .next s :=
  congrArg _ (if_neg (by
    rw [Bool.and_assoc]
    exact not_both (h.imp_right fun h => Bool.and_eq_false_iff.mpr (h.imp_right beq_eq_false_iff_ne.mpr))))

end

/-! ### The part of the lane that is couched (R366 to R369) -/

section
variable {s : State}

theorem couchDataReceived_gathers (hs : s.couching = true) (hc : s.lanes.couch.committed = false) (part : CouchPart) :
    exec (.couchDataReceived part) s = .next (withCouch s { s.lanes.couch with parts := s.lanes.couch.parts ++ [part] }) :=
  congrArg _ (if_pos (by simp [hs, hc]))

theorem couchEndReceived_tries (hs : s.couching = true) (hc : s.lanes.couch.committed = false) (crc : BitVec 64) :
    exec (.couchEndReceived crc) s = .next (withCouch s { s.lanes.couch with imageCrc := some crc }).tryCommit :=
  congrArg _ (if_pos (by simp [hs, hc]))

theorem couchConfirmReceived_tries (hs : s.couching = true) (hc : s.lanes.couch.committed = false) (l : Lane) (k : Nat) (ep : BitVec 16)
    (crc : BitVec 64) : exec (.couchConfirmReceived l k ep crc) s = .next (withCouch s { s.lanes.couch with
      confirms := s.lanes.couch.confirms.filter (fun x => x.1 != l) ++ [(l, crc, ep, k)] }).tryCommit :=
  congrArg _ (if_pos (by simp [hs, hc]))

theorem couchAbandon_gives_up (hs : s.couching = true) (hc : s.lanes.couch.committed = false) :
    exec .couchAbandon s = .next s.recouch :=
  congrArg _ (if_pos (by simp [hs, hc]))

/-- Outside a couch that is open, nothing of it is heard. -/
theorem couch_closed (part : CouchPart) (crc : BitVec 64) (l : Lane) (k : Nat) (ep : BitVec 16) {i : Instr}
    (hi : i = .couchDataReceived part ∨ i = .couchEndReceived crc ∨ i = .couchConfirmReceived l k ep crc ∨ i = .couchAbandon)
    (h : s.couching = false ∨ s.lanes.couch.committed = true) : exec i s = .next s := by
  have hclosed : ¬(s.couching && !s.lanes.couch.committed) = true := not_both (h.imp_right fun h => by rw [h]; rfl)
  obtain rfl | rfl | rfl | rfl := hi
  · exact congrArg _ (if_neg hclosed)
  · exact congrArg _ (if_neg hclosed)
  · exact congrArg _ (if_neg hclosed)
  · exact congrArg _ (if_neg hclosed)

/-! ### Commit (R368) -/

theorem tryCommit_unsealed (h : s.lanes.couch.imageCrc = none ∨ s.lanes.couch.confirms = []) : s.tryCommit = s := by
  unfold State.tryCommit
  dsimp only
  split
  next crc src hcrc hsrc =>
    obtain h | h := h
    · rw [h] at hcrc
      cases hcrc
    · rw [h] at hsrc
      cases hsrc
  next => rfl

/-- `s` with the image taken in its place and the couch committed at cycle `k`. -/
def committed (s : State) (k : Nat) : State :=
  withCouch (s.install s.lanes.couch.parts)
    { s.lanes.couch with committed := true, checkpoint := some k, replayed := some k, parts := [] }

theorem tryCommit_commits {src : Lane} {crc : BitVec 64} {ep : BitVec 16} {k : Nat} (hc : s.lanes.couch.committed = false)
    (hcrc : s.lanes.couch.imageCrc = some crc) (hown : Config.imageCrc s.lanes.couch.parts = crc)
    (hsrc : s.lanes.couch.confirms.find? (fun x => s.lanes.couch.source == some x.1) = some (src, crc, ep, k))
    (htwo : 1 < (s.lanes.couch.confirms.filter (fun x => x.2 == (crc, ep, k) && decide (x.1 ∈ s.lanes.vset))).length)
    (hlog : s.lanes.couch.log = []) : ∃ b, s.tryCommit = (committed s k).sendReport b := by
  unfold State.tryCommit
  dsimp only
  split
  next crc' src' hcrc' hsrc' =>
    obtain rfl := Option.some.inj (hcrc'.symm.trans hcrc)
    obtain rfl := Option.some.inj (hsrc'.symm.trans hsrc)
    rw [if_neg (by simpa [hc, hown] using htwo)]
    change ∃ b, ((committed s k).sendReport _).replayLog s.lanes.couch.log.length = _
    rw [hlog]
    exact ⟨_, rfl⟩
  next hnone => exact (hnone _ _ hcrc hsrc).elim

/-- The image takes the place of what it covers, and what is the lane's own stays (Table 8.13). -/
theorem committed_spec {i : StewardImage} (k : Nat) (b : Body) (hi : (s.lanes.couch.parts.filterMap CouchPart.steward?).head? = some i) :
    let t := (committed s k).sendReport b
    t.lanes.couch = { s.lanes.couch with committed := true, checkpoint := some k, replayed := some k, parts := [] } ∧
    t.axes = s.lanes.couch.parts.filterMap CouchPart.axis? ∧ t.cfg = i.cfg ∧ t.coupling = i.coupling ∧ t.groups = i.groups ∧
    t.nodes = i.nodes ∧ t.lanes.voice = i.voice ∧ t.lanes.epoch = i.epoch ∧ t.lanes.vset = i.vset ∧ t.lanes.role = s.lanes.role ∧
    t.clock.cycle = s.clock.cycle ∧ t.safety = s.safety ∧ t.drivers = s.drivers ∧ t.power = s.power := by
  unfold committed State.install
  simp only [hi]
  exact ⟨rfl, rfl, rfl, rfl, rfl, rfl, rfl, rfl, rfl, rfl, rfl, rfl, rfl, rfl⟩

/-! ### Replay (R367, R370) -/

theorem replayReceived_ignored (h : s.couching = false ∨ s.lanes.couch.live = true) (r : Replay) : exec (.replayReceived r) s = .next s :=
  congrArg _ (if_neg (not_both (h.imp_right fun h => by rw [h]; rfl)))

theorem replayReceived_logs (hs : s.couching = true) (hl : s.lanes.couch.live = false) (hc : s.lanes.couch.committed = false) (r : Replay) :
    exec (.replayReceived r) s = .next (withCouch s { s.lanes.couch with log := s.lanes.couch.log ++ [r] }) :=
  congrArg _ ((if_pos (by simp [hs, hl])).trans (if_neg (by simp [hc])))

/-- The log's cycle that follows those replayed is replayed. -/
theorem replayLog_step {k : Nat} {r : Replay} (hk : s.lanes.couch.replayed = some k)
    (hr : s.lanes.couch.log.find? (fun r => r.cycle == k + 1) = some r) (n : Nat) : s.replayLog (n + 1) =
      ((withCouch s { s.lanes.couch with log := s.lanes.couch.log.filter (fun q => q.cycle ≠ k + 1) }).replayOne r).replayLog n := by
  rw [State.replayLog]
  simp only [hk, hr]
  rfl

/-- The cycle that follows those replayed is replayed as it comes. -/
theorem replayReceived_replays {k : Nat} {r : Replay} (hs : s.couching = true) (hl : s.lanes.couch.live = false)
    (hc : s.lanes.couch.committed = true) (hlog : s.lanes.couch.log = []) (hk : s.lanes.couch.replayed = some k) (hr : r.cycle = k + 1) :
    exec (.replayReceived r) s = .next (s.replayOne r) := by
  let t := withCouch s { s.lanes.couch with log := [r] }
  have hone : s.lanes.couch.log ++ [r] = [r] := by rw [hlog]; rfl
  have hexec : exec (.replayReceived r) s = .next (t.replayLog 1) := by
    refine congrArg Host.Outcome.next ((if_pos (by simp [hs, hl])).trans ((if_pos hc).trans ?_))
    change (withCouch s { s.lanes.couch with log := s.lanes.couch.log ++ [r] }).replayLog (s.lanes.couch.log ++ [r]).length = _
    rw [hone]
    rfl
  have hrest : withCouch t { t.lanes.couch with log := [r].filter (fun q => q.cycle ≠ k + 1) } = s := by
    have hempty : [r].filter (fun q => q.cycle ≠ k + 1) = s.lanes.couch.log := by simp [hr, hlog]
    rw [hempty]
    rfl
  have hstep := replayLog_step (s := t) (r := r) hk (by simp [t, withCouch, hr]) 0
  rw [hexec, hstep]
  exact congrArg (fun u => Host.Outcome.next (State.replayOne u r)) hrest

/-! ### Giving up (R369) -/

theorem lowest_mem {l : List Lane} {x : Lane} (h : lowest l = some x) : x ∈ l := by
  have hx := List.mem_of_mem_head? (Option.mem_def.mpr h)
  simpa using (List.mem_filter.mp hx).2

/-- With fewer than two voting lanes the lane waits, and reports that it is blocked. -/
theorem recouch_waits (h : s.lanes.vset.length < 2) : ∃ tx, tx.length = s.tx.length + 3 ∧
    s.recouch = { withCouch s { active := true, joiner := some s.lane } with tx := tx } :=
  ⟨s.tx ++ [_] ++ [_] ++ [_], by simp, if_pos h⟩

/-- The couch begins anew from another voting lane. -/
theorem recouch_begins (h : 2 ≤ s.lanes.vset.length) : ∃ tx, s.recouch = { s with
    lanes := { s.lanes with
      role := .joining
      couch := { active := true, source := lowest (s.lanes.vset.filter (fun l => s.lanes.couch.source ≠ some l)), joiner := some s.lane
                 tried := s.lanes.couch.source.toList ++ s.lanes.couch.tried } }
    tx := tx } := by
  unfold State.recouch
  dsimp only
  split
  next hfew => exact absurd hfew (Nat.not_lt.mpr h)
  next =>
    split
    · exact ⟨_, rfl⟩
    · exact ⟨_, rfl⟩

end

/-! ### The live cycle (R370) -/

/-- A lane that is not voice sends nothing between `s` and `t`, and its place among the lanes is the same. -/
structure KeepsSilent (s t : State) : Prop where
  tx : s.isVoice = false → t.tx = s.tx
  lanes : t.lanes = s.lanes

namespace KeepsSilent
variable {s t u : State}

theorem refl (s : State) : KeepsSilent s s := ⟨fun _ => rfl, rfl⟩

theorem trans (h : KeepsSilent s t) (k : KeepsSilent t u) : KeepsSilent s u where
  tx hv := by
    have hvoice : t.isVoice = s.isVoice := by simp only [State.isVoice, State.voting, State.lane, h.lanes]
    exact (k.tx (hvoice.trans hv)).trans (h.tx hv)
  lanes := k.lanes.trans h.lanes

theorem foldl {α : Type} {f : State → α → State} (hf : ∀ s a, KeepsSilent s (f s a)) :
    ∀ (l : List α) (s : State), KeepsSilent s (l.foldl f s)
  | [], s => refl s
  | a :: l, s => (hf s a).trans (foldl hf l (f s a))

theorem record (s : State) (r : EvRec) : KeepsSilent s (s.record r) where
  tx hv := by
    unfold State.record
    split
    · rfl
    · simp [State.ringWrite, hv]
  lanes := (record_keepsRuns (fr := False) (co := False) s r).lanes

end KeepsSilent

theorem eventAfter_keepsSilent (s : State) (r : FaultRep) : KeepsSilent s (s.eventAfter r) := by
  unfold State.eventAfter
  split
  next e _ =>
    obtain ⟨rec, h, -⟩ := eventBody_record s e r.lane
    rw [h]
    exact .record s rec
  next => exact .refl s

theorem faultRecord_keepsSilent (s : State) (kind code cls : Nat) (loc : Loc) (lane : Option Lane) (inst cycles raise : Nat) :
    KeepsSilent s (s.faultRecord kind code cls loc lane inst cycles raise) :=
  have h := KeepsSilent.record s
  ⟨(h _).tx, (h _).lanes⟩

theorem releaseOne_keepsSilent (s : State) (n : Queued) :
    KeepsSilent s ((s.faultRecord frRaised n.rep.code 0 n.rep.loc n.rep.lane n.inst.toNat (s.clock.cycle - n.raised) n.raised).eventAfter
      n.rep) :=
  .trans (faultRecord_keepsSilent s _ _ _ _ _ _ _ _) (eventAfter_keepsSilent _ n.rep)

theorem releaseQueue_keepsSilent (s : State) : KeepsSilent s s.releaseQueue := by
  let s1 := { s with faults := { s.faults with queue := [], dropped := 0 } }
  have hrel : KeepsSilent s _ := .trans (t := s1) ⟨fun _ => rfl, rfl⟩ (.foldl releaseOne_keepsSilent s.faults.queue s1)
  unfold State.releaseQueue
  dsimp only
  split
  · split
    · exact hrel
    · exact hrel.trans (.record _ _)
  · exact .refl s

theorem coefSteps_keepsSilent {s : State} (h : s.axes = []) : KeepsSilent s s.coefSteps := by
  have hset (u : State) (g : Nat) (c : CoefRt) : KeepsSilent u (u.setCoef (.group g) c) := ⟨fun _ => rfl, rfl⟩
  have helem (g : Nat) (u : State) (e : CoefElem) : KeepsSilent u (u.elementEffect (.group g) e) := (hset u g _).trans (hset _ g _)
  unfold State.coefSteps
  rw [h]
  refine .foldl (fun u g => ?_) _ s
  unfold State.coefStep
  dsimp only
  split
  · exact .foldl (helem g) _ _
  · exact (hset u g _).trans (.foldl (helem g) _ _)

section
variable {s : State}

/-- With no axis, no node and nothing accepted, the cycle's start releases notices and takes the groups' coefficients alone. -/
theorem startCycle_idle (hr : s.lanes.realign = []) (hm : s.order.mapPending = none) (hn : s.nodes = []) (hax : s.axes = [])
    (ha : s.order.accepted = []) : s.startCycle = s.swapCoupling.adopt.releaseQueue.coefSteps := by
  let s1 := s.swapCoupling.adopt
  have hs1 : s1 = _ := adopt_none (s := s.swapCoupling) hr
  have hax1 : s1.axes = [] := by rw [hs1]; exact hax
  have hmat : s1.matrixStart = s1 := matrixStart_lone (by rw [hs1]; exact hm) (by rw [hs1]; exact hn)
  have htake : s1.takeAccepted = s1 := takeAccepted_none (by rw [hs1]; exact ha)
  have hq := releaseQueue_keepsLone s1
  have hax2 := hq.axes.trans hax1
  unfold State.startCycle
  change State.formSetpoints (State.coefSteps (State.releaseQueue (State.takeAccepted _))) = _
  simp only [show s.swapCoupling.adopt = s1 from rfl, hmat, hax1, List.filter_nil, List.map_nil, List.foldl_nil, htake]
  exact formSetpoints_lone ((coefSteps_keepsLone hax2).axes.trans hax2)

/-- Such a start sends nothing from a lane that is not voice, and of the lanes only what REALIGN brought may go. -/
theorem startCycle_silent (hr : s.lanes.realign = []) (hm : s.order.mapPending = none) (hn : s.nodes = []) (hax : s.axes = [])
    (ha : s.order.accepted = []) (hv : s.isVoice = false) :
    s.startCycle.tx = s.tx ∧ s.startCycle.lanes.couch = s.lanes.couch ∧ s.startCycle.clock = s.clock := by
  have hadopt := adopt_none (s := s.swapCoupling) hr
  have hq := releaseQueue_keepsLone s.swapCoupling.adopt
  have hax2 : s.swapCoupling.adopt.releaseQueue.axes = [] := hq.axes.trans (by rw [hadopt]; exact hax)
  have hsilent := (releaseQueue_keepsSilent s.swapCoupling.adopt).trans (coefSteps_keepsSilent hax2)
  have hclock := (startCycle_lone hr hm hn hax ha).clock
  refine ⟨?_, ?_, hclock⟩
  · rw [startCycle_idle hr hm hn hax ha, hsilent.tx (by rw [hadopt]; exact hv), hadopt]
    rfl
  · rw [startCycle_idle hr hm hn hax ha, hsilent.lanes, hadopt]
    rfl

theorem catchUpComplete_joins {k : Nat} (hs : s.couching = true) (hc : s.lanes.couch.committed = true) (hl : s.lanes.couch.live = false)
    (hk : s.lanes.couch.replayed = some k) (hcyc : k + 1 = s.clock.cycle) : exec .catchUpComplete s = .next
      ((withCouch s { s.lanes.couch with live := true }).startCycle.weirSend 0x0F none [BitVec.ofNat 8 (Lane.num s.lane)]) :=
  congrArg Host.Outcome.next (if_pos (by simp [hs, hc, hl, hk, hcyc]))

theorem catchUpComplete_waits (h : s.couching = false ∨ s.lanes.couch.committed = false ∨ s.lanes.couch.live = true ∨
    s.lanes.couch.replayed = none) : exec .catchUpComplete s = .next s := by
  refine congrArg _ (if_neg fun hall => ?_)
  simp only [Bool.and_eq_true, Bool.not_eq_true', decide_eq_true_eq] at hall
  obtain ⟨⟨⟨hs, hc⟩, hl⟩, hk⟩ := hall
  obtain h | h | h | h := h
  · rw [h] at hs
    cases hs
  · rw [h] at hc
    cases hc
  · rw [h] at hl
    cases hl
  · rw [h] at hk
    cases hk

end

end Sys2Proof.Proofs
end

section
/-!
PROOF. O56.
-/
namespace Sys2Proof.Proofs
open Sys2Proof Sys2Proof.Machine Sys2Proof.Laws

/-- Settles O56: each row by its equation; the commit by the image that takes its place, the live cycle by a start that sends nothing. -/
theorem couchingCopiesTheState : Obligations.CouchingCopiesTheState := by
  intro s l crcs part crc k ep r c couch begun open_
  refine ⟨couchReqReceived_ignored, fun hv hst hx hl ha => ?begins, fun h => couchDataReceived_gathers h.1 h.2 part,
    fun h hnone => (couchEndReceived_tries h.1 h.2 crc).trans (congrArg _ (tryCommit_unsealed (.inr hnone))),
    fun h hnone => (couchConfirmReceived_tries h.1 h.2 l k ep crc).trans (congrArg _ (tryCommit_unsealed (.inl hnone))),
    fun src i h hsrc hconf hne hl hin hcrc hown hlog hi => ?commits,
    fun i hi => couch_closed part crc l k ep hi, fun h => replayReceived_ignored h r, fun hs hl hc => replayReceived_logs hs hl hc r,
    fun hs hl hc hlog hk hr => ?replays, fun n pay => frameRequest_answers, fun n => frameRequest_silent,
    fun h hfew => ?waits, fun h hmore => ?another, fun hs hc hl hk hcyc hax hn hr ha hm => ?joins, catchUpComplete_waits,
    joinReceived_begins, joinReceived_ignored⟩
  case begins =>
    refine ⟨_, couchReqReceived_begins hv hst hx hl ha, ?_⟩
    dsimp only
    obtain ⟨tx, hsent⟩ := refreshSent_eq (couchBegun s l crcs) l
    rw [hsent]
    split
    next hown => exact ⟨rfl, rfl, rfl, fun hno => absurd hown hno, fun _ => ⟨_, rfl, rfl⟩⟩
    next hno => exact ⟨rfl, rfl, rfl, fun _ => ⟨rfl, rfl⟩, fun hown => absurd hown hno⟩
  case commits =>
    have hkept : c.confirms.filter (fun x => x.1 != l) ++ [(l, crc, ep, k)] = [(src, crc, ep, k), (l, crc, ep, k)] := by
      rw [hconf]
      simp [hne.symm]
    let t := withCouch s { c with confirms := [(src, crc, ep, k), (l, crc, ep, k)] }
    obtain ⟨b, hcommit⟩ := tryCommit_commits (s := t) (src := src) (ep := ep) (k := k) h.2 hcrc hown (by simp [t, withCouch, hsrc])
      (by simp [t, withCouch, hl, hin]) hlog
    have hexec : exec (.couchConfirmReceived l k ep crc) s = .next ((committed t k).sendReport b) := by
      rw [couchConfirmReceived_tries h.1 h.2, hkept]
      exact congrArg _ hcommit
    obtain ⟨hcouch, hrest⟩ := committed_spec (s := t) k b hi
    refine ⟨_, hexec, ?_, ?_, ?_, ?_, hrest⟩
    · rw [hcouch]
    · rw [hcouch]
    · rw [hcouch]
    · rw [hcouch]
  case replays =>
    refine ⟨_, replayReceived_replays hs hl hc hlog hk hr, ?_, rfl, rfl, rfl, rfl, rfl⟩
    rw [← hr]
    rfl
  case waits =>
    obtain ⟨tx, htx, hrec⟩ := recouch_waits hfew
    refine ⟨_, couchAbandon_gives_up h.1 h.2, ?_⟩
    rw [hrec]
    exact ⟨htx, rfl⟩
  case another =>
    obtain ⟨tx, hrec⟩ := recouch_begins hmore
    refine ⟨_, lowest (s.lanes.vset.filter (fun y => c.source ≠ some y)), couchAbandon_gives_up h.1 h.2, fun y hy => ?_, by rw [hrec]⟩
    have hmem := List.mem_filter.mp (lowest_mem hy)
    exact ⟨of_decide_eq_true hmem.2, hmem.1⟩
  case joins =>
    let t := withCouch s { c with live := true }
    have hvoice : t.isVoice = false := by
      have hrole : s.lanes.role = .joining := by
        simp only [State.couching, Bool.and_eq_true, beq_iff_eq] at hs
        exact hs.1.1
      simp [State.isVoice, State.voting, t, withCouch, hrole]
    obtain ⟨htx, hcouch, hclock⟩ := startCycle_silent (s := t) hr hm hn hax ha hvoice
    have hexec : exec .catchUpComplete s = .next (t.startCycle.weirSend 0x0F none [BitVec.ofNat 8 (Lane.num s.lane)]) :=
      catchUpComplete_joins hs hc hl hk hcyc
    have hclk : t.startCycle.clock.cycle = s.clock.cycle := congrArg (fun u => u.cycle) hclock
    generalize t.startCycle = u at htx hcouch hexec hclk
    exact ⟨_, _, hexec, hcouch, congrArg (· ++ [_]) htx, hclk⟩

end Sys2Proof.Proofs
end

section
/-!
SUPPORT. The lanes' places (R318 to R325, R358, R361 to R364, R600): the lane chain, the weir's wiring and paths, the spare's wake and
its refresh.
-/
namespace Sys2Proof.Proofs
open Sys2Proof Sys2Proof.Machine Sys2Proof.Laws

section
variable {s : State}

/-! ### The lane chain (R318 to R320) -/

theorem checkStart_unstarted (h : s.power.steward = false) : s.checkStart = s := if_pos (by simp [h])

/-- A lane that has not started latches its address alone. -/
theorem latchAddr_unstarted (ha : s.lanes.addr = none) (h : s.power.steward = false) (l : Lane) :
    s.latchAddr l = { s with lanes := { s.lanes with addr := some l } } := by
  let t : State := { s with lanes := { s.lanes with addr := some l } }
  have hlinks : (if t.power.steward then t.followLinks else t) = t := if_neg (by simp [t, h])
  refine (if_neg (by simp [ha])).trans ?_
  change State.checkStart (if t.power.steward then t.followLinks else t) = t
  rw [hlinks]
  exact checkStart_unstarted h

theorem chainAddr_eq {p : Nat} (h1 : 1 ≤ p) (h4 : p ≤ 4) : s.chainAddr p = some (if s.lanes.spareEn then .s else laneOf (p - 1)) := by
  unfold State.chainAddr
  split
  · rfl
  · exact if_pos ⟨h1, h4⟩

theorem not_chained (h : s.power.refValid = false ∨ s.lanes.addr ≠ none) : (!s.hostPowered || s.lanes.addr.isSome) = true := by
  rw [Bool.or_eq_true]
  exact h.imp (fun h => by simp [State.hostPowered, h]) Option.isSome_iff_ne_none.mpr

theorem laneChainHead_ignored (h : s.power.refValid = false ∨ s.lanes.addr ≠ none) : exec .laneChainHead s = .next s :=
  congrArg _ (if_pos (not_chained h))

theorem lchTrainReceived_ignored (h : s.power.refValid = false ∨ s.lanes.addr ≠ none) (p : Nat) : exec (.lchTrainReceived p) s = .next s :=
  congrArg _ (if_pos (not_chained h))

theorem laneChainHead_latches (hv : s.power.refValid = true) (ha : s.lanes.addr = none) (hs : s.power.steward = false) :
    exec .laneChainHead s = .next { s with
      power := { s.power with head := true }
      lanes := { s.lanes with pulses := some 1, addr := some (if s.lanes.spareEn then .s else .a) } } := by
  let t : State := { s with power := { s.power with head := true }, lanes := { s.lanes with pulses := some 1 } }
  have haddr : t.chainAddr 1 = some (if s.lanes.spareEn then .s else .a) := chainAddr_eq le_rfl (by decide)
  change execLaneChainHead s = _
  rw [execLaneChainHead, if_neg (by simp [State.hostPowered, hv, ha])]
  change Host.Outcome.next (match t.chainAddr 1 with | some l => t.latchAddr l | none => t) = _
  rw [haddr]
  exact congrArg _ (latchAddr_unstarted (s := t) ha hs _)

theorem lchTrainReceived_first {p : Nat} (hv : s.power.refValid = true) (ha : s.lanes.addr = none) (hp : s.lanes.pulses ≠ some p) :
    exec (.lchTrainReceived p) s = .next { s with lanes := { s.lanes with pulses := some p } } :=
  congrArg _ ((if_neg (by simp [State.hostPowered, hv, ha])).trans (if_neg hp))

/-- The second of two equal trains latches the address (R319). -/
theorem lchTrainReceived_latches {p : Nat} (hv : s.power.refValid = true) (ha : s.lanes.addr = none) (hp : s.lanes.pulses = some p)
    (hs : s.power.steward = false) (h1 : 1 ≤ p) (h4 : p ≤ 4) : exec (.lchTrainReceived p) s = .next { s with
      lanes := { s.lanes with pulses := some p, addr := some (if s.lanes.spareEn then .s else laneOf (p - 1)) } } := by
  change execLchTrainReceived p s = _
  rw [execLchTrainReceived, if_neg (by simp [State.hostPowered, hv, ha]), if_pos hp, chainAddr_eq h1 h4, ← hp]
  exact congrArg _ (latchAddr_unstarted ha hs _)

theorem lchTrainSend_sends {p : Nat} (hv : s.power.refValid = true) (ha : s.lanes.addr ≠ none) (hp : s.lanes.pulses = some p) :
    exec .lchTrainSend s = .next (s.send (.train (if s.lanes.spareEn then p else p + 1))) := by
  change execLchTrainSend s = _
  rw [execLchTrainSend, if_pos (by simp [State.hostPowered, hv, Option.isSome_iff_ne_none.mpr ha]), hp]

theorem lchTrainSend_silent (h : s.power.refValid = false ∨ s.lanes.addr = none) : exec .lchTrainSend s = .next s :=
  congrArg _ (if_neg (not_both (h.imp_right fun h => by rw [h]; rfl)))

/-- In the common sequence a new kind L F1 waits for the command order. -/
theorem found_new {r : FaultRep} (hc : s.common = true) (hq : Quiet s r.code r.loc) (hk : r.kindL = true) (hcls : r.cls = .f1) :
    s.found r = s.report r := by
  unfold State.found
  simp only [hk, if_true, reportL_new hq, hcls, reduceCtorEq, decide_false, Bool.false_and, Bool.false_eq_true, if_false]
  exact collectOwn_common (s := s.report r) hc

theorem addressTimeout_finds (hv : s.power.refValid = true) (ha : s.lanes.addr = none) :
    exec .addressTimeout s = .next (s.found (mkFault 0x248)) :=
  congrArg _ (if_pos (by simp [State.hostPowered, hv, ha]))

theorem addressTimeout_ignored (h : s.power.refValid = false ∨ s.lanes.addr ≠ none) : exec .addressTimeout s = .next s :=
  congrArg _ (if_neg (not_both (h.imp_right fun h => Option.isNone_eq_false_iff.mpr (Option.isSome_iff_ne_none.mpr h))))

/-- A lane alone takes the missing address as an F1 at once, and nothing of its place changes (R320, R517). -/
theorem addressTimeout_alone (hv : s.power.refValid = true) (ha : s.lanes.addr = none) (hc : s.common = false) (hq : Quiet s 0x248 locNone)
    (hr : s.faults.reports = []) (hh : s.order.held = []) (ht : s.faults.timers = []) : ∃ t, exec .addressTimeout s = .next t ∧
      t.isActive 0x248 locNone = true ∧ t.faults.timers.map (fun x => x.rep.code) = [0x248] ∧ t.lanes = s.lanes ∧ t.net = s.net := by
  obtain ⟨hactive, htimers, -, hcol⟩ := reported_collectOwn hc hq hr hh ht rfl
  have hfound : s.found (mkFault 0x248) = (reported s 0x248 .f1 locNone).collectOwn := congrArg State.collectOwn (reportL_quiet hq)
  rw [Collects] at hcol
  refine ⟨_, (addressTimeout_finds hv ha).trans (congrArg _ hfound), hactive, htimers, ?_, ?_⟩
  · rw [hcol]
  · rw [hcol]

/-! ### Weir wiring and paths (R322 to R327, R358) -/

/-- `s` with lane `l` named at weir port `port`, which is wired wrongly or not. -/
def identified (s : State) (port : Nat) (l : Lane) (wrong : Bool) : State := { s with lanes := { s.lanes with
  ident := kvSet s.lanes.ident port l
  weirWrong := if wrong then dedup' (s.lanes.weirWrong ++ [port]) else s.lanes.weirWrong.filter (· ≠ port) } }

theorem identReceived_ignored {port : Nat} {bytes : List Byte} (h : identOf bytes = none ∨ s.simplex = true ∨ 2 < port) :
    exec (.identReceived port bytes) s = .next s := by
  change execIdentReceived port bytes s = _
  unfold execIdentReceived
  split
  next => rfl
  next l hl =>
    obtain h | h := h
    · rw [h] at hl
      cases hl
    · exact congrArg _ (if_pos (by simpa using h))

/-- In a lane that has a role, the IDENT of a lane other than S tells how the port is wired, and no more. -/
theorem identReceived_names {port : Nat} {bytes : List Byte} {l : Lane} (hid : identOf bytes = some l) (hx : s.simplex = false)
    (hp : port ≤ 2) (hc : s.common = true) (hl : l ≠ .s) (hr : s.lanes.role ≠ .unassigned) : exec (.identReceived port bytes) s = .next (
      let wrong := weirLane s.lane port != some l;
      let t := identified s port l wrong;
      if wrong then t.found (mkFault 0x247) else if t.lanes.weirWrong.isEmpty then t.foundEnd 0x247 {} else t) := by
  let wrong := weirLane s.lane port != some l
  let t := identified s port l wrong
  let u := if wrong then t.found (mkFault 0x247) else if t.lanes.weirWrong.isEmpty then t.foundEnd 0x247 {} else t
  have hrole : u.lanes.role = s.lanes.role := by
    have hend : KeepsSetup t (t.foundEnd 0x247 {}) := by
      rw [foundEnd_common (s := t) hc]
      obtain ⟨held, hheld⟩ := reportEnd_held t 0x247 {}
      rw [hheld]
      exact ⟨rfl, rfl, rfl⟩
    have hu : KeepsSetup t u := .ite (found_keepsSetup (s := t) hc _) (.ite hend (.refl t))
    rw [hu.lanes]
    rfl
  have hdup : (if u.dupAddr && u.lanes.role == .unassigned then u.found (mkFault 0x248) else u) = u := if_neg (by simp [hrole, hr])
  have hanswer : u.answerRefresh l = u := if_neg (by simp [hl])
  change execIdentReceived port bytes s = _
  rw [execIdentReceived, hid]
  refine congrArg _ ((if_neg (by simp [hx, hp])).trans ?_)
  change State.answerRefresh (if u.dupAddr && u.lanes.role == .unassigned then u.found (mkFault 0x248) else u) l = u
  rw [hdup, hanswer]

theorem weirLinkDown_falls {port : Nat} (hu : s.weirUsed port = true) (ho : ∃ k < 4, 8 ≤ s.outCycles (0x40 + 4 * port + k)) :
    exec (.weirLinkDown port) s = .next ((s.setPath port (s.nextPath port)).found (mkFault 0x246 (locPort (0x40 + 4 * port)))) :=
  congrArg _ (if_pos (by simpa [hu] using ho))

theorem weirLinkDown_unused {port : Nat} (h : s.weirUsed port = false) : exec (.weirLinkDown port) s = .next s :=
  congrArg _ (if_neg (by simp [h]))

/-- The path of a port is the one set; only WEIR_PATH may wait for the command order besides. -/
theorem setPath_eq (s : State) (n path : Nat) : ∃ paths order, s.setPath n path =
    { s with lanes := { s.lanes with weirPath := paths }, order := order } ∧ (kvGet paths n).getD 0 = path := by
  unfold State.setPath
  split
  next h => exact ⟨_, _, rfl, h⟩
  next => exact ⟨_, _, rfl, by simp [kvGet_kvSet]⟩

/-! ### The spare's wake and refresh (R361 to R364, R600) -/

theorem spareRefreshTimer_wakes (hm : s.power.mode = .standby) (hv : s.power.vaon = true) (ha : s.power.aonSpare = true) :
    exec .spareRefreshTimer s = .next { s with
      power := { s.power with pwrEn := true, mode := .operating, wakeKind := some false }
      lanes := { s.lanes with role := .unassigned, refreshHours := 0 } } :=
  congrArg _ (if_pos (by simp [hm, hv, ha]))

theorem spareRefreshTimer_ignored (h : s.power.mode ≠ .standby ∨ s.power.vaon = false ∨ s.power.aonSpare = false) :
    exec .spareRefreshTimer s = .next s :=
  congrArg _ (if_neg (by
    rw [Bool.and_assoc]
    exact not_both (h.imp beq_eq_false_iff_ne.mpr Bool.and_eq_false_iff.mpr)))

/-- A take-over that reaches a lane in REFRESH makes it start anew, as for couching (R601). -/
theorem wakeClassify_takes_over {us : Nat} (hm : s.power.mode = .refresh) (hus : us ≤ 400) : exec (.wakeClassify us) s = .next
    { s with
      power := { s.power with mode := .operating, wakeKind := some true }
      lanes := { s.lanes with role := .unassigned, refreshTries := 0, refreshSrc := none } }.checkStart :=
  congrArg _ ((if_pos (by simp [hm])).trans (if_pos (decide_eq_true hus)))

theorem wakeClassify_refreshes {us : Nat} (hm : s.power.mode = .refresh) (hus : 400 < us) : exec (.wakeClassify us) s = .next s :=
  congrArg _ ((if_pos (by simp [hm])).trans (if_neg (by simpa using hus)))

theorem wakeClassify_notes {us : Nat} (hm : s.power.mode = .operating) (hr : s.lanes.role = .unassigned) (hk : s.power.wakeKind = none)
    (hs : s.power.steward = false) : exec (.wakeClassify us) s = .next { s with
      power := { s.power with wakeKind := some (decide (us ≤ 400)) } } := by
  have hstart := checkStart_unstarted (s := { s with power := { s.power with wakeKind := some (decide (us ≤ 400)) } }) hs
  exact congrArg _ ((if_neg (by simp [hm])).trans ((if_pos (by simp [hm, hr, hk])).trans hstart))

theorem wakeClassify_asleep {us : Nat} (hm : s.power.mode = .standby) : exec (.wakeClassify us) s = .next s :=
  congrArg _ ((if_neg (by simp [hm])).trans (if_neg (by simp [hm])))

theorem spareWakeTimeout_answered (h : s.lanes.couchWait = false) : exec .spareWakeTimeout s = .next s :=
  congrArg _ (if_neg (by simp [h]))

/-- `s` with the wake of the spare given up. -/
def wakeGivenUp (s : State) : State := { s with lanes := { s.lanes with couchWait := false, spareWake := false } }

theorem spareWakeTimeout_other (h : s.lanes.couchWait = true) (hv : s.isVoice = false) :
    exec .spareWakeTimeout s = .next (wakeGivenUp s) :=
  congrArg Host.Outcome.next ((if_pos h).trans (if_neg (c := (wakeGivenUp s).isVoice = true) (ne_true_of_eq_false hv)))

/-- The voice lane reports a wake that nothing answered (Table 8.17). -/
theorem spareWakeTimeout_voice (h : s.lanes.couchWait = true) (hv : s.isVoice = true) (hc : s.common = true) :
    exec .spareWakeTimeout s = .next ((wakeGivenUp s).report (mkFault 0x24D)) := by
  have hexec : exec .spareWakeTimeout s = .next ((wakeGivenUp s).found (mkFault 0x24D)) :=
    congrArg Host.Outcome.next ((if_pos h).trans (if_pos (c := (wakeGivenUp s).isVoice = true) hv))
  rw [hexec]
  exact congrArg _ (collectOwn_common (s := (wakeGivenUp s).report (mkFault 0x24D)) hc)

/-! ### REFRESH_DATA -/

theorem saveBegin_copy (s : State) (i : Nat) :
    s.saveBegin.power.copies.getD i {} = if i = s.saveTarget then {} else s.power.copies.getD i {} := by
  change (setAt s.power.copies s.saveTarget {}).getD i {} = _
  rw [List.getD_eq_getElem?_getD, setAt_getElem?, List.getD_eq_getElem?_getD]
  split
  · cases s.power.copies[i]? with
    | none => rfl
    | some x => rfl
  · rfl

/-- The newest of two copies (R611). -/
def newestOf (a b : Settings) : Option Nat :=
  if a.valid && b.valid then some (if a.saveSeq ≤ b.saveSeq then 1 else 0) else if a.valid then some 0 else if b.valid then some 1 else none

theorem newest_eq (s : State) : s.newest (fun _ => true) = newestOf (s.power.copies.getD 0 {}) (s.power.copies.getD 1 {}) := by
  simp only [State.newest, newestOf, Bool.and_true]

/-- The first copy is the newer one that holds. -/
def firstNewest (a b : Settings) : Bool := a.valid && (!b.valid || decide (b.saveSeq < a.saveSeq))

/-- The copy to be written is the second where the first is the newest, and the first otherwise (R609). -/
theorem saveTarget_eq (s : State) :
    s.saveTarget = if firstNewest (s.power.copies.getD 0 {}) (s.power.copies.getD 1 {}) then 1 else 0 := by
  unfold State.saveTarget
  rw [newest_eq]
  generalize s.power.copies.getD 0 {} = a
  generalize s.power.copies.getD 1 {} = b
  unfold newestOf firstNewest
  cases a.valid with
  | false => cases b.valid with
    | false => rfl
    | true => rfl
  | true => cases b.valid with
    | false => rfl
    | true =>
      by_cases hq : a.saveSeq ≤ b.saveSeq
      · simp [hq]
      · simp [hq, Nat.lt_of_not_le hq]

theorem saveTarget_le (s : State) : s.saveTarget ≤ 1 := by
  rw [saveTarget_eq]
  split
  · exact le_rfl
  · exact zero_le_one

/-- The copy whose header was cleared is the one to be written. -/
theorem saveBegin_saveTarget (s : State) : s.saveBegin.saveTarget = s.saveTarget := by
  have h0 := saveBegin_copy s 0
  have h1 := saveBegin_copy s 1
  have ht := saveTarget_eq s
  rw [saveTarget_eq, h0, h1]
  split at ht
  next hfirst =>
    obtain ⟨hvalid, -⟩ := Bool.and_eq_true_iff.mp hfirst
    rw [ht]
    exact if_pos (Bool.and_eq_true_iff.mpr ⟨hvalid, rfl⟩)
  next =>
    rw [ht]
    rfl

theorem refreshDataReceived_other {c : Settings} {crc : BitVec 64} (h : s.lanes.role ≠ .refresh) (hj : s.lanes.role ≠ .joining) :
    exec (.refreshDataReceived c crc) s = .next s :=
  congrArg _ ((if_neg (by simp [h])).trans (if_neg (by simp [hj])))

/-- The copy is written, and the other one stays. -/
theorem saved_copies (h : s.power.copies.length = 2) (c : Settings) : let t := s.saveBegin.saveEnd c
    (∃ k, t.power.copies[s.saveTarget]? = some { c with valid := true, saveSeq := k }) ∧
      t.power.copies[1 - s.saveTarget]? = s.power.copies[1 - s.saveTarget]? := by
  have hle := saveTarget_le s
  have hcopies : ∃ k, (s.saveBegin.saveEnd c).power.copies =
      setAt (setAt s.power.copies s.saveTarget {}) s.saveTarget { c with valid := true, saveSeq := k } := by
    unfold State.saveEnd
    rw [saveBegin_saveTarget]
    exact ⟨_, rfl⟩
  obtain ⟨k, hk⟩ := hcopies
  have hold : s.saveTarget < s.power.copies.length := by omega
  have hother : 1 - s.saveTarget ≠ s.saveTarget := by omega
  intro t
  rw [show t.power.copies = _ from hk]
  exact ⟨⟨k, by simp [setAt_getElem?, List.getElem?_eq_getElem hold]⟩, by simp [setAt_getElem?, hother]⟩

/-- Refresh data that hold are written, and the lane sleeps again (R362). -/
theorem refreshDataReceived_writes (h : s.lanes.role = .refresh) (c : Settings) : exec (.refreshDataReceived c c.crc) s = .next
    ((s.saveBegin.saveEnd { c with origin := 2, lane := BitVec.ofNat 8 (Lane.num s.lane) }).endRefresh 0 s.saveTarget c.crc) :=
  congrArg _ ((if_pos (by simp [h])).trans (if_pos rfl))

theorem refreshFailed_ignored (h : s.lanes.role ≠ .refresh) : exec .refreshFailed s = .next s := congrArg _ (if_neg (by simp [h]))

/-- A refresh whose source was lost is asked for once more, from another lane (R363). -/
theorem refreshFailed_again (h : s.lanes.role = .refresh) (ht : s.lanes.refreshTries < 2) :
    let next := lowest (s.lanes.vset.filter (fun l => s.lanes.refreshSrc ≠ some l))
    exec .refreshFailed s = .next { s with
      lanes := { s.lanes with refreshTries := s.lanes.refreshTries + 1, refreshSrc := next }
      tx := s.tx ++ [.weir 0x10 next (s.weirBytes 0x10 next [])] } :=
  congrArg _ ((if_pos (by simp [h])).trans (if_pos (Nat.succ_le_iff.mpr ht)))

/-- Failed twice, the lane keeps its copy and sleeps again. -/
theorem refreshFailed_ends (h : s.lanes.role = .refresh) (ht : 2 ≤ s.lanes.refreshTries) : ∃ t, exec .refreshFailed s = .next t ∧
    t.lanes.role = .dormant ∧ t.power.pwrEn = false ∧ t.power.copies = s.power.copies ∧ t.power.refreshRec.2.1 = 1 :=
  ⟨_, congrArg Host.Outcome.next ((if_pos (by simp [h])).trans (if_neg (Nat.not_le.mpr (Nat.lt_succ_iff.mpr ht)))), rfl, rfl, rfl, rfl⟩

end

end Sys2Proof.Proofs
end

section
/-!
SUPPORT. What the collector and the check of a start leave of a wake (R321, R600).
-/
namespace Sys2Proof.Proofs
open Sys2Proof Sys2Proof.Machine Sys2Proof.Laws

/-! ### Power under the collector -/

section
variable (s : State)

theorem irq7_power (was : Bool) : (s.irq7 was).power = s.power := by
  obtain ⟨st, tx, h⟩ := irq7_eq s was
  rw [h]

theorem record_power (r : EvRec) : (s.record r).power = s.power := by
  obtain ⟨ev, st, tx, h, -⟩ := record_eq s r
  rw [h]

theorem eventBody_power (e : EvBody) (l : Option Lane) : (s.eventBody e l).power = s.power := by
  obtain ⟨rec, h, -⟩ := eventBody_record s e l
  rw [h]
  exact record_power s rec

theorem eventAfter_power (r : FaultRep) : (s.eventAfter r).power = s.power := by
  unfold State.eventAfter
  split
  · exact eventBody_power s _ _
  · rfl

theorem faultRecord_power (kind code cls : Nat) (loc : Loc) (lane : Option Lane) (inst cycles raise : Nat) :
    (s.faultRecord kind code cls loc lane inst cycles raise).power = s.power := record_power s _

theorem activate_power (r : FaultRep) (c : FClass) : (s.activate r c).power = s.power := by
  unfold State.activate
  split
  · rfl
  · rfl

theorem endSource_power (code : Nat) (loc : Loc) : (s.endSource code loc).power = s.power := by
  unfold State.endSource
  dsimp only
  split
  · exact faultRecord_power _ _ _ _ _ _ _ _ _
  · rfl

theorem settle_power : s.settle.power = s.power := by
  have h := settle_switches s
  rw [Switches] at h
  rw [h]

theorem enter_power (n : Nat) (to_ : AxisSt) (quick : Bool) : (s.enter n to_ quick).power = s.power := by
  cases h : s.axis? n with
  | none => rw [State.enter, h]
  | some a =>
    obtain ⟨hon, -⟩ := enter_spec h to_ quick
    rw [hon.frame]

theorem faultAxis_power (n : Nat) : (s.faultAxis n).power = s.power := by
  unfold State.faultAxis
  split
  · split
    · rfl
    · exact enter_power s n _ _
  · rfl

theorem faultDue_power (r : FaultRep) (n : Nat) : (s.faultDue r n).power = s.power := by
  unfold State.faultDue
  split
  · split
    · rfl
    · exact faultAxis_power s n
  · rfl

end

theorem foldl_power {α : Type} {f : State → α → State} (hf : ∀ s a, (f s a).power = s.power) :
    ∀ (l : List α) (s : State), (l.foldl f s).power = s.power
  | [], _ => rfl
  | a :: l, s => (foldl_power hf l (f s a)).trans (hf s a)

theorem actF2_power (s : State) (r : FaultRep) : (s.actF2 r).power = s.power := by
  have hdue (l : List Nat) := foldl_power (fun u n => faultDue_power u r n) l s
  unfold State.actF2
  dsimp only
  split
  · exact ((settle_power _).trans (irq7_power _ _)).trans (hdue _)
  · exact (irq7_power _ _).trans (hdue _)

theorem takeFault_power (s : State) (r : FaultRep) : (s.takeFault r).1.power = s.power := by
  unfold State.takeFault
  split
  · rfl
  dsimp only
  split
  case h_1 | h_2 | h_3 =>
    rw [eventAfter_power, irq7_power, faultRecord_power, faultRecord_power, activate_power]
    rfl
  case h_4 =>
    split
    · rw [eventAfter_power, faultRecord_power, activate_power]
    split
    · exact activate_power _ r .f0
    · rw [irq7_power]
      exact activate_power _ r .f0
  case h_5 =>
    rw [eventAfter_power]
    exact (faultRecord_power _ _ _ _ _ _ _ _ _).trans (activate_power _ r .f1)
  case h_6 => rw [eventAfter_power, faultRecord_power, activate_power]

theorem takeNow_power (s : State) (r : FaultRep) : (s.takeNow r).power = s.power :=
  (foldl_power actF2_power _ _).trans (takeFault_power s r)

/-! ### A wake under the check of a start (R321, R600) -/

/-- `t` has the time base and the configuration of `s`, and what stands of its wake. -/
structure KeepsWake (s t : State) : Prop where
  clock : t.clock = s.clock
  cfg : t.cfg = s.cfg
  source : t.lanes.refreshSrc = s.lanes.refreshSrc
  mode : t.power.mode = s.power.mode
  kind : t.power.wakeKind = s.power.wakeKind

namespace KeepsWake
variable {s t u : State}

theorem refl (s : State) : KeepsWake s s := ⟨rfl, rfl, rfl, rfl, rfl⟩

theorem trans (h : KeepsWake s t) (k : KeepsWake t u) : KeepsWake s u :=
  ⟨k.clock.trans h.clock, k.cfg.trans h.cfg, k.source.trans h.source, k.mode.trans h.mode, k.kind.trans h.kind⟩

theorem foldl {α : Type} {f : State → α → State} (hf : ∀ s a, KeepsWake s (f s a)) :
    ∀ (l : List α) (s : State), KeepsWake s (l.foldl f s)
  | [], s => refl s
  | a :: l, s => (hf s a).trans (foldl hf l (f s a))

theorem of_runs (h : KeepsRuns False False s t) (hp : t.power = s.power) : KeepsWake s t :=
  ⟨h.clock, h.cfg, congrArg Lanes.refreshSrc h.lanes, congrArg Power.mode hp, congrArg Power.wakeKind hp⟩

theorem takeNow (s : State) (r : FaultRep) : KeepsWake s (s.takeNow r) := of_runs (takeNow_keepsRuns s r) (takeNow_power s r)

theorem settle (s : State) : KeepsWake s s.settle := of_runs (settle_keepsRuns s) (settle_power s)

end KeepsWake

theorem collectOwn_keepsWake (s : State) : KeepsWake s s.collectOwn := by
  let s1 : State := { s with
    faults := { s.faults with reports := [] }
    order := { s.order with held := s.order.held.filter (fun h => h.body.isNone) } }
  have h1 : KeepsWake s s1 := ⟨rfl, rfl, rfl, rfl, rfl⟩
  unfold State.collectOwn
  dsimp only
  split
  · exact .refl s
  · refine (h1.trans (.foldl .takeNow s.faults.reports s1)).trans (.foldl (fun u b => ?_) _ _)
    split
    · exact .of_runs (eventBody_keepsRuns u _ _) (eventBody_power u _ _)
    · exact .of_runs (eventBody_keepsRuns u _ _) (eventBody_power u _ _)
    · exact .of_runs (endSource_keepsRuns u _ _) (endSource_power u _ _)
    · exact .takeNow u _
    · exact .refl u

theorem reportL_keepsWake (s : State) (r : FaultRep) : KeepsWake s (s.reportL r) := by
  unfold State.reportL
  split
  · exact .refl s
  · exact ⟨rfl, rfl, rfl, rfl, rfl⟩

theorem found_keepsWake {s : State} {r : FaultRep} (hk : r.kindL = true) (hcls : r.cls = .f1) : KeepsWake s (s.found r) := by
  have hfound : s.found r = (s.reportL r).collectOwn := by
    unfold State.found
    simp only [hk, if_true, hcls, reduceCtorEq, decide_false, Bool.false_and, Bool.false_eq_true, if_false]
  rw [hfound]
  exact (reportL_keepsWake s r).trans (collectOwn_keepsWake _)

theorem foundEnd_keepsWake (s : State) (code : Nat) (loc : Loc) : KeepsWake s (s.foundEnd code loc) := by
  obtain ⟨held, h⟩ := reportEnd_held s code loc
  have hend : KeepsWake s (s.reportEnd code loc) := by
    rw [h]
    exact ⟨rfl, rfl, rfl, rfl, rfl⟩
  exact hend.trans (collectOwn_keepsWake _)

theorem faultAll_keepsWake (s : State) : KeepsWake s s.faultAll := by
  refine .foldl (fun u a => ?_) s.axes s
  split
  · exact .refl u
  · exact .of_runs (enter_keepsRuns u _ _ _) (enter_power u _ _ _)

/-- A lane that does not vote leaves by its role alone. -/
theorem leaveNow_keepsWake {s : State} (hr : s.lanes.role ≠ .voting) (new : Role) (reason : Nat) : KeepsWake s (s.leaveNow new reason) := by
  have hleave : s.leaveNow new reason = { s with lanes := { s.lanes with role := new } } := if_neg (by simpa [State.voting] using hr)
  rw [hleave]
  exact ⟨rfl, rfl, rfl, rfl, rfl⟩

theorem keepF3_keepsWake (s : State) (code : Nat) : KeepsWake s (s.keepF3 code) := by
  unfold State.keepF3
  split
  · exact .refl s
  · exact ⟨rfl, rfl, rfl, rfl, rfl⟩

theorem keepF3_role (s : State) (code : Nat) : (s.keepF3 code).lanes.role = s.lanes.role := by
  unfold State.keepF3
  split
  · rfl
  · rfl

theorem quiet_keepsWake (s : State) (code : Nat) : KeepsWake s (s.quiet code) := by
  unfold State.quiet
  dsimp only
  split
  · exact ⟨rfl, rfl, rfl, rfl, rfl⟩
  · exact ⟨rfl, rfl, rfl, rfl, rfl⟩

theorem quiet_role (s : State) (code : Nat) : (s.quiet code).lanes.role = s.lanes.role := by
  unfold State.quiet
  dsimp only
  split
  · rfl
  · rfl

/-- An F3 that is no safety fault leaves the wake of a lane that does not vote. -/
theorem enterF3_keepsWake {s : State} {r : FaultRep} (hcode : ¬(0x300 ≤ r.code ∧ r.code < 0x340)) (hr : s.lanes.role ≠ .voting) :
    KeepsWake s (s.enterF3 r) := by
  have ht : KeepsWake s ((s.keepF3 r.code).quiet r.code).settle :=
    ((keepF3_keepsWake s r.code).trans (quiet_keepsWake _ r.code)).trans (.settle _)
  have hrole : ((s.keepF3 r.code).quiet r.code).settle.lanes.role ≠ .voting := by
    rw [(settle_keepsRuns (co := False) _).lanes, quiet_role, keepF3_role]
    exact hr
  unfold State.enterF3
  dsimp only
  rw [if_neg hcode]
  generalize ((s.keepF3 r.code).quiet r.code).settle = t at ht hrole
  have hv : t.voting = false := by simpa [State.voting] using hrole
  have hreport (u : State) (q : FaultRep) : KeepsWake u (u.report q) := ⟨rfl, rfl, rfl, rfl, rfl⟩
  split
  · exact .refl s
  split
  · split
    · exact (ht.trans (faultAll_keepsWake t)).trans (hreport _ _)
    · exact (ht.trans (faultAll_keepsWake t)).trans (.takeNow _ _)
  · rw [if_neg (ne_true_of_eq_false hv)]
    exact (ht.trans (leaveNow_keepsWake hrole _ _)).trans (.takeNow _ _)

/-- The check of a start leaves a lane that was woken for couching woken so. -/
theorem checkStart_keepsWake {s : State} (hk : s.power.wakeKind = some true) : KeepsWake s s.checkStart := by
  unfold State.checkStart
  split
  · exact .refl s
  next hrole =>
  split
  · refine enterF3_keepsWake (by decide) fun hv => hrole ?_
    simp [hv]
  split
  · exact found_keepsWake rfl rfl
  · let t := s.foundEnd 0x248 {}
    have ht : KeepsWake s t := foundEnd_keepsWake s _ _
    have hstart : KeepsWake s t.startCluster := ht.trans ⟨rfl, rfl, rfl, rfl, rfl⟩
    dsimp only
    rw [show (s.foundEnd 0x248 {}).power.wakeKind = some true from ht.kind.trans hk]
    split
    · exact hstart
    · exact hstart

end Sys2Proof.Proofs
end

section
/-!
PROOF. O55.
-/
namespace Sys2Proof.Proofs
open Sys2Proof Sys2Proof.Machine Sys2Proof.Laws

/-- Settles O55: each row by its equation; the take-over of a lane in REFRESH by what the check of its start leaves. -/
theorem lanesFindTheirPlaces : Obligations.LanesFindTheirPlaces := by
  intro s p port bytes l us c crc latched port_
  refine ⟨laneChainHead_ignored, laneChainHead_latches, fun h => lchTrainReceived_ignored h p, lchTrainReceived_first,
    lchTrainReceived_latches, lchTrainSend_sends, lchTrainSend_silent, fun hv ha hc hq => ?missing, addressTimeout_alone,
    addressTimeout_ignored, identReceived_ignored, fun hid hx hp hc hl hr => ⟨fun hwrong hq => ?wrong, fun hright hq hh hacc => ?right⟩,
    fun hu ho hc hq => ?down, weirLinkDown_unused, spareRefreshTimer_wakes, spareRefreshTimer_ignored, fun hm hus => ?takeover,
    wakeClassify_refreshes, wakeClassify_notes, wakeClassify_asleep, fun hr hcrc hlen => ?data, refreshDataReceived_other,
    fun hr ht => ?again, refreshFailed_ends, refreshFailed_ignored, spareWakeTimeout_answered,
    fun hw => ⟨spareWakeTimeout_other hw, fun hv hc => spareWakeTimeout_voice hw hv hc⟩⟩
  case missing =>
    rw [addressTimeout_finds hv ha, found_quiet hc hq rfl nofun]
    rfl
  case wrong =>
    rw [identReceived_names hid hx hp hc hl hr, show (weirLane s.lane port != some l) = true from bne_iff_ne.mpr hwrong]
    exact congrArg _ (found_quiet (s := port_ true) hc hq rfl nofun)
  case right =>
    have hend : (port_ false).foundEnd 0x247 {} = port_ false :=
      (foundEnd_common (s := port_ false) hc _ _).trans (reportEnd_quiet (s := port_ false) hq hh hacc)
    rw [identReceived_names hid hx hp hc hl hr, show (weirLane s.lane port != some l) = false from bne_eq_false_iff_eq.mpr hright]
    change Host.Outcome.next (if (port_ false).lanes.weirWrong.isEmpty then (port_ false).foundEnd 0x247 {} else port_ false) = _
    rw [hend, ite_self]
  case down =>
    obtain ⟨paths, order, hset, hpath⟩ := setPath_eq s port (s.nextPath port)
    have hfound := found_new (s := { s with lanes := { s.lanes with weirPath := paths }, order := order })
      (r := mkFault 0x246 (locPort (0x40 + 4 * port))) hc hq rfl rfl
    have hexec := weirLinkDown_falls hu ho
    rw [hset, hfound] at hexec
    exact ⟨_, hexec, hpath, rfl, rfl⟩
  case takeover =>
    let woken : State := { s with
      power := { s.power with mode := .operating, wakeKind := some true }
      lanes := { s.lanes with role := .unassigned, refreshTries := 0, refreshSrc := none } }
    have hkept : KeepsWake woken woken.checkStart := checkStart_keepsWake rfl
    exact ⟨_, wakeClassify_takes_over hm hus, hkept.mode, hkept.kind, hkept.source, congrArg Clock.cycle hkept.clock, hkept.cfg⟩
  case data =>
    obtain ⟨⟨k, hwritten⟩, hother⟩ := saved_copies hlen { c with origin := 2, lane := BitVec.ofNat 8 (Lane.num s.lane) }
    rw [← hcrc]
    exact ⟨_, k, _, refreshDataReceived_writes hr c, rfl, rfl, rfl, hwritten, rfl, hother, rfl, rfl⟩
  case again =>
    refine ⟨_, _, refreshFailed_again hr ht, ?_, rfl⟩
    cases hnext : lowest (s.lanes.vset.filter (fun l => s.lanes.refreshSrc ≠ some l)) with
    | none => exact .inl rfl
    | some x => exact .inr (of_decide_eq_true (List.mem_filter.mp (lowest_mem hnext)).2).symm

end Sys2Proof.Proofs
end

section
/-!
SUPPORT. What the collector leaves of a lane as it takes the lane's own reports (R506 to R517), whatever the faults are: the time unit,
the time base, the configuration, the lanes and the network.
-/
namespace Sys2Proof.Proofs
open Sys2Proof Sys2Proof.Machine Sys2Proof.Laws

/-- `t` is `s` but for the collector with the records and bodies that it forms, the axes that its F2s take, the safe outputs, and the
counter of free values. -/
def Reacts (s t : State) : Prop := t = { s with
  axes := t.axes, coupling := t.coupling, groups := t.groups, order := t.order, events := t.events, host := t.host, acq := t.acq
  safety := t.safety, drivers := t.drivers, faults := t.faults, tx := t.tx, free := t.free }

namespace Reacts
variable {s t u : State}

theorem refl (s : State) : Reacts s s := rfl

theorem trans (h : Reacts s t) (k : Reacts t u) : Reacts s u := by
  rw [Reacts] at h k ⊢
  rw [k, h]

theorem foldl {α : Type} {f : State → α → State} (hf : ∀ s a, Reacts s (f s a)) : ∀ (l : List α) (s : State), Reacts s (l.foldl f s)
  | [], s => refl s
  | a :: l, s => (hf s a).trans (foldl hf l (f s a))

theorem of_collects (h : Collects s t) : Reacts s t := by
  rw [Collects] at h
  rw [h]
  rfl

theorem of_switches (h : Switches s t) : Reacts s t := by
  rw [Switches] at h
  rw [h]
  rfl

theorem of_onAxis {st : Prop} {n : Nat} (h : OnAxis st n s t) : Reacts s t := by
  rw [h.frame]
  rfl

/-- The same change of the time unit before and after. -/
theorem setTime (h : Reacts s t) (x : TimeUnit) : Reacts { s with time := x } { t with time := x } := by
  rw [Reacts] at h ⊢
  rw [h]

theorem time (h : Reacts s t) : t.time = s.time := by rw [h]

theorem clock (h : Reacts s t) : t.clock = s.clock := by rw [h]

theorem cfg (h : Reacts s t) : t.cfg = s.cfg := by rw [h]

end Reacts

section
variable (s : State)

theorem setFaults_collects (x : Collector) : Collects s { s with faults := x } := rfl

theorem setFaults_reacts (x : Collector) : Reacts s { s with faults := x } := rfl

theorem irq7_collects (was : Bool) : Collects s (s.irq7 was) := by
  obtain ⟨st, tx, h⟩ := irq7_eq s was
  rw [h]
  rfl

theorem record_collects (r : EvRec) : Collects s (s.record r) := by
  obtain ⟨ev, st, tx, h, -⟩ := record_eq s r
  rw [h]
  rfl

theorem eventBody_collects (e : EvBody) (l : Option Lane) : Collects s (s.eventBody e l) := by
  obtain ⟨rec, h, -⟩ := eventBody_record s e l
  rw [h]
  exact record_collects s rec

theorem eventAfter_collects (r : FaultRep) : Collects s (s.eventAfter r) := by
  unfold State.eventAfter
  split
  · exact eventBody_collects s _ _
  · rfl

theorem faultRecord_collects (kind code cls : Nat) (loc : Loc) (lane : Option Lane) (inst cycles raise : Nat) :
    Collects s (s.faultRecord kind code cls loc lane inst cycles raise) :=
  (record_collects s _).trans rfl

theorem activate_collects (r : FaultRep) (c : FClass) : Collects s (s.activate r c) := by
  unfold State.activate
  split
  · rfl
  · rfl

theorem setFaults_activate_collects (x : Collector) (r : FaultRep) (c : FClass) : Collects s ({ s with faults := x }.activate r c) :=
  (setFaults_collects s x).trans (activate_collects _ r c)

theorem endSource_collects (code : Nat) (loc : Loc) : Collects s (s.endSource code loc) := by
  unfold State.endSource
  dsimp only
  split
  · exact (setFaults_collects s _).trans (faultRecord_collects _ _ _ _ _ _ _ _ _)
  · rfl

/-- Taking a fault numbers, records, times or queues it, and does nothing else (R507 to R512). -/
theorem takeFault_collects (r : FaultRep) : Collects s (s.takeFault r).1 := by
  unfold State.takeFault
  split
  · rfl
  dsimp only
  split
  case h_1 | h_2 | h_3 =>
    refine .trans ?_ (eventAfter_collects _ r)
    refine .trans ?_ (irq7_collects _ _)
    refine .trans ?_ (faultRecord_collects _ _ _ _ _ _ _ _ _)
    refine .trans ?_ (faultRecord_collects _ _ _ _ _ _ _ _ _)
    exact setFaults_activate_collects s _ r .f2
  case h_4 =>
    have hactive := setFaults_activate_collects s { s.faults with inst := nextInst s.faults.inst } r .f0
    split
    · exact (hactive.trans (faultRecord_collects _ _ _ _ _ _ _ _ _)).trans (eventAfter_collects _ r)
    split
    · exact hactive.trans (setFaults_collects _ _)
    · exact (hactive.trans (setFaults_collects _ _)).trans (irq7_collects _ _)
  case h_5 =>
    refine .trans ?_ (eventAfter_collects _ r)
    refine .trans ?_ (setFaults_collects _ _)
    exact (setFaults_activate_collects s _ r .f1).trans (faultRecord_collects _ _ _ _ _ _ _ _ _)
  case h_6 =>
    refine .trans ?_ (eventAfter_collects _ r)
    exact (setFaults_activate_collects s _ r _).trans (faultRecord_collects _ _ _ _ _ _ _ _ _)

theorem faultAxis_reacts (n : Nat) : Reacts s (s.faultAxis n) := by
  cases h : s.axis? n with
  | none => rw [State.faultAxis, h]; exact .refl s
  | some a => exact .of_onAxis (faultAxis_spec h).1

theorem faultDue_reacts (r : FaultRep) (n : Nat) : Reacts s (s.faultDue r n) := by
  unfold State.faultDue
  split
  · split
    · rfl
    · exact faultAxis_reacts s n
  · exact .refl s

theorem settle_reacts : Reacts s s.settle := .of_switches (settle_switches s)

/-- An F2 that acts takes axes to FAULTED and opens the safe outputs (R513). -/
theorem actF2_reacts (r : FaultRep) : Reacts s (s.actF2 r) := by
  have hdue (l : List Nat) : Reacts s (l.foldl (fun u n => u.faultDue r n) s) := .foldl (fun u n => faultDue_reacts u r n) l s
  unfold State.actF2
  dsimp only
  split
  · exact (((hdue _).trans (setFaults_reacts _ _)).trans (.of_collects (irq7_collects _ _))).trans (settle_reacts _)
  · exact ((hdue _).trans (setFaults_reacts _ _)).trans (.of_collects (irq7_collects _ _))

theorem takeNow_reacts (r : FaultRep) : Reacts s (s.takeNow r) :=
  (Reacts.of_collects (takeFault_collects s r)).trans (.foldl actF2_reacts _ _)

/-- A lane that takes its own reports and bodies at once (R517). -/
theorem collectOwn_reacts : Reacts s s.collectOwn := by
  unfold State.collectOwn
  dsimp only
  split
  · exact .refl s
  · have hemptied : Reacts s { s with
        faults := { s.faults with reports := [] }
        order := { s.order with held := s.order.held.filter (fun h => h.body.isNone) } } := rfl
    refine (hemptied.trans (.foldl takeNow_reacts _ _)).trans (.foldl (fun u b => ?_) _ _)
    split
    · exact .of_collects (eventBody_collects u _ _)
    · exact .of_collects (eventBody_collects u _ _)
    · exact .of_collects (endSource_collects u _ _)
    · exact takeNow_reacts u _
    · exact .refl u

theorem reportL_reacts (r : FaultRep) : Reacts s (s.reportL r) := by
  obtain h | h := reportL_cases s r
  · rw [h]; exact .refl s
  · rw [h]; rfl

theorem found_reacts (r : FaultRep) : Reacts s (s.found r) := by
  unfold State.found
  extract_lets t faults u
  have ht : Reacts s t := by
    unfold t
    split
    · exact reportL_reacts s r
    · rfl
  have hu : Reacts s u := by
    unfold u
    split
    · exact (ht.trans (setFaults_reacts t _)).trans (settle_reacts _)
    · exact ht
  exact hu.trans (collectOwn_reacts u)

theorem foundEnd_reacts (code : Nat) (loc : Loc) : Reacts s (s.foundEnd code loc) := by
  obtain ⟨held, h⟩ := reportEnd_held s code loc
  have hend : Reacts s (s.reportEnd code loc) := by rw [h]; rfl
  exact hend.trans (collectOwn_reacts _)

end

/-- In the common sequence a fault of this lane that is neither of kind L nor an F2 waits for the command order. -/
theorem found_edge {s : State} {code : Nat} {cls : FClass} {ev : Option EvBody} (hc : s.common = true)
    (hk : (mkFault code locNone none ev).kindL = false) (hcls : (mkFault code locNone none ev).cls = cls) (hno : cls ≠ .f2) :
    s.found (mkFault code locNone none ev) = reported s code cls locNone ev := by
  subst hcls
  unfold State.found
  simp only [hk, hno, decide_false, Bool.false_and, Bool.false_eq_true, if_false]
  exact collectOwn_common (s := s.report _) hc

end Sys2Proof.Proofs
end

section
/-!
SUPPORT. The servo (R388 to R390, Table 9.4): what a measurement leaves in each of its states, whatever its faults do to the collector.
-/
namespace Sys2Proof.Proofs
open Sys2Proof Sys2Proof.Machine Sys2Proof.Laws

/-! ### Fields of the time unit -/

/-- Of the time fields the port's address alone has a default that is no constant (Table 9.6). -/
theorem fieldDefault_time (f : Fields) (m : AxisMap) (w : List (Nat × Byte)) (d : FieldDef) {k : FieldKey} (ht : k.table = 0x0906)
    (hr : k.row ≠ 2) : fieldDefault f m w d k = d.dflt := by
  simp [fieldDefault, ht, hr]

/-- Every other cluster-wide time field follows the configuration alone. -/
theorem tc_congr {s t : State} (h : t.cfg = s.cfg) {row : Nat} (hrow : row ≠ 2) (elem : Nat) : t.tc row elem = s.tc row elem := by
  have hkey (w : List (Nat × Byte)) (d : FieldDef) := fieldDefault_time s.cfg s.cfg.map w d
    (k := { target := tgtCluster, table := 0x0906, row := row, elem := elem }) rfl hrow
  simp only [State.tc, State.fld, lookField, h, hkey]

theorem sourcePtp_congr {s t : State} (h : t.cfg = s.cfg) : t.sourcePtp = s.sourcePtp := by
  rw [State.sourcePtp, tc_congr h (by decide), ← State.sourcePtp]

/-! ### The parts of a measurement -/

section
variable (s : State) (o t : Int)

/-- The law changes the frequency and the integral term; its limit's fault may end (R389). -/
theorem servoLaw_reacts : ∃ i f k, Reacts { s with time := { s.time with integ := i, freq := f, freqHeld := k } } (s.servoLaw o t) := by
  unfold State.servoLaw
  split
  · exact ⟨_, _, _, .refl s⟩
  · dsimp only
    split
    · exact ⟨_, _, _, foundEnd_reacts _ _ _⟩
    · exact ⟨_, _, _, .refl _⟩

/-- A step moves the PHC by −o and starts the integral term anew; it is a fault of its own (Table 9.4). -/
theorem phcStep_reacts :
    Reacts { s with time := { s.time with phcAdj := s.time.phcAdj - o, integ := 0, stepSeen := true } } (s.phcStep o) :=
  (Reacts.of_collects (irq7_collects _ _)).trans (found_reacts _ _)

end

/-! ### A measurement -/

/-- What a measurement o at a PHC time leaves of the time unit of `s` (Table 9.4). -/
structure Measured (s : State) (o at_ : Int) (x : TimeUnit) : Prop where
  offset : x.offset = clampI (-(2 ^ 31 - 1)) (2 ^ 31 - 1) o
  lastAt : x.lastAt = some at_
  syncT : x.syncT = s.time.syncT
  syncT12 : x.syncT12 = s.time.syncT12
  outlier : s.time.servo = .locked → s.tc 16 0 < o.natAbs →
    x.outliers = s.time.outliers + 1 ∧ x.phcAdj = s.time.phcAdj ∧ x.freq = s.time.freq
  follows : s.time.servo = .locked → ¬s.tc 16 0 < o.natAbs → x.outliers = 0 ∧ x.phcAdj = s.time.phcAdj
  steps : s.time.servo = .acquiring → s.tc 16 0 < o.natAbs → x.phcAdj = s.time.phcAdj - o ∧ x.stepSeen = true
  locks : s.time.servo = .acquiring → x.locks = if o.natAbs ≤ s.tc 17 0 then s.time.locks + 1 else 0
  returns : s.time.servo = .holdover → x.servo = .acquiring ∧ x.locks = 0

/-- A step or the law, and then the count of measurements within LOCK_WIN. -/
theorem countLock_reacts {s t : State} (h : Reacts s t) (o : Int) :
    Reacts { s with time := { s.time with locks := if o.natAbs ≤ s.tc 17 0 then s.time.locks + 1 else 0 } } (t.countLock o) := by
  rw [State.countLock, tc_congr h.cfg (by decide), h.time]
  exact h.setTime _

theorem measure_spec (s : State) (o at_ : Int) : ∃ x, Reacts { s with time := x } (s.measure o at_) ∧ Measured s o at_ x := by
  unfold State.measure
  extract_lets t lim time s1 big
  have hbig : big = true ↔ s.tc 16 0 < o.natAbs := decide_eq_true_iff
  split
  next hs => -- UNLOCKED
    replace hs : s.time.servo = .unlocked := hs
    exact ⟨s1.time, .refl s1, rfl, rfl, rfl, rfl, by simp [hs], by simp [hs], by simp [hs], by simp [hs], by simp [hs]⟩
  next hs => -- ACQUIRING
    replace hs : s.time.servo = .acquiring := hs
    split
    next h =>
      exact ⟨_, countLock_reacts (phcStep_reacts s1 o) o, rfl, rfl, rfl, rfl, by simp [hs], by simp [hs], fun _ _ => ⟨rfl, rfl⟩,
        fun _ => rfl, by simp [hs]⟩
    next h =>
      obtain ⟨i, f, k, hlaw⟩ := servoLaw_reacts s1 o t
      exact ⟨_, countLock_reacts hlaw o, rfl, rfl, rfl, rfl, by simp [hs], by simp [hs], fun _ hb => absurd (hbig.mpr hb) h,
        fun _ => rfl, by simp [hs]⟩
  next hs => -- LOCKED
    replace hs : s.time.servo = .locked := hs
    split
    next h =>
      exact ⟨_, .refl _, rfl, rfl, rfl, rfl, fun _ _ => ⟨rfl, rfl, rfl⟩, fun _ hb => absurd (hbig.mp h) hb, by simp [hs], by simp [hs],
        by simp [hs]⟩
    next h =>
      obtain ⟨i, f, k, hlaw⟩ := servoLaw_reacts { s1 with time := { s1.time with outliers := 0 } } o t
      exact ⟨_, hlaw, rfl, rfl, rfl, rfl, fun _ hb => absurd (hbig.mpr hb) h, fun _ _ => ⟨rfl, rfl⟩, by simp [hs], by simp [hs],
        by simp [hs]⟩
  next hs => -- HOLDOVER
    replace hs : s.time.servo = .holdover := hs
    exact ⟨_, foundEnd_reacts _ _ _, rfl, rfl, rfl, rfl, by simp [hs], by simp [hs], by simp [hs], by simp [hs], fun _ => ⟨rfl, rfl⟩⟩

end Sys2Proof.Proofs
end

section
/-!
SUPPORT. PTP (R378 to R383) and the changes of the servo's state (R389, R390): what each message, each interval and each limit does.
The parts of PTP itself are the model's (log entry 9).
-/
namespace Sys2Proof.Proofs
open Sys2Proof Sys2Proof.Machine Sys2Proof.Laws

section
variable {s : State} {m : PtpMsg} {at_ : Int}

/-! ### Messages of the selected master (R378, R382, R383) -/

theorem not_master (h : s.ptpHears m = false ∨ s.fromMaster m = false) : (!s.ptpHears m || !s.fromMaster m) = true := by
  simpa using h

theorem is_master (h : s.ptpHears m = true ∧ s.fromMaster m = true) : ¬(!s.ptpHears m || !s.fromMaster m) = true := by
  simpa using h

/-- The stamps of a Sync are kept, and are a measurement where the servo's source is PTP (R383, R388). -/
theorem ptpOffset_spec (s : State) (t1 t2 corr : Int) : ∃ x, Reacts { s with time := x } (s.ptpOffset t1 t2 corr) ∧
    x.syncT = s.time.syncT ∧ x.syncT12 = some (t1 + corr, t2) ∧
    (s.sourcePtp = true → Measured { s with time := { s.time with syncT12 := some (t1 + corr, t2) } }
      (t2 - t1 - s.time.pathDelay - corr - s.tfI 6 0) t2 x) := by
  unfold State.ptpOffset
  extract_lets time s1
  split
  next h =>
    obtain ⟨x, hreacts, hx⟩ := measure_spec s1 (t2 - t1 - s1.time.pathDelay - corr - s1.tfI 6 0) t2
    exact ⟨x, hreacts, hx.syncT, hx.syncT12, fun _ => hx⟩
  next h => exact ⟨s1.time, .refl s1, rfl, rfl, fun hp => absurd hp h⟩

theorem ptpSyncReceived_ignored (h : s.ptpHears m = false ∨ s.fromMaster m = false) : exec (.ptpSyncReceived m at_) s = .next s :=
  congrArg _ (if_pos (not_master h))

theorem ptpSyncReceived_twoStep (h : s.ptpHears m = true ∧ s.fromMaster m = true) (ht : m.twoStep = true) :
    exec (.ptpSyncReceived m at_) s = .next { s with time := { s.time with syncT := some (s.rxStamp at_, m.corr, m.seq) } } :=
  congrArg _ ((if_neg (is_master h)).trans (if_pos ht))

theorem ptpSyncReceived_oneStep (h : s.ptpHears m = true ∧ s.fromMaster m = true) (ht : m.twoStep = false) :
    exec (.ptpSyncReceived m at_) s = .next (s.ptpOffset m.time (s.rxStamp at_) m.corr) :=
  congrArg _ ((if_neg (is_master h)).trans (if_neg (by simp [ht])))

/-- The Follow_Up of the Sync that waits is a measurement of that Sync (R382). -/
theorem followUp_completes (h : s.ptpHears m = true ∧ s.fromMaster m = true) {b c : Int} (hs : s.time.syncT = some (b, c, m.seq)) :
    exec (.ptpMessageReceived .followUp m at_) s =
      .next (({ s with time := { s.time with syncT := none } } : State).ptpOffset m.time b (c + m.corr)) := by
  refine congrArg _ ((if_neg (is_master h)).trans ?_)
  rw [hs]
  exact if_pos rfl

theorem followUp_ignored (h : s.ptpHears m = false) : exec (.ptpMessageReceived .followUp m at_) s = .next s :=
  congrArg _ (if_pos (not_master (.inl h)))

theorem delayResp_ignored (h : s.ptpHears m = false) : exec (.ptpMessageReceived .delayResp m at_) s = .next s :=
  congrArg _ (if_pos (by simp [h]))

/-- The answer to this port's Delay_Req gives the path delay (R383). -/
theorem delayResp_measures (h : s.ptpHears m = true ∧ s.fromMaster m = true) (hu : m.forUs = true) {t3 a b : Int}
    (ht3 : s.time.delayT3 = some (t3, m.seq)) (ht12 : s.time.syncT12 = some (a, b)) :
    exec (.ptpMessageReceived .delayResp m at_) s =
      .next { s with time := { s.time with delayT3 := none, pathDelay := (b - a + (m.time - t3 - m.corr)) / 2 } } := by
  refine congrArg _ ((if_neg (by simp [h, hu])).trans ?_)
  rw [ht3, ht12]
  exact if_pos rfl

/-! ### Announce (R378, R389) -/

theorem announce_ignored (h : s.ptpHears m = false) : exec (.ptpMessageReceived .announce m at_) s = .next s :=
  congrArg _ (if_neg (by simp [h]))

/-- No clock but a master-capable one leaves an Announce unheard for want of a locked source. -/
theorem announce_heard (h : s.ptpHears m = true) (hr : s.tc 9 0 ≠ 1) :
    exec (.ptpMessageReceived .announce m at_) s = .next (s.hearAnnounce m) :=
  congrArg _ (if_pos (by simp [h, hr]))

/-- An Announce of the selected master confirms it. -/
theorem hearAnnounce_confirms (hm : s.fromMaster m = true) (hid : (m.data.drop 19).take 8 = s.time.master.getD []) :
    s.hearAnnounce m = { s with time := { s.time with announces := 0, masterData := padTo 30 m.data ++ m.src } } :=
  (if_pos hm).trans (if_pos hid)

/-- A port without a master selects the one that it hears, where it is not the better clock itself. -/
theorem hearAnnounce_first (hn : s.time.master = none) (hr : s.tc 9 0 ≠ 1) : s.hearAnnounce m = s.selectMaster m :=
  (if_neg (by simp [State.fromMaster, hn])).trans (if_pos (by simp [hn, hr]))

/-- The time unit with a master selected. -/
def withMaster (q : TimeUnit) (m : PtpMsg) : TimeUnit := { q with
  master := some ((m.data.drop 19).take 8), masterData := padTo 30 m.data ++ m.src, announces := 0
  portState := if q.servo = .locked then 9 else 8 }

/-- The time unit once it has selected that master: the servo of a PTP source leaves UNLOCKED with it (R389). -/
def withMasterHeard (s : State) (m : PtpMsg) : TimeUnit :=
  if s.sourcePtp = true ∧ s.time.servo = .unlocked then { withMaster s.time m with locks := 0, lastAt := none, servo := .acquiring }
  else withMaster s.time m

theorem withMasterHeard_spec (s : State) (m : PtpMsg) : let x := withMasterHeard s m
    x.master = some ((m.data.drop 19).take 8) ∧ x.announces = 0 ∧ x.portState = (if s.time.servo = .locked then 9 else 8) ∧
      x.servo = if s.sourcePtp = true ∧ s.time.servo = .unlocked then .acquiring else s.time.servo := by
  unfold withMasterHeard
  split
  · exact ⟨rfl, rfl, rfl, rfl⟩
  · exact ⟨rfl, rfl, rfl, rfl⟩

/-- A change of the grandmaster is a body of this lane (Table 9.8), and the time unit takes the master. -/
theorem selectMaster_reacts (s : State) (m : PtpMsg) : Reacts { s with time := withMasterHeard s m } (s.selectMaster m) := by
  unfold State.selectMaster
  extract_lets id new time s1 s2
  have h2 : Reacts s1 s2 := by
    unfold s2
    split
    · exact .trans (t := s1.reportEvent _) rfl (collectOwn_reacts _)
    · exact .refl s1
  have htime : s2.time = withMaster s.time m := h2.time
  have hsrc : s2.sourcePtp = s.sourcePtp := sourcePtp_congr h2.cfg
  have hservo : s2.time.servo = s.time.servo := by rw [htime]; rfl
  unfold withMasterHeard
  by_cases h : s.sourcePtp = true ∧ s.time.servo = .unlocked
  · rw [if_pos h, if_pos (by simpa [hsrc, hservo] using h), ← htime]
    exact h2.setTime _
  · rw [if_neg h, if_neg (by simpa [hsrc, hservo] using h)]
    exact h2

/-! ### Requests and answers (R378, R382, R383) -/

theorem delayReq_ignored (h : s.ptpMaster = false) : exec (.ptpMessageReceived .delayReq m at_) s = .next s :=
  congrArg _ (if_neg (by simp [h]))

theorem delayReq_answered (h : s.ptpMaster = true) (hd : s.tc 8 0 = 0)
    (hdom : m.domain = if s.tc 9 0 = 2 then s.tc 11 1 else s.tc 11 0) :
    exec (.ptpMessageReceived .delayReq m at_) s = .next { s with tx := s.tx ++ [.ptp 9 m.seq] } :=
  congrArg _ (if_pos (by simp [h, hd, hdom]))

theorem pdelayReq_answered (h : s.ethUp = true) (hd : s.tc 8 0 ≠ 0) : exec (.ptpMessageReceived .pdelayReq m at_) s =
    .next { s with tx := s.tx ++ [.ptp 3 m.seq] ++ if s.twoStep then [.ptp 10 m.seq] else [] } := by
  refine congrArg _ ((if_pos (by simp [h, hd])).trans ?_)
  dsimp only
  change (if s.twoStep then _ else _) = _
  split
  · rfl
  · rw [List.append_nil]
    rfl

theorem pdelay_ignored (h : s.ethUp = false) : exec (.ptpMessageReceived .pdelayReq m at_) s = .next s ∧
    exec (.ptpMessageReceived .pdelayResp m at_) s = .next s ∧ exec (.ptpMessageReceived .pdelayRespFollowUp m at_) s = .next s :=
  ⟨congrArg _ (if_neg (by simp [h])), congrArg _ (if_pos (by simp [h])), congrArg _ (if_pos (by simp [h]))⟩

section
variable {t1 : Int} (h : s.ethUp = true) (hu : m.forUs = true) (hreq : s.time.delayT3 = some (t1, m.seq))
include h hu hreq

/-- A two-step answer waits for its Follow_Up. -/
theorem pdelayResp_twoStep (ht : m.twoStep = true) : exec (.ptpMessageReceived .pdelayResp m at_) s =
    .next { s with time := { s.time with pdelay := some (m.time, s.rxStamp at_, m.corr) } } := by
  refine congrArg _ ((if_neg (by simp [h, hu])).trans ?_)
  rw [hreq]
  exact (if_neg (not_not_intro rfl)).trans (if_pos ht)

theorem pdelayResp_oneStep (ht : m.twoStep = false) : exec (.ptpMessageReceived .pdelayResp m at_) s =
    .next { s with time := { s.time with delayT3 := none, pathDelay := (s.rxStamp at_ - t1 + -m.corr) / 2 } } := by
  refine congrArg _ ((if_neg (by simp [h, hu])).trans ?_)
  rw [hreq]
  exact (if_neg (not_not_intro rfl)).trans (if_neg (by simp [ht]))

theorem pdelayRespFollowUp_measures {b d c : Int} (hp : s.time.pdelay = some (b, d, c)) :
    exec (.ptpMessageReceived .pdelayRespFollowUp m at_) s = .next { s with
      time := { s.time with delayT3 := none, pdelay := none, pathDelay := (d - t1 + (b - m.time - c - m.corr)) / 2 } } := by
  refine congrArg _ ((if_neg (by simp [h, hu])).trans ?_)
  rw [hreq, hp]
  exact if_pos rfl

end

/-! ### Message intervals (R378, R379) -/

theorem ptpIntervalExpiry_down (h : s.ethUp = false) (k : PtpKind) : exec (.ptpIntervalExpiry k at_) s = .next s :=
  congrArg _ (if_pos (by simp [h]))

/-- A port that is no master counts the intervals in which it hears no Announce. -/
theorem announceInterval_counts (h : s.ethUp = true) (hm : s.ptpMaster = false) (hp : s.time.portState ≠ 1) :
    exec (.ptpIntervalExpiry .announce at_) s = .next { s with time := { s.time with announces := s.time.announces + 1 } } := by
  refine congrArg _ ((if_neg (by simp [h])).trans ?_)
  dsimp only
  rw [if_neg hp]
  exact if_neg (by simp [hm])

theorem syncInterval_sends (h : s.ethUp = true) (hm : s.ptpMaster = true) (h2 : s.twoStep = false) :
    exec (.ptpIntervalExpiry .sync at_) s = .next { s with
      time := { s.time with ptpSeq := kvSet s.time.ptpSeq 0 (s.nextPtp 0 + 1) }, tx := s.tx ++ [.ptp 0 (s.nextPtp 0)] } :=
  congrArg _ ((if_neg (by simp [h])).trans ((if_pos hm).trans (if_neg (by simp [h2]))))

theorem delayReqInterval_sends (h : s.ethUp = true) (hd : s.tc 8 0 = 0) (hm : s.time.master ≠ none) :
    exec (.ptpIntervalExpiry .delayReq at_) s = .next { s with
      time := { s.time with delayT3 := some (s.txStamp at_, s.nextPtp 1), ptpSeq := kvSet s.time.ptpSeq 1 (s.nextPtp 1 + 1) }
      tx := s.tx ++ [.ptp 1 (s.nextPtp 1)] } :=
  congrArg _ ((if_neg (by simp [h])).trans (if_pos (by simp [hd, Option.isSome_iff_ne_none, hm])))

/-! ### The servo's state (R389, R390, Table 9.4) -/

theorem servoLocked_locks (hs : s.time.servo = .acquiring) (hl : 16 ≤ s.time.locks) : exec .servoLocked s = .next { s with
    time := { s.time with servo := .locked, outliers := 0, portState := if s.time.portState = 8 then 9 else s.time.portState } } :=
  congrArg _ (if_pos (by simp [hs, hl]))

theorem servoLocked_waits (h : s.time.servo ≠ .acquiring ∨ s.time.locks < 16) : exec .servoLocked s = .next s :=
  congrArg _ (if_neg (not_both (h.imp beq_eq_false_iff_ne.mpr fun h => decide_eq_false (Nat.not_le.mpr h))))

theorem servoOutliers_relocks (hs : s.time.servo = .locked) (ho : 4 ≤ s.time.outliers) (hc : s.common = true) :
    exec .servoOutliers s = .next (reported { s with time := { s.time with locks := 0, outliers := 0, servo := .acquiring } } 0x281 .f0
      locNone (some (s.timeState .locked .acquiring))) := by
  refine congrArg _ ((if_pos (by simp [hs, ho])).trans ?_)
  exact found_edge hc rfl rfl nofun

theorem servoOutliers_waits (h : s.time.servo ≠ .locked ∨ s.time.outliers < 4) : exec .servoOutliers s = .next s :=
  congrArg _ (if_neg (not_both (h.imp beq_eq_false_iff_ne.mpr fun h => decide_eq_false (Nat.not_le.mpr h))))

/-- A master that is heard, or none to be heard, is no loss of the source. -/
theorem timeSourceLost_heard (hp : s.sourcePtp = true) (h : s.time.master = none ∨ s.time.announces < 3) :
    exec .timeSourceLost s = .next s :=
  congrArg _ (if_pos (by simpa [hp] using h))

theorem timeSourceLost_capture (hp : s.sourcePtp = false) (hs : s.time.servo = .locked) (hc : s.common = true) (hq : Quiet s 0x280 locNone) :
    exec .timeSourceLost s = .next (reported { s with time := { s.time with freq := s.time.integ, servo := .holdover } } 0x280 .f1
      locNone (some (s.timeState .locked .holdover))) := by
  refine congrArg _ ((if_neg (by simp [hp])).trans ?_)
  simp only [hp, Bool.false_eq_true, if_false, hs, beq_self_eq_true, if_true]
  exact found_new hc hq rfl rfl

theorem timeSourceLost_master (hp : s.sourcePtp = true) (hm : s.time.master ≠ none) (ha : 3 ≤ s.time.announces)
    (hs : s.time.servo ≠ .locked) : exec .timeSourceLost s =
      .next { s with time := { s.time with master := none, masterData := [], portState := 4 } } := by
  refine congrArg _ ((if_neg (by simp [hp, hm, Nat.not_lt.mpr ha])).trans ?_)
  simp only [hp, if_true]
  exact if_neg (mt beq_iff_eq.mp hs)

theorem holdoverExpired_unlocks (hs : s.time.servo = .holdover) (hc : s.common = true) :
    exec .holdoverExpired s = .next (reported { s with time := { s.time with servo := .unlocked } } 0x282 .f1 locNone
      (some (s.timeState .holdover .unlocked))) := by
  refine congrArg _ ((if_pos (beq_iff_eq.mpr hs)).trans ?_)
  exact found_edge hc rfl rfl nofun

theorem holdoverExpired_other (hs : s.time.servo ≠ .holdover) : exec .holdoverExpired s = .next s :=
  congrArg _ (if_neg (mt beq_iff_eq.mp hs))

theorem phcFrequencyLimit_reached (h : 16 ≤ s.time.freqHeld) (hc : s.common = true) (hq : Quiet s 0x285 locNone) :
    exec .phcFrequencyLimit s = .next (reported s 0x285 .f1 locNone) :=
  congrArg _ ((if_pos h).trans (found_new hc hq rfl rfl))

theorem phcFrequencyLimit_waits (h : s.time.freqHeld < 16) : exec .phcFrequencyLimit s = .next s := congrArg _ (if_neg (Nat.not_le.mpr h))

end
end Sys2Proof.Proofs
end

section
/-!
PROOF. O57.
-/
namespace Sys2Proof.Proofs
open Sys2Proof Sys2Proof.Machine Sys2Proof.Laws

/-- Settles O57: a Sync and its Follow_Up by the measurement that they make, an Announce by the master that it selects, every other row
by its equation. -/
theorem servoAndPtpKeepTheClock : Obligations.ServoAndPtpKeepTheClock := by
  intro s m at_ k tm q t2 o master recv every cry big
  refine ⟨ptpSyncReceived_ignored, fun hm ht => ptpSyncReceived_twoStep hm ht, fun hm ht => ?measure, rfl,
    fun h => ⟨announce_ignored h, followUp_ignored h, delayResp_ignored h⟩, fun hm hr hid => ?confirmed, fun hh hn hr => ?selected,
    fun b c0 hm hs => ?followUp, fun t3 a b hm hu h3 h12 => delayResp_measures hm hu h3 h12, delayReq_ignored, delayReq_answered,
    pdelayReq_answered, fun t1 he hu hreq => ⟨pdelayResp_twoStep he hu hreq, pdelayResp_oneStep he hu hreq,
      fun b d c0 hp => pdelayRespFollowUp_measures he hu hreq hp⟩,
    fun h => ⟨ptpIntervalExpiry_down h k, pdelay_ignored h⟩, fun he hm hk hp => ?unheard, fun he hm hk h2 => ?syncSent,
    fun he hk hd hm => ?requestSent,
    servoLocked_locks, servoLocked_waits, fun hs ho hc => ⟨_, servoOutliers_relocks hs ho hc, _, rfl, rfl, rfl⟩, servoOutliers_waits,
    timeSourceLost_heard, fun hp hs hc hq => ⟨_, timeSourceLost_capture hp hs hc hq, _, rfl, rfl, rfl⟩, timeSourceLost_master,
    fun hs hc => ⟨_, holdoverExpired_unlocks hs hc, _, rfl, rfl, rfl⟩, holdoverExpired_other, phcFrequencyLimit_reached,
    phcFrequencyLimit_waits⟩
  case measure =>
    obtain ⟨x, hreacts, -, h12, hx⟩ := ptpOffset_spec s m.time t2 m.corr
    refine ⟨_, ptpSyncReceived_oneStep hm ht, ?_⟩
    rw [hreacts.time]
    exact ⟨h12, fun hp => ⟨(hx hp).offset, (hx hp).lastAt⟩, fun hp => (hx hp).outlier, fun hp => (hx hp).follows,
      fun hp => (hx hp).steps, fun hp => (hx hp).locks, fun hp => (hx hp).returns, hreacts.clock, hreacts.cfg⟩
  case confirmed =>
    obtain ⟨hh, hm⟩ := hm
    exact (announce_heard hh hr).trans (congrArg _ (hearAnnounce_confirms hm hid))
  case selected =>
    refine ⟨_, (announce_heard hh hr).trans (congrArg _ (hearAnnounce_first hn hr)), ?_⟩
    rw [(selectMaster_reacts s m).time]
    exact withMasterHeard_spec s m
  case followUp =>
    obtain ⟨x, hreacts, hs', h12, -⟩ := ptpOffset_spec { s with time := { s.time with syncT := none } } m.time b (c0 + m.corr)
    refine ⟨_, followUp_completes hm hs, ?_⟩
    rw [hreacts.time]
    exact ⟨hs', h12⟩
  case unheard => subst hk; exact announceInterval_counts he hm hp
  case syncSent => subst hk; exact syncInterval_sends he hm h2
  case requestSent => subst hk; exact delayReqInterval_sends he hd hm

end Sys2Proof.Proofs
end

section
/-!
SUPPORT. Pulse outputs, captures and the Ethernet port (R377, R380, R400 to R407, R585): what each row does.
-/
namespace Sys2Proof.Proofs
open Sys2Proof Sys2Proof.Machine Sys2Proof.Laws

/-- A fault with a bit of a status word of its own: the report waits for the command order, the interrupt leaves at once (R533). -/
theorem irq7_found {s : State} {was : Bool} {code : Nat} {cls : FClass} {ev : Option EvBody} (hc : s.common = true)
    (hk : (mkFault code locNone none ev).kindL = false) (hcls : (mkFault code locNone none ev).cls = cls) (hno : cls ≠ .f2) :
    ∃ st tx, (s.irq7 was).found (mkFault code locNone none ev) =
      reported { s with host := { s.host with irqStatus := st }, tx := tx } code cls locNone ev := by
  obtain ⟨st, tx, hirq⟩ := irq7_eq s was
  refine ⟨st, tx, ?_⟩
  rw [hirq]
  exact found_edge hc hk hcls hno

section
variable {s : State} {n : Nat}

/-! ### Pulse outputs (R400 to R402) -/

section
variable (clk cl : Int) (cnt : Nat)

theorem pulses_absent (h : s.time.pps[n]? = none) : exec (.ppsEdge n clk cl) s = .next s ∧ exec (.pulseMissed n cnt) s = .next s := by
  change execPpsEdge n clk cl s = _ ∧ execPulseMissed n cnt s = _
  rw [execPpsEdge, execPulseMissed, h]
  exact ⟨rfl, rfl⟩

theorem pulses_off (h : s.ppsMode n = 0) : exec (.ppsEdge n clk cl) s = .next s ∧ exec (.pulseMissed n cnt) s = .next s := by
  change execPpsEdge n clk cl s = _ ∧ execPulseMissed n cnt s = _
  unfold execPpsEdge execPulseMissed
  split
  · exact ⟨rfl, rfl⟩
  · exact ⟨congrArg _ (if_pos (by simp [h])), congrArg _ (if_pos h)⟩

end

/-- The time of an output's base at an edge (R401). -/
def pulseTime (s : State) (n : Nat) (clk cl : Int) : Nat := (if s.tf 23 1 n = 0 then s.phc clk else cl).toNat

/-- Only an output at its active level can end a pulse. -/
theorem ppsFall_low {p : Pps} (hl : p.level = false) (t : Nat) : s.ppsFall n t p = p := by
  unfold State.ppsFall
  split
  · exact if_neg (by simp [hl])
  · rfl

section
variable {p f : Pps} {clk cl : Int} (hp : s.time.pps[n]? = some p) (hm : s.ppsMode n ≠ 0) (hf : s.faults.f3 = false)
  (hfall : s.ppsFall n (pulseTime s n clk cl) p = f)
include hp hm hf hfall

/-- An output that is low once its last pulse has ended gives the pulse whose time has come (R400, R401). -/
theorem ppsEdge_gives {a : Nat} (hl : f.level = false) (ha : f.next = some a) (h : a ≤ pulseTime s n clk cl) :
    exec (.ppsEdge n clk cl) s = .next { s with
      time := { s.time with pps := setAt s.time.pps n { f with level := true, n := f.n + 1 } }, tx := s.tx ++ [.pulse n a] } := by
  unfold pulseTime at hfall h
  change execPpsEdge n clk cl s = _
  simp only [execPpsEdge, hp]
  rw [if_neg (by simp [hm, hf]), hfall, if_pos (by simp [hl, ha, h]), if_pos (by simp [hl, ha, h]), ha]
  rfl

/-- No pulse leaves an output at its active level, or before its time. -/
theorem ppsEdge_gives_none (h : f.level = true ∨ ∀ a, f.next = some a → pulseTime s n clk cl < a) :
    exec (.ppsEdge n clk cl) s = .next { s with time := { s.time with pps := setAt s.time.pps n f } } := by
  unfold pulseTime at hfall h
  change execPpsEdge n clk cl s = _
  simp only [execPpsEdge, hp]
  rw [if_neg (by simp [hm, hf]), hfall]
  cases hl : f.level with
  | true => simp only [Bool.not_true, Bool.false_and, Bool.false_eq_true, if_false]
  | false =>
    cases ha : f.next with
    | none => simp only [Bool.and_false, Bool.false_eq_true, if_false]
    | some a =>
      have hlate := Nat.not_le.mpr (h.resolve_left (by simp [hl]) a ha)
      simp only [hlate, decide_false, Bool.and_false, Bool.false_eq_true, if_false]

end

/-- A pulse whose time has not come waits. -/
theorem ppsEdge_waits {p : Pps} {clk cl : Int} {a : Nat} (hp : s.time.pps[n]? = some p) (hm : s.ppsMode n ≠ 0) (hf : s.faults.f3 = false)
    (hl : p.level = false) (ha : p.next = some a) (h : pulseTime s n clk cl < a) : exec (.ppsEdge n clk cl) s = .next s := by
  have hself : setAt s.time.pps n p = s.time.pps := modAt_eq_self hp rfl
  rw [ppsEdge_gives_none hp hm hf (ppsFall_low hl _) (.inr fun b hb => ?_), hself]
  obtain rfl : a = b := Option.some.inj (ha.symm.trans hb)
  exact h

/-- A pulse of an output in SINGLE ends after its width, and is the only one. -/
theorem ppsEdge_ends {p : Pps} {clk cl : Int} {a : Nat} (hp : s.time.pps[n]? = some p) (hm : s.ppsMode n = 1) (hf : s.faults.f3 = false)
    (hl : p.level = true) (ha : p.next = some a) (h : a + s.tf 26 0 n ≤ pulseTime s n clk cl) : exec (.ppsEdge n clk cl) s =
      .next { s with time := { s.time with pps := setAt s.time.pps n { p with level := false, next := none } } } := by
  have hfall : s.ppsFall n (pulseTime s n clk cl) p = { p with level := false, next := none } := by
    simp [State.ppsFall, ha, hl, h, hm]
  exact ppsEdge_gives_none hp (by simp [hm]) hf hfall (.inr nofun)

/-- The F0 of missed pulses, with its event (R402, Table 9.8). -/
theorem missPulse_reports (hc : s.common = true) (n cnt : Nat) : ∃ st tx ev, ev.code = 0x544 ∧ s.missPulse n cnt =
    reported { s with time := { s.time with pulseSeen := true }, host := { s.host with irqStatus := st }, tx := tx } 0x287 .f0 locNone
      (some ev) := by
  obtain ⟨st, tx, h⟩ := irq7_found (s := { s with time := { s.time with pulseSeen := true } }) (was := s.time.pulseSeen) (code := 0x287)
    (ev := some { code := 0x544, payload := [BitVec.ofNat 8 n] ++ toLe 2 cnt }) hc rfl rfl nofun
  exact ⟨st, tx, _, rfl, h⟩

theorem pulseMissed_eq {p : Pps} (hp : s.time.pps[n]? = some p) (hm : s.ppsMode n ≠ 0) (cnt : Nat) : exec (.pulseMissed n cnt) s =
    .next (({ s with time := { s.time with pps := setAt s.time.pps n { p with
      next := if s.ppsMode n = 2 then p.next.map (fun a => a + cnt * s.tf 25 0 n) else none, n := p.n + cnt } } } : State).missPulse n cnt) := by
  change execPulseMissed n cnt s = _
  rw [execPulseMissed, hp]
  exact congrArg _ (if_neg hm)

/-! ### Captures (R403, R404) -/

/-- The edge of an input is of the sense that its setting selects (R403). -/
def Selects (s : State) (n : Nat) (rising : Bool) : Prop :=
  n ≤ 3 ∧ (s.tf 28 0 n = 2 ∨ s.tf 28 0 n = 0 ∧ rising = true ∨ s.tf 28 0 n = 1 ∧ rising = false)

theorem selects_iff {rising : Bool} : Selects s n rising ↔
    ¬(decide (3 < n) || !((s.tf 28 0 n == 2) || (s.tf 28 0 n == 0 && rising) || (s.tf 28 0 n == 1 && !rising))) = true := by
  cases rising with
  | true => simp [Selects, or_iff_not_imp_left]
  | false => simp [Selects, or_iff_not_imp_left]

/-- What an edge captures: the PHC time, and its instant in cluster time (R403). -/
def edgeCapture (s : State) (rising : Bool) (clk : Int) (cyc ns : Nat) : Capture :=
  { phc := s.phc clk, cycle := cyc, off := ns, rising := rising }

/-- A capture on an input that is not the servo's source is no measurement (R388). -/
theorem captureServo_other (h : s.tc 14 0 ≠ n + 1) (c : Capture) : s.captureServo n c = s := if_pos (by simp [h])

theorem capEdge_unselected {rising : Bool} (h : ¬Selects s n rising) (clk : Int) (cyc ns : Nat) :
    exec (.capEdge n rising clk cyc ns) s = .next s :=
  congrArg _ (if_pos (by rwa [selects_iff, not_not] at h))

section
variable {rising : Bool} {clk : Int} {cyc ns : Nat} (hsel : Selects s n rising) (hsrc : s.tc 14 0 ≠ n + 1)
include hsel hsrc

/-- The capture joins its FIFO, without an event where none is asked for or four have left in the cycle. -/
theorem capEdge_captures (hroom : (s.time.fifo.getD n []).length < 16) (hev : s.tf 30 0 n ≠ 1 ∨ 4 ≤ s.time.capReports) :
    exec (.capEdge n rising clk cyc ns) s = .next { s with time := { s.time with
      fifo := setAt s.time.fifo n (s.time.fifo.getD n [] ++ [edgeCapture s rising clk cyc ns]) } } := by
  refine congrArg _ ((if_neg (selects_iff.mp hsel)).trans ?_)
  dsimp only
  rw [captureServo_other hsrc, if_neg (Nat.not_le.mpr hroom)]
  exact if_neg (not_both (hev.imp decide_eq_false fun h => decide_eq_false (Nat.not_lt.mpr h)))

/-- The CAPTURE event of a capture is a body of this lane, and the count of dropped captures starts again (R404). -/
theorem capEdge_reports (hroom : (s.time.fifo.getD n []).length < 16) (hev : s.tf 30 0 n = 1) (hfew : s.time.capReports < 4)
    (hc : s.common = true) : ∃ ev : EvBody, ev.code = 0x543 ∧ exec (.capEdge n rising clk cyc ns) s =
      .next (withBody { s with time := { s.time with
        fifo := setAt s.time.fifo n (s.time.fifo.getD n [] ++ [edgeCapture s rising clk cyc ns])
        capReports := s.time.capReports + 1, capDrop := setAt s.time.capDrop n 0 } } (.event ev)) := by
  refine ⟨s.captureEvent n (edgeCapture s rising clk cyc ns), rfl,
    congrArg _ ((if_neg (selects_iff.mp hsel)).trans ?_)⟩
  dsimp only
  rw [captureServo_other hsrc, if_neg (Nat.not_le.mpr hroom)]
  refine (if_pos (by rw [Bool.and_eq_true]; exact ⟨decide_eq_true hev, decide_eq_true hfew⟩)).trans ?_
  rw [collectOwn_common]
  · rfl
  · exact hc

/-- A full FIFO keeps what it holds, and the capture is dropped with its F0 (R404). -/
theorem capEdge_drops (hfull : 16 ≤ (s.time.fifo.getD n []).length) (hc : s.common = true) : ∃ st tx drop ev, ev.code = 0x543 ∧
    exec (.capEdge n rising clk cyc ns) s = .next (reported { s with
      time := { s.time with capOvf := true, capDrop := drop }, host := { s.host with irqStatus := st }, tx := tx } 0x286 .f0 locNone
      (some ev)) := by
  let c := edgeCapture s rising clk cyc ns
  let s1 : State := { s with time := { s.time with capOvf := true, capDrop := modAt s.time.capDrop n (· + 1) } }
  obtain ⟨st, tx, h⟩ := irq7_found (s := s1) (was := s.time.capOvf) (code := 0x286) (ev := some (s1.captureEvent n c)) hc rfl rfl nofun
  refine ⟨st, tx, setAt s1.time.capDrop n 0, s1.captureEvent n c, rfl, congrArg _ ((if_neg (selects_iff.mp hsel)).trans ?_)⟩
  dsimp only
  rw [captureServo_other hsrc, if_pos hfull]
  exact congrArg (fun t => State.captureSent t n) h

end

/-! ### The Ethernet port (R377, R380, R406, R407, R585) -/

/-- The type of a frame, behind a VLAN tag where it has one. -/
def etherType (bytes : List Byte) : Nat := if be bytes 12 2 = 0x8100 then be bytes 16 2 else be bytes 12 2

theorem ethFrameReceived_ignored {bytes : List Byte} (h : s.ethUp = false ∨ etherType bytes = 0x88F7) :
    exec (.ethFrameReceived bytes) s = .next s :=
  congrArg _ (if_pos (by simpa [etherType] using h))

theorem ethFrameReceived_takes {bytes : List Byte} (h : s.ethUp = true) (ht : etherType bytes ≠ 0x88F7) :
    exec (.ethFrameReceived bytes) s = .next { s with time := if (s.time.ethRx.map List.length).sum + bytes.length ≤ 16384
      then { s.time with ethRx := s.time.ethRx ++ [bytes] } else { s.time with ethDropped := s.time.ethDropped + 1 } } := by
  refine congrArg _ ((if_neg (by simpa [h, etherType] using ht)).trans ?_)
  split
  · rfl
  · rfl

theorem ethTransmitComplete_frees (h : s.time.ethBusy = true) : exec .ethTransmitComplete s =
    .next { s with time := { s.time with ethBusy := false, ethTx := [], ethTxLen := none } } := congrArg _ (if_pos h)

theorem ethTransmitComplete_idle (h : s.time.ethBusy = false) : exec .ethTransmitComplete s = .next s :=
  congrArg _ (if_neg (by simp [h]))

theorem sgmiiLinkChange_down (fast : Bool) : exec (.sgmiiLinkChange false fast) s =
    .next { s with time := { s.time with linkUp := false, portState := if s.tf 0 0 = 1 then 1 else 3 } } := by
  change execSgmiiLinkChange false fast s = _
  simp only [execSgmiiLinkChange, Bool.false_eq_true, if_false, ite_not]

/-- A link that comes up ends no fault where none stands (R407). -/
theorem sgmiiLinkChange_up (fast : Bool) (hc : s.common = true) (hq : Quiet s 0x288 locNone) (hh : s.order.held = [])
    (ha : s.order.accepted = []) : exec (.sgmiiLinkChange true fast) s = .next { s with time := { s.time with
      linkUp := true, speed1000 := fast
      portState := if s.tf 0 0 ≠ 1 then 3 else if s.time.portState = 1 ∨ s.time.portState = 3 then 4 else s.time.portState } } := by
  let s1 : State := { s with time := { s.time with
    linkUp := true, speed1000 := fast
    portState := if s.tf 0 0 ≠ 1 then 3 else if s.time.portState = 1 ∨ s.time.portState = 3 then 4 else s.time.portState } }
  change Host.Outcome.next (s1.foundEnd 0x288 locNone) = .next s1
  rw [foundEnd_common (s := s1) hc, reportEnd_quiet (s := s1) hq hh ha]

theorem ethLinkDownLimit_reports (he : s.tf 0 0 = 1) (hl : s.time.linkUp = false) (hc : s.common = true) (hq : Quiet s 0x288 locNone) :
    exec .ethLinkDownLimit s = .next (reported s 0x288 .f1 locNone (some (s.timeState s.time.servo s.time.servo))) :=
  congrArg _ ((if_pos (by simp [he, hl])).trans (found_new hc hq rfl rfl))

theorem ethLinkDownLimit_ignored (h : s.tf 0 0 ≠ 1 ∨ s.time.linkUp = true) : exec .ethLinkDownLimit s = .next s :=
  congrArg _ (if_neg (not_both (h.imp beq_eq_false_iff_ne.mpr fun h => by rw [h]; rfl)))

end
end Sys2Proof.Proofs
end

section
/-!
PROOF. O58.
-/
namespace Sys2Proof.Proofs
open Sys2Proof Sys2Proof.Machine Sys2Proof.Laws

/-- Settles O58: each row by its equation; a missed pulse and a dropped capture by the report that they leave. -/
theorem pulsesCapturesAndFrames : Obligations.PulsesCapturesAndFrames := by
  intro s n p clk cl cnt cyc ns rising bytes q tm now c fifo selected edge ty total
  refine ⟨pulses_absent clk cl cnt, pulses_off clk cl cnt,
    fun a hp hm hf hl ha => ⟨ppsEdge_gives hp hm hf (ppsFall_low hl _) hl ha, ppsEdge_waits hp hm hf hl ha⟩,
    fun a => ppsEdge_ends, fun hp hm hc => ?missed, fun h => capEdge_unselected h clk cyc ns,
    capEdge_captures, capEdge_reports, fun hsel hsrc hfull hc => ?dropped, ethFrameReceived_ignored, ethFrameReceived_takes,
    ethTransmitComplete_frees, ethTransmitComplete_idle, sgmiiLinkChange_down rising, sgmiiLinkChange_up rising,
    fun he hl hc hq => ⟨_, rfl, ethLinkDownLimit_reports he hl hc hq⟩, ethLinkDownLimit_ignored⟩
  case missed =>
    let s1 : State := { s with time := { s.time with pps := setAt s.time.pps n { p with
      next := if s.ppsMode n = 2 then p.next.map (fun a => a + cnt * s.tf 25 0 n) else none, n := p.n + cnt } } }
    obtain ⟨st, tx, ev, hcode, h⟩ := missPulse_reports (s := s1) hc n cnt
    have hexec : exec (.pulseMissed n cnt) s = .next (s1.missPulse n cnt) := pulseMissed_eq hp hm cnt
    rw [h] at hexec
    exact ⟨_, ev, hexec, rfl, rfl, hcode, rfl⟩
  case dropped =>
    obtain ⟨st, tx, drop, ev, hcode, hexec⟩ := capEdge_drops (clk := clk) (cyc := cyc) (ns := ns) hsel hsrc hfull hc
    exact ⟨_, ev, hexec, rfl, rfl, hcode, rfl, rfl⟩

end Sys2Proof.Proofs
end

section
/-!
SUPPORT. What the faults of the computation leave of the acquisition unit (R415, R507): a record marks the cycle of a fault, and
nothing else changes.
-/
namespace Sys2Proof.Proofs
open Sys2Proof Sys2Proof.Machine Sys2Proof.Laws

/-- The acquisition unit of `t` is that of `s` but for the mark of a fault in this cycle. -/
def MarksFault (s t : State) : Prop := t.acq = { s.acq with faultNow := t.acq.faultNow }

namespace MarksFault
variable {s t u : State}

theorem of_acq (h : t.acq = s.acq) : MarksFault s t := by
  rw [MarksFault, h]

theorem trans (h : MarksFault s t) (k : MarksFault t u) : MarksFault s u := by
  rw [MarksFault] at h k ⊢
  rw [k, h]

theorem foldl {α : Type} {f : State → α → State} (hf : ∀ s a, MarksFault s (f s a)) :
    ∀ (l : List α) (s : State), MarksFault s (l.foldl f s)
  | [], _ => rfl
  | a :: l, s => (hf s a).trans (foldl hf l (f s a))

end MarksFault

section
variable (s : State)

theorem irq7_acq (was : Bool) : (s.irq7 was).acq = s.acq := by
  obtain ⟨st, tx, h⟩ := irq7_eq s was
  rw [h]

theorem record_acq (r : EvRec) : (s.record r).acq = s.acq := by
  obtain ⟨ev, st, tx, h, -⟩ := record_eq s r
  rw [h]

theorem faultRecord_marksFault (kind code cls : Nat) (loc : Loc) (lane : Option Lane) (inst cycles raise : Nat) :
    MarksFault s (s.faultRecord kind code cls loc lane inst cycles raise) :=
  (MarksFault.of_acq (record_acq s _)).trans rfl

theorem eventAfter_acq (r : FaultRep) : (s.eventAfter r).acq = s.acq := by
  unfold State.eventAfter
  split
  next e _ =>
    obtain ⟨rec, h, -⟩ := eventBody_record s e r.lane
    rw [h]
    exact record_acq s rec
  · rfl

theorem activate_acq (r : FaultRep) (c : FClass) : (s.activate r c).acq = s.acq := by
  unfold State.activate
  split
  · rfl
  · rfl

/-- Taking a fault touches the unit by the records that it writes. -/
theorem takeFault_marksFault (r : FaultRep) : MarksFault s (s.takeFault r).1 := by
  have hactive (x : Collector) (c : FClass) : MarksFault s ({ s with faults := x }.activate r c) := .of_acq (activate_acq _ r c)
  unfold State.takeFault
  split
  · rfl
  dsimp only
  split
  case h_1 | h_2 | h_3 =>
    refine .trans ?_ (.of_acq (eventAfter_acq _ r))
    refine .trans ?_ (.of_acq (irq7_acq _ _))
    refine .trans ?_ (faultRecord_marksFault _ _ _ _ _ _ _ _ _)
    exact .trans (hactive _ .f2) (faultRecord_marksFault _ _ _ _ _ _ _ _ _)
  case h_4 =>
    have hnoted := hactive { s.faults with inst := nextInst s.faults.inst } .f0
    split
    · exact (hnoted.trans (faultRecord_marksFault _ _ _ _ _ _ _ _ _)).trans (.of_acq (eventAfter_acq _ r))
    split
    · exact hnoted.trans rfl
    · exact hnoted.trans (.of_acq (irq7_acq _ _))
  case h_5 =>
    exact ((hactive _ .f1).trans (faultRecord_marksFault _ _ _ _ _ _ _ _ _)).trans (.of_acq (eventAfter_acq _ r))
  case h_6 =>
    exact ((hactive _ _).trans (faultRecord_marksFault _ _ _ _ _ _ _ _ _)).trans (.of_acq (eventAfter_acq _ r))

theorem faultDue_acq (r : FaultRep) (n : Nat) : (s.faultDue r n).acq = s.acq := by
  cases h : s.axis? n with
  | none => simp only [State.faultDue, h]
  | some a =>
    have hfaulted : (s.faultAxis n).acq = s.acq := by rw [(faultAxis_spec h).1.frame]
    simp only [State.faultDue, h]
    split
    · rfl
    · exact hfaulted

theorem settle_acq : s.settle.acq = s.acq := by
  have h := settle_switches s
  rw [Switches] at h
  rw [h]

/-- An F2 that acts leaves the unit to itself. -/
theorem actF2_marksFault (r : FaultRep) : MarksFault s (s.actF2 r) := by
  have hdue (l : List Nat) : MarksFault s (l.foldl (fun u n => u.faultDue r n) s) :=
    .foldl (fun u n => .of_acq (faultDue_acq u r n)) l s
  unfold State.actF2
  dsimp only
  split
  · exact (hdue _).trans (.of_acq ((settle_acq _).trans (irq7_acq _ _)))
  · exact (hdue _).trans (.of_acq (irq7_acq _ _))

theorem takeNow_marksFault (r : FaultRep) : MarksFault s (s.takeNow r) :=
  (takeFault_marksFault s r).trans (.foldl actF2_marksFault _ _)

theorem takeComputed_marksFault : MarksFault s s.takeComputed :=
  MarksFault.trans (t := { s with faults := { s.faults with computed := [] } }) rfl (.foldl takeNow_marksFault _ _)

end
end Sys2Proof.Proofs
end

section
/-!
SUPPORT. The place at which the acquisition unit records (R412, R424): what it depends on, and the bytes that a record puts there.
-/
namespace Sys2Proof.Proofs
open Sys2Proof Sys2Proof.Machine Sys2Proof.Laws

/-! ### Fields of the acquisition set-up -/

/-- Every default of the acquisition set-up is a constant (Table 10.7). -/
theorem fieldDefault_acq (f : Fields) (m : AxisMap) (w : List (Nat × Byte)) (d : FieldDef) {k : FieldKey} (ht : k.table = 0x0A07) :
    fieldDefault f m w d k = d.dflt := by
  simp [fieldDefault, ht]

/-- The acquisition set-up follows the configuration alone. -/
theorem aq_congr {s t : State} (h : t.cfg = s.cfg) (row elem : Nat) : t.aq row elem = s.aq row elem := by
  have hkey (w : List (Nat × Byte)) (d : FieldDef) := fieldDefault_acq s.cfg s.cfg.map w d
    (k := { target := tgtAcq, table := 0x0A07, row := row, elem := elem }) rfl
  simp only [State.aq, State.fld, lookField, h, hkey]

theorem recSize_congr {s t : State} (h : t.cfg = s.cfg) : t.recSize = s.recSize := by
  rw [State.recSize, aq_congr h, ← State.recSize]

theorem acqC_congr {s t : State} (h : t.cfg = s.cfg) : t.acqC = s.acqC :=
  congrArg₂ segRecords (aq_congr h 4 0) (aq_congr h 1 0)

/-! ### The place of the next record -/

/-- Address of the next record: the places wrap within the present segment (R412, R424). -/
def recPlace (s : State) : Nat := (s.acq.segment * s.acqC + s.acq.written % s.acqC) * s.recSize

/-- `t` records where `s` does, in the same cycle and into the same memory. -/
structure KeepsPlace (s t : State) : Prop where
  cfg : t.cfg = s.cfg
  cycle : t.clock.cycle = s.clock.cycle
  lanes : t.lanes = s.lanes
  running : t.acq.running = s.acq.running
  segment : t.acq.segment = s.acq.segment
  written : t.acq.written = s.acq.written
  mem : t.acq.mem = s.acq.mem

namespace KeepsPlace
variable {s t u : State}

theorem refl (s : State) : KeepsPlace s s := ⟨rfl, rfl, rfl, rfl, rfl, rfl, rfl⟩

theorem trans (h : KeepsPlace s t) (k : KeepsPlace t u) : KeepsPlace s u :=
  ⟨k.cfg.trans h.cfg, k.cycle.trans h.cycle, k.lanes.trans h.lanes, k.running.trans h.running, k.segment.trans h.segment,
    k.written.trans h.written, k.mem.trans h.mem⟩

theorem recPlace (h : KeepsPlace s t) : recPlace t = recPlace s := by
  rw [Proofs.recPlace, h.segment, h.written, recSize_congr h.cfg, acqC_congr h.cfg, ← Proofs.recPlace]

theorem recording (h : KeepsPlace s t) : t.recording = s.recording := by
  rw [State.recording, State.voting, State.lane, h.running, h.lanes, aq_congr h.cfg]
  rfl

end KeepsPlace

/-! ### Records -/

/-- A record of the present cycle: as long as the set-up says, its first word the count (R412, Table 10.3). -/
def IsRecord (s : State) (bs : List Byte) : Prop := bs.length = s.recSize ∧ bs.take 4 = toLe 4 (s.clock.cycle % 2 ^ 32)

theorem sixteen_le_recSize (s : State) : 16 ≤ s.recSize := by
  unfold State.recSize ceilDiv
  omega

theorem recordBytes_isRecord (s : State) (trig : Bool) : IsRecord s (s.recordBytes trig) := by
  have h16 := sixteen_le_recSize s
  refine ⟨padTo_length _ _, ?_⟩
  simp only [State.recordBytes, padTo, List.append_assoc]
  rw [List.take_append_of_le_length (by simp; omega), List.take_take, min_eq_left (by omega), List.take_left' (toLe_length 4 _)]

theorem KeepsPlace.isRecord {s t : State} (h : KeepsPlace s t) {bs : List Byte} (hb : IsRecord t bs) : IsRecord s bs := by
  rwa [IsRecord, h.cycle, recSize_congr h.cfg] at hb

theorem memReadN_eq_map (m : List Host.Cell) (a n : Nat) : memReadN m a n = (List.range n).map (fun i => memRead m (a + i)) := by
  induction n generalizing a with
  | zero => rfl
  | succ n ih => simp [memReadN, ih, List.range_succ_eq_map, Function.comp_def, Nat.add_comm, Nat.add_left_comm]

/-- The first bytes of a run that was written read back. -/
theorem memReadN_memWriteN {m : List Host.Cell} (h : Memory.wf m = true) (a : Nat) {bs : List Byte} {n : Nat} (hn : n ≤ bs.length) :
    memReadN (memWriteN m a bs) a n = bs.take n := by
  rw [memReadN_eq_map]
  refine List.ext_getElem (by simp [hn]) fun i hi _ => ?_
  have hi' : i < n := by simpa using hi
  rw [List.getElem_map, List.getElem_range, memRead_memWriteN _ bs m a h, if_pos (by omega), Nat.add_sub_cancel_left,
    List.getElem_take, List.getD_eq_getElem bs 0 (by omega)]

/-- The unit `q` is that of `s` with one record written at its place. -/
def Records (s : State) (q : Acq) : Prop :=
  q.written = s.acq.written + 1 ∧ ∃ bs, IsRecord s bs ∧ q.mem = memWriteN s.acq.mem (recPlace s) bs

section
variable {s t : State} {q : Acq}

theorem writeRecord_records (s : State) (trig : Bool) : Records s (s.writeRecord trig).acq :=
  ⟨rfl, s.recordBytes trig, recordBytes_isRecord s trig, rfl⟩

theorem KeepsPlace.records (h : KeepsPlace s t) (hr : Records t q) : Records s q := by
  obtain ⟨hwritten, bs, hbs, hmem⟩ := hr
  exact ⟨hwritten.trans (by rw [h.written]), bs, h.isRecord hbs, hmem.trans (by rw [h.mem, h.recPlace])⟩

theorem Records.written (h : Records s q) : q.written = s.acq.written + 1 := h.1

variable (hwf : Memory.wf s.acq.mem = true) (h : Records s q)
include hwf h

theorem Records.wf : Memory.wf q.mem = true := by
  obtain ⟨-, bs, -, hmem⟩ := h
  rw [hmem]
  exact memWriteN_wf bs _ _ hwf

theorem Records.outside {x : Nat} (hx : x < recPlace s ∨ recPlace s + s.recSize ≤ x) : memRead q.mem x = memRead s.acq.mem x := by
  obtain ⟨-, bs, ⟨hlen, -⟩, hmem⟩ := h
  rw [hmem]
  exact memRead_memWriteN_outside bs _ _ x hwf (by rwa [hlen])

theorem Records.count : memReadN q.mem (recPlace s) 4 = toLe 4 (s.clock.cycle % 2 ^ 32) := by
  obtain ⟨-, bs, ⟨hlen, htake⟩, hmem⟩ := h
  have h16 := sixteen_le_recSize s
  rw [hmem, memReadN_memWriteN hwf _ (by omega), htake]

end
end Sys2Proof.Proofs
end

section
/-!
SUPPORT. The acquisition unit at the end of the compute window (R408, R415 to R418, R423, R424): it samples, takes a trigger, and
writes one record or none.
-/
namespace Sys2Proof.Proofs
open Sys2Proof Sys2Proof.Machine Sys2Proof.Laws

/-! ### The parts of the work -/

/-- The comparators, the condition word and the channel values of the cycle stand (R408, R415, R416). -/
def sampled (s : State) : State :=
  let w := BitVec.ofNat 32 (s.condWord s.evalCmps)
  { s with acq := { s.acq with
      cmps := s.evalCmps, cond := w, values := (List.range (s.aq 1 0)).map (fun n => s.chValue (s.chSrc n)) } }

/-- A trigger cycle is accepted or missed (R417, R418, R425). -/
def triggered (s : State) : State :=
  let pattern := s.patternTrig s.acq.cond
  if !(pattern || s.acq.force) then s
  else if s.acq.st = .armed ∨ (s.acq.force ∧ s.acq.st = .filling) then s.acceptTrigger s.acq.cond pattern
  else s.missTrigger

/-- The state of the unit takes records: before the trigger, or behind it until there are enough (R423, R424). -/
def takesRecords (s : State) : Bool :=
  s.acq.st == .filling || s.acq.st == .armed || (s.acq.st == .post && (s.acq.trigPending || decide (s.acq.post < s.aq 6 0)))

/-- A unit that takes records writes one in a cycle that ACQ_DIV selects. -/
def recorded (s : State) : State :=
  if takesRecords s && s.clock.cycle % (s.aq 3 0) == 0 then
    let trig := s.acq.st == .post && s.acq.trigPending
    (if trig then s.fixPre else s).writeRecord trig
  else s

/-- The unit before the conditions of this cycle become those of the previous one. -/
def worked (s : State) : State := if !(sampled s).recording then sampled s else recorded (triggered (sampled s))

theorem acquire_eq (s : State) : s.acquire =
    { worked s with acq := { (worked s).acq with condPrev := (sampled s).acq.cond, force := false } } := rfl

/-! ### What each part leaves -/

section
variable (s : State)

theorem sampled_keepsPlace : KeepsPlace s (sampled s) := ⟨rfl, rfl, rfl, rfl, rfl, rfl, rfl⟩

/-- A missed trigger is counted, and no more (R425). -/
theorem missTrigger_spec : KeepsPlace s s.missTrigger ∧ s.missTrigger.acq.st = s.acq.st := by
  obtain ⟨st, tx, h⟩ := irq7_eq { s with acq := { s.acq with
    missed := s.acq.missed + 1, missedTotal := min 0xFFFFFFFF (s.acq.missedTotal + 1), missedSeen := true } } s.acq.missedSeen
  have heq : s.missTrigger = _ := h
  rw [heq]
  exact ⟨⟨rfl, rfl, rfl, rfl, rfl, rfl, rfl⟩, rfl⟩

/-- An accepted trigger opens POST with its trigger record to come (R423, R426), and the place of the next record stays. -/
theorem acceptTrigger_spec (w : BitVec 32) (pattern : Bool) : KeepsPlace s (s.acceptTrigger w pattern) ∧
    (s.acceptTrigger w pattern).acq.st = .post ∧ (s.acceptTrigger w pattern).acq.trigPending = true := by
  obtain ⟨d, e, heq⟩ : ∃ (d : Descr) (e : EvBody), s.acceptTrigger w pattern = (({ s.draw.2 with acq := { s.acq with
      st := .post, post := 0, trigPending := true, cur := d, lastTrig := s.clock.cycle, missed := 0, trigSeen := true } } :
        State).irq7 s.acq.trigSeen).reportEvent e := ⟨_, _, rfl⟩
  obtain ⟨st, tx, h⟩ := irq7_eq { s.draw.2 with acq := { s.acq with
    st := .post, post := 0, trigPending := true, cur := d, lastTrig := s.clock.cycle, missed := 0, trigSeen := true } } s.acq.trigSeen
  rw [heq, h]
  exact ⟨⟨rfl, rfl, rfl, rfl, rfl, rfl, rfl⟩, rfl, rfl⟩

theorem triggered_keepsPlace : KeepsPlace s (triggered s) := by
  unfold triggered
  dsimp only
  split
  · exact .refl s
  split
  · exact (acceptTrigger_spec s _ _).1
  · exact (missTrigger_spec s).1

/-- Before the trigger a unit takes records, and a trigger that it accepts brings one more (R423, R424). -/
theorem triggered_takesRecords (h : s.acq.st = .filling ∨ s.acq.st = .armed) : takesRecords (triggered s) = true := by
  have hbefore {u : State} (hu : u.acq.st = s.acq.st) : takesRecords u = true := by
    obtain h | h := h
    · simp [takesRecords, hu, h]
    · simp [takesRecords, hu, h]
  unfold triggered
  dsimp only
  split
  · exact hbefore rfl
  split
  · obtain ⟨-, hpost, hpending⟩ := acceptTrigger_spec s s.acq.cond (s.patternTrig s.acq.cond)
    simp [takesRecords, hpost, hpending]
  · exact hbefore (missTrigger_spec s).2

theorem fixPre_keepsPlace : KeepsPlace s s.fixPre := ⟨rfl, rfl, rfl, rfl, rfl, rfl, rfl⟩

theorem recorded_cases : (recorded s = s ∧ ¬(takesRecords s = true ∧ s.clock.cycle % s.aq 3 0 = 0)) ∨ Records s (recorded s).acq := by
  unfold recorded
  split
  · dsimp only
    split
    · exact .inr ((fixPre_keepsPlace s).records (writeRecord_records _ _))
    · exact .inr (writeRecord_records s _)
  next h => exact .inl ⟨rfl, fun hdue => h (by simp [hdue])⟩

/-- The unit writes nothing, or it records: then one record at its place, which it writes before the trigger in every cycle that
ACQ_DIV selects. -/
theorem acquire_cases :
    (s.acquire.acq.mem = s.acq.mem ∧
      ¬(s.recording = true ∧ (s.acq.st = .filling ∨ s.acq.st = .armed) ∧ s.clock.cycle % s.aq 3 0 = 0)) ∨
    (s.recording = true ∧ Records s s.acquire.acq) := by
  have hplace : KeepsPlace s (triggered (sampled s)) := (sampled_keepsPlace s).trans (triggered_keepsPlace _)
  have hrec : (sampled s).recording = s.recording := (sampled_keepsPlace s).recording
  rw [acquire_eq, worked, hrec]
  cases hr : s.recording with
  | false => exact .inl ⟨rfl, by simp⟩
  | true =>
    obtain ⟨hsame, hnot⟩ | hone := recorded_cases (triggered (sampled s))
    · refine .inl ⟨(congrArg (·.acq.mem) hsame).trans hplace.mem, fun ⟨_, hst, hdue⟩ => hnot ⟨triggered_takesRecords _ hst, ?_⟩⟩
      rw [hplace.cycle, aq_congr hplace.cfg, hdue]
    · exact .inr ⟨rfl, hplace.records hone⟩

end

/-! ### COMPUTE_WINDOW_CLOSE -/

theorem closeEngines_keepsPlace (s : State) : KeepsPlace s s.closeEngines ∧ s.closeEngines.acq.st = s.acq.st := by
  obtain ⟨es, h, -⟩ := foldl_closeEngine s 16
  rw [closeEngines_eq_foldl, h]
  exact ⟨⟨rfl, rfl, rfl, rfl, rfl, rfl, rfl⟩, rfl⟩

theorem KeepsRuns.keepsPlace {fr co : Prop} {s t : State} (h : KeepsRuns fr co s t) (k : MarksFault s t) :
    KeepsPlace s t ∧ t.acq.st = s.acq.st := by
  rw [MarksFault] at k
  exact ⟨⟨h.cfg, congrArg Clock.cycle h.clock, h.lanes, by rw [k], by rw [k], by rw [k], by rw [k]⟩, by rw [k]⟩

/-- What the window's close does before the unit's own work leaves its place and its state (R20, R107). -/
theorem computeWindowClose_acquires (s : State) :
    ∃ u, exec .computeWindowClose s = .next u.acquire ∧ KeepsPlace s u ∧ u.acq.st = s.acq.st := by
  have hopen : KeepsPlace s { s with clock := { s.clock with interval := .assembly } } := ⟨rfl, rfl, rfl, rfl, rfl, rfl, rfl⟩
  cases hc : s.computing with
  | false => exact ⟨_, computeWindowClose_idle hc, hopen, rfl⟩
  | true =>
    obtain ⟨hclosed, hst⟩ := closeEngines_keepsPlace { s with clock := { s.clock with interval := .assembly } }
    refine ⟨_, computeWindowClose_computing hc, ?_⟩
    generalize ({ s with clock := { s.clock with interval := .assembly } } : State).closeEngines = t at hclosed hst
    obtain ⟨htaken, hst'⟩ := ((takeComputed_spec t).1.trans (takeHw_keepsRuns _)).keepsPlace ((takeComputed_marksFault t).trans rfl)
    exact ⟨(hopen.trans hclosed).trans htaken, hst'.trans hst⟩

/-- The window's close leaves the memory of the unit as it is, or one record is written to it at the place of the present segment. -/
theorem computeWindowClose_cases (s : State) : ∃ t, exec .computeWindowClose s = .next t ∧
    ((t.acq.mem = s.acq.mem ∧
      ¬(s.recording = true ∧ (s.acq.st = .filling ∨ s.acq.st = .armed) ∧ s.clock.cycle % s.aq 3 0 = 0)) ∨
    (s.recording = true ∧ Records s t.acq)) := by
  obtain ⟨u, hexec, hplace, hst⟩ := computeWindowClose_acquires s
  refine ⟨_, hexec, (acquire_cases u).imp (fun ⟨hmem, hnot⟩ => ⟨hmem.trans hplace.mem, ?_⟩)
    (fun ⟨hrec, hone⟩ => ⟨hplace.recording.symm.trans hrec, hplace.records hone⟩)⟩
  rwa [hplace.recording, hst, hplace.cycle, aq_congr hplace.cfg] at hnot

end Sys2Proof.Proofs
end

section
/-!
SUPPORT. The segments of an acquisition and the digital lines (R414, R423 to R427).
-/
namespace Sys2Proof.Proofs
open Sys2Proof Sys2Proof.Machine Sys2Proof.Laws

/-! ### Rows of the segments -/

/-- A segment in FILLING has its records, and HOLDOFF has run out (R423, R425). -/
def PreFilled (s : State) : Prop := s.recording = true ∧ s.acq.st = .filling ∧ s.acq.lastTrig + s.aq 8 0 ≤ s.clock.cycle ∧
  (s.aq 7 0 = 1 ∨ s.aq 5 0 ≤ s.acq.written)

/-- A segment in POST has its trigger record and its records after it (R427). -/
def PostComplete (s : State) : Prop := s.recording = true ∧ s.acq.st = .post ∧ s.acq.trigPending = false ∧ s.aq 6 0 ≤ s.acq.post

section
variable {s : State}

theorem preFilled_iff : (s.recording && s.acq.st == .filling && s.holdoffOut && (s.aq 7 0 == 1 || decide (s.aq 5 0 ≤ s.acq.written))) = true ↔
    PreFilled s := by
  simp [PreFilled, State.holdoffOut, and_assoc]

theorem acqPreFilled_arms (h : PreFilled s) : exec .acqPreFilled s =
    .next { s with acq := { s.acq with st := .armed, armedAt := some (((s.clock.cycle + 1 : Nat) : Int) * s.tNs) } } :=
  congrArg _ (if_pos (preFilled_iff.mpr h))

theorem acqPreFilled_waits (h : ¬PreFilled s) : exec .acqPreFilled s = .next s :=
  congrArg _ (if_neg (mt preFilled_iff.mp h))

theorem postComplete_iff : (s.recording && s.acq.st == .post && !s.acq.trigPending && decide (s.aq 6 0 ≤ s.acq.post)) = true ↔
    PostComplete s := by
  simp [PostComplete, and_assoc]

theorem acqPostComplete_next (h : PostComplete s) (hs : s.acq.segment + 1 < s.aq 4 0) : exec .acqPostComplete s =
    .next { s with acq := { s.acq with
      st := .filling, segment := s.acq.segment + 1, written := 0, post := 0, armedAt := none, cur := {}
      descrs := kvSet s.acq.descrs s.acq.segment { s.acq.cur with postActual := s.acq.post } } } :=
  congrArg _ ((if_pos (postComplete_iff.mpr h)).trans (if_neg (Nat.not_le.mpr hs)))

/-- The report of a complete acquisition waits for the command order in the common sequence (R429, R431). -/
theorem acqComplete_body {u : State} (hc : u.common = true) (closed reason : Nat) :
    ∃ e : EvBody, e.code = 0x581 ∧ u.acqComplete closed reason = withBody u (.acqDone u.lane e) :=
  ⟨_, rfl, collectOwn_common (s := withBody u _) hc⟩

theorem acqPostComplete_last (h : PostComplete s) (hs : s.aq 4 0 ≤ s.acq.segment + 1) (hc : s.common = true) :
    ∃ e : EvBody, e.code = 0x581 ∧ exec .acqPostComplete s = .next (withBody { s with acq := { s.acq with
      st := .complete, descrs := kvSet s.acq.descrs s.acq.segment { s.acq.cur with postActual := s.acq.post } } } (.acqDone s.lane e)) := by
  obtain ⟨e, hcode, hbody⟩ := acqComplete_body (u := { s.writeDescr with acq := { s.writeDescr.acq with st := .complete } }) hc
    (s.acq.segment + 1) 0
  have hrow : exec .acqPostComplete s =
      .next (({ s.writeDescr with acq := { s.writeDescr.acq with st := .complete } } : State).acqComplete (s.acq.segment + 1) 0) :=
    congrArg _ ((if_pos (postComplete_iff.mpr h)).trans (if_pos hs))
  exact ⟨e, hcode, hrow.trans (congrArg _ hbody)⟩

theorem acqPostComplete_waits (h : ¬PostComplete s) : exec .acqPostComplete s = .next s :=
  congrArg _ (if_neg (mt postComplete_iff.mp h))

/-! ### Digital lines -/

/-- A change of an entry that the list has puts its new value there. -/
theorem modAt_eq_setAt {α : Type} (f : α → α) {l : List α} {n : Nat} (h : n < l.length) (d : α) :
    modAt l n f = setAt l n (f (l.getD n d)) := by
  have hn : l[n]? = some (l.getD n d) := by rw [List.getD_eq_getElem l d h, List.getElem?_eq_getElem h]
  rw [setAt, modAt_eq_set f hn, modAt_eq_set _ hn]

/-- A digital line with one more counted edge (R414). -/
def withEdge (rising : Bool) (at_ : Int) (l : DigLine) : DigLine :=
  { l with level := rising, edge := true, rise := if rising then some at_ else l.rise, fall := if rising then l.fall else some at_ }

theorem exec_dlEdge (k : Nat) (rising : Bool) (at_ : Int) (s : State) : exec (.dlEdge k rising at_) s =
    .next { s with acq := { s.acq with lines := modAt s.acq.lines k (withEdge rising at_) } } := rfl

/-- A counted edge is stamped on its line alone (R414). -/
theorem dlEdge_stamps {k : Nat} (hk : k < s.acq.lines.length) (rising : Bool) (at_ : Int) : exec (.dlEdge k rising at_) s =
    .next { s with acq := { s.acq with lines := setAt s.acq.lines k (withEdge rising at_ (s.acq.lines.getD k {})) } } := by
  rw [exec_dlEdge, modAt_eq_setAt _ hk {}]

end
end Sys2Proof.Proofs
end

section
/-!
PROOF. O51.
-/
namespace Sys2Proof.Proofs
open Sys2Proof Sys2Proof.Machine Sys2Proof.Laws

/-- Settles O51: the window's close writes no record or one at the place of the present segment, whatever the faults of the computation
are; the rows of the segments and of the lines each by their equation. -/
theorem acquisitionWritesItsSegments : Obligations.AcquisitionWritesItsSegments := by
  intro s k rising at_ hwf q a old edged filled posted descrs
  refine ⟨?window, acqPreFilled_arms, acqPreFilled_waits, acqPostComplete_next, acqPostComplete_last, acqPostComplete_waits,
    fun hk => dlEdge_stamps hk rising at_⟩
  obtain ⟨t, hexec, ⟨hmem, hnot⟩ | ⟨hrec, hone⟩⟩ := computeWindowClose_cases s
  case inl =>
    exact ⟨t, hexec, fun x _ => by rw [hmem], by rwa [hmem], fun _ => hmem, fun hr hst hdue => absurd ⟨hr, hst, hdue⟩ hnot⟩
  case inr =>
    refine ⟨t, hexec, fun x hx => hone.outside hwf hx, hone.wf hwf, fun hno => ?_, fun _ _ _ => ⟨hone.written, hone.count hwf⟩⟩
    exact absurd (hrec.symm.trans hno) (by decide)

end Sys2Proof.Proofs
end

section
/-!
SUPPORT. The shape of the state (the canonical memories, the on-chip event ring within 256 records, the fixed numbers of engines, mailboxes
and branch ports) through records, faults, axis states and the switches of the safe drive outputs. An operation that changes none of
these parts keeps the shape by definition; the lemmas name the others.
-/
namespace Sys2Proof
open Machine

section
variable {s : State} {n m v i code cls kind : Nat} {r : FaultRep} {l : List Byte} {loc : Loc} {lane : Option Lane}

/-- Steps that each keep the shape do so together. -/
theorem Shape.foldl {α : Type} {f : State → α → State} (hf : ∀ s a, Shape s → Shape (f s a)) {l : List α} (h : Shape s) :
    Shape (l.foldl f s) := by
  induction l generalizing s with
  | nil => exact h
  | cons a l ih => exact ih (hf s a h)

/-- The other parts of the state may change at will. -/
theorem Shape.frame {clock : Clock} {net : Net} {trunks relays weirs : List Link} {drop : List Bool} {nodes : List NodeRt} {lanes : Lanes}
    {axes : List Axis} {coupling : Coupling} {groups : List Group} {locals : List LocalChan} {kernels : Kernels} {order : Order}
    {cfg : Fields} {events : Events} {host : HostPort} {services : NodeServices} {time : TimeUnit} {acq : Acq} {safety : Safety}
    {drivers : Drivers} {faults : Collector} {power : Power} {tx : List Tx} {free : Nat} {pending : List Instr} (h : Shape s)
    (same : (acq.mem, host.msix, events.ring, host.boxes.length) = (s.acq.mem, s.host.msix, s.events.ring, s.host.boxes.length)) :
    Shape { s with clock, net, trunks, relays, weirs, trunkDrop := drop, nodes, lanes, axes, coupling, groups, locals, kernels, order,
                   cfg, events, host, services, time, acq, safety, drivers, faults, power, tx, free, pending } := by
  unfold Shape
  simp only [Prod.mk.injEq] at same
  obtain ⟨mem, msix, ring, boxes⟩ := same
  rw [mem, msix, ring, boxes]
  exact h

theorem Shape.ite {c : Prop} [Decidable c] {t : State} (hs : Shape s) (ht : Shape t) : Shape (if c then s else t) := by
  split
  · exact hs
  · exact ht

/-! ### Records and events (R533, R547, R550) -/

theorem Shape.irq (h : Shape s) : Shape (s.irq v) := .ite (c := _ = true) h h

theorem Shape.irq7 {was : Bool} (h : Shape s) : Shape (s.irq7 was) := .ite h (.irq h)

/-- The ring keeps the 256 newest records (R550). -/
theorem Shape.ringWrite {r : EvRec} (h : Shape s) : Shape (s.ringWrite r) := by
  obtain ⟨_, _, e⟩ := Laws.ringWrite_eq s r
  obtain ⟨hacq, hmsix, -, hsizes⟩ := h
  rw [e]
  exact ⟨hacq, hmsix, by simp, hsizes⟩

theorem Shape.record {r : EvRec} (h : Shape s) : Shape (s.record r) := .ite h (.ringWrite h)

theorem Shape.event {axis : Nat} (h : Shape s) : Shape (s.event code axis l lane) := .record h

theorem Shape.eventBody {e : EvBody} (h : Shape s) : Shape (s.eventBody e lane) := .ite (.record h) (.ite (.record h) (.record h))

theorem Shape.faultRecord {inst cycles raise : Nat} (h : Shape s) : Shape (s.faultRecord kind code cls loc lane inst cycles raise) :=
  (.record h)

theorem Shape.reportL (h : Shape s) : Shape (s.reportL r) := .ite h h

theorem Shape.reportEnd (h : Shape s) : Shape (s.reportEnd code loc) := .ite h h

/-! ### Motions and axis states (R57, R154) -/

theorem Shape.discardPoints (h : Shape s) : Shape (s.discardPoints n) := .ite h (.record h)

theorem Shape.endMotion (h : Shape s) : Shape (s.endMotion n) := by
  unfold State.endMotion
  split
  · exact .discardPoints h
  all_goals exact h

theorem Shape.force {x : Motion} {rel : Option (Int × BitVec 32)} (h : Shape s) : Shape (s.force n x rel) := by
  unfold State.force
  split
  · split
    · exact h
    · exact .record h
  · exact h

theorem Shape.motionEffect {st : AxisSt} {x : Motion} {rel : Option (Int × BitVec 32)} {tag : BitVec 32} (h : Shape s) :
    Shape (s.motionEffect n st x rel tag code) := by
  cases st with
  | run => cases rel with
    | some p => exact .ite (.record h) (.force (.endMotion h))
    | none => exact .force (.endMotion h)
  | hold | coast | stopRamp => exact h
  | off | ready | faulted => exact .record h

theorem Shape.motionHook {ty : AxisType} {from_ to_ : AxisSt} {quick : Bool} (h : Shape s) : Shape (s.motionHook n ty from_ to_ quick) := by
  unfold State.motionHook
  extract_lets s1
  have h1 : Shape s1 := by
    refine .ite ?_ h
    split
    · exact .frame (.endMotion h) rfl
    · exact .frame (.endMotion h) rfl
    · exact h
  clear_value s1
  cases to_ with
  | stopRamp | hold | coast => exact h1
  | run =>
    dsimp only
    split
    · exact .force h1
    · exact h1
  | ready => exact .ite h1 (.frame (.discardPoints h1) rfl)
  | faulted => exact .frame (.discardPoints h1) rfl
  | off => exact .discardPoints h1

theorem Shape.zeroCoupling (h : Shape s) : Shape (s.zeroCoupling n) := by
  unfold State.zeroCoupling
  split <;> exact h

theorem Shape.unfixAt (h : Shape s) : Shape (s.unfixAt n) := by
  unfold State.unfixAt
  dsimp only
  split
  · exact .ite h h
  · exact h

theorem Shape.enter {to_ : AxisSt} {quick : Bool} (h : Shape s) : Shape (s.enter n to_ quick) := by
  unfold State.enter
  split
  · exact h
  · dsimp only
    split
    · exact .zeroCoupling (.frame (.motionHook h) rfl)
    · exact .unfixAt (.frame (.motionHook h) rfl)
    all_goals exact .frame (.motionHook h) rfl

theorem Shape.faultAxis (h : Shape s) : Shape (s.faultAxis n) := by
  unfold State.faultAxis
  split
  · exact .ite h (.enter h)
  · exact h

theorem Shape.axisCommand {tag : BitVec 32} (h : Shape s) : Shape (s.axisCommand code n tag) := by
  unfold State.axisCommand
  split
  · exact .ite h (.record h)
  · split
    · exact .enter h
    · exact .ite h (.record h)

theorem Shape.beginDue (h : Shape s) : Shape (s.beginDue n) := by
  unfold State.beginDue
  dsimp only
  split
  · exact .ite (.enter h) h
  · exact h

/-! ### Switches of the safe drive outputs (R450 to R453, R459, R469) -/

theorem Shape.settleOutput (h : Shape s) : Shape (s.settleOutput m) := .ite h (.ite (.ite h h) h)

theorem Shape.supersede (h : Shape s) : Shape (s.supersede m) := by
  unfold State.supersede
  split
  · exact .ite h h
  · exact h

theorem Shape.settle (h : Shape s) : Shape s.settle := by
  unfold State.settle
  extract_lets s1
  have h1 : Shape s1 := .ite h h
  exact .foldl (fun _ _ => .settleOutput) (.foldl (fun _ _ => .supersede) (.frame (s := s1) h1 rfl))

theorem Shape.lockOut {by_ : Nat} {f3 : Bool} (h : Shape s) : Shape (s.lockOut code by_ f3) := by
  unfold State.lockOut
  exact .settle (.ite (.frame h rfl) (.frame h rfl))

theorem Shape.safetyF2 {by_ : Nat} (h : Shape s) : Shape (s.safetyF2 code by_ loc) := .reportL (.lockOut h)

/-! ### The collector (R504 to R517) -/

theorem Shape.eventAfter (h : Shape s) : Shape (s.eventAfter r) := by
  unfold State.eventAfter
  split
  · exact .eventBody h
  · exact h

theorem Shape.faultDue (h : Shape s) : Shape (s.faultDue r n) := by
  unfold State.faultDue
  split
  · exact .ite h (.faultAxis h)
  · exact h

theorem Shape.actF2 (h : Shape s) : Shape (s.actF2 r) := by
  unfold State.actF2
  dsimp only
  refine .ite (.settle ?_) ?_
  all_goals exact .irq7 (.frame (.foldl (fun _ _ => .faultDue) h) rfl)

theorem Shape.activate {c : FClass} (h : Shape s) : Shape (s.activate r c) := .ite h h

theorem Shape.takeFault (h : Shape s) : Shape (s.takeFault r).1 := by
  unfold State.takeFault
  split
  · exact h
  dsimp only
  split
  case h_1 | h_2 | h_3 => exact .eventAfter (.irq7 (.faultRecord (.faultRecord (.activate h))))
  case h_4 =>
    split
    · exact .eventAfter (.faultRecord (.activate h))
    split
    · exact .frame (.activate h) rfl
    · exact .irq7 (.frame (.activate h) rfl)
  case h_5 => exact .eventAfter (.frame (.faultRecord (.activate h)) rfl)
  case h_6 => exact .eventAfter (.faultRecord (.activate h))

theorem Shape.takeNow (h : Shape s) : Shape (s.takeNow r) := .foldl (fun _ _ => .actF2) (.takeFault h)

theorem Shape.stopTimer {t : Timer} (h : Shape s) : Shape (s.stopTimer kind t) := .faultRecord h

theorem Shape.endSource (h : Shape s) : Shape (s.endSource code loc) := by
  unfold State.endSource
  dsimp only
  split
  · exact .stopTimer h
  · exact h

theorem Shape.ack (h : Shape s) : Shape (s.ack i) := .foldl (fun _ _ => .stopTimer) h

theorem Shape.expire {t : Timer} (h : Shape s) : Shape (s.expire t) := .actF2 (.irq7 (.faultRecord h))

theorem Shape.releaseQueue (h : Shape s) : Shape s.releaseQueue := by
  unfold State.releaseQueue
  refine .ite ?_ h
  extract_lets q d faults s1 s2
  have h2 : Shape s2 := .foldl (s := s1) (fun _ _ h => .eventAfter (.faultRecord h)) h
  exact .ite h2 (.record h2)

theorem Shape.computed (h : Shape s) : Shape (s.computed r) := by
  unfold State.computed
  refine .ite h ?_
  dsimp only
  split
  · exact .faultAxis h
  · exact .ite (.faultAxis h) h
  · exact h

theorem Shape.takeComputed (h : Shape s) : Shape s.takeComputed := .foldl (fun _ _ => .takeNow) h

theorem Shape.computedEnd (h : Shape s) : Shape (s.computedEnd code loc) := .ite (.endSource h) h

theorem Shape.collectOwn (h : Shape s) : Shape s.collectOwn := by
  refine .ite h (.foldl (fun _ b h => ?_) (.foldl (fun _ _ => .takeNow) h))
  split
  · exact .eventBody h
  · exact .eventBody h
  · exact .endSource h
  · exact .takeNow h
  · exact h

end
end Sys2Proof
end

section
/-!
SUPPORT. The shape of the state through feedback, the lanes' places and the copies of a cycle's inputs.
-/
namespace Sys2Proof
open Machine

section
variable {s : State} {n m v i code cls kind : Nat} {r : FaultRep} {l : List Byte} {loc : Loc} {lane : Lane} {role : Role}

/-! ### Feedback channels (R193 to R220, R331) -/

theorem Shape.applyShift {delta : Int} (h : Shape s) : Shape (s.applyShift n delta) := by
  unfold State.applyShift
  split
  · exact h
  · exact .event (.foldl (fun _ _ h => .frame h rfl) (.frame h rfl))

theorem Shape.dirChange {d : Decoder} (h : Shape s) : Shape (s.dirChange n d) := .ite h (.ite h (.frame (.event h) rfl))

theorem Shape.feedbackEnds (h : Shape s) : Shape (s.feedbackEnds n) := by
  unfold State.feedbackEnds
  split
  · exact h
  · extract_lets d s1 s2 s3
    have h1 : Shape s1 := .ite (.computedEnd h) h
    have h2 : Shape s2 := .ite (.frame (.computedEnd h1) rfl) h1
    have h3 : Shape s3 := .ite (.computedEnd h2) h2
    exact .ite (.computedEnd h3) h3

theorem Shape.decodeRecord {d : Decoder} {restart : Bool} {r : PosRec} (h : Shape s) : Shape (s.decodeRecord n d restart r) := by
  unfold State.decodeRecord
  extract_lets
  split
  extract_lets _ s1 s2 s3
  have h2 : Shape s2 := .ite (.event (s := s1) h) h
  have h3 : Shape s3 := by
    unfold s3
    split
    · exact .event h2
    · exact h2
  exact .dirChange h3

theorem Shape.decodeAxis {a : Axis} {nstat : Option Nat} {r : Option PosRec} (h : Shape s) : Shape (s.decodeAxis a nstat l r) := by
  unfold State.decodeAxis
  dsimp only
  refine .feedbackEnds (.frame ?_ rfl)
  split
  · exact h
  · exact .ite (.decodeRecord h) h

theorem Shape.formAngle (h : Shape s) : Shape (s.formAngle n) := by
  unfold State.formAngle
  split <;> exact h

theorem Shape.latchLocal (h : Shape s) : Shape (s.latchLocal n) := by
  unfold State.latchLocal
  split
  · exact h
  · exact .ite h h

theorem Shape.takeSamples {l : List LocalSample} (h : Shape s) : Shape (s.takeSamples l) := .foldl (fun _ _ h => .frame h rfl) h

theorem Shape.decodeNode {pay : Option (List Byte)} (h : Shape s) : Shape (s.decodeNode i pay) := by
  unfold State.decodeNode
  dsimp only
  refine .frame (.foldl (fun s k h => ?_) h) rfl
  split
  · exact h
  · exact .ite h (.ite (.decodeAxis h) (.decodeAxis (.latchLocal h)))

theorem Shape.decodeFinish (h : Shape s) : Shape s.decodeFinish :=
  .foldl (fun _ _ h => .frame h rfl) (.foldl (fun _ _ => .formAngle) h)

theorem Shape.closeInputs (h : Shape s) : Shape s.closeInputs :=
  .ite h (.frame (.decodeFinish (.foldl (fun _ _ => .decodeNode) h)) rfl)

/-! ### Links and the lanes' places (R318 to R325, R343, R350 to R368) -/

theorem Shape.updLink {f : Link → Link} (h : Shape s) : Shape (s.updLink n f) := .ite h (.ite h (.ite h (.ite h h)))

theorem Shape.wakeSpare (h : Shape s) : Shape s.wakeSpare := .ite h h

theorem Shape.wakeAuto (h : Shape s) : Shape s.wakeAuto := .ite (.wakeSpare h) h

theorem Shape.decideLeave (h : Shape s) : Shape (s.decideLeave lane role n) := .ite (.wakeAuto (.frame (.event h) rfl)) h

theorem Shape.passVoice (h : Shape s) : Shape (s.passVoice lane n) := .irq7 (.event h)

theorem Shape.standDown (h : Shape s) : Shape (s.standDown role) := .ite (.settle h) h

theorem Shape.decideJoin (h : Shape s) : Shape (s.decideJoin lane) := .ite h (.frame (.event h) rfl)

theorem Shape.applyLeaving (h : Shape s) : Shape s.applyLeaving := by
  refine .ite h ?_
  split
  · exact h
  · exact .standDown h
  split
  · refine .ite ?_ h
    split
    · exact .passVoice h
    · exact h
  · exact h

theorem Shape.leaveNow (h : Shape s) : Shape (s.leaveNow role n) := .ite (.event (.standDown h)) h

theorem Shape.recouch (h : Shape s) : Shape s.recouch := .ite h (.frame (.ite h h) rfl)

end
end Sys2Proof
end

section
/-!
SUPPORT. The shape of the state through the network states, the star and its links, and the consensus on inputs.
-/
namespace Sys2Proof
open Machine

section
variable {s : State} {n m b p v i code cls kind : Nat} {ch : Channel} {r : FaultRep} {l : List Byte} {loc : Loc} {lane : Lane}
  {role : Role} {epoch : BitVec 16}

/-! ### Branch ports and network states (R262 to R275, R280) -/

/-- The branch ports stay eight (R280). -/
theorem Shape.withBranches {bs : List Branch} (h : Shape s) (hb : bs.length = 8) : Shape { s with branches := bs } := by
  obtain ⟨hmem, hmsix, hring, hengines, hboxes, -⟩ := h
  exact ⟨hmem, hmsix, hring, hengines, hboxes, hb⟩

theorem Shape.branches_length (h : Shape s) : s.branches.length = 8 := by
  obtain ⟨-, -, -, -, -, hb⟩ := h
  exact hb

theorem Shape.updBranch {f : Branch → Branch} (h : Shape s) : Shape (s.updBranch b f) :=
  .withBranches h ((Laws.modAt_length f s.branches b).trans h.branches_length)

theorem Shape.updPos {f : Position → Position} (h : Shape s) : Shape (s.updPos b p f) := .updBranch h

theorem Shape.silence (h : Shape s) : Shape s.silence := .withBranches h ((List.length_map _).trans h.branches_length)

theorem Shape.loadScheds (h : Shape s) : Shape s.loadScheds := .withBranches h (by simp)

theorem Shape.abandonColdstart {cold : Bool} (h : Shape s) : Shape (s.abandonColdstart lane cold n epoch) :=
  .frame (.event (.silence h)) rfl

theorem Shape.hearVoice {voice cold : Bool} (h : Shape s) : Shape (s.hearVoice lane voice cold epoch) := by
  refine .ite (.frame ?claimed rfl) ?claimed
  exact .ite (.ite h h) h

theorem Shape.takeLaneFrame {x : Hdr} {delta : Int} {inWin : Bool} (h : Shape s) : Shape (s.takeLaneFrame x l delta inWin) := by
  unfold State.takeLaneFrame
  dsimp only
  split
  · exact h
  · exact h
  · exact .ite (.ite (.frame (.hearVoice h) rfl) (.frame (.hearVoice h) rfl)) (.hearVoice h)
  · exact .ite (.ite (.abandonColdstart h) h) (.ite (.abandonColdstart h) h)
  · exact .ite (.frame (.hearVoice h) rfl) (.frame (.hearVoice h) rfl)

theorem Shape.beginVoting {w : List Lane} (h : Shape s) : Shape (s.beginVoting w) :=
  .foldl (fun _ _ h => .frame h rfl) (.settle h)

theorem Shape.takeRole {cold : Bool} (h : Shape s) : Shape (s.takeRole cold) := by
  unfold State.takeRole
  split
  · exact .ite h (.ite h (.ite (.beginVoting h) (.event h)))
  · exact h

theorem Shape.netCycleEnd (h : Shape s) : Shape s.netCycleEnd := by
  unfold State.netCycleEnd
  dsimp only
  refine .frame (.frame ?_ rfl) rfl
  split
  · split
    · exact .frame (.ite (.collectOwn (.reportEnd h)) h) rfl
    · exact .frame (.ite (.collectOwn (.reportEnd h)) h) rfl
  · exact .ite h h
  · exact h
  · exact .ite h h
  · exact h

theorem Shape.stopCluster (h : Shape s) : Shape s.stopCluster := .silence h

/-! ### Sluices and links (R282 to R314) -/

theorem Shape.forwardUp {cut : Bool} {stamp : Int} (h : Shape s) : Shape (s.forwardUp b l cut stamp) :=
  .foldl (fun _ _ h => .frame h rfl) h

theorem Shape.violate {off : Int} (h : Shape s) : Shape (s.violate ch b p kind off) :=
  .ite (.frame (.updPos (.irq7 (.updBranch h))) rfl) (.updPos (.irq7 (.updBranch h)))

theorem Shape.openPos (h : Shape s) : Shape (s.openPos ch b p) := .ite (.frame (.reportEnd (.updPos h)) rfl) (.updPos h)

theorem Shape.openBranch (h : Shape s) : Shape (s.openBranch ch b) := .ite (.reportEnd (.frame (.updBranch h) rfl)) (.updBranch h)

theorem Shape.linkDrop (h : Shape s) : Shape (s.linkDrop lane) := by
  unfold State.linkDrop
  split
  · exact .irq7 h
  · exact h

theorem Shape.dropFrame (h : Shape s) : Shape (s.dropFrame b lane) := .linkDrop (.irq7 (.updBranch h))

end
end Sys2Proof
end

section
/-!
SUPPORT. The shape of the state through a cycle of the star and the consensus on inputs.
-/
namespace Sys2Proof
open Machine

section
variable {s : State} {n m b p v i code cls kind : Nat} {ch : Channel} {r : FaultRep} {l : List Byte} {loc : Loc} {lane : Lane}
  {role : Role} {epoch : BitVec 16}

theorem Shape.sendGrant (h : Shape s) : Shape (s.sendGrant ch b) := .frame (.updBranch h) rfl

theorem Shape.setLink {st : LinkState} (h : Shape s) : Shape (s.setLink n st) := .ite (.updBranch h) (.updLink h)

theorem Shape.setPath {path : Nat} (h : Shape s) : Shape (s.setPath n path) := .ite h h

theorem Shape.leaveUp {st : LinkState} (h : Shape s) : Shape (s.leaveUp n st) := .ite (.frame (.setLink h) rfl) (.frame (.setLink h) rfl)

theorem Shape.starCycleEnd (h : Shape s) : Shape s.starCycleEnd := by
  unfold State.starCycleEnd
  extract_lets seen out s1
  have h1 : Shape s1 := .frame (.withBranches h ((List.length_map _).trans h.branches_length)) rfl
  exact .ite (.irq h1) h1

theorem Shape.branchCtrl {action mask : Nat} (h : Shape s) : Shape (s.branchCtrl ch b action mask) := by
  refine .ite h ?_
  split
  · exact .updBranch h
  · exact .openBranch (.updBranch h)
  · exact .foldl (fun _ _ h => .ite (.updPos h) h) h
  · exact .foldl (fun _ _ h => .ite (.openPos h) h) h

/-! ### Consensus on inputs (R331 to R336) -/

theorem Shape.reportAll (h : Shape s) : Shape (s.reportAll r) := .ite h h

theorem Shape.nodeService (h : Shape s) : Shape (s.nodeService i l) := by
  unfold State.nodeService
  split <;> exact h

theorem Shape.agreeNode (h : Shape s) : Shape (s.agreeNode i ch l) := .decodeNode (.frame (.ite (.frame (.ite h h) rfl) (.ite h h)) rfl)

theorem Shape.nodeDeviation {own : Bool} {stamp : Int} (h : Shape s) : Shape (s.nodeDeviation ch own i stamp) := by
  unfold State.nodeDeviation
  split
  · exact h
  · dsimp only
    split
    · exact h
    · exact .ite h h

/-- The mailboxes stay sixteen (Table 14.3). -/
theorem Shape.updBox {f : Mailbox → Mailbox} (h : Shape s) :
    Shape { s with host := { s.host with boxes := modAt s.host.boxes n f } } :=
  .frame h (congrArg (s.acq.mem, s.host.msix, s.events.ring, ·) (Laws.modAt_length f s.host.boxes n))

theorem Shape.passBodies (h : Shape s) : Shape s.passBodies := by
  refine .foldl (fun s x h => ?_) (.frame h rfl)
  dsimp only
  split
  · exact .updBox (.frame h rfl)
  · exact h

theorem Shape.agreeAcyc (h : Shape s) : Shape (s.agreeAcyc b ch) := .foldl (fun _ _ => .nodeService) (.frame h rfl)

theorem Shape.digestJudge (h : Shape s) : Shape (s.digestJudge n) := .ite h h

theorem Shape.agreeAcycs {maps : List (List Byte)} (h : Shape s) : Shape (s.agreeAcycs maps) := by
  refine .frame (.foldl (fun s x h => ?_) h) rfl
  split
  · exact .agreeAcyc h
  · exact h

theorem Shape.closeSimplex (h : Shape s) : Shape s.closeSimplex := .ite h (.closeInputs (.agreeAcycs h))

end

end Sys2Proof
end

section
/-!
SUPPORT. The shape of the state through the set-points of axes and groups.
-/
namespace Sys2Proof
open Machine

section
variable {s : State} {n m g i code : Nat} {r : FaultRep} {l : List Byte} {ts : Rat} {st : AxisSt} {ty : AxisType}

/-! ### Set-points (R147 to R185, R433 to R436) -/

theorem Shape.putR {vals : List Rat} (h : Shape s) : Shape (s.putR n vals) := .ite (.computed h) h

theorem Shape.tableSample {t : State} (h : Shape s) (e : s.tableSample n ts = some t) : Shape t := by
  unfold State.tableSample at e
  obtain ⟨⟨x, u⟩, hx, rfl⟩ := Option.map_eq_some_iff.mp e
  have hu : Shape u := by
    revert hx
    split
    · rintro ⟨⟩
      exact h
    · intro hx
      obtain ⟨k, -, hk⟩ := Option.map_eq_some_iff.mp hx
      cases hk
      exact h
  exact .ite hu (.ite (.event (.frame (.ite (.event hu) hu) rfl)) (.ite (.event hu) hu))

theorem Shape.planSample (h : Shape s) : Shape (s.planSample n st ts) := by
  unfold State.planSample
  dsimp only
  split
  · exact .ite h h
  split
  · exact .frame (.ite h h) rfl
  · exact .ite (.event (.frame (.ite h h) rfl)) (.frame (.ite h h) rfl)
  · exact .frame (.ite h h) rfl

theorem Shape.groupStart {mv : GroupMove} (h : Shape s) : Shape (s.groupStart g mv ts) :=
  .frame (.foldl (fun _ _ h => .frame (.endMotion h) rfl) h) rfl

theorem Shape.groupBegin (h : Shape s) : Shape (s.groupBegin g) := by
  unfold State.groupBegin
  split
  · exact h
  dsimp only
  split
  · exact h
  refine .ite h (.frame ?_ rfl)
  split
  · exact .ite (.ite (.computed (.event h)) (.frame (.computed (.event h)) rfl)) h
  split
  · exact .ite (.groupStart h) h
  · exact h

theorem Shape.groupEnd (h : Shape s) : Shape (s.groupEnd g) := by
  unfold State.groupEnd
  split
  · exact h
  split
  · refine .ite ?_ h
    refine .ite ?ended (.event ?ended)
    refine .foldl (fun _ _ h => ?_) h
    exact .ite h h
  · exact h

theorem Shape.groupSample (h : Shape s) : Shape (s.groupSample n g) := by
  unfold State.groupSample
  split
  · split <;> exact h
  · exact h

theorem Shape.formR (h : Shape s) : Shape (s.formR n ty) := by
  cases ty <;> exact .putR h

theorem Shape.followSet (h : Shape s) : Shape (s.followSet n) := by
  unfold State.followSet
  split
  · exact h
  split
  case h_1 | h_2 | h_3 =>
    dsimp only
    split
    · exact .putR h
    · exact .putR h
  · exact h

theorem Shape.formAxis (h : Shape s) : Shape (s.formAxis n) := by
  unfold State.formAxis
  split
  · exact h
  dsimp only
  refine .frame ?_ rfl
  split
  · exact h
  case h_2 | h_3 | h_4 => exact .followSet h
  · exact .formR h
  · refine .ite (.formR ?_) (.putR h)
    split
    · split
      next u hu =>
        refine .tableSample ?_ hu
        exact h
      · exact .computed (.planSample h)
    · exact .groupSample h
    · exact .planSample h

theorem Shape.injStart (h : Shape s) : Shape (s.injStart n) := by
  unfold State.injStart
  dsimp only
  have h1 : Shape (match (s.axis? n).bind (·.inj) with
    | some j => if j.stop then (s.updAxis n (fun a => { a with inj := none })).injEnded n 2 j.n else s
    | none => s) := by
    split
    · exact .ite (.event h) h
    · exact h
  split
  · exact .event h1
  · exact .ite (.frame h1 rfl) (.event h1)

theorem Shape.injSample (h : Shape s) : Shape (s.injSample n) := by
  unfold State.injSample
  split
  · exact h
  split
  · exact h
  exact .ite (.event h) (.ite (.computed (.event h)) (.ite (.event h) (.ite h (.ite (.computed h) h))))

theorem Shape.formSetpoints (h : Shape s) : Shape s.formSetpoints :=
  .foldl (fun _ _ => .injSample) (.foldl (fun _ _ => .groupEnd) (.foldl (fun _ _ => .formAxis) (.foldl (fun _ _ => .groupBegin) h)))

end

end Sys2Proof
end

section
/-!
SUPPORT. The shape of the state through records and mirrors, the compute window and the coefficients.
-/
namespace Sys2Proof
open Machine

section
variable {s : State} {n m g i code : Nat} {r : FaultRep} {l : List Byte} {o : CoefOwner} {ty : AxisType}

/-! ### Records, snapshots and mirrors (R25 to R28, R550 to R559) -/

theorem Shape.dma (h : Shape s) : Shape (s.dma n l) := .ite h h

theorem Shape.hostRecord {r : EvRec} (h : Shape s) : Shape (s.hostRecord r) :=
  .ite (.frame (.ringWrite h) rfl) (.ite (.frame (.ringWrite h) rfl) (.frame (.dma (.ringWrite h)) rfl))

theorem Shape.overflow (h : Shape s) : Shape s.overflow := .ite h (.ite (.frame (.hostRecord h) rfl) (.hostRecord h))

theorem Shape.rewriteVoice (h : Shape s) : Shape s.rewriteVoice := by
  refine .ite (.foldl (fun s m h => ?_) (.ite ?_ (.foldl (fun _ _ => .dma) ?_))) h
  · exact .ite h (.dma h)
  · exact h
  · exact h

theorem Shape.announce (h : Shape s) : Shape s.announce := .ite (.ite (.irq h) h) h

theorem Shape.writeRecords (h : Shape s) : Shape s.writeRecords := by
  refine .announce (.ite (.dma ?records) ?records)
  exact .foldl (fun _ _ => .hostRecord) (.overflow (.frame (.rewriteVoice h) rfl))

theorem Shape.startMirror (h : Shape s) : Shape s.startMirror := .ite h (.ite h (.frame (.dma h) rfl))

/-! ### The compute window (R20, R106, R107, R132) -/

/-- The engines stay sixteen (Table 3.1). -/
theorem Shape.withEngines {es : List Engine} (h : Shape s) (he : es.length = 16) : Shape { s with engines := es } := by
  obtain ⟨hmem, hmsix, hring, -, hsizes⟩ := h
  exact ⟨hmem, hmsix, hring, he, hsizes⟩

theorem Shape.engines_length (h : Shape s) : s.engines.length = 16 := by
  obtain ⟨-, -, -, he, -⟩ := h
  exact he

theorem Shape.updEngine {f : Engine → Engine} (h : Shape s) : Shape (s.updEngine i f) :=
  .withEngines h ((Laws.modAt_length f s.engines i).trans h.engines_length)

theorem Shape.dispatch (h : Shape s) : Shape (s.dispatch i n) := by
  unfold State.dispatch
  split
  · exact h
  · exact .frame (.updEngine h) rfl

theorem Shape.dispatchNext (h : Shape s) : Shape (s.dispatchNext i) := by
  unfold State.dispatchNext
  split
  · exact h
  split
  · exact .updEngine h
  · exact .dispatch (.updEngine h)

theorem Shape.fixMode (h : Shape s) : Shape (s.fixMode n) := by
  unfold State.fixMode
  split
  · exact h
  · exact .ite h h

theorem Shape.computedAxis (h : Shape s) : Shape (s.computedAxis code n) := .fixMode (.computed h)

theorem Shape.writeCoupling {out : List (Nat × BitVec 32)} (h : Shape s) : Shape (s.writeCoupling n ty out) := by
  unfold State.writeCoupling
  split
  · exact .ite h h
  · exact h

theorem Shape.finishRun {out : List (Nat × BitVec 32)} {custom : Bool} (h : Shape s) : Shape (s.finishRun n out custom) := by
  unfold State.finishRun
  split
  · exact h
  dsimp only
  refine .ite (.computedAxis ?windings) ?windings
  refine .ite (.computedAxis ?limits) (.computedEnd ?limits)
  refine .ite ?numeric (.computedEnd ?numeric)
  refine .ite (.computedAxis ?saturation) ?saturation
  refine .ite ?following (.computedEnd ?following)
  exact .writeCoupling (.frame (.ite (.faultAxis h) h) rfl)

theorem Shape.commitCtx {k : KInfo} {w : List (Nat × BitVec 32)} (h : Shape s) : Shape (s.commitCtx n k w) := by
  refine .foldl (fun s p h => .ite h ?_) h
  split <;> exact h

theorem Shape.closeEngines (h : Shape s) : Shape s.closeEngines := by
  refine .foldl (fun s i h => ?_) h
  split
  · exact h
  · exact .updEngine (.foldl (fun _ _ h => .frame h rfl) h)

/-! ### Coefficients (R83 to R99) -/

theorem Shape.fieldsAt (h : Shape s) : Shape (s.fieldsAt n) := by
  unfold State.fieldsAt
  split <;> exact h

theorem Shape.setCoef {c : CoefRt} (h : Shape s) : Shape (s.setCoef o c) := by cases o <;> exact h

theorem Shape.setCoefAt {c : CoefRt} (h : Shape s) : Shape (s.setCoefAt o n c) := by
  unfold State.setCoefAt
  split
  · exact .ite h (.setCoef h)
  · exact .setCoef h

theorem Shape.acceptCoeffWrite {r : Req} (h : Shape s) : Shape (acceptCoeffWrite s r n) := by
  unfold Machine.acceptCoeffWrite
  split
  · exact h
  · exact .setCoefAt h

theorem Shape.elementEffect {e : CoefElem} (h : Shape s) : Shape (s.elementEffect o e) := .setCoef (.setCoef h)

theorem Shape.coefStep (h : Shape s) : Shape (s.coefStep o) := .foldl (fun _ _ => .elementEffect) (.ite h (.setCoef h))

theorem Shape.coefSteps (h : Shape s) : Shape s.coefSteps := .foldl (fun _ _ => .coefStep) (.foldl (fun _ _ => .coefStep) h)

end

end Sys2Proof
end

section
/-!
SUPPORT. The shape of the state through accepted commands and the acquisition.
-/
namespace Sys2Proof
open Machine

section
variable {s : State} {n m g i code : Nat} {r : Req} {st : AxisSt} {tag : BitVec 32} {lane : Lane}

/-! ### Commands accepted and commands that act on an axis (R29, R30, R42, R141, R155 to R170) -/

theorem Shape.acceptCommit (h : Shape s) : Shape (acceptCommit s r n) := by
  refine .ite ?_ h
  split <;> exact h

theorem Shape.effectDiscard (h : Shape s) : Shape (effectDiscard s n) := .ite h (.ite h h)

theorem Shape.kernelOutcome {ok : Bool} {e : EvBody} (h : Shape s) : Shape (s.kernelOutcome ok e) := by
  unfold State.kernelOutcome
  split
  · exact .eventBody h
  · exact .eventBody h

theorem Shape.tableStartEffect (h : Shape s) : Shape (s.tableStartEffect n st tag) := by
  unfold State.tableStartEffect
  split
  case h_1 | h_2 | h_3 => exact .event h
  · exact .ite (.event h) (.ite h (.motionEffect h))

theorem Shape.tableClearEffect (h : Shape s) : Shape (s.tableClearEffect n st tag) := by
  unfold State.tableClearEffect
  split
  case h_1 | h_2 | h_3 => exact .event h
  · exact .ite (.frame (.discardPoints h) rfl) (.discardPoints h)

theorem Shape.groupMoveEffect (h : Shape s) : Shape (s.groupMoveEffect r) := by
  refine .ite (.event h) (.ite ?_ h)
  dsimp only
  split
  · exact .ite h h
  · exact h

theorem Shape.axisEffect {cap : List (FieldKey × BitVec 64)} (h : Shape s) : Shape (s.axisEffect r n cap) := by
  unfold State.axisEffect
  dsimp only
  split
  · exact .ite (.motionEffect h) (.motionEffect h)
  · exact .motionEffect h
  · split
    case h_1 | h_2 | h_3 => exact .event h
    · exact h
  · exact .tableStartEffect h
  · exact .tableClearEffect h
  · exact .motionEffect h
  · exact .frame (.injStart h) rfl
  · exact h
  · exact .axisCommand h

/-! ### The acquisition unit (R412 to R441) -/

/-- A record is bytes written to the acquisition memory, which stays canonical (log entry 10). -/
theorem Shape.writeRecord {trig : Bool} (h : Shape s) : Shape (s.writeRecord trig) := by
  obtain ⟨hmem, hrest⟩ := h
  exact ⟨Laws.memWriteN_wf _ _ _ hmem, hrest⟩

theorem Shape.acceptTrigger {w : BitVec 32} {pattern : Bool} (h : Shape s) : Shape (s.acceptTrigger w pattern) := .frame (.irq7 h) rfl

theorem Shape.missTrigger (h : Shape s) : Shape s.missTrigger := .irq7 h

theorem Shape.acquire (h : Shape s) : Shape s.acquire := by
  unfold State.acquire
  dsimp only
  refine .frame (.ite h ?_) rfl
  refine .ite (.writeRecord (.ite (.frame ?triggered rfl) ?triggered)) ?triggered
  exact .ite h (.ite (.acceptTrigger h) (.missTrigger h))

theorem Shape.acqArm (h : Shape s) : Shape s.acqArm := .ite h h

theorem Shape.acqComplete {reason : Nat} (h : Shape s) : Shape (s.acqComplete n reason) := .collectOwn h

theorem Shape.acqStop (h : Shape s) : Shape s.acqStop := by
  refine .ite (.acqComplete ?stopped) ?stopped
  exact .frame (.ite (.frame (.ite h h) rfl) h) rfl

theorem Shape.acqDone {e : EvBody} (h : Shape s) : Shape (s.acqDone lane e) := .frame (.eventBody h) rfl

end

end Sys2Proof
end

section
/-!
SUPPORT. The shape of the state through F3, the faults of one lane, the peat store and the safety channels.
-/
namespace Sys2Proof
open Machine

section
variable {s : State} {n m i code : Nat} {r : FaultRep} {loc : Loc} {tag : BitVec 32} {lane : Lane} {c : SafeChan}

/-! ### F3, faults of one lane, and the peat store (R504 to R525, R586 to R620) -/

theorem Shape.faultAll (h : Shape s) : Shape s.faultAll := by
  refine .foldl (fun s a h => ?_) h
  exact .ite h (.enter h)

theorem Shape.keepF3 (h : Shape s) : Shape (s.keepF3 code) := .ite h h

theorem Shape.quiet (h : Shape s) : Shape (s.quiet code) := .ite (.silence h) h

theorem Shape.enterF3 (h : Shape s) : Shape (s.enterF3 r) := by
  refine .ite h (.ite (.ite (.frame (.faultAll ?off) rfl) (.takeNow (.faultAll ?off))) (.takeNow (.leaveNow (.ite (.frame ?off rfl) ?off))))
  exact .ite (.lockOut (.quiet (.keepF3 h))) (.settle (.quiet (.keepF3 h)))

theorem Shape.found (h : Shape s) : Shape (s.found r) := by
  refine .collectOwn (.ite (.settle (.frame ?reported rfl)) ?reported)
  exact .ite (.reportL h) h

theorem Shape.foundEnd (h : Shape s) : Shape (s.foundEnd code loc) := .collectOwn (.reportEnd h)

theorem Shape.faultClear (h : Shape s) : Shape (s.faultClear tag) := .ite (.event h) (.settle (.record h))

theorem Shape.faultRaise {axis : Option Nat} (h : Shape s) : Shape (s.faultRaise axis n) := .takeNow h

theorem Shape.followLinks (h : Shape s) : Shape s.followLinks := by
  refine .foldl (fun s p h => ?_) h
  exact .ite (.ite (.setLink h) h) (.ite h (.setLink h))

theorem Shape.restore {c : Settings} (h : Shape s) : Shape (s.restore c) := by
  unfold State.restore
  exact .followLinks (.loadScheds (.frame h rfl))

theorem Shape.factory (h : Shape s) : Shape s.factory := .frame (.restore h) rfl

theorem Shape.checkStart (h : Shape s) : Shape s.checkStart := by
  refine .ite h (.ite (.enterF3 h) (.ite (.found h) (.ite ?_ (.frame (.foundEnd h) rfl))))
  split
  · exact .foundEnd h
  · exact .frame (.foundEnd h) rfl
  · exact .frame (.foundEnd h) rfl

/-- A reset of the core begins with sixteen engines, sixteen mailboxes, eight branch ports and empty memories (R603). -/
theorem Shape.coreReset : Shape s.coreReset := ⟨rfl, rfl, Nat.zero_le _, rfl, rfl, rfl⟩

theorem Shape.tempFault {th : Int} (h : Shape s) : Shape (s.tempFault code th) := .ite (.found h) (.ite (.foundEnd h) h)

theorem Shape.latchAddr (h : Shape s) : Shape (s.latchAddr lane) := .ite h (.checkStart (.ite (.followLinks h) h))

theorem Shape.answerRefresh (h : Shape s) : Shape (s.answerRefresh lane) := .ite h h

theorem Shape.endRefresh {crc : BitVec 64} (h : Shape s) : Shape (s.endRefresh n m crc) := h

theorem Shape.refreshFail (h : Shape s) : Shape s.refreshFail := .ite h (.endRefresh h)

/-! ### Safety channels (R443 to R471) -/

theorem Shape.updChan {f : Chan → Chan} (h : Shape s) : Shape (s.updChan c f) := by cases c <;> exact h

theorem Shape.safetyDemand {st : InState} (h : Shape s) : Shape (s.safetyDemand n st) := .collectOwn (.frame (.irq7 h) rfl)

theorem Shape.safetyClear {st : InState} {mark : Bool} (h : Shape s) : Shape (s.safetyClear n st mark) := .collectOwn h

theorem Shape.followInput (h : Shape s) : Shape (s.followInput n) := by
  unfold State.followInput
  dsimp only
  refine .settle (.ite (.safetyDemand ?followed) (.ite (.safetyClear ?followed) ?followed))
  exact .updChan (.updChan h)

theorem Shape.restartPulse (h : Shape s) : Shape s.restartPulse := by
  refine .foldl (fun s n h => ?_) h
  exact .ite (.settle (.safetyClear (.updChan (.updChan h)))) h

theorem Shape.endLockout (h : Shape s) : Shape s.endLockout := by
  refine .foldl (fun _ _ => .followInput) (.settle (.ite ?ended (.frame ?ended rfl)))
  refine .foldl (fun _ _ h => .collectOwn (.frame h rfl)) ?_
  exact .foldl (fun _ _ => .endSource) (.updChan (.updChan h))

theorem Shape.setDark {on : Bool} (h : Shape s) : Shape (s.setDark c m on) := .updChan h

theorem Shape.startTest (h : Shape s) : Shape (s.startTest m) := .settle (.setDark h)

theorem Shape.testFail {sw by_ us : Nat} (h : Shape s) : Shape (s.testFail m sw by_ us) :=
  .collectOwn (.safetyF2 (.frame (.setDark (.setDark h)) rfl))

end

end Sys2Proof
end

section
/-!
SUPPORT. The shape of the state through the output drivers, the time unit, the fields and what goes to the nodes.
-/
namespace Sys2Proof
open Machine

section
variable {s : State} {n m i code : Nat} {r : Req} {l : List Byte} {ch : Channel} {o : CoefOwner} {t : Int} {k : FieldKey}

/-! ### Safe drive outputs and their drivers (R450 to R499) -/

theorem Shape.sdoRelease (h : Shape s) : Shape (s.sdoRelease n) := .settle (.frame h rfl)

theorem Shape.sdoApply (h : Shape s) : Shape (s.sdoApply n) := .settle (.frame h rfl)

theorem Shape.safetyAck (h : Shape s) : Shape (s.safetyAck n) := by
  unfold State.safetyAck
  dsimp only
  refine .ite (.frame ?settled rfl) ?settled
  exact .settle (.frame h rfl)

theorem Shape.shortFound {high shunt : Bool} {vbrg : BitVec 16} (h : Shape s) : Shape (s.shortFound m high shunt vbrg) := by
  unfold State.shortFound
  exact .settle (.frame (.irq7 (.frame h rfl)) rfl)

theorem Shape.sdoSupplySet (h : Shape s) : Shape (s.sdoSupplySet n) := by
  unfold State.sdoSupplySet
  exact .settle (.ite h (.ite (.foldl (fun _ _ h => .frame h rfl) h) h))

/-! ### The time unit (R376 to R407) -/

theorem Shape.servoLaw {x y : Int} (h : Shape s) : Shape (s.servoLaw x y) := .ite h (.ite (.foundEnd (.frame h rfl)) (.frame h rfl))

theorem Shape.phcStep (h : Shape s) : Shape (s.phcStep t) := .found (.irq7 (.frame h rfl))

theorem Shape.measure {at_ : Int} (h : Shape s) : Shape (s.measure t at_) := by
  unfold State.measure
  dsimp only
  split
  · exact h
  · exact .frame (.ite (.phcStep (.frame h rfl)) (.servoLaw (.frame h rfl))) rfl
  · exact .ite h (.servoLaw (.frame h rfl))
  · exact .foundEnd (.frame h rfl)

theorem Shape.ptpOffset {t2 corr : Int} (h : Shape s) : Shape (s.ptpOffset t t2 corr) := .ite (.measure (.frame h rfl)) (.frame h rfl)

theorem Shape.selectMaster {x : PtpMsg} (h : Shape s) : Shape (s.selectMaster x) := by
  refine .ite (.frame ?selected rfl) ?selected
  exact .ite (.collectOwn (.frame h rfl)) (.frame h rfl)

theorem Shape.hearAnnounce {x : PtpMsg} (h : Shape s) : Shape (s.hearAnnounce x) :=
  .ite (.ite h (.selectMaster h)) (.ite (.selectMaster h) h)

theorem Shape.mapInForce (h : Shape s) : Shape s.mapInForce := by
  unfold State.mapInForce
  split
  · exact h
  · exact .ite (.ite (.found (.irq7 (.frame h rfl))) (.irq7 (.frame h rfl))) (.frame h rfl)

theorem Shape.missPulse (h : Shape s) : Shape (s.missPulse n m) := .found (.irq7 (.frame h rfl))

theorem Shape.ppsSet (h : Shape s) : Shape (s.ppsSet n) := by
  unfold State.ppsSet
  dsimp only
  split
  · exact .ite (.missPulse (.frame h rfl)) (.frame h rfl)
  · exact h
  · exact h

theorem Shape.captureServo {c : Capture} (h : Shape s) : Shape (s.captureServo n c) := .ite h (.measure (.ite (.frame h rfl) h))

/-! ### Values of fields (R569, R87 to R99) -/

theorem Shape.expWritten (h : Shape s) : Shape (s.expWritten o n t) := by
  refine .ite ?freed (.setCoef ?freed)
  exact .setCoef h

theorem Shape.trimCoefs (h : Shape s) : Shape (s.trimCoefs o) := .setCoef h

theorem Shape.limitWritten (h : Shape s) : Shape (s.limitWritten n) := by
  unfold State.limitWritten
  split
  · exact .ite h h
  · exact h

theorem Shape.timeWritten (h : Shape s) : Shape (s.timeWritten k n m) :=
  .ite h (.ite (.ite h h) (.ite (.ite h h) (.ite (.ppsSet h) h)))

theorem Shape.outputWritten (h : Shape s) : Shape (s.outputWritten k n) :=
  .ite h (.ite (.sdoSupplySet h) (.ite h (.settle h)))

theorem Shape.fieldHook (h : Shape s) : Shape (s.fieldHook k n m t) := by
  unfold State.fieldHook
  split
  · exact .ite (.expWritten h) (.ite (.trimCoefs h) h)
  · exact .ite (.expWritten h) (.ite (.trimCoefs h) h)
  · exact .ite (.limitWritten h) h
  · exact .ite h h
  · exact .ite (.followLinks h) h
  · exact .ite (.checkStart h) h
  · exact .timeWritten h
  · exact .outputWritten h
  · exact .ite h h
  · exact h

theorem Shape.setField {v : BitVec 64} (h : Shape s) : Shape (s.setField k v) := .fieldHook (.frame h rfl)

theorem Shape.applyFields {x : List (FieldKey × BitVec 64)} (h : Shape s) : Shape (s.applyFields x) := .foldl (fun _ _ => .setField) h

/-! ### What the lane sends to nodes (R239 to R247) -/

theorem Shape.sendAcyc (h : Shape s) : Shape (s.sendAcyc ch i l) := .ite h h

theorem Shape.portDelayOf (h : Shape s) : Shape (s.portDelayOf ch i).2 := by
  unfold State.portDelayOf
  split <;> exact h

theorem Shape.sendSchedule {r : NodeRt} (h : Shape s) : Shape (s.sendSchedule r) := by
  unfold State.sendSchedule
  dsimp only
  split
  · exact h
  refine .foldl (fun s ch h => ?_) ?_
  · split
    · exact .frame (.sendAcyc (.portDelayOf h)) rfl
    · exact .portDelayOf h
  · split <;> exact h

theorem Shape.sendReq {q : NodeReq} (h : Shape s) : Shape (s.sendReq q) := .foldl (fun _ _ => .sendAcyc) h

end

end Sys2Proof
end

section
/-!
SUPPORT. The shape of the state through the local commands and the output vote.
-/
namespace Sys2Proof
open Machine

section
variable {s : State} {n m i code : Nat} {r : Req} {lane : Lane}

/-! ### Local commands (R563, R576 to R590) -/

theorem Shape.timeRead (h : Shape s) : Shape (timeRead s r).2 := by
  unfold Machine.timeRead
  split <;> exact h

theorem Shape.ethSend (h : Shape s) : Shape (ethSend s r).2 := by
  unfold Machine.ethSend
  dsimp only
  split
  · exact h
  split
  · exact h
  split
  · exact h
  · exact .ite h h

theorem Shape.ethRecv (h : Shape s) : Shape (ethRecv s r).2 := by
  unfold Machine.ethRecv
  split
  · exact h
  dsimp only
  split
  · exact h
  · exact .ite h h

theorem Shape.watermarkProgram (h : Shape s) : Shape (watermarkProgram s r).2 := by
  unfold Machine.watermarkProgram
  dsimp only
  repeat' split
  all_goals exact h

theorem Shape.fwOpen (h : Shape s) : Shape (fwOpen s r).2 := by
  unfold Machine.fwOpen
  dsimp only
  repeat' split
  all_goals exact h

theorem Shape.fwWrite (h : Shape s) : Shape (fwWrite s r).2 := by
  unfold Machine.fwWrite
  dsimp only
  repeat' split
  all_goals exact h

theorem Shape.fwClose (h : Shape s) : Shape (fwClose s r).2 := by
  unfold Machine.fwClose
  dsimp only
  repeat' split
  all_goals exact h

theorem Shape.standby (h : Shape s) : Shape (standby s r).2 := by
  unfold Machine.standby
  repeat' split
  all_goals exact h

theorem Shape.clusterStart (h : Shape s) : Shape (clusterStart s r).2 := by
  unfold Machine.clusterStart
  repeat' split
  all_goals exact h

theorem Shape.laneRejoin (h : Shape s) : Shape (laneRejoin s r).2 := by
  unfold Machine.laneRejoin
  repeat' split
  all_goals exact h

/-! ### The output vote (R337 to R354) -/

theorem Shape.sendVote (h : Shape s) : Shape s.sendVote := .ite h h

theorem Shape.mismatchFound (h : Shape s) : Shape s.mismatchFound := .ite h (.frame (.irq7 (.frame h rfl)) rfl)

theorem Shape.reportStay {r : FaultRep} (h : Shape s) : Shape (s.reportStay r) := .ite h h

theorem Shape.voteOutcome (h : Shape s) : Shape s.voteOutcome := by
  refine .ite h ?_
  dsimp only
  split
  · exact .reportStay (.decideLeave (.foldl (fun _ _ => .event) h))
  · refine .ite (.reportStay ?axes) ?axes
    exact .foldl (fun _ _ h => .reportStay (.frame h rfl)) (.foldl (fun _ _ => .event) h)

theorem Shape.trialResult (h : Shape s) : Shape s.trialResult := by
  unfold State.trialResult
  split
  · refine .ite h ?_
    split
    · exact .ite (.frame (.eventBody (.decideJoin (.frame h rfl))) rfl) (.ite (.recouch (.frame h rfl)) (.frame h rfl))
    · exact h
  · exact h

theorem Shape.startRealign (h : Shape s) : Shape (s.startRealign n) := by
  unfold State.startRealign
  dsimp only
  split
  · exact .ite h h
  · exact h

theorem Shape.adopt (h : Shape s) : Shape s.adopt := by
  refine .frame (.foldl (fun s n h => ?_) h) rfl
  split <;> exact h

end

end Sys2Proof
end

section
/-!
SUPPORT. The shape of the state through the mailboxes and the command order.
-/
namespace Sys2Proof
open Machine

section
variable {s : State} {n m i code : Nat} {r : Req} {a : Accepted} {lane : Lane}

/-! ### Mailboxes and the command order (R29, R30, R541 to R546, R563) -/

theorem Shape.respond {v : Verdict} (h : Shape s) : Shape (s.respond r v n) := by
  unfold State.respond
  split
  · exact .irq (.updBox h)
  · exact h

theorem Shape.boxWait (h : Shape s) : Shape (s.boxWait r) := by
  unfold State.boxWait
  split
  · exact .updBox h
  · exact h

theorem Shape.turnAway {x : Held} {v : Verdict} (h : Shape s) : Shape (s.turnAway x v n) := by
  unfold State.turnAway
  split
  · exact .respond h
  all_goals exact h

theorem Shape.acceptOp (h : Shape s) : Shape (s.acceptOp r n) := by
  unfold State.acceptOp
  split
  · exact h
  · exact .acceptCommit h
  · exact .effectDiscard h
  case h_7 => exact .acceptCoeffWrite h
  all_goals exact h

theorem Shape.accept (h : Shape s) : Shape (s.accept a) := by
  refine .frame (s := match a.body with | .cmd r => s.acceptOp r a.eff | _ => s) ?_ rfl
  split
  · exact .acceptOp h
  · exact h

theorem Shape.wakeRefresh (h : Shape s) : Shape s.wakeRefresh := .ite h h

theorem Shape.commitEffect {cap : List (FieldKey × BitVec 64)} (h : Shape s) : Shape (s.commitEffect r cap) := by
  refine .ite h ?_
  split
  · exact h
  · refine .foldl (fun s n h => .frame ?_ rfl) h
    exact .ite h h

theorem Shape.takeover (h : Shape s) : Shape (s.takeover r) :=
  .ite (.applyLeaving (.reportStay (.decideLeave (.wakeSpare h)))) (.wakeSpare h)

theorem Shape.effectOp {cap : List (FieldKey × BitVec 64)} (h : Shape s) : Shape (s.effectOp r cap) := by
  unfold State.effectOp
  split
  · exact .applyFields h
  · exact .commitEffect h
  · exact .stopCluster h
  · exact .ite h (.ack h)
  · exact .faultClear h
  · exact .faultRaise h
  case h_7 | h_8 | h_9 | h_10 => exact h
  · exact .groupMoveEffect h
  · exact .branchCtrl h
  case h_13 | h_14 => exact h
  · exact .ite (.passVoice h) h
  · exact .wakeRefresh h
  · exact .takeover h
  · exact .acqArm h
  · exact .acqStop h
  · exact h
  · exact .ite (.sdoRelease h) h
  · exact .ite (.sdoApply h) h
  · exact .ite (.safetyAck h) h
  · exact h
  · exact h

theorem Shape.voidOn (h : Shape s) : Shape (s.voidOn n r m) := .ite h (.ite (.event h) (.event h))

theorem Shape.effectOnAxes (h : Shape s) : Shape (s.effectOnAxes a r) := by
  refine .foldl (fun s n h => ?_) h
  split
  · exact .voidOn h
  · exact .ite (.axisEffect h) h

theorem Shape.effectBody (h : Shape s) : Shape (s.effectBody a).1 := by
  unfold State.effectBody
  split
  · exact .takeFault h
  · exact .takeFault h
  · exact .ite (.frame (.eventBody h) rfl) (.eventBody h)
  · exact .ite h h
  · exact h
  · exact .ite (.settle (.frame (.endSource h) rfl)) (.endSource h)
  · exact .ite (.eventBody h) (.foldl (fun _ _ => .effectOnAxes) (.eventBody h))
  · exact .acqDone h
  · exact .kernelOutcome h
  · exact h

theorem Shape.effectOne (h : Shape s) : Shape (s.effectOne a).1 := by
  unfold State.effectOne
  split
  · exact .ite (.effectOnAxes h) (.effectOp h)
  · exact .effectBody h

theorem Shape.serveLocal (h : Shape s) : Shape (s.serveLocal r).2 := by
  unfold State.serveLocal
  split
  case h_3 => exact .clusterStart h
  case h_11 => exact .laneRejoin h
  case h_12 => exact .timeRead h
  case h_13 => exact .ethSend h
  case h_14 => exact .ethRecv h
  case h_16 => exact .watermarkProgram h
  case h_18 => exact .fwOpen h
  case h_19 => exact .fwWrite h
  case h_20 => exact .fwClose h
  case h_21 => exact .standby h
  all_goals exact h

theorem Shape.serveAlone (h : Shape s) : Shape (s.serveAlone r).2 := by
  unfold State.serveAlone
  split
  · exact .ite (.applyFields h) h
  · exact .ite (.ack h) h
  · exact .ite (.sdoApply h) h
  · exact .ite (.safetyAck h) h
  all_goals exact h

theorem Shape.serve (h : Shape s) : Shape (s.serve r) := by
  unfold State.serve
  split
  · exact .respond (.ite (.found h) h)
  · exact .ite (.respond (.serveLocal h)) (.ite (.respond (.serveAlone h)) (.ite h h))

theorem Shape.bellIgnored (h : Shape s) : Shape (s.bellIgnored n) := .updBox h

theorem Shape.submit (h : Shape s) : Shape (s.submit n r) := by
  unfold State.submit
  split
  · exact h
  · exact .ite h (.ite (.bellIgnored h) (.serve (.updBox h)))

theorem Shape.releaseBox (h : Shape s) : Shape (s.releaseBox n) := by
  unfold State.releaseBox
  split
  · exact h
  · exact .ite h (.ite (.bellIgnored h) (.updBox h))

theorem Shape.takeEffect (h : Shape s) : Shape (s.takeEffect r) := by
  unfold State.takeEffect
  split
  · exact .ite (.foldl (fun _ _ => .actF2) (.effectOne (.frame h rfl))) h
  · exact h

theorem Shape.opRow {ph : Phase} (h : Shape s) : Shape (s.opRow code ph r) := by
  unfold State.opRow
  cases ph with
  | effect => exact .takeEffect h
  | service =>
    dsimp only
    split
    · exact .submit h
    · exact .ite h h
    · exact h

/-- What a cut leaves of the lane itself has the shape of the state that it cuts. -/
theorem Shape.cutStep {c : Cut} {x : Held} (h : Shape c.real) : Shape (c.step x).real := by
  unfold Cut.step
  dsimp only
  split
  · exact .ite (.boxWait h) h
  split
  · exact h
  split
  · exact .turnAway h
  split
  · exact .turnAway h
  split
  · exact .ite (.boxWait h) h
  · exact .turnAway h

theorem Shape.cutFoldl : ∀ {l : List Held} {c : Cut}, Shape c.real → Shape (l.foldl Cut.step c).real
  | [], _, h => h
  | _ :: l, _, h => Shape.cutFoldl (l := l) (.cutStep h)

theorem Shape.sealCut (h : Shape s) : Shape s.sealCut := by
  have hc : Shape s.cut.real := .cutFoldl (.frame h rfl)
  exact .ite (.frame hc rfl) (.frame (.foldl (fun _ _ h => .frame h rfl) (.frame hc rfl)) rfl)

theorem Shape.applySeal {x : Seal} (h : Shape s) : Shape (s.applySeal x) := by
  refine .frame (.foldl (fun s a h => ?_) h) rfl
  dsimp only
  split
  · exact .ite (.respond (.accept h)) (.accept h)
  · exact .accept h

theorem Shape.voiceMoved (h : Shape s) : Shape s.voiceMoved := .ite h h

theorem Shape.sealEnd (h : Shape s) : Shape s.sealEnd := by
  unfold State.sealEnd
  refine .voiceMoved ?_
  split
  · exact h
  · exact .ite (.applySeal h) h

theorem Shape.captureCouch (h : Shape s) : Shape s.captureCouch := by
  unfold State.captureCouch
  dsimp only
  split
  · exact .ite (.frame (.ite h h) rfl) h
  · exact h

theorem Shape.sendReplay {agreed : List (Nat × List Byte)} {bodies : List Accepted} (h : Shape s) :
    Shape (s.sendReplay n agreed bodies) := by
  unfold State.sendReplay
  dsimp only
  split
  · exact .ite h h
  · exact h

theorem Shape.captureSave (h : Shape s) : Shape s.captureSave := by
  unfold State.captureSave
  split
  · exact .ite h h
  · exact h

theorem Shape.endCycle (h : Shape s) : Shape s.endCycle := by
  refine .ite (.stopCluster (.frame ?ended rfl)) ?ended
  exact .frame (.starCycleEnd (.netCycleEnd (.captureSave (.captureCouch (.sealEnd h))))) rfl

end

end Sys2Proof
end

section
/-!
SUPPORT. The shape of the state through the start of a cycle and the host port.
-/
namespace Sys2Proof
open Machine

section
variable {s : State} {n m o : Nat} {v : BitVec 32} {l : List Byte} {a : Accepted}

/-! ### The start of a cycle (R227, R331) -/

theorem Shape.leaveAxis {a : Axis} (h : Shape s) : Shape (s.leaveAxis a) := by
  refine .foldl (fun s w h => ?_) (.foldl (fun _ _ => .event) h)
  split
  · exact .voidOn h
  · exact h

theorem Shape.mapInto {p : PendingMap} (h : Shape s) : Shape (s.mapInto p) := by
  refine .loadScheds (.foldl (fun s b h => ?_) (.applyFields (.foldl (fun _ _ => .leaveAxis) (.frame h rfl))))
  exact .ite h h

theorem Shape.lateSchedules (h : Shape s) : Shape s.lateSchedules := .foldl (fun _ _ => .reportAll) h

theorem Shape.matrixStart (h : Shape s) : Shape s.matrixStart := by
  refine .ite h (.lateSchedules ?_)
  split
  · exact .ite (.mapInto (.foldl (fun _ _ => .commitEffect) h)) h
  · exact h

theorem Shape.takeWaiting (h : Shape s) : Shape (s.takeWaiting n) := by
  unfold State.takeWaiting
  split
  · exact h
  refine .foldl (fun s w h => ?_) (.frame h rfl)
  split
  · exact .axisEffect h
  · exact .faultAxis h

theorem Shape.afterReport (h : Shape s) : Shape (s.afterReport a) := by
  unfold State.afterReport
  split
  · exact .ite (.decideLeave h) h
  · exact h

theorem Shape.lateF2 {r : FaultRep} (h : Shape s) : Shape (s.lateF2 r) := by
  unfold State.lateF2
  dsimp only
  split
  · exact .startRealign (.actF2 h)
  · exact .actF2 h

/-- The same for steps that keep a value beside the state. -/
theorem Shape.foldl_fst {α β : Type} {f : State × β → α → State × β} (hf : ∀ p a, Shape p.1 → Shape (f p a).1) :
    ∀ {l : List α} {p : State × β}, Shape p.1 → Shape (l.foldl f p).1
  | [], _, h => h
  | a :: l, p, h => Shape.foldl_fst (l := l) hf (hf p a h)

theorem Shape.takeAccepted (h : Shape s) : Shape s.takeAccepted := by
  unfold State.takeAccepted
  dsimp only
  exact .foldl (fun _ _ => .lateF2) (.foldl_fst (fun _ _ h => .afterReport (.effectOne h)) h)

theorem Shape.refreshAtStart (h : Shape s) : Shape s.refreshAtStart := .ite (.wakeRefresh h) h

theorem Shape.startCycle (h : Shape s) : Shape s.startCycle := by
  unfold State.startCycle
  refine .formSetpoints (.coefSteps (.releaseQueue (.takeAccepted (.foldl (fun _ _ => .takeWaiting) (.foldl (fun _ _ => .beginDue) ?_)))))
  exact .matrixStart (.adopt (.frame h rfl))

theorem Shape.beginTrial (h : Shape s) : Shape s.beginTrial := .ite h h

/-! ### The host port (R529 to R537) -/

theorem Shape.w1c (h : Shape s) : Shape (s.w1c o v) := by
  unfold State.w1c
  dsimp only
  exact .ite h (.ite (.updBox h) (.ite h (.ite h (.ite h (.ite h (.ite h (.ite h (.ite (.updBranch h) (.ite h h)))))))))

theorem Shape.evtRd (h : Shape s) : Shape (s.evtRd v) := .ite (.collectOwn h) h

theorem Shape.restartWdt (h : Shape s) : Shape s.restartWdt := .foundEnd (.frame h rfl)

theorem Shape.mbCtrl (h : Shape s) : Shape (s.mbCtrl n v) := by
  unfold State.mbCtrl
  dsimp only
  refine .ite (.releaseBox ?rung) ?rung
  refine .ite ?_ (.w1c h)
  split
  · exact .submit (.w1c h)
  · exact .w1c h

/-- The MSI-X area stays canonical (log entry 10). -/
theorem Shape.wordWrite (h : Shape s) : Shape (s.wordWrite o v) := by
  refine .ite (.mbCtrl h) (.ite (.restartWdt h) (.ite h (.ite h (.ite h (.ite (.evtRd h) (.ite h (.ite ?_ (.w1c h))))))))
  obtain ⟨hmem, hmsix, hrest⟩ := h
  exact ⟨hmem, Laws.memWriteN_wf _ _ _ hmsix, hrest⟩

theorem Shape.cmdWrite (h : Shape s) : Shape (s.cmdWrite n m l) := .updBox h

theorem Shape.wordsWrite : ∀ {l : List (BitVec 32)} {s : State} {o : Nat}, Shape s → Shape (s.wordsWrite o l)
  | [], _, _, h => h
  | v :: r, s, o, h => by
    refine Shape.wordsWrite (l := r) ?_
    split
    · exact .cmdWrite h
    · exact .wordWrite h

theorem Shape.regWrite (h : Shape s) : Shape (s.regWrite o l) := by
  unfold State.regWrite
  split
  · exact .cmdWrite h
  · exact .ite (.wordsWrite h) h

theorem Shape.readEffect (h : Shape s) : Shape (s.readEffect n) := .ite h (.ite h h)

theorem Shape.mspiBytes : ∀ {n : Nat} {s : State} {a : Nat}, Shape s → Shape (s.mspiBytes a n).2
  | 0, _, _, h => h
  | n + 1, _, _, h => Shape.mspiBytes (n := n) (.ite (.readEffect h) h)

end

end Sys2Proof
end

section
/-!
SUPPORT. Outcomes of the right shape; the rows of feedback, of the network, of the input consensus and of the compute window.
-/
namespace Sys2Proof
open Machine

/-- An outcome that answers a next state answers one of the right shape. -/
def Shaped : Host.Outcome State Fault Refusal → Prop
  | .next t => Shape t
  | .fault _ => True
  | .refused _ => True

theorem Shaped.next {s : State} (h : Shape s) : Shaped (.next s) := h

theorem Shaped.ite {c : Prop} [Decidable c] {o p : Host.Outcome State Fault Refusal} (ho : Shaped o) (hp : Shaped p) :
    Shaped (if c then o else p) := by
  split
  · exact ho
  · exact hp

section
variable {s : State} {n b p : Nat} {l : List Byte} {lane : Lane} {ok own : Bool} {ch : Channel} {sof eof : Int}

/-! ### Rows of feedback and of the network (Tables of chapters 5 to 8) -/

theorem Shape.execLocalFeedbackEdge {e : LocalEdge} (h : Shape s) : Shaped (execLocalFeedbackEdge n e b s) :=
  .next (.frame (.ite (.latchLocal h) h) rfl)

theorem Shape.execIndexPolicyAction (h : Shape s) : Shaped (execIndexPolicyAction n s) := by
  refine .next ?_
  split
  · exact h
  split
  · exact h
  dsimp only
  split
  · exact .ite h (.applyShift h)
  · exact .computed h
  · exact h

theorem Shape.execRealignShiftApply (h : Shape s) : Shaped (execRealignShiftApply n s) := by
  refine .next ?_
  split
  · exact h
  split
  · exact .ite h (.applyShift h)
  · exact h

theorem Shape.execFeedbackSignalLimit (h : Shape s) : Shaped (execFeedbackSignalLimit n s) := by
  refine .next ?_
  split
  · exact .ite (.computed h) h
  · exact h

theorem Shape.execFeedbackSerialLimit (h : Shape s) : Shaped (execFeedbackSerialLimit n s) := by
  refine .next ?_
  split
  · exact .ite (.frame (.computed h) rfl) h
  · exact h

theorem Shape.execFeedbackTransitionLimit (h : Shape s) : Shaped (execFeedbackTransitionLimit n s) := by
  refine .next ?_
  split
  · exact .ite (.frame (.computed h) rfl) h
  · exact h

theorem Shape.execFeedbackSensorLimit (h : Shape s) : Shaped (execFeedbackSensorLimit n s) := by
  refine .next ?_
  split
  · exact .ite (.computed h) h
  · exact h

theorem Shape.execListenTimeout (h : Shape s) : Shaped (execListenTimeout s) := .next (.ite (.frame h rfl) h)

theorem Shape.syncEntered (h : Shape s) : Shape (s.syncEntered n) := .event h

theorem Shape.execColdstartComplete (h : Shape s) : Shaped (execColdstartComplete s) :=
  .next (.ite (.syncEntered (.takeRole (.frame h rfl))) h)

theorem Shape.execIntegrateComplete (h : Shape s) : Shaped (execIntegrateComplete s) :=
  .next (.ite h (.ite (.frame h rfl) (.ite (.syncEntered (.takeRole (.frame h rfl))) h)))

theorem Shape.execNodeClosed (h : Shape s) : Shaped (execNodeClosed b p s) := by
  refine .next ?_
  split
  · exact h
  · exact .ite (.reportL (.updPos h)) h

theorem Shape.execNodeReopened (h : Shape s) : Shaped (execNodeReopened b p s) := by
  refine .next ?_
  split
  · exact h
  · exact .ite (.openPos h) h

theorem Shape.execFrameErrorLimit (h : Shape s) : Shaped (execFrameErrorLimit b s) := .next (.ite (.frame (.updBranch h) rfl) h)

theorem Shape.execBranchClosed (h : Shape s) : Shaped (execBranchClosed b s) := by
  refine .next ?_
  split
  · exact h
  · exact .ite (.reportL (.updBranch h)) h

theorem Shape.execBranchReopened (h : Shape s) : Shaped (execBranchReopened b s) := by
  refine .next ?_
  split
  · exact h
  · exact .ite (.openBranch h) h

theorem Shape.execLaneLinkDropLimit (h : Shape s) : Shaped (execLaneLinkDropLimit b lane s) := .next (.ite (.frame (.updBranch h) rfl) h)

theorem Shape.execProbeSend (h : Shape s) : Shaped (execProbeSend n p s) :=
  .next (.ite h (.ite (.frame h rfl) (.ite h (.updBranch (.frame h rfl)))))

theorem Shape.execProbeTimeout (h : Shape s) : Shaped (execProbeTimeout n p s) := .next (.ite (.updPos (.updBranch h)) h)

theorem Shape.execProbeIntervalExpiry (h : Shape s) : Shaped (execProbeIntervalExpiry b s) := by
  refine .next ?_
  split
  · exact .ite (.updBranch h) h
  · exact h

theorem Shape.execLaneFrameSend (h : Shape s) : Shaped (execLaneFrameSend s) := by
  refine .next (.ite h ?_)
  refine .ite (.frame ?sent rfl) ?sent
  refine .foldl (fun s n h => ?_) h
  exact .ite h h

theorem Shape.execLaneFrameReceived (h : Shape s) : Shaped (execLaneFrameReceived n l ok sof s) := by
  refine .next (.ite h (.ite h (.takeLaneFrame ?_)))
  exact .ite h h

theorem Shape.execOutvotedLimit (h : Shape s) : Shaped (execOutvotedLimit s) :=
  .next (.ite (.collectOwn (.frame (.silence (.frame (.leaveNow h) rfl)) rfl)) h)

theorem Shape.execUplinkFrameArrival (h : Shape s) : Shaped (execUplinkFrameArrival b l ok sof eof n s) := by
  refine .next ?_
  split
  · exact h
  refine .ite (.ite (.updPos (.updBranch h)) (.forwardUp (.updPos (.updBranch h)))) (.ite ?_ ?passed)
  case passed => exact .ite (.forwardUp (.updBranch h)) (.updBranch h)
  dsimp only
  split
  · refine .violate ?_
    exact .ite (.forwardUp (.updBranch h)) (.updBranch h)
  split
  · refine .violate ?_
    exact .ite (.forwardUp (.updBranch h)) (.updBranch h)
  · refine .violate (.frame ?_ rfl)
    exact .ite (.forwardUp (.updBranch h)) (.updBranch h)

theorem Shape.execDownlinkSlot {frames : List (Lane × Int × List Byte)} (h : Shape s) : Shaped (execDownlinkSlot b p frames s) := by
  unfold Machine.execDownlinkSlot
  extract_lets s1
  have h1 : Shape s1 := by
    refine .foldl (fun s c h => ?_) h
    split <;> exact h
  refine .next ?_
  clear_value s1
  split
  · exact h1
  dsimp only
  split
  · exact .foldl (fun _ _ => .dropFrame) h1
  split
  · refine .updBranch (.frame (.foldl (fun s f h => ?_) h1) rfl)
    exact .ite h (.dropFrame h)
  · refine .foldl (fun s f h => ?_) h1
    exact .ite h (.dropFrame h)

theorem Shape.execAcycDownForward (h : Shape s) : Shaped (execAcycDownForward b lane l sof s) := by
  refine .next ?_
  split
  · exact h
  · exact .ite (.ite (.updPos (.updBranch (.frame h rfl))) (.updBranch (.frame h rfl))) (.dropFrame h)

theorem Shape.execAcycUpAdmit (h : Shape s) : Shaped (execAcycUpAdmit b l ok sof eof s) := by
  refine .next ?_
  split
  · exact h
  dsimp only
  refine .ite (.updBranch h) (.ite (.violate (.updBranch h)) (.ite (.ite (.updBranch h) (.forwardUp (.updBranch h))) (.violate ?_)))
  exact .ite (.forwardUp (.updBranch h)) (.updBranch h)

theorem Shape.execNetworkIdleStart (h : Shape s) : Shaped (execNetworkIdleStart s) := by
  refine .next ?_
  refine .ite (.frame ?granted rfl) ?granted
  split
  · exact .foldl (fun _ _ => .sendGrant) (.frame h rfl)
  · exact h

/-- A link of a weir that is up may complete its path (R323). -/
theorem Shape.pathRestored {c : Prop} [Decidable c] {code : Nat} {loc : Loc} (h : Shape s) :
    Shape (if c then (s.setPath n p).reportEnd code loc else s) := .ite (.reportEnd (.setPath h)) h

theorem Shape.execLinkAligned (h : Shape s) : Shaped (execLinkAligned n s) := by
  have h1 : Shape (((s.setLink n .up).portState n .up).reportEnd 0x20A (locPort n)) := .reportEnd (.frame (.setLink h) rfl)
  refine .next (.ite (.ite (.updBranch h1) (.ite (.pathRestored ?_) (.frame (.updLink h1) rfl))) h)
  exact .ite (.frame (.updLink h1) rfl) (.frame (.updLink h1) rfl)

theorem Shape.execProbeAnswer (h : Shape s) : Shaped (execProbeAnswer b p n s) := by
  refine .next (.ite (.updLink h) ?_)
  split
  · exact h
  refine .ite h ?_
  dsimp only
  split
  · exact .ite (.frame (.updPos (.updBranch h)) rfl) (.updPos (.updBranch h))
  · exact .updPos (.updBranch h)

/-! ### Rows of the input consensus (R331 to R336) -/

theorem Shape.execUplinkCopyReceived (h : Shape s) : Shaped (execUplinkCopyReceived ch own l ok sof eof s) := by
  refine .next (.ite h (.ite h (.ite h ?_)))
  refine .ite ?timed (.ite (.ite (.agreeNode ?timed) ?timed) (.frame ?timed rfl))
  exact .ite (.nodeDeviation (.frame h rfl)) (.frame h rfl)

theorem Shape.execConsensusSend (h : Shape s) : Shaped (execConsensusSend s) :=
  .next (.ite h (.ite h (.ite h (.passBodies (.frame h rfl)))))

theorem Shape.execConsensusResolution (h : Shape s) : Shaped (execConsensusResolution s) := by
  refine .next (.ite h (.ite (.closeSimplex h) ?_))
  dsimp only
  refine .ite (.digestJudge ?judged) ?judged
  refine .ite (.frame ?closed rfl) (.frame ?closed rfl)
  refine .closeInputs (.agreeAcycs (.foldl (fun s i h => ?_) (.frame h rfl)))
  split
  · split
    · exact .agreeNode h
    · exact h
  · exact h

theorem Shape.execInputDigestReceived (h : Shape s) : Shaped (execInputDigestReceived n l s) := by
  refine .next ?_
  split
  · exact .ite (.ite (.digestJudge (.frame h rfl)) h) h
  · exact h

/-! ### Rows of the compute window (R20, R66, R105, R107) -/

theorem Shape.execMirrorComplete (h : Shape s) : Shaped (execMirrorComplete s) := by
  refine .next ?_
  split
  · refine .ite (.irq ?told) ?told
    exact .ite (.frame h rfl) (.dma (.frame h rfl))
  · exact h

theorem Shape.execSnapshotSwitch (h : Shape s) : Shaped (execSnapshotSwitch s) :=
  .next (.ite h (.startMirror (.frame (.writeRecords (.frame h rfl)) rfl)))

theorem Shape.execComputeWindowOpen (h : Shape s) : Shaped (execComputeWindowOpen s) := by
  unfold Machine.execComputeWindowOpen
  refine .next (.ite (.frame ?closed rfl) (.foldl (fun _ _ h => .dispatchNext (.updEngine h)) (.frame ?closed rfl)))
  exact .ite (.closeSimplex h) h

theorem Shape.execAxisRunEnd {e : Fin 16} (h : Shape s) : Shaped (execAxisRunEnd e s) := by
  unfold Machine.execAxisRunEnd
  split
  · exact h
  split
  · exact h
  split
  · exact h
  split
  · split
    · trivial
    · exact .ite (.next (.dispatchNext (.finishRun (.commitCtx (.updEngine h))))) (.next (.updEngine h))
  · exact .ite (.next h) (.next (.dispatchNext (.finishRun (.updEngine (.frame h rfl)))))

theorem Shape.execEngineEccUncorrectable {e : Fin 16} (h : Shape s) : Shaped (execEngineEccUncorrectable e s) := by
  unfold Machine.execEngineEccUncorrectable
  split
  · exact h
  · exact .next (.dispatchNext (.collectOwn (.frame (.updEngine h) rfl)))

end

end Sys2Proof
end

section
/-!
SUPPORT. The rows of the computation, of the acquisition, of the faults and of couching keep the shape.
-/
namespace Sys2Proof
open Machine

section
variable {s : State} {n : Nat} {l : List Byte} {lane : Lane}

/-! ### Rows of the computation, the acquisition and the faults -/

theorem Shape.execConsensusReceived (h : Shape s) : Shaped (execConsensusReceived n l s) := by
  refine .next ?_
  split
  · exact .ite h h
  · exact h

theorem Shape.execInputDeficient (h : Shape s) : Shaped (execInputDeficient s) :=
  .next (.ite (.decideLeave (.frame h rfl)) h)

theorem Shape.execSampleLossLimit (h : Shape s) : Shaped (execSampleLossLimit n s) := .next (.ite (.computedAxis h) h)

theorem Shape.execFollowingError (h : Shape s) : Shaped (execFollowingError n s) := .next (.ite (.computedAxis h) h)

theorem Shape.execNumericPersist (h : Shape s) : Shaped (execNumericPersist n s) := .next (.ite (.computedAxis h) h)

theorem Shape.execEngineEccCorrected {e : Fin 16} (h : Shape s) : Shaped (execEngineEccCorrected e s) :=
  .next (.collectOwn (.frame (.updEngine h) rfl))

theorem Shape.execComputeWindowClose (h : Shape s) : Shaped (execComputeWindowClose s) :=
  .next (.acquire (.ite (.frame (.takeComputed (.closeEngines (.frame h rfl))) rfl) (.frame h rfl)))

theorem Shape.execAcqPreFilled (h : Shape s) : Shaped (execAcqPreFilled s) := .next (.ite (.frame h rfl) h)

theorem Shape.execAcqPostComplete (h : Shape s) : Shaped (execAcqPostComplete s) :=
  .next (.ite (.ite (.acqComplete (.frame h rfl)) (.frame h rfl)) h)

theorem Shape.execF3Detect (h : Shape s) : Shaped (execF3Detect n s) := .next (.ite (.enterF3 h) h)

theorem Shape.execHandlingTimerExpiry {i : BitVec 32} (h : Shape s) : Shaped (execHandlingTimerExpiry i s) := by
  refine .next ?_
  split
  · exact .releaseQueue (.expire h)
  · exact h

theorem Shape.execHostWatchdogExpiry (h : Shape s) : Shaped (execHostWatchdogExpiry s) := .next (.ite h (.found h))

theorem Shape.execKernelVerified (h : Shape s) : Shaped (execKernelVerified s) := by
  refine .next ?_
  split
  · refine .ite ?_ h
    split <;> exact h
  · exact h

theorem Shape.execKernelLoadLapse (h : Shape s) : Shaped (execKernelLoadLapse s) := by
  refine .next ?_
  split
  · exact .ite (.frame h rfl) h
  · exact h

/-! ### Couching and its replay (R365 to R371) -/

theorem Shape.install {p : List CouchPart} (h : Shape s) : Shape (s.install p) := by
  unfold State.install
  dsimp only
  split
  · exact h
  · exact .loadScheds (.frame h rfl)

theorem Shape.nextOr {o : Host.Outcome State Fault Refusal} (h : Shape s) (ho : Shaped o) : Shape (nextOr s o) := by
  cases o with
  | next t => exact ho
  | fault _ => exact h
  | refused _ => exact h

theorem Shape.runEngine {e : Fin 16} : ∀ {n : Nat} {s : State}, Shape s → Shape (s.runEngine e n)
  | 0, _, h => h
  | n + 1, s, h => by
    unfold State.runEngine
    exact .runEngine (.nextOr h (Shape.execAxisRunEnd h))

theorem Shape.runEngines (h : Shape s) : Shape s.runEngines := .foldl (fun _ _ h => .runEngine h) h

theorem Shape.replayCompute (h : Shape s) : Shape (Machine.nextOr s (Machine.execComputeWindowOpen s)).runEngines :=
  .runEngines (.nextOr h (Shape.execComputeWindowOpen h))

theorem Shape.replayClose (h : Shape s) : Shape (Machine.nextOr s (Machine.execComputeWindowClose s)) :=
  .nextOr h (Shape.execComputeWindowClose h)

theorem Shape.replaySnapshot (h : Shape s) : Shape (Machine.nextOr s (Machine.execSnapshotSwitch s)) :=
  .nextOr h (Shape.execSnapshotSwitch h)

theorem Shape.replayOne {r : Replay} (h : Shape s) : Shape (s.replayOne r) := by
  unfold State.replayOne
  refine .frame (.foldl (fun _ _ => .accept) (.replaySnapshot (.replayClose (.replayCompute (.closeInputs ?agreed))))) rfl
  refine .foldl (fun s p h => ?_) (.startCycle (.frame h rfl))
  exact .ite (.agreeNode h) (.nodeService h)

theorem Shape.replayLog : ∀ {n : Nat} {s : State}, Shape s → Shape (s.replayLog n)
  | 0, _, h => h
  | n + 1, s, h => by
    unfold State.replayLog
    split
    · exact h
    split
    · exact h
    · exact .replayLog (.replayOne (.frame h rfl))

theorem Shape.tryCommit (h : Shape s) : Shape s.tryCommit := by
  unfold State.tryCommit
  dsimp only
  split
  · exact .ite h (.replayLog (.frame (.frame (.install h) rfl) rfl))
  · exact h

theorem Shape.execCouchReqReceived {c : List (BitVec 32)} (h : Shape s) : Shaped (execCouchReqReceived lane c s) := by
  unfold Machine.execCouchReqReceived
  refine .next (.ite h (.ite (.frame (.ite ?_ (.frame ?_ rfl)) rfl) (.frame h rfl)))
  all_goals exact .frame h rfl

theorem Shape.execFrameRequest {c m : Nat} (h : Shape s) : Shaped (execFrameRequest lane c m s) := by
  refine .next (.ite h ?_)
  split <;> exact h

theorem Shape.execJoinReceived (h : Shape s) : Shaped (execJoinReceived lane s) := .next (.ite (.frame h rfl) h)

theorem Shape.execCouchDataReceived {p : CouchPart} (h : Shape s) : Shaped (execCouchDataReceived p s) := .next (.ite (.frame h rfl) h)

theorem Shape.execCouchEndReceived {c : BitVec 64} (h : Shape s) : Shaped (execCouchEndReceived c s) :=
  .next (.ite (.tryCommit (.frame h rfl)) h)

theorem Shape.execCouchConfirmReceived {e : BitVec 16} {c : BitVec 64} (h : Shape s) : Shaped (execCouchConfirmReceived lane n e c s) :=
  .next (.ite (.tryCommit (.frame h rfl)) h)

theorem Shape.execReplayReceived {r : Replay} (h : Shape s) : Shaped (execReplayReceived r s) :=
  .next (.ite (.ite (.replayLog (.frame h rfl)) (.frame h rfl)) h)

theorem Shape.execCouchAbandon (h : Shape s) : Shaped (execCouchAbandon s) := .next (.ite (.recouch h) h)

theorem Shape.execCatchUpComplete (h : Shape s) : Shaped (execCatchUpComplete s) :=
  .next (.ite (.frame (.startCycle (.frame h rfl)) rfl) h)
end

end Sys2Proof
end

section
/-!
SUPPORT. The rows of the supplies, the resets, the start and the lane chain keep the shape.
-/
namespace Sys2Proof
open Machine

section
variable {s : State} {n m : Nat} {l : List Byte} {lane : Lane} {chan : SafeChan} {ok : Bool}

/-! ### Rows of supplies, resets and the start (Tables of chapters 13 and 16) -/

theorem Shape.execVaonPowerOn (h : Shape s) : Shaped (execVaonPowerOn s) := .next (.frame h rfl)

theorem Shape.execVddCorePor : Shaped (execVddCorePor s) := .next (.frame .coreReset rfl)

theorem Shape.execVdykPor (h : Shape s) : Shaped (execVdykPor s) := .next (.settle (.frame h rfl))

theorem Shape.execResetNAssert (h : Shape s) : Shaped (execResetNAssert s) := .next (.ite h .coreReset)

theorem Shape.execWakeQualified (h : Shape s) : Shaped (execWakeQualified s) := .next (.ite (.frame h rfl) h)

theorem Shape.execVdykInRange (h : Shape s) : Shaped (execVdykInRange s) := .next (.ite h (.settle (.frame h rfl)))

theorem Shape.execSuppliesInRange (h : Shape s) : Shaped (execSuppliesInRange s) := .next (.ite (.frame h rfl) h)

theorem Shape.execReferenceValid (h : Shape s) : Shaped (execReferenceValid s) := .next (.ite (.settle (.frame h rfl)) h)

theorem Shape.execBootRomComplete {a b : Bool} (h : Shape s) : Shaped (execBootRomComplete a b s) := by
  unfold Machine.execBootRomComplete
  dsimp only
  refine .next (.ite h ?_)
  split
  · refine .ite (.frame ?kept rfl) (.ite (.frame ?kept rfl) (.enterF3 (.ite (.frame ?kept rfl) (.frame ?kept rfl))))
    exact .ite (.settle (.frame h rfl)) (.frame h rfl)
  · exact .enterF3 (.frame (.ite (.settle (.frame h rfl)) (.frame h rfl)) rfl)

theorem Shape.execSettingsRestore {a b : Bool} (h : Shape s) : Shaped (execSettingsRestore a b s) := by
  unfold Machine.execSettingsRestore
  dsimp only
  refine .next (.ite h (.checkStart ?_))
  have restored : Shape (match s.newest (fun i => if i = 0 then a else b) with
      | some i => s.restore (s.power.copies.getD i {})
      | none => s.factory) := by
    split
    · exact .restore h
    · exact .factory h
  split
  · exact .ite (.frame restored rfl) (.frame (.frame restored rfl) rfl)
  · exact .frame restored rfl

theorem Shape.execStandbyEntry (h : Shape s) : Shaped (execStandbyEntry s) := by
  unfold Machine.execStandbyEntry
  refine .next (.ite h (.frame (.settle (.frame ?_ rfl)) rfl))
  split
  · exact .ite (.frame h rfl) h
  · exact h

theorem Shape.execSettingsSaveComplete (h : Shape s) : Shaped (execSettingsSaveComplete ok s) := by
  unfold Machine.execSettingsSaveComplete
  refine .next ?_
  split
  · exact h
  · refine .ite h (.ite (.frame ?saved rfl) (.found (.frame ?saved rfl)))
    exact .ite (.frame h rfl) h

theorem Shape.execFwCheckComplete (h : Shape s) : Shaped (execFwCheckComplete ok s) := by
  refine .next ?_
  split
  · exact h
  · exact .ite h (.frame h rfl)

theorem Shape.execFwLoadLapse (h : Shape s) : Shaped (execFwLoadLapse s) := by
  refine .next ?_
  split
  · exact .ite (.frame h rfl) h
  · exact h

theorem Shape.execSupplyOutOfRange (h : Shape s) : Shaped (execSupplyOutOfRange n ok s) := by
  unfold Machine.execSupplyOutOfRange
  refine .next (.ite (.found (.frame h rfl)) ?_)
  split
  · exact .enterF3 (.frame h rfl)
  · exact .enterF3 (.frame h rfl)
  · exact .found (.frame h rfl)
  · exact .found (.frame h rfl)
  · exact .found (.frame h rfl)
  · exact .frame h rfl

theorem Shape.execSupplyReturnToRange (h : Shape s) : Shaped (execSupplyReturnToRange n s) := by
  unfold Machine.execSupplyReturnToRange
  refine .next (.ite ?io (.foundEnd ?io))
  exact .ite (.frame h rfl) (.foundEnd (.frame h rfl))

theorem Shape.execTemperatureThreshold {t : Int} (h : Shape s) : Shaped (execTemperatureThreshold n t s) :=
  .next (.tempFault (.tempFault (.tempFault (.frame h rfl))))

theorem Shape.execSramEccError (h : Shape s) : Shaped (execSramEccError ok s) := .next (.found h)

theorem Shape.execStewardEccError (h : Shape s) : Shaped (execStewardEccError ok s) := .next (.ite (.found h) (.enterF3 h))

/-- The assertion of PERST# clears the MSI-X table. -/
theorem Shape.execPciePerstnAssert (h : Shape s) : Shaped (execPciePerstnAssert s) := by
  obtain ⟨hacq, -, hrest⟩ := h
  exact ⟨hacq, rfl, hrest⟩

theorem Shape.execPcieLinkUp (h : Shape s) : Shaped (execPcieLinkUp s) := .next (.ite (.foundEnd (.frame h rfl)) h)

theorem Shape.execPcieLinkDown (h : Shape s) : Shaped (execPcieLinkDown s) := .next (.ite (.found (.frame h rfl)) (.frame h rfl))

/-! ### Rows of the lane chain, the weirs and the spare (chapter 8) -/

theorem Shape.execLaneChainHead (h : Shape s) : Shaped (execLaneChainHead s) := by
  refine .next (.ite h ?_)
  dsimp only
  split
  · exact .latchAddr (.frame h rfl)
  · exact .frame h rfl

theorem Shape.execLchTrainReceived (h : Shape s) : Shaped (execLchTrainReceived n s) := by
  refine .next (.ite h (.ite ?_ (.frame h rfl)))
  split
  · exact .latchAddr h
  · exact h

theorem Shape.execLchTrainSend (h : Shape s) : Shaped (execLchTrainSend s) := by
  refine .next (.ite ?_ h)
  split <;> exact h

theorem Shape.execAddressTimeout (h : Shape s) : Shaped (execAddressTimeout s) := .next (.ite (.found h) h)

theorem Shape.execIdentReceived (h : Shape s) : Shaped (execIdentReceived n l s) := by
  unfold Machine.execIdentReceived
  refine .next ?_
  split
  · exact h
  refine .ite h (.answerRefresh ?_)
  refine .ite (.found ?judged) ?judged
  exact .ite (.found (.frame h rfl)) (.ite (.foundEnd (.frame h rfl)) (.frame h rfl))

theorem Shape.execWeirLinkDown (h : Shape s) : Shaped (execWeirLinkDown n s) := .next (.ite (.found (.setPath h)) h)

theorem Shape.execSpareRefreshTimer (h : Shape s) : Shaped (execSpareRefreshTimer s) := .next (.ite (.frame h rfl) h)

theorem Shape.execWakeClassify (h : Shape s) : Shaped (execWakeClassify n s) :=
  .next (.ite (.ite (.checkStart (.frame h rfl)) h) (.ite (.checkStart (.frame h rfl)) h))

theorem Shape.execRefreshDataReceived {c : Settings} {crc : BitVec 64} (h : Shape s) : Shaped (execRefreshDataReceived c crc s) :=
  .next (.ite (.ite (.endRefresh (.frame (.frame h rfl) rfl)) (.refreshFail (.frame h rfl))) (.ite (.restore h) h))

theorem Shape.execRefreshFailed (h : Shape s) : Shaped (execRefreshFailed s) := .next (.ite (.refreshFail h) h)

theorem Shape.execSpareWakeTimeout (h : Shape s) : Shaped (execSpareWakeTimeout s) :=
  .next (.ite (.ite (.found (.frame h rfl)) (.frame h rfl)) h)
end

end Sys2Proof
end

section
/-!
SUPPORT. The rows of the safety function, of the safe drive outputs and of the time unit keep the shape.
-/
namespace Sys2Proof
open Machine

section
variable {s : State} {n m : Nat} {l : List Byte} {lane : Lane} {chan : SafeChan} {ok on : Bool} {k : Int}

/-! ### Rows of the safety function (chapter 11) -/

theorem Shape.execSafetyInputChange (h : Shape s) : Shaped (execSafetyInputChange chan n ok s) := .next (.followInput (.updChan h))

theorem Shape.execOffDelayExpiry (h : Shape s) : Shaped (execOffDelayExpiry chan n s) :=
  .next (.ite (.followInput (.settle (.updChan h))) h)

theorem Shape.execDiscrepancyTimeout (h : Shape s) : Shaped (execDiscrepancyTimeout chan n s) :=
  .next (.ite (.collectOwn (.safetyF2 h)) h)

theorem Shape.execSafeResetRelease (h : Shape s) : Shaped (execSafeResetRelease n m s) := by
  unfold Machine.execSafeResetRelease
  refine .next (.ite (.restartPulse ?held) ?held)
  exact .frame (.updChan (.updChan h)) rfl

theorem Shape.execSafetyReset {a b : Bool} (h : Shape s) : Shaped (execSafetyReset n m a b s) := by
  unfold Machine.execSafetyReset
  refine .next ?_
  split
  · exact h
  · refine .ite (.collectOwn (.frame (.endLockout ?answered) rfl)) (.found (.irq7 ?answered))
    exact .frame (.updChan (.updChan h)) rfl

theorem Shape.execTestPulseDue (h : Shape s) : Shaped (execTestPulseDue n s) :=
  .next (.ite (.ite (.startTest h) (.frame h rfl)) h)

theorem Shape.execTestStartAfterOn (h : Shape s) : Shaped (execTestStartAfterOn n s) := .next (.ite (.startTest h) h)

theorem Shape.execDarkPulseEnd {a b : Bool} (h : Shape s) : Shaped (execDarkPulseEnd n ok a b m s) := by
  unfold Machine.execDarkPulseEnd
  refine .next (.ite (.ite (.testFail h) (.settle (.setDark (.frame h rfl)))) (.ite (.ite (.testFail h) ?_) h))
  exact .frame (.settle (.setDark (.frame h rfl))) rfl

theorem Shape.execTestGapExpiry (h : Shape s) : Shaped (execTestGapExpiry n s) := .next (.ite (.settle (.setDark (.frame h rfl))) h)

theorem Shape.execTestMissing (h : Shape s) : Shaped (execTestMissing n s) := .next (.ite (.collectOwn (.safetyF2 h)) h)

theorem Shape.execSealPoll {w : BitVec 8} (h : Shape s) : Shaped (execSealPoll chan w s) :=
  .next (.ite (.ite (.frame h rfl) (.collectOwn (.safetyF2 (.frame h rfl)))) h)

theorem Shape.execHeartbeatToggle (h : Shape s) : Shaped (execHeartbeatToggle chan s) := .next (.updChan (.updChan h))

theorem Shape.execHeartbeatLoss (h : Shape s) : Shaped (execHeartbeatLoss chan s) :=
  .next (.ite (.collectOwn (.safetyF2 (.updChan h))) h)

theorem Shape.execRomCrcCheck (h : Shape s) : Shaped (execRomCrcCheck ok s) := .next (.ite h (.enterF3 h))

theorem Shape.execCrossMismatch (h : Shape s) : Shaped (execCrossMismatch chan n s) := .next (.ite (.collectOwn (.safetyF2 h)) h)

theorem Shape.execSafetyStartComplete {w : BitVec 8} {a b c : Bool} (h : Shape s) : Shaped (execSafetyStartComplete w a b c s) := by
  unfold Machine.execSafetyStartComplete
  refine .next (.ite h (.ite (.enterF3 h) (.ite (.enterF3 h) (.ite (.enterF3 h) (.ite (.enterF3 h) (.ite (.enterF3 h) ?_))))))
  exact .foldl (fun _ _ => .followInput) (.settle (.frame (.updChan (.updChan (.frame h rfl))) rfl))

/-! ### Rows of the safe drive outputs (chapter 12) -/

theorem Shape.execPwmPeriodStart (h : Shape s) : Shaped (execPwmPeriodStart s) := by
  refine .next (.foldl (fun s m h => ?_) h)
  exact .ite (.frame h rfl) h

theorem Shape.execInterlockRelease (h : Shape s) : Shaped (execInterlockRelease n ok s) := .next (.ite (.frame h rfl) h)

theorem Shape.execGateStuck (h : Shape s) : Shaped (execGateStuck n ok s) := .next (.ite (.found (.settle (.irq7 (.frame h rfl)))) h)

theorem Shape.execGateUnder (h : Shape s) : Shaped (execGateUnder n ok s) := .next (.ite (.found (.settle (.irq7 (.frame h rfl)))) h)

theorem Shape.execSwitchingEventEnd {t : Option Nat} (h : Shape s) : Shaped (execSwitchingEventEnd n ok on t s) := by
  refine .next ?_
  split
  · exact h
  · exact .ite (.frame h rfl) h

theorem Shape.execGateLimit (h : Shape s) : Shaped (execGateLimit n ok on s) := .next (.ite (.found (.irq7 (.frame h rfl))) h)

theorem Shape.execSupplyMonitorTrip {v : BitVec 16} (h : Shape s) : Shaped (execSupplyMonitorTrip n v s) :=
  .next (.ite (.found (.settle (.frame h rfl))) h)

theorem Shape.execSupplyConditionEnd (h : Shape s) : Shaped (execSupplyConditionEnd s) := by
  refine .next (.foldl (fun s c h => ?_) (.settle (.frame h rfl)))
  exact .ite (.foundEnd h) h

theorem Shape.execDriverSupplyReady (h : Shape s) : Shaped (execDriverSupplyReady s) := .next (.ite (.settle (.frame h rfl)) h)

theorem Shape.execShortDetect {v : BitVec 16} (h : Shape s) : Shaped (execShortDetect n ok v s) := .next (.ite (.shortFound h) h)

theorem Shape.execShuntShortDetect {v : BitVec 16} (h : Shape s) : Shaped (execShuntShortDetect n v s) := by
  refine .next ?_
  split
  · exact .shortFound h
  · exact .shortFound h
  · exact h

theorem Shape.execSdoShort (h : Shape s) : Shaped (execSdoShort s) := by
  refine .next ?_
  split
  · exact h
  · exact .found (.frame h rfl)

/-! ### Rows of the time unit (chapter 9) -/

theorem Shape.execServoLocked (h : Shape s) : Shaped (execServoLocked s) := .next (.ite (.frame h rfl) h)

theorem Shape.execServoOutliers (h : Shape s) : Shaped (execServoOutliers s) := .next (.ite (.found (.frame h rfl)) h)

theorem Shape.execTimeSourceLost (h : Shape s) : Shaped (execTimeSourceLost s) := by
  unfold Machine.execTimeSourceLost
  refine .next (.ite h (.ite (.found (.frame ?source rfl)) ?source))
  exact .ite (.frame h rfl) h

theorem Shape.execHoldoverExpired (h : Shape s) : Shaped (execHoldoverExpired s) := .next (.ite (.found (.frame h rfl)) h)

theorem Shape.execPhcFrequencyLimit (h : Shape s) : Shaped (execPhcFrequencyLimit s) := .next (.ite (.found h) h)

theorem Shape.execPtpSyncReceived {p : PtpMsg} (h : Shape s) : Shaped (execPtpSyncReceived p k s) :=
  .next (.ite h (.ite (.frame h rfl) (.ptpOffset h)))

theorem Shape.execPtpMessageReceived {kind : PtpKind} {p : PtpMsg} (h : Shape s) : Shaped (execPtpMessageReceived kind p k s) := by
  refine .next ?_
  cases kind with
  | sync => exact h
  | announce => exact .ite (.hearAnnounce h) h
  | followUp =>
    refine .ite h ?_
    split
    · exact .ite (.ptpOffset (.frame h rfl)) h
    · exact h
  | delayReq => exact .ite (.frame h rfl) h
  | delayResp =>
    refine .ite h ?_
    split
    · exact .ite (.frame h rfl) h
    · exact h
  | pdelayReq => exact .ite (.ite (.frame h rfl) (.frame h rfl)) h
  | pdelayResp =>
    refine .ite h ?_
    split
    · exact .ite h (.ite (.frame h rfl) (.frame h rfl))
    · exact h
  | pdelayRespFollowUp =>
    refine .ite h ?_
    split
    · exact .ite (.frame h rfl) h
    · exact h

theorem Shape.execPtpIntervalExpiry {kind : PtpKind} (h : Shape s) : Shaped (execPtpIntervalExpiry kind k s) := by
  unfold Machine.execPtpIntervalExpiry
  refine .next (.ite h ?_)
  split
  · exact .ite (.ite (.frame (.frame h rfl) rfl) (.frame h rfl)) h
  · exact .ite (.frame (.ite (.frame h rfl) h) rfl) (.frame (.ite (.frame h rfl) h) rfl)
  · exact .ite (.frame h rfl) h
  · exact .ite (.frame h rfl) h
  · exact h

theorem Shape.execRatePeriodStart (h : Shape s) : Shaped (execRatePeriodStart s) := by
  unfold Machine.execRatePeriodStart
  refine .next (.ite h (.mapInForce (.ite (.foundEnd ?rate) ?rate)))
  exact .ite (.foundEnd (.frame h rfl)) (.frame h rfl)

theorem Shape.execSteeringLimitReached (h : Shape s) : Shaped (execSteeringLimitReached s) := .next (.ite (.found h) h)

theorem Shape.execMapFormation (h : Shape s) : Shaped (execMapFormation s) := by
  unfold Machine.execMapFormation
  refine .next (.ite h (.frame (.frame ?_ rfl) rfl))
  split
  · exact .ite (.frame h rfl) h
  · exact h

theorem Shape.execPpsEdge {a b : Int} (h : Shape s) : Shaped (execPpsEdge n a b s) := by
  refine .next ?_
  split
  · exact h
  · exact .ite h (.ite (.frame (.frame h rfl) rfl) (.frame h rfl))

theorem Shape.execPulseMissed (h : Shape s) : Shaped (execPulseMissed n m s) := by
  refine .next ?_
  split
  · exact h
  · exact .ite h (.missPulse (.frame h rfl))

theorem Shape.execCapEdge {c ns : Nat} (h : Shape s) : Shaped (execCapEdge n on k c ns s) := by
  unfold Machine.execCapEdge
  refine .next (.ite h (.ite (.frame (.found (.irq7 (.frame ?servo rfl))) rfl)
    (.ite (.frame (.collectOwn (.frame ?servo rfl)) rfl) (.frame ?servo rfl))))
  exact .captureServo h

theorem Shape.execEthFrameReceived (h : Shape s) : Shaped (execEthFrameReceived l s) := .next (.ite h (.ite (.frame h rfl) (.frame h rfl)))

theorem Shape.execEthTransmitComplete (h : Shape s) : Shaped (execEthTransmitComplete s) := .next (.ite (.frame h rfl) h)

theorem Shape.execSgmiiLinkChange (h : Shape s) : Shaped (execSgmiiLinkChange on ok s) := .next (.ite (.foundEnd (.frame h rfl)) (.frame h rfl))

theorem Shape.execEthLinkDownLimit (h : Shape s) : Shaped (execEthLinkDownLimit s) := .next (.ite (.found h) h)
end

end Sys2Proof
end

section
/-!
SUPPORT. The rows of the votes, of the command order, of the host and of the engines keep the shape.
-/
namespace Sys2Proof
open Machine

section
variable {s : State} {n m : Nat} {l : List Byte} {lane : Lane} {k : Int}

/-! ### Rows of the votes and of the command order (chapters 8 and 14) -/

theorem Shape.execArbitratingWindowStart (h : Shape s) : Shaped (execArbitratingWindowStart s) := by
  unfold Machine.execArbitratingWindowStart
  refine .next (.ite (.frame h rfl) (.foldl (fun s q h => ?_) (.foldl (fun _ _ => .sendSchedule) (.frame h rfl))))
  exact .ite (.frame h rfl) (.sendReq (.frame (.frame h rfl) rfl))

theorem Shape.execNodeRequestTimeout {tag : BitVec 32} (h : Shape s) : Shaped (execNodeRequestTimeout tag s) := by
  refine .next ?_
  split
  · exact .ite h (.ite (.frame h rfl) (.sendReq (.frame h rfl)))
  · exact h

theorem Shape.execVoteReceived (h : Shape s) : Shaped (execVoteReceived n l s) := by
  unfold Machine.execVoteReceived
  refine .next ?_
  split
  · refine .ite (.ite (.mismatchFound ?voted) ?voted) h
    exact .ite (.frame h rfl) (.frame h rfl)
  · exact h

theorem Shape.execExchangeReceived (h : Shape s) : Shaped (execExchangeReceived n l s) := by
  refine .next ?_
  split
  · exact .ite (.frame h rfl) h
  · exact h

theorem Shape.execQuickEvaluation (h : Shape s) : Shaped (execQuickEvaluation s) := by
  unfold Machine.execQuickEvaluation
  refine .next (.ite h ?_)
  extract_lets found bad own judged
  have hj : Shape judged := .ite (.frame (.mismatchFound h) rfl) (.mismatchFound h)
  split
  · refine .ite hj (.ite ?_ (.ite (.passVoice hj) hj))
    split
    · exact .passVoice hj
    · exact hj
  · exact hj

theorem Shape.execFinalEvaluation (h : Shape s) : Shaped (execFinalEvaluation s) := by
  unfold Machine.execFinalEvaluation
  refine .next (.ite h (.trialResult (.voteOutcome (.mismatchFound (.ite (.foldl (fun _ _ h => ?_) (.frame h rfl)) (.frame h rfl))))))
  exact .ite (.frame (.decideLeave h) rfl) (.decideLeave h)

theorem Shape.execLaneLost (h : Shape s) : Shaped (execLaneLost lane s) :=
  .next (.ite (.ite (.frame (.decideLeave h) rfl) (.decideLeave h)) h)

theorem Shape.execLaneIsolated (h : Shape s) : Shaped (execLaneIsolated s) := .next (.ite (.frame (.decideLeave h) rfl) h)

theorem Shape.execRealignReceived {i : AxisImage} (h : Shape s) : Shaped (execRealignReceived n i s) := .next (.ite (.frame h rfl) h)

theorem Shape.execDoorbell (h : Shape s) : Shaped (execDoorbell n s) := by
  refine .next ?_
  split
  · exact .submit h
  · exact h

theorem Shape.execCommandCut (h : Shape s) : Shaped (execCommandCut s) := by
  unfold Machine.execCommandCut
  refine .next (.ite h (.ite (.sendVote ?cut) ?cut))
  exact .ite (.sealCut (.frame h rfl)) (.frame h rfl)

theorem Shape.execSealReceived (h : Shape s) : Shaped (execSealReceived n l s) := by
  refine .next ?_
  split
  · exact .ite (.ite (.frame h rfl) (.frame h rfl)) h
  · exact h

theorem Shape.execConfirmReceived (h : Shape s) : Shaped (execConfirmReceived n l s) := by
  refine .next ?_
  split
  · exact .ite (.frame h rfl) h
  · exact h

theorem Shape.execBodyReceived {b : Body} (h : Shape s) : Shaped (execBodyReceived lane n b s) :=
  .next (.ite h (.ite (.ite h (.frame h rfl)) (.ite (.frame h rfl) (.frame h rfl))))

theorem Shape.execForwardRefusalReceived {tag e : BitVec 32} {st : BitVec 8} (h : Shape s) :
    Shaped (execForwardRefusalReceived n tag st m l e s) := by
  refine .next ?_
  split
  · exact .respond (.frame h rfl)
  · exact h

/-! ### The start of a basic cycle (R25) and the host's accesses (chapter 14) -/

theorem Shape.execBasicCycleStart {x : List LocalSample} (h : Shape s) : Shaped (execBasicCycleStart k x s) := by
  unfold Machine.execBasicCycleStart
  refine .next (.ite h (.ite (.refreshAtStart (.startCycle ?begun)) ?begun))
  exact .beginTrial (.sendReplay (.applyLeaving (.takeSamples (.frame (.frame (.endCycle (.frame h rfl)) rfl) rfl))))

theorem Shape.execRegisterWrite (h : Shape s) : Shaped (execRegisterWrite n l s) := .next (.ite (.regWrite h) h)

theorem Shape.execW1cWrite {v : BitVec 32} (h : Shape s) : Shaped (execW1cWrite n v s) := .next (.ite (.w1c h) h)

theorem Shape.execEvtRdWrite {v : BitVec 32} (h : Shape s) : Shaped (execEvtRdWrite v s) := .next (.ite (.evtRd h) h)

theorem Shape.execSnapHoldWrite {v : BitVec 32} (h : Shape s) : Shaped (execSnapHoldWrite v s) := .next (.ite (.frame h rfl) h)

theorem Shape.execWdtWrite {v : BitVec 32} (h : Shape s) : Shaped (execWdtWrite v s) := .next (.ite (.restartWdt h) h)

theorem Shape.popCapture (h : Shape s) : Shape (s.popCapture n) := .frame h rfl

theorem Shape.execCapturePop (h : Shape s) : Shaped (execCapturePop n s) := .next (.ite (.popCapture h) h)

theorem Shape.execCountLoRead (h : Shape s) : Shaped (execCountLoRead s) := .next (.ite (.frame h rfl) h)

theorem Shape.execMspiWrite {a : BitVec 24} (h : Shape s) : Shaped (execMspiWrite a l s) :=
  .next (.ite h (.ite (.frame h rfl) (.frame (.ite (.wordsWrite h) h) rfl)))

theorem Shape.execMspiRead {a : BitVec 24} (h : Shape s) : Shaped (execMspiRead a n s) :=
  .next (.ite h (.frame (.frame (.mspiBytes h) rfl) rfl))

theorem Shape.execMspiStatus (h : Shape s) : Shaped (execMspiStatus s) := .next (.ite h (.frame (.frame h rfl) rfl))

/-! ### Rows of the engines (chapter 3) -/

/-- A slot or address operation changes one engine and adds none. -/
theorem Shape.engineDo {f : (Nat → BitVec 32) → Engine → Except Nat Engine} (h : Shape s) : Shaped (s.engineDo n f) := by
  unfold State.engineDo
  split
  · exact h
  split
  · exact .next (.updEngine h)
  · trivial

theorem Shape.macSlot {op : SlotOp} (h : Shape s) : Shaped (s.macSlot n op) := Shape.engineDo h

theorem Shape.movSlot {op : SlotOp} (h : Shape s) : Shaped (s.movSlot n op) := Shape.engineDo h

theorem Shape.adrSlot {op : AddrOp} (h : Shape s) : Shaped (s.adrSlot n op) := Shape.engineDo h
end

end Sys2Proof
end

section
/-!
SUPPORT. Every command keeps the shape.
-/
namespace Sys2Proof
open Machine

/-- Every command keeps the shape of the state. -/
theorem Shape.exec {s : State} (h : Shape s) (i : Instr) : Shaped (exec i s) := by
  cases i with
  | identify | fieldWrite | fieldRead | commit | discard | clusterStart | clusterStop | faultAck | faultClear | faultList | faultRaise
  | faultInject | axisOn | axisOff | axisEnable | axisRun | axisStop | quickStop | axisCoast | axisDisable | axisReset | mapAxis
  | mapNode | mapRemove | coeffWrite | coeffRead | kernelOpen | kernelWrite | kernelClose | kernelRemove | kernelInfo | profileMove
  | profileVelocity | tableAppend | tableStart | tableClear | groupMove | refSet | feedbackStatus | branchCtrl | nodeParamRead
  | nodeParamWrite | nodeResult | nodeReportRead | nodeEventsRead | voiceMove | spareRefresh | spareTakeover | laneRejoin | timeRead
  | ethSend | ethRecv | acqArm | acqStop | acqForce | injStart | injStop | sdoRelease | sdoApply | safetyAck | watermarkRead
  | watermarkProgram | settingsSave | storeStatus | fwOpen | fwWrite | fwClose | standby => exact .next (.opRow h)
  | mul4 | mac4 | msu4 | mul1 | mac1 | msu1 | mulr | macr | msur | accl | acca => exact Shape.macSlot h
  | movs | ld | st | mov | add | sub | addw | subw | min | max | sat | clamp | sincos | rcp | rsq | imul | asr | shl | cmp
  | xrd => exact Shape.movSlot h
  | mnop e => exact Shape.macSlot (n := e) (op := {}) h
  | clr4 e => exact Shape.macSlot (op := macClear) h
  | vnop e => exact Shape.movSlot (op := {}) h
  | ldi e dd imm => exact Shape.movSlot (op := movLdi dd imm) h
  | sfclr e => exact Shape.movSlot (op := movSfclr) h
  | anop | asetl | asetc | aseti | aadd | mset | amod | loop | end_ => exact Shape.adrSlot h
  | collectorCompare | collectorLine | pllLockLoss | referenceClockLoss | stewardLockstep | stewardDeadline => exact .next (.enterF3 h)
  | aonClockStop | pcieUncorrectable => exact .next (.found h)
  | vdykRange | safeSupply => exact .next (.collectOwn (.safetyF2 h))
  | linkSignalDetect => exact .next (.ite (.setLink h) h)
  | linkSignalLost | linkCodeErrors => exact .next (.ite (.leaveUp h) h)
  | dlEdge | offCheckProven | vaonPor | pciePerstnRelease => exact .next (.frame h rfl)
  | rateLimitReached | portDownLimit => exact .next (.ite (.reportL h) h)
  | layoutMismatchReached => exact .next (.ite (.collectOwn (.reportL h)) h)
  | release => exact .next (.releaseBox h)
  | aonClockRestart => exact .next (.foundEnd h)
  | basicCycleStart => exact Shape.execBasicCycleStart h
  | ratePeriodStart => exact Shape.execRatePeriodStart h
  | mapFormation => exact Shape.execMapFormation h
  | steeringLimitReached => exact Shape.execSteeringLimitReached h
  | laneFrameSend => exact Shape.execLaneFrameSend h
  | laneFrameReceived => exact Shape.execLaneFrameReceived h
  | outvotedLimit => exact Shape.execOutvotedLimit h
  | uplinkFrameArrival => exact Shape.execUplinkFrameArrival h
  | uplinkCopyReceived => exact Shape.execUplinkCopyReceived h
  | consensusSend => exact Shape.execConsensusSend h
  | consensusReceived => exact Shape.execConsensusReceived h
  | consensusResolution => exact Shape.execConsensusResolution h
  | indexPolicyAction => exact Shape.execIndexPolicyAction h
  | realignShiftApply => exact Shape.execRealignShiftApply h
  | inputDigestReceived => exact Shape.execInputDigestReceived h
  | inputDeficient => exact Shape.execInputDeficient h
  | bodyReceived => exact Shape.execBodyReceived h
  | computeWindowOpen => exact Shape.execComputeWindowOpen h
  | axisRunEnd => exact Shape.execAxisRunEnd h
  | sampleLossLimit => exact Shape.execSampleLossLimit h
  | followingError => exact Shape.execFollowingError h
  | numericPersist => exact Shape.execNumericPersist h
  | engineEccCorrected => exact Shape.execEngineEccCorrected h
  | engineEccUncorrectable => exact Shape.execEngineEccUncorrectable h
  | computeWindowClose => exact Shape.execComputeWindowClose h
  | acqPreFilled => exact Shape.execAcqPreFilled h
  | acqPostComplete => exact Shape.execAcqPostComplete h
  | commandCut => exact Shape.execCommandCut h
  | sealReceived => exact Shape.execSealReceived h
  | confirmReceived => exact Shape.execConfirmReceived h
  | voteReceived => exact Shape.execVoteReceived h
  | quickEvaluation => exact Shape.execQuickEvaluation h
  | finalEvaluation => exact Shape.execFinalEvaluation h
  | laneLost => exact Shape.execLaneLost h
  | laneIsolated => exact Shape.execLaneIsolated h
  | exchangeReceived => exact Shape.execExchangeReceived h
  | realignReceived => exact Shape.execRealignReceived h
  | snapshotSwitch => exact Shape.execSnapshotSwitch h
  | mirrorComplete => exact Shape.execMirrorComplete h
  | downlinkSlot => exact Shape.execDownlinkSlot h
  | arbitratingWindowStart => exact Shape.execArbitratingWindowStart h
  | acycDownForward => exact Shape.execAcycDownForward h
  | acycUpAdmit => exact Shape.execAcycUpAdmit h
  | nodeRequestTimeout => exact Shape.execNodeRequestTimeout h
  | networkIdleStart => exact Shape.execNetworkIdleStart h
  | linkAligned => exact Shape.execLinkAligned h
  | probeAnswer => exact Shape.execProbeAnswer h
  | identReceived => exact Shape.execIdentReceived h
  | weirLinkDown => exact Shape.execWeirLinkDown h
  | lchTrainReceived => exact Shape.execLchTrainReceived h
  | lchTrainSend => exact Shape.execLchTrainSend h
  | addressTimeout => exact Shape.execAddressTimeout h
  | spareRefreshTimer => exact Shape.execSpareRefreshTimer h
  | wakeClassify => exact Shape.execWakeClassify h
  | refreshDataReceived => exact Shape.execRefreshDataReceived h
  | refreshFailed => exact Shape.execRefreshFailed h
  | couchReqReceived => exact Shape.execCouchReqReceived h
  | couchDataReceived => exact Shape.execCouchDataReceived h
  | couchEndReceived => exact Shape.execCouchEndReceived h
  | couchConfirmReceived => exact Shape.execCouchConfirmReceived h
  | replayReceived => exact Shape.execReplayReceived h
  | frameRequest => exact Shape.execFrameRequest h
  | couchAbandon => exact Shape.execCouchAbandon h
  | catchUpComplete => exact Shape.execCatchUpComplete h
  | spareWakeTimeout => exact Shape.execSpareWakeTimeout h
  | ptpSyncReceived => exact Shape.execPtpSyncReceived h
  | ptpMessageReceived => exact Shape.execPtpMessageReceived h
  | servoLocked => exact Shape.execServoLocked h
  | servoOutliers => exact Shape.execServoOutliers h
  | timeSourceLost => exact Shape.execTimeSourceLost h
  | holdoverExpired => exact Shape.execHoldoverExpired h
  | phcFrequencyLimit => exact Shape.execPhcFrequencyLimit h
  | ppsEdge => exact Shape.execPpsEdge h
  | pulseMissed => exact Shape.execPulseMissed h
  | capEdge => exact Shape.execCapEdge h
  | ethFrameReceived => exact Shape.execEthFrameReceived h
  | ethLinkDownLimit => exact Shape.execEthLinkDownLimit h
  | safetyInputChange => exact Shape.execSafetyInputChange h
  | offDelayExpiry => exact Shape.execOffDelayExpiry h
  | discrepancyTimeout => exact Shape.execDiscrepancyTimeout h
  | safeResetRelease => exact Shape.execSafeResetRelease h
  | sealPoll => exact Shape.execSealPoll h
  | testPulseDue => exact Shape.execTestPulseDue h
  | darkPulseEnd => exact Shape.execDarkPulseEnd h
  | testGapExpiry => exact Shape.execTestGapExpiry h
  | testMissing => exact Shape.execTestMissing h
  | heartbeatToggle => exact Shape.execHeartbeatToggle h
  | heartbeatLoss => exact Shape.execHeartbeatLoss h
  | safetyStartComplete => exact Shape.execSafetyStartComplete h
  | romCrcCheck => exact Shape.execRomCrcCheck h
  | crossMismatch => exact Shape.execCrossMismatch h
  | safetyReset => exact Shape.execSafetyReset h
  | pwmPeriodStart => exact Shape.execPwmPeriodStart h
  | interlockRelease => exact Shape.execInterlockRelease h
  | gateStuck => exact Shape.execGateStuck h
  | shortDetect => exact Shape.execShortDetect h
  | shuntShortDetect => exact Shape.execShuntShortDetect h
  | sdoShort => exact Shape.execSdoShort h
  | supplyMonitorTrip => exact Shape.execSupplyMonitorTrip h
  | supplyConditionEnd => exact Shape.execSupplyConditionEnd h
  | gateUnder => exact Shape.execGateUnder h
  | driverSupplyReady => exact Shape.execDriverSupplyReady h
  | switchingEventEnd => exact Shape.execSwitchingEventEnd h
  | gateLimit => exact Shape.execGateLimit h
  | handlingTimerExpiry => exact Shape.execHandlingTimerExpiry h
  | f3Detect => exact Shape.execF3Detect h
  | hostWatchdogExpiry => exact Shape.execHostWatchdogExpiry h
  | supplyOutOfRange => exact Shape.execSupplyOutOfRange h
  | temperatureThreshold => exact Shape.execTemperatureThreshold h
  | sramEccError => exact Shape.execSramEccError h
  | stewardEccError => exact Shape.execStewardEccError h
  | pcieLinkDown => exact Shape.execPcieLinkDown h
  | wakeQualified => exact Shape.execWakeQualified h
  | vdykInRange => exact Shape.execVdykInRange h
  | suppliesInRange => exact Shape.execSuppliesInRange h
  | referenceValid => exact Shape.execReferenceValid h
  | bootRomComplete => exact Shape.execBootRomComplete h
  | settingsRestore => exact Shape.execSettingsRestore h
  | vddCorePor => exact Shape.execVddCorePor
  | vdykPor => exact Shape.execVdykPor h
  | resetNAssert => exact Shape.execResetNAssert h
  | pciePerstnAssert => exact Shape.execPciePerstnAssert h
  | standbyEntry => exact Shape.execStandbyEntry h
  | settingsSaveComplete => exact Shape.execSettingsSaveComplete h
  | fwCheckComplete => exact Shape.execFwCheckComplete h
  | fwLoadLapse => exact Shape.execFwLoadLapse h
  | kernelVerified => exact Shape.execKernelVerified h
  | kernelLoadLapse => exact Shape.execKernelLoadLapse h
  | mspiWrite => exact Shape.execMspiWrite h
  | mspiRead => exact Shape.execMspiRead h
  | mspiStatus => exact Shape.execMspiStatus h
  | doorbell => exact Shape.execDoorbell h
  | w1cWrite => exact Shape.execW1cWrite h
  | evtRdWrite => exact Shape.execEvtRdWrite h
  | snapHoldWrite v => exact Shape.execSnapHoldWrite (v := v) h
  | wdtWrite v => exact Shape.execWdtWrite (v := v) h
  | capturePop => exact Shape.execCapturePop h
  | countLoRead => exact Shape.execCountLoRead h
  | registerWrite => exact Shape.execRegisterWrite h
  | pcieLinkUp => exact Shape.execPcieLinkUp h
  | sgmiiLinkChange => exact Shape.execSgmiiLinkChange h
  | ptpIntervalExpiry => exact Shape.execPtpIntervalExpiry h
  | ethTransmitComplete => exact Shape.execEthTransmitComplete h
  | laneChainHead => exact Shape.execLaneChainHead h
  | joinReceived => exact Shape.execJoinReceived h
  | testStartAfterOn => exact Shape.execTestStartAfterOn h
  | vaonPowerOn => exact Shape.execVaonPowerOn h
  | supplyReturnToRange => exact Shape.execSupplyReturnToRange h
  | localFeedbackEdge => exact Shape.execLocalFeedbackEdge h
  | forwardRefusalReceived => exact Shape.execForwardRefusalReceived h
  | listenTimeout => exact Shape.execListenTimeout h
  | coldstartComplete => exact Shape.execColdstartComplete h
  | integrateComplete => exact Shape.execIntegrateComplete h
  | nodeClosed => exact Shape.execNodeClosed h
  | nodeReopened => exact Shape.execNodeReopened h
  | frameErrorLimit => exact Shape.execFrameErrorLimit h
  | branchClosed => exact Shape.execBranchClosed h
  | branchReopened => exact Shape.execBranchReopened h
  | laneLinkDropLimit => exact Shape.execLaneLinkDropLimit h
  | feedbackSignalLimit => exact Shape.execFeedbackSignalLimit h
  | feedbackSerialLimit => exact Shape.execFeedbackSerialLimit h
  | feedbackTransitionLimit => exact Shape.execFeedbackTransitionLimit h
  | feedbackSensorLimit => exact Shape.execFeedbackSensorLimit h
  | probeSend => exact Shape.execProbeSend h
  | probeTimeout => exact Shape.execProbeTimeout h
  | probeIntervalExpiry => exact Shape.execProbeIntervalExpiry h

end Sys2Proof
end

section
/-!
PROOF. O60, O1 and O59.
-/
namespace Sys2Proof.Proofs
open Sys2Proof Sys2Proof.Machine Sys2Proof.Laws

/-- Settles O60: with an empty queue the state stays; else the front command is carried out, and every command keeps the shape. -/
theorem stepKeepsShape : Obligations.StepKeepsShape := by
  intro s t hs hstep
  unfold step at hstep
  split at hstep
  case h_1 =>
    cases hstep
    exact hs
  case h_2 c rest hqueue =>
    have after : Shaped (exec c { s with pending := rest }) := Shape.exec (.frame hs rfl) c
    rwa [hstep] at after

/-- Settles O1: by the definition of the step. -/
theorem stepRunsTheFrontCommand : Obligations.StepRunsTheFrontCommand :=
  ⟨fun _ _ _ => rfl, fun _ => rfl⟩

/-- Settles O59: the state after reset is closed, so each part is evaluated. -/
theorem resetHasItsShape : Obligations.ResetHasItsShape := by
  refine ⟨?shape, rfl, rfl, rfl, rfl, rfl, rfl, ?off, rfl, rfl, ?idle, rfl, rfl, rfl⟩
  case shape => unfold Shape; decide
  case off => unfold AllOff; decide
  case idle => decide

end Sys2Proof.Proofs
end

section
/-!
SUPPORT. The switches of the safe drive outputs once they have followed (R450 to R453, R480, R481): each output takes what the
conditions allow it, and everything goes off in a lane whose channels hold off.
-/
namespace Sys2Proof.Proofs
open Sys2Proof Sys2Proof.Machine Sys2Proof.Laws

section
variable {s t : State} {m n : Nat}

/-! ### One output -/

/-- Neither switch of an output is commanded on or conducts. -/
def SdoOff (o : Sdo) : Prop := o.hs.cmd = false ∧ o.hs.on = false ∧ o.ls.cmd = false ∧ o.ls.on = false

/-- An output as the conditions of `s` allow it; a bridge leg that may run is left to its PWM periods. -/
def settledSdo (s : State) (m : Nat) (o : Sdo) : Sdo :=
  if s.sdoSafe m then { o with hs := o.hs.turn (s.driverFree m && s.highAllowed m), ls := o.ls.turn (s.driverFree m && s.lowAllowed m) }
  else if s.sdoBridge m && (s.driverFree m && !s.gateDisabled && s.voting && s.sdoOnCmd m) then o
  else
    let run := !s.sdoBridge m && (s.driverFree m && !s.gateDisabled && s.voting && s.sdoOnCmd m)
    { o with hs := o.hs.turn run, ls := o.ls.turn run }

theorem updSdo_id (s : State) (m : Nat) : s.updSdo m id = s := by
  have h : modAt s.drivers.outs m id = s.drivers.outs := List.ext_getElem? fun k => by
    rw [modAt_getElem?]
    split <;> simp
  simp only [State.updSdo, h]

theorem settleOutput_eq (s : State) (m : Nat) : s.settleOutput m = s.updSdo m (settledSdo s m) := by
  unfold State.settleOutput settledSdo
  dsimp only
  split
  · rfl
  cases hb : s.sdoBridge m with
  | false => rfl
  | true =>
    cases hr : s.driverFree m && !s.gateDisabled && s.voting && s.sdoOnCmd m with
    | true => exact (updSdo_id s m).symm
    | false => rfl

theorem turn_cmd (w : Switch) (on : Bool) : (w.turn on).cmd = on ∧ (w.turn on).on = on := by
  unfold Switch.turn
  cases on with
  | true =>
    simp only [if_true]
    split
    next h => simpa using h
    · exact ⟨rfl, rfl⟩
  | false =>
    simp only [Bool.false_eq_true, if_false]
    split
    · exact ⟨rfl, rfl⟩
    next h =>
      simp only [Bool.or_eq_true, not_or, Bool.not_eq_true] at h
      exact h.1

theorem sdoOff_turn (o : Sdo) : SdoOff { o with hs := o.hs.turn false, ls := o.ls.turn false } :=
  ⟨(turn_cmd o.hs false).1, (turn_cmd o.hs false).2, (turn_cmd o.ls false).1, (turn_cmd o.ls false).2⟩

/-! ### The outputs after the cross lines (R443) -/

/-- The safety unit with its cross lines as the conditions stand, and with the tests that yield to them ended (R459). -/
def yielded (s : State) : State := (List.range 4).foldl State.supersede (crossed s)

theorem settle_yielded (s : State) : s.settle = (List.range 4).foldl State.settleOutput (yielded s) := rfl

theorem supersede_drivers (s : State) (m : Nat) : (s.supersede m).drivers = s.drivers := by
  unfold State.supersede
  split
  · dsimp only
    split <;> rfl
  · rfl

theorem foldl_supersede_drivers (l : List Nat) : ∀ s : State, (l.foldl State.supersede s).drivers = s.drivers := by
  induction l with
  | nil => exact fun _ => rfl
  | cons m l ih => exact fun s => by rw [List.foldl_cons, ih, supersede_drivers]

theorem crossed_drivers (s : State) : (crossed s).drivers = s.drivers := by
  unfold crossed
  dsimp only
  split <;> rfl

@[simp] theorem yielded_drivers (s : State) : (yielded s).drivers = s.drivers :=
  (foldl_supersede_drivers _ _).trans (crossed_drivers s)

theorem settleOutput_safety (s : State) (m : Nat) : (s.settleOutput m).safety = s.safety := by rw [settleOutput_eq]; rfl

/-- What one output is allowed does not depend on another. -/
theorem settledSdo_settleOutput (h : m ≠ n) : settledSdo (s.settleOutput n) m = settledSdo s m := by
  have hout : (s.settleOutput n).drivers.outs[m]? = s.drivers.outs[m]? := settleOutput_other h
  have hfree : (s.settleOutput n).driverFree m = s.driverFree m := by
    rw [settleOutput_eq] at hout ⊢
    unfold State.driverFree
    rw [hout]
    rfl
  funext o
  unfold settledSdo
  rw [hfree, settleOutput_eq]
  rfl

theorem foldl_settleOutput_outs (l : List Nat) (hnd : l.Nodup) : ∀ s : State, (l.foldl State.settleOutput s).drivers.outs[m]? =
    if m ∈ l then s.drivers.outs[m]?.map (settledSdo s m) else s.drivers.outs[m]? := by
  induction l with
  | nil => exact fun s => rfl
  | cons n l ih =>
    intro s
    obtain ⟨hn, hl⟩ := List.nodup_cons.mp hnd
    rw [List.foldl_cons, ih hl]
    by_cases h : m = n
    · subst h
      rw [if_neg hn, if_pos List.mem_cons_self, settleOutput_eq]
      change (modAt s.drivers.outs m _)[m]? = _
      rw [modAt_getElem?, if_pos rfl]
    · rw [settledSdo_settleOutput h, settleOutput_other h]
      simp [h]

/-- Each output takes what the conditions after the cross lines allow it. -/
theorem settle_outs (hm : m < 4) : s.settle.drivers.outs[m]? = s.drivers.outs[m]?.map (settledSdo (yielded s) m) := by
  rw [settle_yielded, foldl_settleOutput_outs _ List.nodup_range, if_pos (List.mem_range.mpr hm), yielded_drivers]

theorem settle_safety (s : State) : s.settle.safety = (yielded s).safety := by
  have h (l : List Nat) : ∀ u : State, (l.foldl State.settleOutput u).safety = u.safety := by
    induction l with
    | nil => exact fun _ => rfl
    | cons m l ih => exact fun u => by rw [List.foldl_cons, ih, settleOutput_safety]
  exact h _ _

theorem settle_drivers (s : State) : s.settle.drivers = { s.drivers with outs := s.settle.drivers.outs } := by
  have h (l : List Nat) : ∀ u : State, (l.foldl State.settleOutput u).drivers =
      { u.drivers with outs := (l.foldl State.settleOutput u).drivers.outs } := by
    induction l with
    | nil => exact fun _ => rfl
    | cons m l ih => exact fun u => by rw [List.foldl_cons, ih, settleOutput_eq]; rfl
  have hall := h (List.range 4) (yielded s)
  rwa [yielded_drivers, ← settle_yielded] at hall

/-! ### The safety unit after the cross lines -/

/-- `t` has the safety unit of `s` but for tests that ended, their dark switches and their mark (R459). -/
structure KeepsUnit (s t : State) : Prop where
  unit : t.safety = { s.safety with
    tests := t.safety.tests, supersededSeen := t.safety.supersededSeen,
    proc := { s.safety.proc with dark := t.safety.proc.dark }, dyke := { s.safety.dyke with dark := t.safety.dyke.dark } }
  frame : t = { s with safety := t.safety, order := t.order, free := t.free }

namespace KeepsUnit
variable {u : State}

theorem refl (s : State) : KeepsUnit s s := ⟨rfl, rfl⟩

theorem trans (h : KeepsUnit s t) (k : KeepsUnit t u) : KeepsUnit s u :=
  ⟨by rw [k.unit, h.unit], by rw [k.frame, h.frame]⟩

theorem foldl {α : Type} {f : State → α → State} (hf : ∀ s a, KeepsUnit s (f s a)) :
    ∀ (l : List α) (s : State), KeepsUnit s (l.foldl f s)
  | [], s => refl s
  | a :: l, s => (hf s a).trans (foldl hf l (f s a))

end KeepsUnit

/-- A test that yields ends with its event (R459). -/
theorem supersede_cases (s : State) (m : Nat) : s.supersede m = s ∨ ∃ (tests : List Test) (procDark dykeDark : List Bool) (e : EvBody),
    s.supersede m = { s with
      free := s.free + 1
      safety := { s.safety with
        tests := tests, supersededSeen := true
        proc := { s.safety.proc with dark := procDark }, dyke := { s.safety.dyke with dark := dykeDark } }
      order := { s.order with held := s.order.held ++ [{ req := {}, lane := s.lane, body := some (.event e) }] } } := by
  unfold State.supersede
  split
  · dsimp only
    split
    · exact .inr ⟨_, _, _, _, rfl⟩
    · exact .inl rfl
  · exact .inl rfl

theorem supersede_keepsUnit (s : State) (m : Nat) : KeepsUnit s (s.supersede m) := by
  obtain h | ⟨tests, procDark, dykeDark, e, h⟩ := supersede_cases s m
  · rw [h]
    exact .refl s
  · rw [h]
    exact ⟨rfl, rfl⟩

theorem yielded_keepsUnit (s : State) : KeepsUnit (crossed s) (yielded s) := .foldl supersede_keepsUnit _ _

/-- The release requests that stand once the switches followed (R453). -/
def stays (s : State) : State := if clearsAll s then s.clearReleases else s

theorem crossed_eq (s : State) : crossed s = { s with safety := { s.safety with
    release := (stays s).safety.release,
    proc := { s.safety.proc with off := (List.range 4).map (stays s).offP },
    dyke := { s.safety.dyke with off := (List.range 4).map (stays s).offD } } } := by
  unfold crossed stays clearsAll
  dsimp only
  split <;> rfl

/-- The safety unit after the switches followed: release requests, cross lines, and tests that yielded. -/
theorem settle_unit (s : State) : s.settle.safety = { s.safety with
    release := (stays s).safety.release, tests := s.settle.safety.tests, supersededSeen := s.settle.safety.supersededSeen,
    proc := { s.safety.proc with off := (List.range 4).map (stays s).offP, dark := s.settle.safety.proc.dark },
    dyke := { s.safety.dyke with off := (List.range 4).map (stays s).offD, dark := s.settle.safety.dyke.dark } } := by
  rw [settle_safety, (yielded_keepsUnit s).unit, crossed_eq]

/-- The whole of what follows the switches. -/
theorem settle_form (s : State) : ∃ tests seen procDark dykeDark outs o f, s.settle = { s with
    safety := { s.safety with
      release := (stays s).safety.release, tests := tests, supersededSeen := seen
      proc := { s.safety.proc with off := (List.range 4).map (stays s).offP, dark := procDark }
      dyke := { s.safety.dyke with off := (List.range 4).map (stays s).offD, dark := dykeDark } }
    drivers := { s.drivers with outs := outs }, order := o, free := f } := by
  have hunit := settle_unit s
  have hdrivers := settle_drivers s
  have hsw := settle_switches s
  rw [Switches, hunit, hdrivers] at hsw
  exact ⟨_, _, _, _, _, _, _, hsw⟩

/-- The processor holds an output off as it did, and always without its release request (R450). -/
theorem stays_gateDisabled (s : State) : (stays s).gateDisabled = s.gateDisabled := by
  unfold stays
  split <;> rfl

theorem yielded_gateDisabled (s : State) : (yielded s).gateDisabled = s.gateDisabled := by
  have h := yielded_keepsUnit s
  have hf : (yielded s).faults = s.faults := by rw [h.frame, crossed_eq]
  unfold State.gateDisabled State.lockedOut
  rw [h.unit, hf, crossed_eq]

theorem crossedOff {p : Nat → Bool} (hm : m < 4) : ((List.range 4).map p).getD m true = p m := by
  simp [List.getD_eq_getElem?_getD, hm]

/-- While both channels hold every switch off, every switch is off once the switches followed (R452, R480). -/
theorem settle_allOff (h : s.gateDisabled = true) : AllOff s.settle := by
  intro m hm o ho
  rw [settle_outs hm, Option.map_eq_some_iff] at ho
  obtain ⟨o', -, rfl⟩ := ho
  have hproc : (yielded s).safety.proc.off.getD m true = true := by
    rw [(yielded_keepsUnit s).unit, crossed_eq]
    change ((List.range 4).map (stays s).offP).getD m true = true
    rw [crossedOff hm, State.offP, stays_gateDisabled, h]
    rfl
  change SdoOff (settledSdo (yielded s) m o')
  unfold settledSdo
  rw [yielded_gateDisabled, h, State.highAllowed, State.lowAllowed, hproc]
  simp only [Bool.not_true, Bool.false_and, Bool.and_false, Bool.false_eq_true, if_false]
  split <;> exact sdoOff_turn o'

theorem gateDisabled_of_sysF2 (h : s.faults.sysF2 = true) : s.gateDisabled = true := by simp [State.gateDisabled, h]

theorem gateDisabled_of_f3 (h : s.faults.f3 = true) : s.gateDisabled = true := by simp [State.gateDisabled, h]

end
end Sys2Proof.Proofs
end

section
/-!
SUPPORT. The state of every axis through a change of an axis state, each axis of a list with one number twice included (R57, R515).
-/
namespace Sys2Proof.Proofs
open Sys2Proof Sys2Proof.Machine Sys2Proof.Laws

/-- An axis number and the state of that axis. -/
def standing (a : Axis) : Nat × AxisSt := (a.entry.axis, a.st)

/-- Every axis of `t` stands as in `s`. -/
def Standing (s t : State) : Prop := t.axes.map standing = s.axes.map standing

namespace Standing
variable {s t u : State}

theorem of_axes (h : t.axes = s.axes) : Standing s t := congrArg (List.map standing) h

theorem refl (s : State) : Standing s s := rfl

theorem trans (h : Standing s t) (k : Standing t u) : Standing s u := Eq.trans k h

theorem updAxis {n : Nat} {f : Axis → Axis} (hf : ∀ a, standing (f a) = standing a) : Standing s (s.updAxis n f) := by
  refine List.map_map.trans (List.map_congr_left fun a _ => ?_)
  rw [Function.comp_apply]
  split
  · exact hf a
  · rfl

theorem updMot {n : Nat} {f : MotionRt → MotionRt} : Standing s (s.updMot n f) := updAxis fun _ => rfl

theorem record (s : State) (r : EvRec) : Standing s (s.record r) := by
  obtain ⟨ev, st, tx, h, -⟩ := record_eq s r
  rw [h]
  rfl

theorem event (s : State) (code axis : Nat) (p : List Byte) (l : Option Lane) : Standing s (s.event code axis p l) := record s _

theorem discardPoints (s : State) (n : Nat) : Standing s (s.discardPoints n) := by
  unfold State.discardPoints
  dsimp only
  split
  · exact .updMot
  · exact .trans .updMot (event _ _ _ _ _)

theorem endMotion (s : State) (n : Nat) : Standing s (s.endMotion n) := by
  unfold State.endMotion
  split
  · exact discardPoints s n
  · exact .of_axes rfl
  · exact .refl s

theorem force (s : State) (n : Nat) (x : Motion) (rel : Option (Int × BitVec 32)) : Standing s (s.force n x rel) := by
  unfold State.force
  split
  · split
    · exact .updMot
    · exact event _ _ _ _ _
  · exact .updMot

theorem endAtRest (s : State) (n : Nat) : Standing s ((s.endMotion n).toRest n) := (endMotion s n).trans .updMot

theorem motionHook (s : State) (n : Nat) (ty : AxisType) (from_ to_ : AxisSt) (quick : Bool) :
    Standing s (s.motionHook n ty from_ to_ quick) := by
  unfold State.motionHook
  extract_lets s1
  have h1 : Standing s s1 := by
    unfold s1
    split
    · split
      · exact endAtRest s n
      · exact endAtRest s n
      · exact .refl s
    · exact .refl s
  refine h1.trans ?_
  clear_value s1
  cases to_ with
  | stopRamp | hold | coast => exact .updMot
  | off => exact discardPoints s1 n
  | faulted => exact (discardPoints s1 n).trans .updMot
  | run =>
    dsimp only
    split
    · exact .trans .updMot (force _ _ _ _)
    · exact .updMot
  | ready =>
    dsimp only
    split
    · exact .updMot
    · exact (discardPoints s1 n).trans .updMot

theorem zeroCoupling (s : State) (n : Nat) : Standing s (s.zeroCoupling n) := by
  unfold State.zeroCoupling
  split
  · exact .of_axes rfl
  · exact .refl s

theorem unfixAt (s : State) (n : Nat) : Standing s (s.unfixAt n) := by
  unfold State.unfixAt
  extract_lets s1
  have h1 : Standing s s1 := .updAxis fun _ => rfl
  refine h1.trans ?_
  split
  · split
    · exact .of_axes rfl
    · exact .refl s1
  · exact .refl s1

end Standing

/-- Entering a state sets the state of the axis of that number and of no other. -/
theorem enter_standing (s : State) (n : Nat) (to_ : AxisSt) (quick : Bool) : (s.enter n to_ quick).axes.map standing =
    s.axes.map (fun a => if a.entry.axis = n ∧ (s.axis? n).isSome then (n, to_) else standing a) := by
  unfold State.enter
  split
  next h => simp [h]
  next a h =>
    dsimp only
    have hset : ((s.motionHook n a.entry.ty a.st to_ quick).updAxis n (fun x => { x with st := to_ })).axes.map standing =
        s.axes.map (fun a => if a.entry.axis = n ∧ (s.axis? n).isSome then (n, to_) else standing a) := by
      have hhook : Standing s (s.motionHook n a.entry.ty a.st to_ quick) := .motionHook s n _ _ _ _
      generalize s.motionHook n a.entry.ty a.st to_ quick = u at hhook
      have hnum : (fun b : Axis => standing (if b.entry.axis = n then { b with st := to_ } else b)) =
          (fun p : Nat × AxisSt => if p.1 = n then (n, to_) else p) ∘ standing := by
        funext b
        by_cases hb : b.entry.axis = n <;> simp [standing, hb]
      calc (u.axes.map (fun b => if b.entry.axis = n then { b with st := to_ } else b)).map standing
          = (u.axes.map standing).map (fun p => if p.1 = n then (n, to_) else p) := by
            rw [List.map_map, List.map_map, ← hnum]
            rfl
        _ = _ := by
            rw [hhook, List.map_map]
            exact List.map_congr_left fun b _ => by by_cases hb : b.entry.axis = n <;> simp [standing, h, hb]
    rw [← hset]
    generalize (s.motionHook n a.entry.ty a.st to_ quick).updAxis n (fun x => { x with st := to_ }) = v
    change Standing v _
    split
    · refine .trans ?_ (.zeroCoupling _ n)
      refine .trans ?_ .updMot
      exact .updAxis fun _ => rfl
    · exact .unfixAt v n
    · exact .updAxis fun _ => rfl
    · exact .updAxis fun _ => rfl
    · exact .refl v

/-- Every axis is FAULTED. -/
def AllFaulted (s : State) : Prop := ∀ a ∈ s.axes, a.st = .faulted

theorem allFaulted_iff {s : State} : AllFaulted s ↔ ∀ p ∈ s.axes.map standing, p.2 = .faulted := by
  simp [AllFaulted, standing]

theorem Standing.allFaulted {s t : State} (h : Standing s t) (hs : AllFaulted s) : AllFaulted t := by
  rw [allFaulted_iff] at hs ⊢
  rwa [h]

end Sys2Proof.Proofs
end

section
/-!
SUPPORT. What an F3 leaves of the lane that detects it (R515, R516): nothing that follows the stop turns a switch on, moves an axis out
of FAULTED or touches what the stop keeps.
-/
namespace Sys2Proof.Proofs
open Sys2Proof Sys2Proof.Machine Sys2Proof.Laws

/-- What a stopped lane keeps as the rest of the F3 follows: its F3 and the parts that no fault changes, its switches off and its axes
FAULTED. -/
structure KeepsStop (s t : State) : Prop where
  kept : (t.time, t.power, t.clock, t.cfg, t.kernels, t.pending, t.acq.mem, t.faults.f3, t.faults.f3Code, t.lanes.spareWake) =
    (s.time, s.power, s.clock, s.cfg, s.kernels, s.pending, s.acq.mem, s.faults.f3, s.faults.f3Code, s.lanes.spareWake)
  off : s.faults.f3 = true → AllOff s → AllOff t
  faulted : AllFaulted s → AllFaulted t

namespace KeepsStop
variable {s t u : State}

theorem f3 (h : KeepsStop s t) : t.faults.f3 = s.faults.f3 := by
  have hk := h.kept
  simp only [Prod.mk.injEq] at hk
  exact hk.2.2.2.2.2.2.2.1

theorem refl (s : State) : KeepsStop s s := ⟨rfl, fun _ h => h, fun h => h⟩

theorem simplex (h : KeepsStop s t) : t.simplex = s.simplex := by
  have hk := h.kept
  simp only [Prod.mk.injEq] at hk
  obtain ⟨-, -, -, hcfg, -⟩ := hk
  rw [State.simplex, State.config, hcfg]
  rfl

theorem trans (h : KeepsStop s t) (k : KeepsStop t u) : KeepsStop s u :=
  ⟨k.kept.trans h.kept, fun hf hs => k.off (h.f3.trans hf) (h.off hf hs), fun hs => k.faulted (h.faulted hs)⟩

theorem foldl {α : Type} {f : State → α → State} (hf : ∀ s a, KeepsStop s (f s a)) :
    ∀ (l : List α) (s : State), KeepsStop s (l.foldl f s)
  | [], s => refl s
  | a :: l, s => (hf s a).trans (foldl hf l (f s a))

/-- A change of the collector, of the records and of what leaves. -/
theorem of_collects (h : Collects s t) (hk : (t.acq.mem, t.faults.f3, t.faults.f3Code) = (s.acq.mem, s.faults.f3, s.faults.f3Code)) :
    KeepsStop s t := by
  obtain ⟨f, ev, ac, ho, tx, rfl⟩ : ∃ f ev ac ho tx, t = { s with faults := f, events := ev, acq := ac, host := ho, tx := tx } :=
    ⟨_, _, _, _, _, h⟩
  exact ⟨congrArg (fun p : List (Nat × Byte) × Bool × BitVec 12 =>
    (s.time, s.power, s.clock, s.cfg, s.kernels, s.pending, p.1, p.2.1, p.2.2, s.lanes.spareWake)) hk, fun _ hs => hs, fun hs => hs⟩

/-- A change of the safety unit and the drivers that leaves the switches of a stopped lane off. -/
theorem of_switches (h : Switches s t) (hoff : s.faults.f3 = true → AllOff t) : KeepsStop s t := by
  obtain ⟨x, d, o, f, rfl⟩ : ∃ x d o f, t = { s with safety := x, drivers := d, order := o, free := f } := ⟨_, _, _, _, h⟩
  exact ⟨rfl, fun hf _ => hoff hf, fun hs => hs⟩

theorem settle (s : State) : KeepsStop s s.settle :=
  of_switches (settle_switches s) fun hf => settle_allOff (gateDisabled_of_f3 hf)

theorem report (s : State) (r : FaultRep) : KeepsStop s (s.report r) := ⟨rfl, fun _ h => h, fun h => h⟩

theorem send (s : State) (x : Tx) : KeepsStop s (s.send x) := ⟨rfl, fun _ h => h, fun h => h⟩

end KeepsStop

section
variable (s : State)

/-! ### The collector (R506 to R513) -/

/-- The acquisition memory and the F3 of a lane. -/
def stopMarks (s : State) : List (Nat × Byte) × Bool × BitVec 12 := (s.acq.mem, s.faults.f3, s.faults.f3Code)

theorem irq7_stopMarks (was : Bool) : stopMarks (s.irq7 was) = stopMarks s := by
  obtain ⟨st, tx, h⟩ := irq7_eq s was
  rw [h]
  rfl

theorem record_stopMarks (r : EvRec) : stopMarks (s.record r) = stopMarks s := by
  obtain ⟨ev, st, tx, h, -⟩ := record_eq s r
  rw [h]
  rfl

theorem eventAfter_stopMarks (r : FaultRep) : stopMarks (s.eventAfter r) = stopMarks s := by
  unfold State.eventAfter
  split
  · obtain ⟨rec, h, -⟩ := eventBody_record s _ _
    rw [h, record_stopMarks]
  · rfl

theorem faultRecord_stopMarks (kind code cls : Nat) (loc : Loc) (lane : Option Lane) (inst cycles raise : Nat) :
    stopMarks (s.faultRecord kind code cls loc lane inst cycles raise) = stopMarks s := record_stopMarks s _

theorem activate_stopMarks (r : FaultRep) (c : FClass) : stopMarks (s.activate r c) = stopMarks s := by
  unfold State.activate
  split <;> rfl

theorem takeFault_stopMarks (r : FaultRep) : stopMarks (s.takeFault r).1 = stopMarks s := by
  unfold State.takeFault
  split
  · rfl
  dsimp only
  split
  case h_1 | h_2 | h_3 =>
    rw [eventAfter_stopMarks, irq7_stopMarks, faultRecord_stopMarks, faultRecord_stopMarks, activate_stopMarks]
    rfl
  case h_4 =>
    split
    · rw [eventAfter_stopMarks, faultRecord_stopMarks, activate_stopMarks]
      rfl
    split
    · exact activate_stopMarks _ r .f0
    · rw [irq7_stopMarks]
      exact activate_stopMarks _ r .f0
  case h_5 =>
    rw [eventAfter_stopMarks]
    exact (faultRecord_stopMarks _ _ _ _ _ _ _ _ _).trans (activate_stopMarks _ r .f1)
  case h_6 =>
    rw [eventAfter_stopMarks, faultRecord_stopMarks, activate_stopMarks]
    rfl

theorem enter_keepsStop (n : Nat) : KeepsStop s (s.enter n .faulted) := by
  cases ha : s.axis? n with
  | none =>
    rw [State.enter, ha]
    exact .refl s
  | some a =>
    obtain ⟨hon, -⟩ := enter_spec ha .faulted false
    have hframe := hon.frame
    refine ⟨by rw [hframe], fun _ hs => ?_, fun hs => ?_⟩
    · rw [hframe]
      exact hs
    · rw [allFaulted_iff, enter_standing]
      intro p hp
      obtain ⟨b, hb, rfl⟩ := List.mem_map.mp hp
      split
      · rfl
      · exact hs b hb

theorem faultDue_keepsStop (r : FaultRep) (n : Nat) : KeepsStop s (s.faultDue r n) := by
  unfold State.faultDue
  split
  · split
    · exact ⟨rfl, fun _ h => h, Standing.allFaulted (.updAxis fun _ => rfl)⟩
    · unfold State.faultAxis
      split
      · split
        · exact .refl s
        · exact enter_keepsStop s n
      · exact .refl s
  · exact .refl s

theorem irq7_keepsStop (was : Bool) : KeepsStop s (s.irq7 was) := .of_collects (irq7_collects s was) (irq7_stopMarks s was)

theorem actF2_keepsStop (r : FaultRep) : KeepsStop s (s.actF2 r) := by
  have hdue (l : List Nat) : KeepsStop s (l.foldl (fun u n => u.faultDue r n) s) := .foldl (fun u n => faultDue_keepsStop u r n) l s
  have hset (u : State) (x : Collector) (hx : (x.f3, x.f3Code) = (u.faults.f3, u.faults.f3Code)) : KeepsStop u { u with faults := x } :=
    .of_collects (setFaults_collects u x) (congrArg (u.acq.mem, ·) hx)
  unfold State.actF2
  extract_lets ns u sys was f v
  have hv : KeepsStop s v := (hdue ns).trans (hset u _ rfl)
  split
  · exact (hv.trans (irq7_keepsStop _ _)).trans (.settle _)
  · exact hv.trans (irq7_keepsStop _ _)

theorem takeNow_keepsStop (r : FaultRep) : KeepsStop s (s.takeNow r) :=
  (KeepsStop.of_collects (takeFault_collects s r) (takeFault_stopMarks s r)).trans (.foldl actF2_keepsStop _ _)

/-! ### The stop (R515) -/

theorem faultAll_keepsStop : KeepsStop s s.faultAll := by
  refine .foldl (fun u a => ?_) _ _
  split
  · exact .refl u
  · exact enter_keepsStop u _

/-- Steps that each take one axis to FAULTED take every axis there whose number they name. -/
theorem foldl_enter_faulted (l : List Axis) : ∀ u : State,
    (∀ b ∈ u.axes, b.st = .faulted ∨ ∃ a ∈ l, a.entry.axis = b.entry.axis ∧ a.st ≠ .faulted) →
    AllFaulted (l.foldl (fun u a => if a.st = .faulted then u else u.enter a.entry.axis .faulted) u) := by
  induction l with
  | nil => exact fun u h b hb => (h b hb).resolve_right fun ⟨_, ha, _⟩ => List.not_mem_nil ha
  | cons a l ih =>
    intro u h
    refine ih _ fun b hb => ?_
    dsimp only at hb
    by_cases ha : a.st = .faulted
    · rw [if_pos ha] at hb
      refine (h b hb).imp_right fun ⟨a', hmem, hnum, hst⟩ => ⟨a', (List.mem_cons.mp hmem).resolve_left ?_, hnum, hst⟩
      exact fun heq => hst (heq ▸ ha)
    · rw [if_neg ha] at hb
      have hstand := List.mem_map_of_mem (f := standing) hb
      rw [enter_standing] at hstand
      obtain ⟨c, hc, hbc⟩ := List.mem_map.mp hstand
      split at hbc
      case isTrue => exact .inl (congrArg Prod.snd hbc).symm
      case isFalse hno =>
        obtain ⟨hnum, hst⟩ : c.entry.axis = b.entry.axis ∧ c.st = b.st := Prod.mk.inj hbc
        rw [← hnum, ← hst]
        refine (h c hc).imp_right fun ⟨a', hmem, hnum', hst'⟩ => ⟨a', (List.mem_cons.mp hmem).resolve_left ?_, hnum', hst'⟩
        rintro rfl
        refine hno ⟨hnum'.symm, List.find?_isSome.mpr ⟨c, hc, ?_⟩⟩
        simp [hnum']

theorem faultAll_allFaulted : AllFaulted s.faultAll :=
  foldl_enter_faulted s.axes s fun b hb => (Decidable.em (b.st = .faulted)).imp_right fun h => ⟨b, hb, rfl, h⟩

end

theorem record_keepsStop (s : State) (r : EvRec) : KeepsStop s (s.record r) := .of_collects (record_collects s r) (record_stopMarks s r)

theorem record_lanes (s : State) (r : EvRec) : (s.record r).lanes = s.lanes := (record_keepsRuns (fr := False) (co := False) s r).lanes

theorem settle_lanes (s : State) : s.settle.lanes = s.lanes := (settle_keepsRuns (co := False) s).lanes

theorem takeNow_lanes (s : State) (r : FaultRep) : (s.takeNow r).lanes = s.lanes := (takeNow_keepsRuns (co := False) s r).lanes

/-- The lane leaves: it is REMOVED, and its outputs follow (R452, R481). -/
theorem leaveNow_keepsStop (s : State) (reason : Nat) :
    KeepsStop s (s.leaveNow .removed reason) ∧ (s.leaveNow .removed reason).lanes.role = .removed := by
  unfold State.leaveNow
  split
  next hv =>
    unfold State.standDown State.roleEvent State.event
    extract_lets me was l u e v
    rw [if_pos hv, record_lanes, settle_lanes]
    have hleft : KeepsStop s v := ⟨rfl, fun _ h => h, fun h => h⟩
    exact ⟨(hleft.trans (.settle v)).trans (record_keepsStop _ _), rfl⟩
  next => exact ⟨⟨rfl, fun _ h => h, fun h => h⟩, rfl⟩

/-- The F3 stands and is kept before its switches follow (R516). -/
theorem keepF3_quiet (s : State) (code : Nat) : ∃ fl p b, (s.keepF3 code).quiet code = { s with
      faults := fl, power := p, branches := b
      time := { s.time with pps := s.time.pps.map (fun p => { p with level := false }), ethBusy := false }
      lanes := { s.lanes with spareWake := false } } ∧ fl.f3 = true ∧
    (s.faults.f3 = false → fl.f3Code = BitVec.ofNat 12 code ∧
      p = { s.power with f3Record := some (BitVec.ofNat 12 code, BitVec.ofNat 32 s.clock.cycle), f3Reg := true }) ∧
    (s.faults.f3 = true → fl.f3Code = s.faults.f3Code ∧ p = s.power) := by
  unfold State.quiet State.keepF3
  by_cases h : s.faults.f3 = true
  · rw [if_pos h]
    dsimp only
    split
    · exact ⟨_, _, _, rfl, h, fun h' => absurd (h.symm.trans h') (by decide), fun _ => ⟨rfl, rfl⟩⟩
    · exact ⟨_, _, _, rfl, h, fun h' => absurd (h.symm.trans h') (by decide), fun _ => ⟨rfl, rfl⟩⟩
  · rw [if_neg h]
    dsimp only
    split
    · exact ⟨_, _, _, rfl, rfl, fun _ => ⟨rfl, rfl⟩, fun h' => absurd h' h⟩
    · exact ⟨_, _, _, rfl, rfl, fun _ => ⟨rfl, rfl⟩, fun h' => absurd h' h⟩

/-- The state of a lane whose F3 stands, with its switches off, that leaves the common sequence or has its axes FAULTED. -/
theorem KeepsStop.stopped {s u t : State} {code : Nat} {fl : Collector} {p : Power} {b : List Branch}
    (hu : u = { s with
      faults := fl, power := p, branches := b
      time := { s.time with pps := s.time.pps.map (fun p => { p with level := false }), ethBusy := false }
      lanes := { s.lanes with spareWake := false } }) (hf3 : fl.f3 = true)
    (hnew : s.faults.f3 = false → fl.f3Code = BitVec.ofNat 12 code ∧
      p = { s.power with f3Record := some (BitVec.ofNat 12 code, BitVec.ofNat 32 s.clock.cycle), f3Reg := true })
    (hold : s.faults.f3 = true → fl.f3Code = s.faults.f3Code ∧ p = s.power)
    (h : KeepsStop u t) (hoff : AllOff t) (hsimplex : s.simplex = true → AllFaulted t) (hrole : s.simplex = false → t.lanes.role = .removed) :
    F3Stopped s t code := by
  obtain ⟨hkept, -, -⟩ := h
  subst hu
  simp only [Prod.mk.injEq] at hkept
  obtain ⟨htime, hpower, hclock, hcfg, hkernels, hpending, hmem, hf, hcode, hwake⟩ := hkept
  refine ⟨hf.trans hf3, fun h => ?_, fun h => ?_, hoff, htime, hwake, hsimplex, hrole, hclock, hcfg, hkernels, hmem, hpending⟩
  · rw [hcode, hpower]
    exact hnew h
  · rw [hcode, hpower]
    exact hold h

/-- A lock-out by an F3 changes the safety unit, and the switches follow (R469). -/
theorem lockOut_f3 (s : State) (code by_ : Nat) : ∃ x, s.lockOut code by_ true = ({ s with safety := x } : State).settle := by
  unfold State.lockOut
  extract_lets sf again u v
  exact ⟨_, rfl⟩

theorem setSafety_keepsStop (s : State) (x : Safety) : KeepsStop s { s with safety := x } := ⟨rfl, fun _ h => h, fun h => h⟩

/-- The switches of a lane whose F3 stands, locked out or not (R452, R469). -/
theorem stop_switches {s : State} (hf3 : s.faults.f3 = true) (lock : Prop) [Decidable lock] (code by_ : Nat) :
    KeepsStop s (if lock then s.lockOut code by_ true else s.settle) ∧ AllOff (if lock then s.lockOut code by_ true else s.settle) := by
  split
  · obtain ⟨x, hx⟩ := lockOut_f3 s code by_
    rw [hx]
    exact ⟨(setSafety_keepsStop s x).trans (.settle _), settle_allOff (gateDisabled_of_f3 hf3)⟩
  · exact ⟨.settle s, settle_allOff (gateDisabled_of_f3 hf3)⟩

/-- An F3 that is not active already stops the lane that detects it (R515, R516). -/
theorem enterF3_stops {s : State} {r : FaultRep} (hr : r.kindL = true → s.isActive r.code (locLane s.lane) = false) :
    F3Stopped s (s.enterF3 r) r.code := by
  obtain ⟨fl, p, b, hu, hf3, hnew, hold⟩ := keepF3_quiet s r.code
  unfold State.enterF3
  extract_lets r' u v w
  have hno : ¬(r'.kindL && s.isActive r'.code r'.loc) = true := fun h => by
    obtain ⟨hk, hact⟩ := Bool.and_eq_true_iff.mp h
    exact absurd ((hr hk).symm.trans hact) (by decide)
  rw [if_neg hno]
  change u = _ at hu
  have huf3 : u.faults.f3 = true := by rw [hu]; exact hf3
  obtain ⟨hv, hoff⟩ : KeepsStop u v ∧ AllOff v := stop_switches huf3 _ _ _
  have hvf3 : v.faults.f3 = true := hv.f3.trans huf3
  have hsimplex : v.simplex = s.simplex := hv.simplex.trans (by rw [hu]; rfl)
  have stopped {t : State} (ht : KeepsStop v t) (hall : s.simplex = true → AllFaulted t) (hrole : s.simplex = false → t.lanes.role = .removed) :
      F3Stopped s t r.code := KeepsStop.stopped hu hf3 hnew hold (hv.trans ht) (ht.off hvf3 hoff) hall hrole
  rw [hsimplex]
  cases hs : s.simplex with
  | true =>
    have hrole (t : State) (h : s.simplex = false) : t.lanes.role = .removed := absurd (hs.symm.trans h) (by decide)
    rw [if_pos rfl]
    have hall := faultAll_keepsStop v
    split
    · exact stopped (hall.trans (.report _ _)) (fun _ => (KeepsStop.report _ _).faulted (faultAll_allFaulted v)) (hrole _)
    · exact stopped (hall.trans (takeNow_keepsStop _ _)) (fun _ => (takeNow_keepsStop _ _).faulted (faultAll_allFaulted v)) (hrole _)
  | false =>
    rw [if_neg Bool.false_ne_true]
    have hw : KeepsStop v w := by
      unfold w
      split
      · exact .send _ _
      · exact .refl v
    obtain ⟨hleft, hrole⟩ := leaveNow_keepsStop w 4
    refine stopped ((hw.trans hleft).trans (takeNow_keepsStop _ _)) (fun h => absurd (hs.symm.trans h) (by decide)) fun _ => ?_
    rw [takeNow_lanes]
    exact hrole

end Sys2Proof.Proofs
end

section
/-!
PROOF. O21.
-/
namespace Sys2Proof.Proofs
open Sys2Proof Sys2Proof.Machine Sys2Proof.Laws

theorem f3Detect_enters {code : Nat} {i : FaultInfo} (h : faultInfo code = some i) (hcls : i.cls = .f3) (s : State) :
    exec (.f3Detect code) s = .next (s.enterF3 (mkFault code)) :=
  congrArg _ (if_pos (by rw [h]; simp [hcls]))

theorem kindL_mkFault {code : Nat} {i : FaultInfo} (h : faultInfo code = some i) : (mkFault code).kindL = i.kindL := by
  rw [FaultRep.kindL, show (mkFault code).code = code from rfl, h]
  rfl

theorem romCrcCheck_fails (s : State) : exec (.romCrcCheck false) s = .next (s.enterF3 (mkFault 0x323)) := by
  change Host.Outcome.next (if false = true then s else s.enterF3 (mkFault 0x323)) = _
  rw [if_neg Bool.false_ne_true]

theorem stewardEccError_fails (s : State) : exec (.stewardEccError false) s = .next (s.enterF3 (mkFault 0x102)) := by
  change Host.Outcome.next (if false = true then s.found (mkFault 0x101) else s.enterF3 (mkFault 0x102)) = _
  rw [if_neg Bool.false_ne_true]

/-- A step that enters the F3 of a source which is not active already. -/
theorem stops_of_enters {i : Instr} {s : State} {code : Nat} (h : exec i s = .next (s.enterF3 (mkFault code)))
    (hr : (mkFault code).kindL = true → s.isActive code (locLane s.lane) = false) : ∃ t, exec i s = .next t ∧ F3Stopped s t code :=
  ⟨_, h, enterF3_stops hr⟩

/-- Settles O21: each source enters its F3, and an F3 that is not active already stops the lane. -/
theorem f3SourcesStopTheLane : Obligations.F3SourcesStopTheLane := by
  intro s here
  refine ⟨fun code i hi hcls hhere => ?_, stops_of_enters rfl nofun, stops_of_enters rfl nofun,
    stops_of_enters (romCrcCheck_fails s) nofun, rfl,
    fun h => stops_of_enters rfl fun _ => h, fun h => stops_of_enters rfl fun _ => h, stops_of_enters rfl nofun,
    stops_of_enters rfl nofun, stops_of_enters (stewardEccError_fails s) nofun⟩
  exact stops_of_enters (f3Detect_enters hi hcls s) fun hk => hhere ((kindL_mkFault hi).symm.trans hk)

end Sys2Proof.Proofs
end

section
/-!
SUPPORT. Faults of one lane in the common sequence (R504, R506, R513): each is one report, and a SYSTEM F2 opens every output at once.
-/
namespace Sys2Proof.Proofs
open Sys2Proof Sys2Proof.Machine Sys2Proof.Laws

section
variable {s t : State} {r : FaultRep} {code : Nat} {cls : FClass} {loc : Loc} {ev : Option EvBody}

/-- What follows the switches leaves every other part of the state. -/
theorem Switches.frame (h : Switches s t) : ∃ x d o f, t = { s with safety := x, drivers := d, order := o, free := f } := ⟨_, _, _, _, h⟩

theorem Switches.common (h : Switches s t) : t.common = s.common := by
  obtain ⟨x, d, o, f, rfl⟩ := h.frame
  rfl

/-- The faults of a lane with the system-F2 line set and one more report of its own. -/
def withF2 (s : State) (r : FaultRep) : Collector :=
  { s.faults with sysF2 := true, reports := s.faults.reports ++ [{ r with lane := some s.lane }] }

/-- In the common sequence a SYSTEM F2 of this lane is one report, and the switches follow the system-F2 line (R513). -/
theorem found_f2 (hc : s.common = true) (hcls : r.cls = .f2) (hscope : r.scope = 3) (hq : r.kindL = true → Quiet s r.code r.loc) :
    s.found r = ({ s with faults := withF2 s r } : State).settle := by
  have hreport : (if r.kindL then s.reportL r else s.report r) = s.report r := by
    split
    next hk => exact reportL_new (hq hk)
    next => rfl
  have hcommon : ({ s with faults := withF2 s r } : State).settle.common = true := (settle_switches _).common.trans hc
  unfold State.found
  rw [hreport]
  extract_lets u f v
  have hv : v = ({ s with faults := withF2 s r } : State).settle := if_pos (by simp [hcls, hscope])
  rw [hv]
  exact collectOwn_common hcommon

/-- What a SYSTEM F2 of this lane leaves: the report, the line, and every switch off; only the safety unit and the drivers follow. -/
theorem found_f2_spec (hc : s.common = true) (hcls : r.cls = .f2) (hscope : r.scope = 3) (hq : r.kindL = true → Quiet s r.code r.loc) :
    Switches { s with faults := withF2 s r } (s.found r) ∧ AllOff (s.found r) := by
  rw [found_f2 hc hcls hscope hq]
  exact ⟨settle_switches _, settle_allOff (gateDisabled_of_sysF2 rfl)⟩

/-- In the common sequence a fault of this lane that is no F2 is one report. -/
theorem found_report (hc : s.common = true) (hq : (mkFault code loc none ev).kindL = true → Quiet s code loc)
    (hcls : (mkFault code loc none ev).cls = cls) (hno : cls ≠ .f2) : s.found (mkFault code loc none ev) = reported s code cls loc ev := by
  subst hcls
  have hreport : (if (mkFault code loc none ev).kindL then s.reportL (mkFault code loc none ev) else s.report (mkFault code loc none ev)) =
      s.report (mkFault code loc none ev) := by
    split
    next hk => exact reportL_new (r := mkFault code loc none ev) (hq hk)
    next => rfl
  unfold State.found
  dsimp only
  rw [hreport, if_neg (by simp [hno])]
  exact collectOwn_common (s := s.report _) hc

end
end Sys2Proof.Proofs
end

section
/-!
PROOF. O22.
-/
namespace Sys2Proof.Proofs
open Sys2Proof Sys2Proof.Machine Sys2Proof.Laws

/-! ### The rows -/

section
variable (s : State)

theorem hostWatchdogExpiry_eq : exec .hostWatchdogExpiry s =
    .next (if s.fld tgtCluster 0x0D02 1 0 = 0 then s else s.found (mkFault 0x108)) := rfl

theorem aonClockStop_eq : exec .aonClockStop s = .next (s.found (mkFault 0x386)) := rfl

theorem sramEccError_corrected : exec (.sramEccError true) s = .next (s.found (mkFault 0x38A)) := by
  change execSramEccError true s = _
  rw [execSramEccError, if_pos rfl]

theorem sramEccError_uncorrected : exec (.sramEccError false) s = .next (s.found (mkFault 0x38B)) := by
  change execSramEccError false s = _
  rw [execSramEccError, if_neg Bool.false_ne_true]

theorem stewardEccError_corrected : exec (.stewardEccError true) s = .next (s.found (mkFault 0x101)) := by
  change execStewardEccError true s = _
  rw [execStewardEccError, if_pos rfl]

theorem pcieUncorrectable_eq : exec .pcieUncorrectable s = .next (s.found (mkFault 0x105)) := rfl

theorem pcieLinkDown_eq : exec .pcieLinkDown s =
    .next (if s.host.endpoint then { s with host := { s.host with linkUp := false } }.found (mkFault 0x104)
    else { s with host := { s.host with linkUp := false } }) := rfl

/-- The lane with a supply out of its range, or near its end. -/
def badSupply (s : State) (supply v : Nat) : State := { s with power := { s.power with badSupplies := kvSet s.power.badSupplies supply v } }

theorem supplyOutOfRange_near (supply : Nat) : exec (.supplyOutOfRange supply true) s = .next ((badSupply s supply 1).found (mkFault 0x381)) := by
  change execSupplyOutOfRange supply true s = _
  simp only [execSupplyOutOfRange, if_true]
  rfl

theorem supplyOutOfRange_core : exec (.supplyOutOfRange 0 false) s = .next ((badSupply s 0 2).enterF3 (mkFault 0x380)) := by
  change execSupplyOutOfRange 0 false s = _
  simp only [execSupplyOutOfRange, Bool.false_eq_true, if_false]
  rfl

theorem supplyOutOfRange_aon : exec (.supplyOutOfRange 1 false) s = .next ((badSupply s 1 2).enterF3 (mkFault 0x383)) := by
  change execSupplyOutOfRange 1 false s = _
  simp only [execSupplyOutOfRange, Bool.false_eq_true, if_false]
  rfl

theorem supplyOutOfRange_io {supply : Nat} (hlow : 2 ≤ supply) (hhigh : supply ≤ 4) :
    exec (.supplyOutOfRange supply false) s = .next ((badSupply s supply 2).found (mkFault 0x382)) := by
  change execSupplyOutOfRange supply false s = _
  simp only [execSupplyOutOfRange, Bool.false_eq_true, if_false]
  obtain rfl | rfl | rfl : supply = 2 ∨ supply = 3 ∨ supply = 4 := by omega
  · rfl
  · rfl
  · rfl

end

/-- Settles O22: a fault that is no F2 is one report; a SYSTEM F2 acts at once; a core or network supply out of range is an F3. -/
theorem faultsOfOneLaneAreReported : Obligations.FaultsOfOneLaneAreReported := by
  intro s sup hc none_ atOnce bad
  have f2 (u : State) (p : Power) (code : Nat) (hu : u = { s with power := p }) (hcls : (mkFault code).cls = .f2) (hscope : (mkFault code).scope = 3)
      (hq : (mkFault code).kindL = true → Quiet s code none_) : atOnce (u.found (mkFault code)) p code := by
    subst hu
    obtain ⟨hsw, hoff⟩ := found_f2_spec (s := { s with power := p }) (r := mkFault code) hc hcls hscope hq
    obtain ⟨x, d, o, f, ht⟩ := hsw.frame
    rw [ht] at hoff ⊢
    refine ⟨hoff, rfl, ?_, rfl, rfl, rfl, rfl⟩
    rw [reported, ← hcls]
    rfl
  refine ⟨fun hq hrow => ?watchdog, fun hrow => ?off, fun hq => ?aon, ?corrected, ?sram, ?steward, ?pcie, fun hq hep => ?link,
    fun hq => ?near, fun hq hlow hhigh => ?io, fun code hcode hhere => ?supply⟩
  case watchdog =>
    rw [hostWatchdogExpiry_eq, if_neg hrow, found_quiet hc hq rfl (by decide)]
    rfl
  case off => rw [hostWatchdogExpiry_eq, if_pos hrow]
  case aon =>
    rw [aonClockStop_eq, found_quiet hc hq rfl (by decide)]
    rfl
  case corrected =>
    rw [sramEccError_corrected]
    exact congrArg _ (found_edge hc rfl rfl (by decide))
  case sram => exact ⟨_, sramEccError_uncorrected s, f2 s s.power 0x38B rfl rfl rfl nofun⟩
  case steward =>
    rw [stewardEccError_corrected]
    exact congrArg _ (found_edge hc rfl rfl (by decide))
  case pcie =>
    rw [pcieUncorrectable_eq]
    exact congrArg _ (found_edge hc rfl rfl (by decide))
  case link =>
    rw [pcieLinkDown_eq, if_pos hep, found_quiet (s := { s with host := { s.host with linkUp := false } }) hc hq rfl (by decide)]
    rfl
  case near =>
    rw [supplyOutOfRange_near, found_quiet (s := badSupply s sup 1) hc hq rfl (by decide)]
    rfl
  case io => exact ⟨_, supplyOutOfRange_io s hlow hhigh, f2 _ (bad 2) 0x382 rfl rfl rfl fun _ => hq⟩
  case supply =>
    obtain ⟨rfl, rfl⟩ | ⟨rfl, rfl⟩ := hcode
    · exact ⟨_, supplyOutOfRange_core s, enterF3_stops (s := badSupply s 0 2) fun _ => hhere⟩
    · exact ⟨_, supplyOutOfRange_aon s, enterF3_stops (s := badSupply s 1 2) fun _ => hhere⟩

end Sys2Proof.Proofs
end

section
/-!
PROOF. O23.
-/
namespace Sys2Proof.Proofs
open Sys2Proof Sys2Proof.Machine Sys2Proof.Laws

section
variable {s t : State} {code sup sensor : Nat} {loc : Loc}

/-! ### Supplies (R504) -/

/-- A source that nothing names, with no fault report among the bodies, has no condition to end. -/
theorem reportEnd_unnamed (hq : Quiet s code loc)
    (hh : ∀ h ∈ s.order.held, ∃ c l, h.body = some (.sourceEnded c l)) (ha : s.order.accepted = []) :
    s.reportEnd code loc = s := by
  obtain ⟨hactive, hreports⟩ := hq
  unfold State.reportEnd
  simp only [hactive, hreports, ha, List.any_nil, Bool.or_false, Bool.false_or]
  refine if_neg fun hany => ?_
  obtain ⟨h, hmem, hfault⟩ := List.any_eq_true.mp hany
  obtain ⟨c, l, hbody⟩ := hh h hmem
  rw [hbody] at hfault
  exact Bool.false_ne_true hfault

theorem pcieLinkUp_eq (s : State) : exec .pcieLinkUp s = .next (if s.host.endpoint then
    { s with host := { s.host with linkUp := true, retry := !s.power.steward } }.foundEnd 0x104 {} else s) := rfl

/-- A supply that returned, with every other supply in its range, ends both its conditions. -/
theorem supplyReturnToRange_last (h : kvDel s.power.badSupplies sup = []) : exec (.supplyReturnToRange sup) s =
    .next ((({ s with power := { s.power with badSupplies := kvDel s.power.badSupplies sup } } : State).foundEnd 0x382 {}).foundEnd 0x381 {}) := by
  change execSupplyReturnToRange sup s = _
  unfold execSupplyReturnToRange
  dsimp only
  rw [h]
  simp

/-! ### Temperatures (Table 13.15) -/

theorem temperatureThreshold_eq (c : Int) : exec (.temperatureThreshold sensor c) s =
    .next (((({ s with power := { s.power with temps := setAt s.power.temps sensor c } } : State).tempFault 0x387 135).tempFault
      0x388 145).tempFault 0x389 150) := rfl

theorem tempFault_begins {th x : Int} (hx : x ∈ s.power.temps) (hth : th ≤ x) : s.tempFault code th = s.found (mkFault code) :=
  if_pos (List.any_eq_true.mpr ⟨x, hx, decide_eq_true hth⟩)

theorem tempFault_ends {th : Int} (h : ∀ x ∈ s.power.temps, x ≤ th - 5) : s.tempFault code th = s.foundEnd code {} := by
  unfold State.tempFault
  rw [if_neg, if_pos]
  · exact List.all_eq_true.mpr fun x hx => decide_eq_true (h x hx)
  · intro hany
    obtain ⟨x, hx, hth⟩ := List.any_eq_true.mp hany
    have := h x hx
    have := of_decide_eq_true hth
    omega

theorem mem_setAt_self {l : List Int} {n : Nat} (h : n < l.length) (c : Int) : c ∈ setAt l n c :=
  List.mem_of_getElem? (modAt_getElem?_self _ (List.getElem?_eq_getElem h))

theorem forall_mem_setAt {l : List Int} {n : Nat} {c : Int} {p : Int → Prop} (hc : p c) (hl : ∀ x ∈ l, p x) : ∀ x ∈ setAt l n c, p x := by
  intro x hx
  obtain ⟨m, hm⟩ := List.mem_iff_getElem?.mp hx
  rw [setAt_getElem?] at hm
  split at hm
  · obtain ⟨-, -, rfl⟩ := Option.map_eq_some_iff.mp hm
    exact hc
  · exact hl x (List.mem_of_getElem? hm)

/-- One more report leaves a source of another code quiet. -/
theorem Quiet.reported {other : Nat} {cls : FClass} {ev : Option EvBody} (hq : Quiet s code loc) (hne : other ≠ code) :
    Quiet (reported s other cls loc ev) code loc := by
  obtain ⟨hactive, hreports⟩ := hq
  refine ⟨hactive, ?_⟩
  simp only [Sys2Proof.reported, List.any_append, hreports, Bool.false_or]
  simp [hne]

end

/-- Settles O23: an ended condition is one body; a reading begins the faults at whose thresholds it stands. -/
theorem conditionsEndThroughTheCommandOrder : Obligations.ConditionsEndThroughTheCommandOrder := by
  intro s sup sensor c hc hlen ended left read
  have hend (u : State) (code : Nat) (hu : u.common = true) (h : u.isActive code locNone = true) : u.foundEnd code {} = ended u code :=
    (foundEnd_common hu code _).trans (reportEnd_active h)
  refine ⟨fun h => congrArg _ (hend s 0x386 hc h), fun hep h => ?link, fun hnone h hq hh ha => ?near, fun hnone h hq hh ha => ?io,
    fun hlow hhigh hall hq7 hq8 hq9 hh ha => ?warm, fun hhot hq7 hq8 hq9 => ?hot⟩
  case link =>
    rw [pcieLinkUp_eq, if_pos hep]
    exact congrArg _ (hend { s with host := { s.host with linkUp := true, retry := !s.power.steward } } 0x104 hc h)
  case near =>
    have hquiet : left.foundEnd 0x382 {} = left := (foundEnd_common (s := left) hc _ _).trans (reportEnd_quiet (s := left) hq hh ha)
    rw [supplyReturnToRange_last hnone]
    change Host.Outcome.next ((left.foundEnd 0x382 {}).foundEnd 0x381 {}) = _
    rw [hquiet, hend left 0x381 hc h]
  case io =>
    have hquiet : (ended left 0x382).foundEnd 0x381 {} = ended left 0x382 := by
      refine (foundEnd_common (s := ended left 0x382) hc _ _).trans (reportEnd_unnamed (s := ended left 0x382) hq (fun x hx => ?_) ha)
      change x ∈ s.order.held ++ _ at hx
      rw [hh] at hx
      obtain rfl := List.mem_singleton.mp hx
      exact ⟨_, _, rfl⟩
    rw [supplyReturnToRange_last hnone]
    change Host.Outcome.next ((left.foundEnd 0x382 {}).foundEnd 0x381 {}) = _
    rw [hend left 0x382 hc h, hquiet]
  case warm =>
    have htemps : ∀ x ∈ read.power.temps, x < 140 := forall_mem_setAt hhigh hall
    let warm : State := reported read 0x387 .f0 locNone
    have h7 : read.tempFault 0x387 135 = warm := by
      rw [tempFault_begins (s := read) (mem_setAt_self hlen c) hlow, found_quiet (s := read) hc hq7 rfl (by decide)]
      rfl
    have hquiet (code : Nat) (hq : Quiet s code locNone) (hne : 0x387 ≠ code) : warm.foundEnd code {} = warm :=
      (foundEnd_common (s := warm) hc _ _).trans (reportEnd_quiet (s := warm) (Quiet.reported (s := read) hq hne) hh ha)
    rw [temperatureThreshold_eq, h7, tempFault_ends (s := warm) fun x hx => ?_, hquiet 0x388 hq8 (by decide),
      tempFault_ends (s := warm) fun x hx => ?_, hquiet 0x389 hq9 (by decide)]
    · have := htemps x hx; omega
    · have := htemps x hx; omega
  case hot =>
    let s7 : State := reported read 0x387 .f0 locNone
    let s8 : State := reported s7 0x388 .f1 locNone
    have hmem : c ∈ read.power.temps := mem_setAt_self hlen c
    have hq8' : Quiet s7 0x388 locNone := Quiet.reported (s := read) hq8 (by decide)
    have hq9' : Quiet s8 0x389 locNone := Quiet.reported (s := s7) (Quiet.reported (s := read) hq9 (by decide)) (by decide)
    have h7 : read.tempFault 0x387 135 = s7 := by
      rw [tempFault_begins (s := read) hmem (by omega), found_quiet (s := read) hc hq7 rfl (by decide)]
      rfl
    have h8 : s7.tempFault 0x388 145 = s8 := by
      rw [tempFault_begins (s := s7) hmem (by omega), found_quiet (s := s7) hc hq8' rfl (by decide)]
      rfl
    obtain ⟨hsw, hoff⟩ := found_f2_spec (s := s8) (r := mkFault 0x389) hc rfl rfl fun _ => hq9'
    obtain ⟨x, d, o, f, ht⟩ := hsw.frame
    refine ⟨_, temperatureThreshold_eq c, ?_⟩
    rw [h7, h8, tempFault_begins (s := s8) hmem hhot, ht]
    rw [ht] at hoff
    refine ⟨hoff, rfl, rfl, ?_⟩
    simp only [withF2, s8, s7, reported, read, List.map_append, List.append_assoc]
    rfl

end Sys2Proof.Proofs
end

section
/-!
SUPPORT. The lock-out (R469, R474, R475): what it makes of the safety unit, and the safety F2 that leaves it.
-/
namespace Sys2Proof.Proofs
open Sys2Proof Sys2Proof.Machine Sys2Proof.Laws

section
variable {s t : State} {code by_ n : Nat} {loc : Loc}

/-- The safety unit of a lane as a lock-out with a cause leaves it, before the switches follow. -/
def lockedUnit (s : State) (code by_ : Nat) (f3 : Bool) : Safety :=
  let again := s.lockedOut && s.safety.lockoutCause.toNat == code
  { s.safety with
    proc := { demandAll s.siEnabled s.safety.proc with lockout := true }, dyke := { demandAll s.siEnabled s.safety.dyke with lockout := true },
    lockoutId := if again then s.safety.lockoutId else s.safety.lockoutId + 1,
    lockoutBy := if again then s.safety.lockoutBy ||| BitVec.ofNat 2 by_ else BitVec.ofNat 2 by_,
    lockoutCause := BitVec.ofNat 12 code, lockoutF3 := (s.lockedOut && s.safety.lockoutF3) || f3,
    release := List.replicate 4 false, ackPending := none }

/-- The lane as a safety F2 leaves it before the switches follow. -/
def f2Locked (s : State) (code by_ : Nat) : State := { s with
  safety := lockedUnit s code by_ false, faults := { s.faults with sysF2 := true } }

theorem lockOut_f2 (s : State) (code by_ : Nat) : s.lockOut code by_ false = (f2Locked s code by_).settle := by
  unfold State.lockOut
  dsimp only
  rw [if_neg Bool.false_ne_true]
  rfl

theorem demandAll_st {en : Nat → Bool} {c : Chan} (hn : n < 8) (hen : en n = true) : ((demandAll en c).ins.getD n {}).st = .demand := by
  simp [demandAll, List.getD_eq_getElem?_getD, hn, hen]

theorem stays_release_f2 (h : s.faults.sysF2 = true) : (stays s).safety.release = List.replicate 4 false := by
  unfold stays
  rw [if_pos (by simp [clearsAll, h])]
  rfl

theorem Switches.quiet (h : Switches s t) (hq : Quiet s code loc) : Quiet t code loc := by
  obtain ⟨x, d, o, f, rfl⟩ := h.frame
  exact hq

/-- A new report of a lane of the common sequence waits for the command order. -/
theorem reportL_collectOwn {r : FaultRep} (hc : s.common = true) (hq : Quiet s r.code r.loc) : (s.reportL r).collectOwn = s.report r := by
  rw [reportL_new hq]
  exact collectOwn_common (s := s.report r) hc

/-- The report of a safety F2 that left the lane `s`, with its LOCKOUT event (R474). -/
def lockoutReport (s : State) (code : Nat) (loc : Loc) : FaultRep :=
  { code := code, cls := .f2, loc := loc, event := some { code := 0x5C3, payload :=
    [BitVec.ofNat 8 (Lane.num s.lane), s.safety.lockoutId, BitVec.ofNat 8 s.safety.lockoutBy.toNat] ++ toLe 2 code } }

theorem safetyF2_eq (s : State) (code by_ : Nat) (loc : Loc) : s.safetyF2 code by_ loc =
    (f2Locked s code by_).settle.reportL (lockoutReport (f2Locked s code by_).settle code loc) := by
  rw [← lockOut_f2]
  rfl

theorem safetyF2_collectOwn (hc : s.common = true) (hq : Quiet s code loc) : (s.safetyF2 code by_ loc).collectOwn =
    (f2Locked s code by_).settle.report (lockoutReport (f2Locked s code by_).settle code loc) := by
  have hcommon : (f2Locked s code by_).settle.common = true := (settle_switches _).common.trans hc
  have hquiet : Quiet (f2Locked s code by_).settle code loc := (settle_switches _).quiet hq
  rw [safetyF2_eq]
  exact reportL_collectOwn (r := lockoutReport _ code loc) hcommon hquiet

/-- In the common sequence a safety F2 that is not active already locks the lane out. -/
theorem safetyF2_locksOut (hc : s.common = true) (hq : Quiet s code loc) : LockedOut s (s.safetyF2 code by_ loc).collectOwn code loc := by
  have hoff : AllOff (f2Locked s code by_).settle := settle_allOff (gateDisabled_of_sysF2 rfl)
  have hrelease : (stays (f2Locked s code by_)).safety.release = List.replicate 4 false := stays_release_f2 rfl
  obtain ⟨tests, seen, pd, dd, outs, o, f, hform⟩ := settle_form (f2Locked s code by_)
  rw [hrelease] at hform
  rw [safetyF2_collectOwn hc hq]
  generalize (f2Locked s code by_).settle = v at hoff hform ⊢
  subst hform
  exact ⟨rfl, rfl, rfl, rfl, rfl, rfl, fun n hn hen => ⟨demandAll_st hn hen, demandAll_st hn hen⟩, hoff, _, rfl, rfl⟩

theorem report_safety (s : State) (r : FaultRep) : (s.report r).safety = s.safety := rfl

theorem safetyF2_safety (hc : s.common = true) (hq : Quiet s code loc) :
    (s.safetyF2 code by_ loc).collectOwn.safety = (f2Locked s code by_).settle.safety := by
  rw [safetyF2_collectOwn hc hq, report_safety]

end
end Sys2Proof.Proofs
end

section
/-!
PROOF. O11.
-/
namespace Sys2Proof.Proofs
open Sys2Proof Sys2Proof.Machine Sys2Proof.Laws

section
variable {s t : State} {code by_ n : Nat} {loc : Loc} {c : SafeChan}

/-! ### What a safety F2 leaves of the rest of the safety unit -/

/-- A lock-out of a lane whose safety unit the row itself changed first. -/
theorem LockedOut.of_safety {x : Safety} (h : LockedOut { s with safety := x } t code loc) (hset : x.setInForce = s.safety.setInForce) :
    LockedOut s t code loc := by
  obtain ⟨hframe, hproc, hdyke, hcause, hrelease, hack, hins, hoff, hev⟩ := h
  refine ⟨hframe, hproc, hdyke, hcause, hrelease, hack, fun n hn hen => hins n hn ?_, hoff, hev⟩
  rw [State.siEnabled, State.setByte] at hen ⊢
  rwa [hset]

theorem settle_sealNow (s : State) : s.settle.safety.sealNow = s.safety.sealNow := by
  obtain ⟨tests, seen, pd, dd, outs, o, f, hform⟩ := settle_form s
  rw [hform]

theorem settle_beatLost (s : State) (c : SafeChan) : (s.settle.chan c).beatLost = (s.chan c).beatLost := by
  obtain ⟨tests, seen, pd, dd, outs, o, f, hform⟩ := settle_form s
  rw [hform]
  cases c <;> rfl

theorem f2Locked_beatLost (s : State) (c : SafeChan) (code by_ : Nat) : ((f2Locked s code by_).chan c).beatLost = (s.chan c).beatLost := by
  cases c <;> rfl

/-! ### The rows (Table 11.9) -/

theorem exec_discrepancyTimeout (c : SafeChan) (n : Nat) (s : State) : exec (.discrepancyTimeout c n) s =
    .next (if s.siEnabled n && s.discrepant n then (s.safetyF2 0x300 (chanBit c) (locInput n)).collectOwn else s) := rfl

theorem exec_testMissing (n : Nat) (s : State) : exec (.testMissing n) s =
    .next (if s.testsEnabled && s.sdoSafe n && s.sdoOn n then (s.safetyF2 0x302 2 (locSdo n)).collectOwn else s) := rfl

/-- The lane with a word of the seal read (R466). -/
def sealRead (s : State) (word : BitVec 8) : State := { s with safety := { s.safety with sealNow := word } }

theorem exec_sealPoll (c : SafeChan) (word : BitVec 8) (s : State) : exec (.sealPoll c word) s = .next (if s.safety.startDone then
    (if word = s.safety.sealStart then sealRead s word else ((sealRead s word).safetyF2 0x303 (chanBit c) locNone).collectOwn) else s) := rfl

/-- The lane after a channel lost the other's heartbeat. -/
def beatGone (s : State) (c : SafeChan) : State := s.updChan c (fun x => { x with beatLost := true })

theorem exec_heartbeatLoss (c : SafeChan) (s : State) : exec (.heartbeatLoss c) s =
    .next (if (s.chan c).started then ((beatGone s c).safetyF2 0x304 (chanBit c) locNone).collectOwn else s) := rfl

/-- The cross line of the other channel (R443). -/
def otherOff (s : State) (c : SafeChan) (n : Nat) : Bool :=
  match c with | .proc => s.safety.dyke.off.getD n true | .dyke => s.safety.proc.off.getD n true

theorem exec_crossMismatch (c : SafeChan) (n : Nat) (s : State) : exec (.crossMismatch c n) s =
    .next (if s.safety.startDone && otherOff s c n then (s.safetyF2 0x305 (chanBit c) (locSdo n)).collectOwn else s) := by
  cases c <;> rfl

theorem exec_vdykRange (s : State) : exec .vdykRange s = .next (s.safetyF2 0x306 1 locNone).collectOwn := rfl

theorem exec_safeSupply (s : State) : exec .safeSupply s = .next (s.safetyF2 0x307 2 locNone).collectOwn := rfl

/-- A channel is part of the safety unit. -/
theorem chan_congr (c : SafeChan) (h : t.safety = s.safety) : t.chan c = s.chan c := by
  cases c with
  | proc => exact congrArg Safety.proc h
  | dyke => exact congrArg Safety.dyke h

theorem beatGone_form (s : State) (c : SafeChan) : ∃ x : Safety, beatGone s c = { s with safety := x } ∧ x.setInForce = s.safety.setInForce ∧
    ((beatGone s c).chan c).beatLost = true := by
  cases c <;> exact ⟨_, rfl, rfl, rfl⟩

end

/-- Settles O11: each row leaves a safety F2, and a safety F2 of a quiet source locks the lane out. -/
theorem safetyF2LocksTheLaneOut : Obligations.SafetyF2LocksTheLaneOut := by
  intro s c n word hc
  rw [exec_discrepancyTimeout, exec_testMissing, exec_sealPoll, exec_heartbeatLoss, exec_crossMismatch, exec_vdykRange, exec_safeSupply]
  refine ⟨fun hen hd hq => ?discrepancy, fun he hs ho hq => ?test, fun hd hw hq => ?poll, fun hst hq => ?beat, fun hd hoff hq => ?cross,
    fun hq => ⟨_, rfl, safetyF2_locksOut hc hq⟩, fun hq => ⟨_, rfl, safetyF2_locksOut hc hq⟩⟩
  case discrepancy =>
    rw [if_pos (by rw [hen, hd]; rfl)]
    exact ⟨_, rfl, safetyF2_locksOut hc hq⟩
  case test =>
    rw [if_pos (by rw [he, hs, ho]; rfl)]
    exact ⟨_, rfl, safetyF2_locksOut hc hq⟩
  case poll =>
    rw [if_pos hd, if_neg hw]
    refine ⟨_, rfl, LockedOut.of_safety (safetyF2_locksOut (s := sealRead s word) hc hq) rfl, ?_⟩
    rw [safetyF2_safety (s := sealRead s word) hc hq, settle_sealNow]
    rfl
  case beat =>
    obtain ⟨x, hgone, hset, hlost⟩ := beatGone_form s c
    have hc' : (beatGone s c).common = true := by rw [hgone]; exact hc
    have hq' : Quiet (beatGone s c) 0x304 locNone := by rw [hgone]; exact hq
    have hlocked := safetyF2_locksOut (by_ := chanBit c) hc' hq'
    rw [if_pos hst]
    refine ⟨_, rfl, ?_, ?_⟩
    · rw [hgone] at hlocked ⊢
      exact LockedOut.of_safety hlocked hset
    · rw [chan_congr c (safetyF2_safety hc' hq'), settle_beatLost, f2Locked_beatLost]
      exact hlost
  case cross =>
    rw [if_pos (by rw [hd, show otherOff s c n = true from hoff]; rfl)]
    exact ⟨_, rfl, safetyF2_locksOut hc hq⟩

end Sys2Proof.Proofs
end

section
/-!
SUPPORT. Safety inputs (R446, R447, R472, Table 11.3): the step of one input, what its report adds, and what it leaves.
-/
namespace Sys2Proof.Proofs
open Sys2Proof Sys2Proof.Machine Sys2Proof.Laws

section
variable {s t : State} {n m : Nat} {c k : SafeChan}

/-! ### Channels and their inputs -/

@[simp] theorem chan_updChan_self (s : State) (c : SafeChan) (f : Chan → Chan) : (s.updChan c f).chan c = f (s.chan c) := by
  cases c <;> rfl

/-- An input of a channel, as the safety unit holds it. -/
def inputOf (x : Safety) (c : SafeChan) (n : Nat) : SafeIn :=
  match c with | .proc => x.proc.ins.getD n {} | .dyke => x.dyke.ins.getD n {}

theorem chan_ins_getD (s : State) (c : SafeChan) (n : Nat) : (s.chan c).ins.getD n {} = inputOf s.safety c n := by
  cases c <;> rfl

theorem getD_modAt_ne {α : Type} (f : α → α) {l : List α} (h : m ≠ n) (d : α) : (modAt l n f).getD m d = l.getD m d := by
  rw [List.getD_eq_getElem?_getD, List.getD_eq_getElem?_getD, modAt_getElem?_ne f h]

/-! ### The step of an input (Table 11.3) -/

/-- An input as Table 11.3 takes it on, in either channel. -/
def steppedIn (s : State) (n : Nat) (i : SafeIn) : SafeIn :=
  let st := if s.siEnabled n then inputNext (s.demanded n) (s.safety.startDone && !s.lockedOut) (s.siOffDelay n ≠ 0) (s.siManual n) i.st else i.st
  { i with st := st, delay := st == .delay }

/-- The safety unit with one input taken on in both channels. -/
def steppedUnit (s : State) (n : Nat) : Safety :=
  { s.safety with proc := s.safety.proc.updIn n (steppedIn s n), dyke := s.safety.dyke.updIn n (steppedIn s n) }

/-- `t` is `s` but for bodies that wait for the command order, and the mark of a demand with its interrupt. -/
def Told (s t : State) : Prop := t = { s with
  safety := { s.safety with demandSeen := t.safety.demandSeen }, order := t.order, host := t.host, tx := t.tx }

theorem Told.trans {u : State} (h : Told s t) (k : Told t u) : Told s u := by
  rw [Told] at h k ⊢
  rw [k, h]

theorem Told.common (h : Told s t) : t.common = s.common := by rw [h]; rfl

theorem irq7_told (s : State) (was : Bool) : Told s (s.irq7 was) := by
  obtain ⟨irq, tx, h⟩ := irq7_eq s was
  rw [h]
  rfl

theorem reportBody_told (s : State) (b : Body) : Told s (s.reportBody b) := rfl

theorem collectOwn_told (hc : s.common = true) : Told s s.collectOwn := by
  rw [collectOwn_common hc]
  rfl

theorem setDemandSeen_told (s : State) : Told s { s with safety := { s.safety with demandSeen := true } } := rfl

theorem safetyDemand_told (hc : s.common = true) (n : Nat) (st : InState) : Told s (s.safetyDemand n st) := by
  unfold State.safetyDemand
  extract_lets pins was unit u
  have hseen : Told s u := rfl
  have hsent : Told s (u.irq7 was) := hseen.trans (irq7_told u was)
  have hbody := hsent.trans (reportBody_told (u.irq7 was) (.safetyDemand n { code := 0x5C0, payload :=
    [BitVec.ofNat 8 (Lane.num u.lane), BitVec.ofNat 8 n, BitVec.ofNat 8 pins, BitVec.ofNat 8 (inCode st)] }))
  exact hbody.trans (collectOwn_told (hbody.common.trans hc))

theorem safetyClear_told (hc : s.common = true) (n : Nat) (st : InState) (mark : Bool) : Told s (s.safetyClear n st mark) :=
  (reportBody_told s _).trans (collectOwn_told ((reportBody_told s _).common.trans hc))

/-- In the common sequence an input that follows its demand is taken on, its report waits, and the switches follow. -/
theorem followInput_common (hc : s.common = true) (n : Nat) : ∃ v, s.followInput n = v.settle ∧
    Told { s with safety := steppedUnit s n } v := by
  unfold State.followInput
  extract_lets d live old f u new v
  refine ⟨v, rfl, ?_⟩
  have hu : u = { s with safety := steppedUnit s n } := rfl
  have huc : u.common = true := by rw [hu]; exact hc
  rw [← hu]
  clear_value u
  unfold v
  split
  · exact safetyDemand_told huc n _
  split
  · exact safetyClear_told huc n _ false
  · rfl

end
end Sys2Proof.Proofs
end

section
/-!
PROOF. O12.
-/
namespace Sys2Proof.Proofs
open Sys2Proof Sys2Proof.Machine Sys2Proof.Laws

section
variable {s t v : State} {n m : Nat} {c k : SafeChan}

/-! ### Outputs that an input holds (R450, R451) -/

theorem settle_chan_ins (s : State) (c : SafeChan) : (s.settle.chan c).ins = (s.chan c).ins := by
  obtain ⟨tests, seen, pd, dd, outs, o, f, hform⟩ := settle_form s
  rw [hform]
  cases c <;> rfl

/-- An input in DEMAND or WAIT_RESTART holds the outputs of its mask in its channel. -/
theorem inputHolds_of_input {x : Chan} (hn : n < 8) (hh : s.siHolds n m = true)
    (hst : (x.ins.getD n {}).st = .demand ∨ (x.ins.getD n {}).st = .waitRestart) : s.inputHolds x m = true := by
  refine List.any_eq_true.mpr ⟨n, List.mem_range.mpr hn, ?_⟩
  obtain h | h := hst
  · rw [hh, h]; rfl
  · rw [hh, h]; rfl

theorem stays_offP_of_holds (h : s.inputHolds s.safety.proc m = true) : (stays s).offP m = true := by
  have hholds : (stays s).inputHolds (stays s).safety.proc m = true := by
    unfold stays
    split <;> exact h
  rw [State.offP, hholds, Bool.or_true]

theorem stays_offD_of_holds (h : s.inputHolds s.safety.dyke m = true) : (stays s).offD m = true := by
  have hholds : (stays s).inputHolds (stays s).safety.dyke m = true := by
    unfold stays
    split <;> exact h
  rw [State.offD, hholds, Bool.or_true]

theorem yielded_set (s : State) : (yielded s).safety.setInForce = s.safety.setInForce := by
  rw [(yielded_keepsUnit s).unit, crossed_eq]

theorem yielded_off (s : State) : (yielded s).safety.proc.off = (List.range 4).map (stays s).offP ∧
    (yielded s).safety.dyke.off = (List.range 4).map (stays s).offD := by
  rw [(yielded_keepsUnit s).unit, crossed_eq]
  exact ⟨rfl, rfl⟩

/-- A safe output that a channel holds off is off once the switches followed (R450, R451). -/
theorem settle_held (hm : m < 4) (hs : s.sdoSafe m = true) (h : (stays s).offP m = true ∨ (stays s).offD m = true) :
    ∀ o, s.settle.drivers.outs[m]? = some o → SdoOff o := by
  intro o ho
  rw [settle_outs hm, Option.map_eq_some_iff] at ho
  obtain ⟨o', -, rfl⟩ := ho
  have hsafe : (yielded s).sdoSafe m = true := by
    rw [State.sdoSafe, State.setByte, yielded_set]
    exact hs
  obtain ⟨hproc, hdyke⟩ := yielded_off s
  have hhigh : (yielded s).highAllowed m = false := by
    rw [State.highAllowed, hproc, hdyke, crossedOff hm, crossedOff hm]
    obtain h | h := h <;> simp [h]
  have hlow : (yielded s).lowAllowed m = false := by
    rw [State.lowAllowed, hproc, hdyke, crossedOff hm, crossedOff hm]
    obtain h | h := h <;> simp [h]
  unfold settledSdo
  rw [if_pos hsafe, hhigh, hlow, Bool.and_false]
  exact sdoOff_turn o'

/-- While an input is in DEMAND or WAIT_RESTART in a channel, every safe output that it holds is off. -/
theorem settle_input_holds (hn : n < 8) (hm : m < 4) (hs : s.sdoSafe m = true) (hh : s.siHolds n m = true)
    (hst : ((s.chan c).ins.getD n {}).st = .demand ∨ ((s.chan c).ins.getD n {}).st = .waitRestart) :
    ∀ o, s.settle.drivers.outs[m]? = some o → SdoOff o := by
  cases c with
  | proc => exact settle_held hm hs (.inl (stays_offP_of_holds (inputHolds_of_input hn hh hst)))
  | dyke => exact settle_held hm hs (.inr (stays_offD_of_holds (inputHolds_of_input hn hh hst)))

/-! ### An input that follows its pins -/

/-- The lane after a channel read a level at a pin. -/
def pinRead (s : State) (c : SafeChan) (n : Nat) (level : Bool) : State :=
  s.updChan c (fun x => x.updIn n (fun i => { i with pin := s.pinDemand c n level, lowNow := level }))

theorem exec_safetyInputChange (c : SafeChan) (n : Nat) (level : Bool) (s : State) :
    exec (.safetyInputChange c n level) s = .next ((pinRead s c n level).followInput n) := rfl

theorem Told.chan_ins (h : Told s t) (c : SafeChan) : (t.chan c).ins = (s.chan c).ins := by
  rw [h]
  cases c <;> rfl

theorem steppedUnit_ins (s : State) (n : Nat) (c : SafeChan) :
    (State.chan { s with safety := steppedUnit s n } c).ins = modAt (s.chan c).ins n (steppedIn s n) := by
  cases c <;> rfl

/-- The inputs of either channel after one followed its demand. -/
theorem followInput_ins (hc : s.common = true) (n : Nat) (c : SafeChan) :
    ((s.followInput n).chan c).ins = modAt (s.chan c).ins n (steppedIn s n) := by
  obtain ⟨v, heq, hv⟩ := followInput_common hc n
  rw [heq, settle_chan_ins, hv.chan_ins, steppedUnit_ins]

/-- What an input that follows its demand leaves of the rest of the lane. -/
theorem followInput_frame (hc : s.common = true) (n : Nat) : ∃ x d o h tx f, s.followInput n =
    { s with safety := x, drivers := d, order := o, host := h, tx := tx, free := f } := by
  obtain ⟨v, heq, hv⟩ := followInput_common hc n
  obtain ⟨x, d, o, f, hsw⟩ := (settle_switches v).frame
  rw [heq, hsw, hv]
  exact ⟨_, _, _, _, _, _, rfl⟩

/-- After an input followed its demand, the safe outputs that it holds are off while it is in DEMAND or WAIT_RESTART. -/
theorem followInput_holds (hc : s.common = true) (hn : n < 8) (hm : m < 4) (hs : s.sdoSafe m = true) (hh : s.siHolds n m = true)
    (hst : (((s.followInput n).chan c).ins.getD n {}).st = .demand ∨ (((s.followInput n).chan c).ins.getD n {}).st = .waitRestart) :
    ∀ o, (s.followInput n).drivers.outs[m]? = some o → SdoOff o := by
  obtain ⟨v, heq, hv⟩ := followInput_common hc n
  rw [heq, settle_chan_ins] at hst
  rw [heq]
  have hset : v.safety.setInForce = s.safety.setInForce := by rw [hv]; rfl
  refine settle_input_holds hn hm ?_ ?_ hst
  · rw [State.sdoSafe, State.setByte, hset]
    exact hs
  · rw [State.siHolds, State.setByte, hset]
    exact hh

end
end Sys2Proof.Proofs
end

section
/-!
PROOF. O12.
-/
namespace Sys2Proof.Proofs
open Sys2Proof Sys2Proof.Machine Sys2Proof.Laws

section
variable {s t v : State} {n m : Nat} {c k : SafeChan} {level : Bool}

/-- The demand of one pin as its channel reads it (Table 11.2). -/
def pinOf (s : State) (c : SafeChan) (n : Nat) (level : Bool) : Bool :=
  match c with | .proc => !level | .dyke => if s.siAntivalent n then level else !level

/-- The demand that the other channel reads. -/
def otherPin (s : State) (c : SafeChan) (n : Nat) : Bool :=
  match c with | .proc => (s.safety.dyke.ins.getD n {}).pin | .dyke => (s.safety.proc.ins.getD n {}).pin

theorem pinDemand_enabled (hen : s.siEnabled n = true) : s.pinDemand c n level = pinOf s c n level := by
  unfold State.pinDemand
  rw [hen, Bool.true_and]
  cases c <;> rfl

/-- Reading a pin changes one input of one channel. -/
theorem pinRead_ins (s : State) (c k : SafeChan) (n : Nat) (level : Bool) : ((pinRead s c n level).chan k).ins =
    if k = c then modAt (s.chan k).ins n (fun i => { i with pin := s.pinDemand c n level, lowNow := level }) else (s.chan k).ins := by
  cases c <;> cases k <;> rfl

theorem pinRead_other (h : m ≠ n) : ((pinRead s c n level).chan k).ins[m]? = (s.chan k).ins[m]? := by
  rw [pinRead_ins]
  split
  · exact modAt_getElem?_ne _ h
  · rfl

theorem pinRead_st : (((pinRead s c n level).chan k).ins.getD n {}).st = ((s.chan k).ins.getD n {}).st := by
  rw [pinRead_ins]
  split
  · by_cases hn : n < (s.chan k).ins.length
    · rw [modAt_getD _ hn]
    · rw [List.getD_eq_default _ _ (by simpa using hn), List.getD_eq_default _ _ (by simpa using hn)]
  · rfl

theorem pinRead_self (hn : n < (s.chan c).ins.length) :
    (((pinRead s c n level).chan c).ins.getD n {}).pin = s.pinDemand c n level ∧ (((pinRead s c n level).chan c).ins.getD n {}).lowNow = level := by
  rw [pinRead_ins, if_pos rfl, modAt_getD _ hn]
  exact ⟨rfl, rfl⟩

theorem chan_proc (s : State) : s.chan .proc = s.safety.proc := rfl

theorem demanded_eq (s : State) (n : Nat) :
    s.demanded n = (((s.chan .proc).ins.getD n {}).pin || ((s.chan .dyke).ins.getD n {}).pin) := rfl

theorem pinRead_demanded (hen : s.siEnabled n = true) (hn : n < (s.chan c).ins.length) :
    (pinRead s c n level).demanded n = (pinOf s c n level || otherPin s c n) := by
  obtain ⟨hpin, -⟩ := pinRead_self (level := level) hn
  rw [pinDemand_enabled hen] at hpin
  rw [demanded_eq]
  cases c with
  | proc =>
    rw [hpin, pinRead_ins, if_neg (by decide)]
    rfl
  | dyke =>
    rw [hpin, pinRead_ins, if_neg (by decide), Bool.or_comm]
    rfl

/-- What the step of an input depends on besides its pins stays as a pin is read. -/
theorem pinRead_form (s : State) (c : SafeChan) (n : Nat) (level : Bool) : ∃ x : Safety, pinRead s c n level = { s with safety := x } ∧
    x.setInForce = s.safety.setInForce ∧ x.startDone = s.safety.startDone ∧ x.proc.lockout = s.safety.proc.lockout ∧
    x.dyke.lockout = s.safety.dyke.lockout := by
  cases c <;> exact ⟨_, rfl, rfl, rfl, rfl, rfl⟩

/-- The next state of an enabled input of a started lane that is not locked out (Table 11.3). -/
def nextState (s : State) (c : SafeChan) (n : Nat) (level : Bool) (old : InState) : InState :=
  inputNext (pinOf s c n level || otherPin s c n) true (s.siOffDelay n ≠ 0) (s.siManual n) old

theorem steppedIn_pinRead (hen : s.siEnabled n = true) (hd : s.safety.startDone = true) (hl : s.lockedOut = false)
    (hn : n < (s.chan c).ins.length) (i : SafeIn) : (steppedIn (pinRead s c n level) n i).st = nextState s c n level i.st := by
  obtain ⟨x, hform, hset, hdone, hproc, hdyke⟩ := pinRead_form s c n level
  have hen' : (pinRead s c n level).siEnabled n = true := by
    rw [hform, State.siEnabled, State.setByte, hset]
    exact hen
  have hdelay : (pinRead s c n level).siOffDelay n = s.siOffDelay n := by
    rw [hform, State.siOffDelay, hset]
    rfl
  have hmanual : (pinRead s c n level).siManual n = s.siManual n := by
    rw [hform, State.siManual, State.setByte, hset]
    rfl
  have hlive : ((pinRead s c n level).safety.startDone && !(pinRead s c n level).lockedOut) = true := by
    rw [State.lockedOut] at hl
    rw [hform, State.lockedOut, hproc, hdyke, hdone, hd, hl]
    rfl
  unfold steppedIn
  dsimp only
  rw [if_pos hen', pinRead_demanded hen hn, hlive, hdelay, hmanual]
  rfl

/-- The state of the input in either channel after a pin was read. -/
theorem safetyInputChange_st (hc : s.common = true) (hen : s.siEnabled n = true) (hd : s.safety.startDone = true) (hl : s.lockedOut = false)
    (hp : n < s.safety.proc.ins.length) (hy : n < s.safety.dyke.ins.length) :
    ((((pinRead s c n level).followInput n).chan k).ins.getD n {}).st = nextState s c n level ((s.chan k).ins.getD n {}).st := by
  have hlen (k : SafeChan) : n < (s.chan k).ins.length := by cases k with | proc => exact hp | dyke => exact hy
  have hlen' : n < ((pinRead s c n level).chan k).ins.length := by
    rw [pinRead_ins]
    split
    · rw [modAt_length]
      exact hlen k
    · exact hlen k
  obtain ⟨x, hform, -⟩ := pinRead_form s c n level
  have hc' : (pinRead s c n level).common = true := by rw [hform]; exact hc
  rw [followInput_ins hc', modAt_getD _ hlen', steppedIn_pinRead hen hd hl (hlen c), pinRead_st]

theorem steppedIn_pin (s : State) (n : Nat) (i : SafeIn) : (steppedIn s n i).pin = i.pin ∧ (steppedIn s n i).lowNow = i.lowNow := ⟨rfl, rfl⟩

/-! ### The delay of an input (R446) -/

/-- The lane after the delay timer of a channel reached OFF_DELAY. -/
def delayOver (s : State) (c : SafeChan) (n : Nat) : State := s.updChan c (fun x => x.updIn n (fun i => { i with st := .demand, delay := false }))

theorem exec_offDelayExpiry (c : SafeChan) (n : Nat) (s : State) : exec (.offDelayExpiry c n) s =
    .next (if ((s.chan c).ins.getD n {}).st == .delay then (delayOver s c n).settle.followInput n else s) := rfl

theorem steppedIn_st (hen : s.siEnabled n = true) (i : SafeIn) : (steppedIn s n i).st =
    inputNext (s.demanded n) (s.safety.startDone && !s.lockedOut) (s.siOffDelay n ≠ 0) (s.siManual n) i.st := by
  unfold steppedIn
  dsimp only
  rw [if_pos hen]

/-- The end of a delay changes one input of one channel, its pin not. -/
theorem delayOver_ins (s : State) (c k : SafeChan) (n : Nat) : ((delayOver s c n).chan k).ins =
    if k = c then modAt (s.chan k).ins n (fun i => { i with st := .demand, delay := false }) else (s.chan k).ins := by
  cases c <;> cases k <;> rfl

theorem delayOver_pin : (((delayOver s c n).chan k).ins.getD n {}).pin = ((s.chan k).ins.getD n {}).pin := by
  rw [delayOver_ins]
  split
  · by_cases hn : n < (s.chan k).ins.length
    · rw [modAt_getD _ hn]
    · rw [List.getD_eq_default _ _ (by simpa using hn), List.getD_eq_default _ _ (by simpa using hn)]
  · rfl

theorem settle_setInForce (s : State) : s.settle.safety.setInForce = s.safety.setInForce := by
  obtain ⟨tests, seen, pd, dd, outs, o, f, hform⟩ := settle_form s
  rw [hform]

theorem delayOver_setInForce (s : State) (c : SafeChan) (n : Nat) : (delayOver s c n).settle.safety.setInForce = s.safety.setInForce := by
  rw [settle_setInForce]
  cases c <;> rfl

/-- The lane after the end of a delay and the switches that followed it. -/
theorem delayOver_settled (hc : s.common = true) (hlen : n < (s.chan c).ins.length) (hdem : s.demanded n = true) (hen : s.siEnabled n = true) :
    let u := (delayOver s c n).settle
    u.common = true ∧ u.siEnabled n = true ∧ u.demanded n = true ∧ n < (u.chan c).ins.length ∧ ((u.chan c).ins.getD n {}).st = .demand := by
  have hset := delayOver_setInForce s c n
  refine ⟨(settle_switches _).common.trans (by cases c <;> exact hc), ?_, ?_, ?_, ?_⟩
  · rw [State.siEnabled, State.setByte, hset]
    exact hen
  · rw [demanded_eq, settle_chan_ins, settle_chan_ins, delayOver_pin, delayOver_pin, ← demanded_eq]
    exact hdem
  · rwa [settle_chan_ins, delayOver_ins, if_pos rfl, modAt_length]
  · rw [settle_chan_ins, delayOver_ins, if_pos rfl, modAt_getD _ hlen]

end

/-- Settles O12: the input takes the next state of Table 11.3 in both channels, and what it holds goes off as the switches follow. -/
theorem inputStatesFollowThePins : Obligations.InputStatesFollowThePins := by
  refine ⟨?pins, ?delay⟩
  case pins =>
    intro s c n level hc hen hd hl hp hy hn8 pin other
    obtain ⟨x, hform, hset, -⟩ := pinRead_form s c n level
    have hpin : pin = pinOf s c n level := by cases c <;> rfl
    have hother : other = otherPin s c n := by cases c <;> rfl
    have hc' : (pinRead s c n level).common = true := by rw [hform]; exact hc
    have hlen : n < (s.chan c).ins.length := by cases c with | proc => exact hp | dyke => exact hy
    have hlen' : n < ((pinRead s c n level).chan c).ins.length := by rwa [pinRead_ins, if_pos rfl, modAt_length]
    have hself : (((pinRead s c n level).followInput n).chan c).ins.getD n {} =
        steppedIn (pinRead s c n level) n (((pinRead s c n level).chan c).ins.getD n {}) := by rw [followInput_ins hc', modAt_getD _ hlen']
    obtain ⟨hread, hlow⟩ := pinRead_self (level := level) hlen
    refine ⟨_, exec_safetyInputChange c n level s, ?pin, ?low, ?states, fun m hm hh hs hst => ?off, ?frame⟩
    case pin => rw [hself, hpin, ← pinDemand_enabled hen]; exact hread
    case low => rw [hself]; exact hlow
    case states =>
      intro k old new
      have hnew : new = inputNext (pin || other) true (s.siOffDelay n ≠ 0) (s.siManual n) old := by
        rw [hpin, hother]
        exact safetyInputChange_st hc hen hd hl hp hy
      have hor (h : pin = true ∨ other = true) : (pin || other) = true := Bool.or_eq_true_iff.mpr h
      refine ⟨fun h hpf hof => ?_, fun h hd => ?_, fun h => ?_, fun h hd => ?_, fun h hpf hof => ?_, fun h hd => ?_, fun h hpf hof => ?_,
        fun m hm => ?_⟩
      · rw [hnew, h, hpf, hof]; rfl
      · rw [hnew, h, hor hd]
        by_cases hoff : s.siOffDelay n = 0 <;> simp [inputNext, hoff]
      · rw [hnew, h]; rfl
      · rw [hnew, h, hor hd]; rfl
      · rw [hnew, h, hpf, hof]; rfl
      · rw [hnew, h, hor hd]; rfl
      · rw [hnew, h, hpf, hof]; rfl
      · rw [followInput_ins hc', modAt_getElem?_ne _ hm, pinRead_other hm]
    case off =>
      rw [← chan_proc] at hst
      refine followInput_holds (c := .proc) hc' hn8 hm ?_ ?_ hst
      · rw [hform, State.sdoSafe, State.setByte, hset]
        exact hs
      · rw [hform, State.siHolds, State.setByte, hset]
        exact hh
    case frame =>
      obtain ⟨x', d, o, h, tx, f, hframe⟩ := followInput_frame hc' n
      rw [hframe, hform]
  case delay =>
    intro s c n m hc hlen hst hdem hen hn8
    let u : State := (delayOver s c n).settle
    obtain ⟨hc', hen', hdem', hlen', hdemand⟩ : u.common = true ∧ u.siEnabled n = true ∧ u.demanded n = true ∧ n < (u.chan c).ins.length ∧
        ((u.chan c).ins.getD n {}).st = .demand := delayOver_settled hc hlen hdem hen
    have hnew : (((u.followInput n).chan c).ins.getD n {}).st = .demand := by
      rw [followInput_ins hc', modAt_getD _ hlen', steppedIn_st hen', hdem', hdemand]
      rfl
    refine ⟨u.followInput n, ?_, hnew, fun hm hh hs => followInput_holds (c := c) hc' hn8 hm ?_ ?_ (.inl hnew)⟩
    · rw [exec_offDelayExpiry, if_pos (by rw [hst]; rfl)]
    · rw [State.sdoSafe, State.setByte, delayOver_setInForce]
      exact hs
    · rw [State.siHolds, State.setByte, delayOver_setInForce]
      exact hh

end Sys2Proof.Proofs
end

section
/-!
PROOF. O13.
-/
namespace Sys2Proof.Proofs
open Sys2Proof Sys2Proof.Machine Sys2Proof.Laws

section
variable {s t u : State} {n m : Nat} {c k : SafeChan}

/-! ### A restart pulse (R447) -/

/-- An input waits for a restart that neither pin stands against. -/
def waits (s : State) (n : Nat) : Bool := (s.safety.proc.ins.getD n {}).st == .waitRestart && !s.demanded n

theorem waits_iff : waits s n = true ↔ (s.safety.proc.ins.getD n {}).st = .waitRestart ∧ s.demanded n = false := by simp [waits]

/-- A waiting input of a channel is CLEAR. -/
def clearWait (i : SafeIn) : SafeIn := if i.st = .waitRestart then { i with st := .clear } else i

/-- The lane with a waiting input cleared in both channels, before its event. -/
def waitCleared (s : State) (n : Nat) : State :=
  (s.updChan .proc (fun c => c.updIn n clearWait)).updChan .dyke (fun c => c.updIn n clearWait)

/-- A restart pulse at one input. -/
def restartInput (s : State) (n : Nat) : State :=
  if waits s n then ((waitCleared s n).safetyClear n .clear true).settle else s

theorem restartPulse_eq (s : State) : s.restartPulse = (List.range 8).foldl restartInput s := rfl

/-- What a restart pulse leaves of a lane: the timed holds and the record of the release. -/
structure KeepsHolds (s t : State) : Prop where
  frame : t = { s with safety := t.safety, drivers := t.drivers, order := t.order, free := t.free }
  procHold : t.safety.proc.holdOk = s.safety.proc.holdOk
  dykeHold : t.safety.dyke.holdOk = s.safety.dyke.holdOk
  release : t.safety.safeReset = s.safety.safeReset ∧ t.safety.resetSince = s.safety.resetSince

theorem KeepsHolds.refl (s : State) : KeepsHolds s s := ⟨rfl, rfl, rfl, rfl, rfl⟩

theorem KeepsHolds.trans (h : KeepsHolds s t) (k : KeepsHolds t u) : KeepsHolds s u :=
  ⟨by rw [k.frame, h.frame], k.procHold.trans h.procHold, k.dykeHold.trans h.dykeHold, k.release.1.trans h.release.1,
    k.release.2.trans h.release.2⟩

theorem KeepsHolds.common (h : KeepsHolds s t) : t.common = s.common := by rw [h.frame]; rfl

theorem settle_keepsHolds (s : State) : KeepsHolds s s.settle := by
  obtain ⟨tests, seen, pd, dd, outs, o, f, hform⟩ := settle_form s
  rw [hform]
  exact ⟨rfl, rfl, rfl, rfl, rfl⟩

theorem safetyClear_common (hc : s.common = true) (n : Nat) (st : InState) (mark : Bool) :
    ∃ o, s.safetyClear n st mark = { s with order := o } := ⟨_, collectOwn_common (s := s.reportEvent _) hc⟩

theorem restartInput_spec (hc : s.common = true) (n : Nat) : KeepsHolds s (restartInput s n) ∧
    ∀ k, ((restartInput s n).chan k).ins = if waits s n then modAt (s.chan k).ins n clearWait else (s.chan k).ins := by
  unfold restartInput
  by_cases h : waits s n = true
  · obtain ⟨o, ho⟩ := safetyClear_common (s := waitCleared s n) hc n .clear true
    rw [if_pos h, ho]
    refine ⟨KeepsHolds.trans (t := { waitCleared s n with order := o }) ⟨rfl, rfl, rfl, rfl, rfl⟩ (settle_keepsHolds _), fun k => ?_⟩
    rw [settle_chan_ins, if_pos h]
    cases k <;> rfl
  · rw [if_neg h]
    exact ⟨.refl s, fun k => (if_neg h).symm⟩

theorem waits_congr (h : ∀ k, (t.chan k).ins[n]? = (s.chan k).ins[n]?) : waits t n = waits s n := by
  have hget (k : SafeChan) : (t.chan k).ins.getD n {} = (s.chan k).ins.getD n {} := by
    rw [List.getD_eq_getElem?_getD, List.getD_eq_getElem?_getD, h k]
  unfold waits
  rw [demanded_eq, demanded_eq, ← chan_proc, ← chan_proc, hget .proc, hget .dyke]

/-- A restart pulse at some inputs clears those of them that wait, and no other. -/
theorem foldl_restartInput (l : List Nat) (hl : l.Nodup) : ∀ s : State, s.common = true →
    KeepsHolds s (l.foldl restartInput s) ∧ ∀ n k, ((l.foldl restartInput s).chan k).ins[n]? =
      if n ∈ l ∧ waits s n = true then (s.chan k).ins[n]?.map clearWait else (s.chan k).ins[n]? := by
  induction l with
  | nil => exact fun s _ => ⟨.refl s, fun n k => by simp⟩
  | cons m l ih =>
    intro s hc
    obtain ⟨hm, hl⟩ := List.nodup_cons.mp hl
    obtain ⟨hkeep, hins⟩ := restartInput_spec hc m
    obtain ⟨hrest, hfold⟩ := ih hl (restartInput s m) (hkeep.common.trans hc)
    refine ⟨hkeep.trans hrest, fun n k => ?_⟩
    rw [List.foldl_cons, hfold]
    by_cases hn : n = m
    · subst hn
      rw [if_neg fun h => hm h.1, hins]
      by_cases hw : waits s n = true
      · rw [if_pos hw, if_pos ⟨List.mem_cons_self, hw⟩, modAt_getElem?, if_pos rfl]
      · rw [if_neg hw, if_neg fun h => hw h.2]
    · have hother (k : SafeChan) : ((restartInput s m).chan k).ins[n]? = (s.chan k).ins[n]? := by
        rw [hins]
        split
        · exact modAt_getElem?_ne _ hn
        · rfl
      rw [waits_congr hother, hother]
      simp [hn]

theorem clearWait_st (i : SafeIn) : (clearWait i).st ≠ .waitRestart ∧ (i.st = .waitRestart → (clearWait i).st = .clear) := by
  unfold clearWait
  split
  next h => exact ⟨nofun, fun _ => rfl⟩
  next h => exact ⟨h, fun h' => absurd h' h⟩

/-- An input that a restart pulse cleared, with the default of an input that the channel does not hold. -/
theorem cleared_getD {l l' : List SafeIn} (h : l'[n]? = l[n]?.map clearWait) : (l'.getD n {}).st ≠ .waitRestart ∧
    ((l.getD n {}).st = .waitRestart → (l'.getD n {}).st = .clear) := by
  rw [List.getD_eq_getElem?_getD, List.getD_eq_getElem?_getD, h]
  cases l[n]? with
  | none => exact ⟨nofun, nofun⟩
  | some i => exact clearWait_st i

/-! ### The release of SAFE_RESET (R447, R470) -/

/-- The lane after a release of SAFE_RESET was timed by both channels. -/
def released (s : State) (p d : Nat) : State := { s with safety := { s.safety with
  proc := { s.safety.proc with holdOk := resetHold p }, dyke := { s.safety.dyke with holdOk := resetHold d },
  safeReset := true, resetSince := some p } }

theorem exec_safeResetRelease (p d : Nat) (s : State) : exec (.safeResetRelease p d) s =
    .next (if 50 ≤ p && p ≤ 400 && 50 ≤ d && d ≤ 400 then (released s p d).restartPulse else released s p d) := rfl

theorem released_ins (s : State) (p d : Nat) (k : SafeChan) : ((released s p d).chan k).ins = (s.chan k).ins := by cases k <;> rfl

/-- A pulse in the range: what it keeps of the release, and what it does with each of the eight inputs. -/
theorem released_restartPulse (hc : s.common = true) (p d : Nat) : ∃ t, (released s p d).restartPulse = t ∧ KeepsHolds (released s p d) t ∧
    ∀ n < 8, ∀ k, (t.chan k).ins[n]? = if waits s n = true then (s.chan k).ins[n]?.map clearWait else (s.chan k).ins[n]? := by
  obtain ⟨hkeep, hins⟩ := foldl_restartInput (List.range 8) List.nodup_range (released s p d) hc
  refine ⟨_, restartPulse_eq _, hkeep, fun n hn k => ?_⟩
  rw [hins, released_ins, waits_congr (s := s) (n := n) fun k => by rw [released_ins]]
  simp [hn]

end

/-- Settles O13: a pulse in the range runs over the inputs, each cleared where it waits; a hold outside it only leaves its records. -/
theorem restartPulseActsOnWaitingInputs : Obligations.RestartPulseActsOnWaitingInputs := by
  intro s p d hc
  rw [exec_safeResetRelease]
  by_cases hr : 50 ≤ p ∧ p ≤ 400 ∧ 50 ≤ d ∧ d ≤ 400
  case neg =>
    rw [if_neg (by simpa [and_assoc] using hr)]
    exact ⟨_, rfl, rfl, rfl, rfl, rfl, fun h => absurd h hr, fun _ => ⟨rfl, rfl, rfl, rfl⟩, rfl⟩
  case pos =>
    obtain ⟨t, hpulse, hkeep, hins⟩ := released_restartPulse hc p d
    rw [if_pos (by simpa [and_assoc] using hr), hpulse]
    obtain ⟨hrelease, hsince⟩ := hkeep.release
    refine ⟨t, rfl, hkeep.procHold, hkeep.dykeHold, hrelease, hsince, fun _ n hn => ⟨fun hst hdem => ?_, fun hno => ?_⟩,
      fun h => absurd hr h, hkeep.frame⟩
    · have hcleared (k : SafeChan) := hins n hn k
      simp only [if_pos (waits_iff.mpr ⟨hst, hdem⟩)] at hcleared
      exact ⟨(cleared_getD (hcleared .proc)).2 hst, (cleared_getD (hcleared .dyke)).1⟩
    · have hrests : ¬ waits s n = true := fun h => by
        obtain ⟨hst, hdem⟩ := waits_iff.mp h
        exact hno.elim (fun h => h hst) (fun h => by rw [h] at hdem; cases hdem)
      have hkept (k : SafeChan) := hins n hn k
      simp only [if_neg hrests] at hkept
      exact ⟨hkept .proc, hkept .dyke⟩

end Sys2Proof.Proofs
end

section
/-!
SUPPORT. A safe output that nothing holds off (R450, R451): its test goes on while the switches follow (R459), and each switch is
on but for its own dark pulse.
-/
namespace Sys2Proof.Proofs
open Sys2Proof Sys2Proof.Machine Sys2Proof.Laws

section
variable {s t u : State} {m n : Nat}

/-- Nothing but a dark pulse keeps the safe output from conducting. -/
structure Released (s : State) (m : Nat) : Prop where
  voting : s.voting = true
  proc : s.offP m = false
  dyke : s.offD m = false
  free : s.driverFree m = true

theorem Released.gate (h : Released s m) : s.gateDisabled = false := by
  have hproc := h.proc
  simp only [State.offP, Bool.or_eq_false_iff] at hproc
  exact hproc.1.1

theorem Released.stays (h : Released s m) : stays s = s := by
  have hgate := h.gate
  simp only [State.gateDisabled, Bool.or_eq_false_iff] at hgate
  obtain ⟨⟨⟨-, hlock⟩, hsys⟩, hf3⟩ := hgate
  exact if_neg (by simp [clearsAll, hsys, hf3, hlock, h.voting])

/-- The test of an output, its dark switches, the cross lines and the drivers as they were. -/
structure KeepsTest (m : Nat) (s t : State) : Prop where
  test : t.safety.tests[m]? = s.safety.tests[m]?
  procDark : t.safety.proc.dark[m]? = s.safety.proc.dark[m]?
  dykeDark : t.safety.dyke.dark[m]? = s.safety.dyke.dark[m]?
  procOff : t.safety.proc.off = s.safety.proc.off
  dykeOff : t.safety.dyke.off = s.safety.dyke.off
  drivers : t.drivers = s.drivers

theorem KeepsTest.refl (s : State) : KeepsTest m s s := ⟨rfl, rfl, rfl, rfl, rfl, rfl⟩

theorem KeepsTest.trans (h : KeepsTest m s t) (k : KeepsTest m t u) : KeepsTest m s u :=
  ⟨k.test.trans h.test, k.procDark.trans h.procDark, k.dykeDark.trans h.dykeDark, k.procOff.trans h.procOff,
    k.dykeOff.trans h.dykeOff, k.drivers.trans h.drivers⟩

/-- The cross lines and the driver let the output be. -/
def LinesFree (s : State) (m : Nat) : Prop :=
  s.safety.proc.off.getD m true = false ∧ s.safety.dyke.off.getD m true = false ∧ s.driverFree m = true

theorem LinesFree.keeps (h : LinesFree s m) (k : KeepsTest m s t) : LinesFree t m := by
  unfold LinesFree State.driverFree
  rw [k.procOff, k.dykeOff, k.drivers]
  exact h

theorem supersede_keepsTest (h : LinesFree s m) (n : Nat) : KeepsTest m s (s.supersede n) := by
  obtain ⟨hproc, hdyke, hfree⟩ := h
  unfold State.supersede
  split
  case h_2 => exact .refl s
  case h_1 =>
    split
    case isFalse => exact .refl s
    case isTrue x hx hends =>
      have hne : m ≠ n := by
        rintro rfl
        rw [hproc, hdyke, hfree] at hends
        simp at hends
      exact ⟨modAt_getElem?_ne _ hne, modAt_getElem?_ne _ hne, modAt_getElem?_ne _ hne, rfl, rfl, rfl⟩

theorem foldl_supersede_keepsTest (l : List Nat) : ∀ s : State, LinesFree s m → KeepsTest m s (l.foldl State.supersede s) := by
  induction l with
  | nil => exact fun s _ => .refl s
  | cons n l ih =>
    intro s h
    have hstep := supersede_keepsTest h n
    exact hstep.trans (ih _ (h.keeps hstep))

theorem Released.crossed (h : Released s m) (hm : m < 4) : LinesFree (crossed s) m := by
  refine ⟨?_, ?_, ?_⟩
  · rw [crossed_eq, h.stays]
    exact (crossedOff hm).trans h.proc
  · rw [crossed_eq, h.stays]
    exact (crossedOff hm).trans h.dyke
  · rw [State.driverFree, crossed_drivers]
    exact h.free

theorem Released.yielded (h : Released s m) (hm : m < 4) : LinesFree (yielded s) m ∧ KeepsTest m (Proofs.crossed s) (yielded s) := by
  have hkeeps := foldl_supersede_keepsTest (List.range 4) _ (h.crossed hm)
  exact ⟨(h.crossed hm).keeps hkeeps, hkeeps⟩

/-- The test of an output that nothing holds off goes on. -/
theorem Released.settle_test (h : Released s m) (hm : m < 4) : s.settle.safety.tests[m]? = s.safety.tests[m]? := by
  rw [settle_safety, (h.yielded hm).2.test, crossed_eq]

/-- Each switch of a safe output that nothing holds off is on but for its own dark pulse. -/
theorem Released.settle_out {o : Sdo} (h : Released s m) (hm : m < 4) (hs : s.sdoSafe m = true) (ho : s.drivers.outs[m]? = some o) :
    ((s.settle.sdoOf m).hs.cmd = !s.safety.proc.dark.getD m false ∧ (s.settle.sdoOf m).hs.on = !s.safety.proc.dark.getD m false) ∧
    (s.settle.sdoOf m).ls.cmd = !s.safety.dyke.dark.getD m false ∧ (s.settle.sdoOf m).ls.on = !s.safety.dyke.dark.getD m false := by
  obtain ⟨⟨hproc, hdyke, hfree⟩, hkeeps⟩ := h.yielded hm
  have hsafe : (Proofs.yielded s).sdoSafe m = true := by
    rw [State.sdoSafe, State.setByte, yielded_set]
    exact hs
  have hpd : (Proofs.yielded s).safety.proc.dark.getD m false = s.safety.proc.dark.getD m false := by
    rw [List.getD_eq_getElem?_getD, hkeeps.procDark, crossed_eq, ← List.getD_eq_getElem?_getD]
  have hdd : (Proofs.yielded s).safety.dyke.dark.getD m false = s.safety.dyke.dark.getD m false := by
    rw [List.getD_eq_getElem?_getD, hkeeps.dykeDark, crossed_eq, ← List.getD_eq_getElem?_getD]
  have hout : s.settle.sdoOf m = settledSdo (Proofs.yielded s) m o := by
    rw [State.sdoOf, List.getD_eq_getElem?_getD, settle_outs hm, ho]
    rfl
  have hhigh : (Proofs.yielded s).highAllowed m = !s.safety.proc.dark.getD m false := by
    rw [State.highAllowed, hproc, hdyke, hpd]
    rfl
  have hlow : (Proofs.yielded s).lowAllowed m = !s.safety.dyke.dark.getD m false := by
    rw [State.lowAllowed, hproc, hdyke, hdd]
    rfl
  rw [hout, settledSdo, if_pos hsafe, hfree, hhigh, hlow]
  exact ⟨turn_cmd _ _, turn_cmd _ _⟩

/-- A test that does not run does not begin while the switches follow. -/
theorem settle_test_idle (h : (s.safety.tests.getD m {}).phase = 0) : (s.settle.safety.tests.getD m {}).phase = 0 := by
  have hstep (n : Nat) (s : State) (h : (s.safety.tests.getD m {}).phase = 0) : ((s.supersede n).safety.tests.getD m {}).phase = 0 := by
    unfold State.supersede
    split
    case h_2 => exact h
    case h_1 =>
      split
      case isFalse => exact h
      case isTrue x hx _ =>
        rw [List.getD_eq_getElem?_getD] at h ⊢
        change (((setAt s.safety.tests n { x with phase := 0, due := false })[m]?).getD {}).phase = 0
        rw [setAt_getElem?]
        split
        next hm => rw [hm, hx]; rfl
        · exact h
  have hfold (l : List Nat) : ∀ s : State, (s.safety.tests.getD m {}).phase = 0 →
      ((l.foldl State.supersede s).safety.tests.getD m {}).phase = 0 := by
    induction l with
    | nil => exact fun _ h => h
    | cons n l ih => exact fun s h => ih _ (hstep n s h)
  rw [settle_safety]
  refine hfold _ _ ?_
  rw [crossed_eq]
  exact h

end
end Sys2Proof.Proofs
end

section
/-!
PROOF. O14.
-/
namespace Sys2Proof.Proofs
open Sys2Proof Sys2Proof.Machine Sys2Proof.Laws

section
variable {s t u : State} {m n : Nat}

/-! ### The parts of a test (R456) -/

/-- The lane with the test of an output changed and a dark pulse begun or ended in a channel. -/
def tested (s : State) (c : SafeChan) (m : Nat) (f : Test → Test) (on : Bool) : State := (s.updTest m f).setDark c m on

theorem Released.tested (h : Released s m) (c : SafeChan) (f : Test → Test) (on : Bool) : Released (tested s c m f on) m := by
  cases c <;> exact ⟨h.voting, h.proc, h.dyke, h.free⟩

theorem tested_phase {f : Test → Test} {c : SafeChan} {on : Bool} (h : Released s m) (hm : m < 4) (ht : m < s.safety.tests.length) :
    ((tested s c m f on).settle.safety.tests.getD m {}).phase = (f (s.safety.tests.getD m {})).phase := by
  have htests : (tested s c m f on).safety.tests = modAt s.safety.tests m f := by cases c <;> rfl
  rw [List.getD_eq_getElem?_getD, (h.tested c f on).settle_test hm, htests, List.getD_eq_getElem?_getD, List.getElem?_eq_getElem ht,
    modAt_getElem?_self _ (List.getElem?_eq_getElem ht)]
  rfl

theorem setAt_getD_self {l : List Bool} {b : Bool} (h : m < l.length) : (setAt l m b).getD m false = b := by
  rw [List.getD_eq_getElem?_getD, setAt_getElem?, if_pos rfl, List.getElem?_eq_getElem h]
  rfl

/-- Both switches after a part of a test in the processor's channel (R456). -/
theorem tested_proc_out {f : Test → Test} {on : Bool} (h : Released s m) (hm : m < 4) (hs : s.sdoSafe m = true)
    (hout : m < s.drivers.outs.length) (hd : m < s.safety.proc.dark.length) :
    ((tested s .proc m f on).settle.sdoOf m).hs.on = !on ∧ ((tested s .proc m f on).settle.sdoOf m).ls.on = !s.safety.dyke.dark.getD m false := by
  obtain ⟨⟨-, hhs⟩, -, hls⟩ := (h.tested .proc f on).settle_out hm hs (List.getElem?_eq_getElem hout)
  refine ⟨hhs.trans ?_, hls⟩
  change (!(setAt s.safety.proc.dark m on).getD m false) = !on
  rw [setAt_getD_self hd]

/-- Both switches after a part of a test in the dyke's channel (R456). -/
theorem tested_dyke_out {f : Test → Test} {on : Bool} (h : Released s m) (hm : m < 4) (hs : s.sdoSafe m = true)
    (hout : m < s.drivers.outs.length) (hd : m < s.safety.dyke.dark.length) :
    ((tested s .dyke m f on).settle.sdoOf m).hs.on = !s.safety.proc.dark.getD m false ∧ ((tested s .dyke m f on).settle.sdoOf m).ls.on = !on := by
  obtain ⟨⟨-, hhs⟩, -, hls⟩ := (h.tested .dyke f on).settle_out hm hs (List.getElem?_eq_getElem hout)
  refine ⟨hhs, hls.trans ?_⟩
  change (!(setAt s.safety.dyke.dark m on).getD m false) = !on
  rw [setAt_getD_self hd]

/-! ### The rows -/

/-- The lane with the high-side dark pulse of a test begun. -/
def testBegun (s : State) (m : Nat) : State := (tested s .proc m (fun _ => { phase := 1, due := false }) true).settle

theorem exec_testPulseDue (m : Nat) (s : State) : exec (.testPulseDue m) s =
    .next (if s.testsEnabled && s.sdoSafe m && (s.safety.tests.getD m {}).phase == 0 && s.safety.startDone then
      (if s.sdoOn m then testBegun s m else s.updTest m (fun t => { t with due := true })) else s) := rfl

theorem exec_testStartAfterOn (m : Nat) (s : State) : exec (.testStartAfterOn m) s =
    .next (if (s.safety.tests.getD m {}).due && (s.safety.tests.getD m {}).phase == 0 && s.sdoOn m then testBegun s m else s) := rfl

theorem exec_testGapExpiry (m : Nat) (s : State) : exec (.testGapExpiry m) s =
    .next (if (s.safety.tests.getD m {}).phase == 2 then (tested s .dyke m (fun t => { t with phase := 3 }) true).settle else s) := rfl

/-- The channels that did not find a pulse proven. -/
def unproven (pp pd : Bool) : Nat := b2n (!pp) + 2 * b2n (!pd)

theorem unproven_ne {pp pd : Bool} (h : (pp && pd) = false) : unproven pp pd ≠ 0 := by
  revert pp pd
  decide

/-- A test counted as passed. -/
def passedOne (s : State) : State := { s with safety := { s.safety with passed := s.safety.passed + 1 } }

theorem passedOne_tests (s : State) : (passedOne s).safety.tests = s.safety.tests := rfl

theorem passedOne_passed (s : State) : (passedOne s).safety.passed = s.safety.passed + 1 := rfl

theorem passedOne_sdoOf (s : State) (m : Nat) : (passedOne s).sdoOf m = s.sdoOf m := rfl

theorem exec_darkPulseEnd_raw (m : Nat) (high pp pd : Bool) (us : Nat) (s : State) : exec (.darkPulseEnd m high pp pd us) s =
    .next (if (s.safety.tests.getD m {}).phase == 1 && high then
      (if unproven pp pd ≠ 0 then s.testFail m 1 (unproven pp pd) us
       else ((s.updTest m (fun t => { t with phase := 2 })).setDark .proc m false).settle)
    else if (s.safety.tests.getD m {}).phase == 3 && !high then
      (if unproven pp pd ≠ 0 then s.testFail m 2 (unproven pp pd) us
       else passedOne ((s.updTest m (fun t => { t with phase := 0 })).setDark .dyke m false).settle)
    else s) := rfl

theorem exec_darkPulseEnd (m : Nat) (high pp pd : Bool) (us : Nat) (s : State) : exec (.darkPulseEnd m high pp pd us) s =
    .next (if (s.safety.tests.getD m {}).phase == 1 && high then
      (if unproven pp pd ≠ 0 then s.testFail m 1 (unproven pp pd) us else (tested s .proc m (fun t => { t with phase := 2 }) false).settle)
    else if (s.safety.tests.getD m {}).phase == 3 && !high then
      (if unproven pp pd ≠ 0 then s.testFail m 2 (unproven pp pd) us
       else passedOne (tested s .dyke m (fun t => { t with phase := 0 }) false).settle)
    else s) := exec_darkPulseEnd_raw m high pp pd us s

theorem darkPulseEnd_high {pp pd : Bool} {us : Nat} (h : (s.safety.tests.getD m {}).phase = 1) : exec (.darkPulseEnd m true pp pd us) s =
    .next (if unproven pp pd ≠ 0 then s.testFail m 1 (unproven pp pd) us
      else (tested s .proc m (fun t => { t with phase := 2 }) false).settle) := by
  rw [exec_darkPulseEnd, if_pos (by rw [h]; rfl)]

theorem darkPulseEnd_low {us : Nat} (h : (s.safety.tests.getD m {}).phase = 3) : exec (.darkPulseEnd m false true true us) s =
    .next (passedOne (tested s .dyke m (fun t => { t with phase := 0 }) false).settle) := by
  rw [exec_darkPulseEnd, if_neg (by rw [h]; decide), if_pos (by rw [h]; rfl), if_neg (by decide)]

/-! ### A pulse that was not proven (R457) -/

/-- The lane with the test of an output ended, and both its dark pulses. -/
def testStopped (s : State) (m : Nat) : State := ((s.updTest m (fun _ => {})).setDark .proc m false).setDark .dyke m false

theorem testStopped_form (s : State) (m : Nat) : testStopped s m = { s with safety := { s.safety with
    tests := modAt s.safety.tests m (fun _ => {})
    proc := { s.safety.proc with dark := setAt s.safety.proc.dark m false }
    dyke := { s.safety.dyke with dark := setAt s.safety.dyke.dark m false } } } := rfl

/-- The lane with a failed test ended and its event held, before the lock-out. -/
def testEnded (s : State) (m sw us : Nat) : State := (testStopped s m).reportEvent
  { code := 0x5C2, payload := [BitVec.ofNat 8 (Lane.num s.lane), BitVec.ofNat 8 m, BitVec.ofNat 8 sw, 1] ++ toLe 2 us }

theorem testFail_eq (s : State) (m sw by_ us : Nat) : s.testFail m sw by_ us = ((testEnded s m sw us).safetyF2 0x301 by_ (locSdo m)).collectOwn := rfl

/-- A lock-out after the row itself changed the safety unit and handed on a body. -/
theorem LockedOut.of_unit {x : Safety} {o : Order} {code : Nat} {loc : Loc} (h : LockedOut { s with safety := x, order := o } t code loc)
    (hset : x.setInForce = s.safety.setInForce) : LockedOut s t code loc := by
  obtain ⟨hframe, hproc, hdyke, hcause, hrelease, hack, hins, hrest⟩ := LockedOut.of_safety (s := { s with order := o }) h hset
  exact ⟨hframe, hproc, hdyke, hcause, hrelease, hack, hins, hrest⟩

theorem reportEvent_form (u : State) (e : EvBody) : ∃ o, u.reportEvent e = { u with order := o } := ⟨_, rfl⟩

theorem testEnded_form (s : State) (m sw us : Nat) : ∃ (x : Safety) (o : Order), testEnded s m sw us = { s with safety := x, order := o } ∧
    x.setInForce = s.safety.setInForce ∧ x.tests = modAt s.safety.tests m (fun _ => {}) := by
  obtain ⟨o, ho⟩ := reportEvent_form (testStopped s m)
    { code := 0x5C2, payload := [BitVec.ofNat 8 (Lane.num s.lane), BitVec.ofNat 8 m, BitVec.ofNat 8 sw, 1] ++ toLe 2 us }
  rw [testEnded, ho, testStopped_form]
  exact ⟨_, _, rfl, rfl, rfl⟩

theorem testFail_locksOut (hc : s.common = true) (hq : Quiet s 0x301 (locSdo m)) (sw by_ us : Nat) :
    LockedOut s (s.testFail m sw by_ us) 0x301 (locSdo m) ∧ ((s.testFail m sw by_ us).safety.tests.getD m {}).phase = 0 := by
  rw [testFail_eq]
  obtain ⟨x, o, hform, hset, htests⟩ := testEnded_form s m sw us
  rw [hform]
  have hidle : (x.tests.getD m {}).phase = 0 := by
    rw [htests, List.getD_eq_getElem?_getD, modAt_getElem?, if_pos rfl]
    cases s.safety.tests[m]? <;> rfl
  refine ⟨LockedOut.of_unit (safetyF2_locksOut (s := { s with safety := x, order := o }) hc hq) hset, ?_⟩
  rw [safetyF2_safety (s := { s with safety := x, order := o }) hc hq]
  exact settle_test_idle (s := f2Locked { s with safety := x, order := o } 0x301 by_) hidle

/-- The high-side dark pulse of a test (R456). -/
theorem testBegun_spec (h : Released s m) (hm : m < 4) (hs : s.sdoSafe m = true) (hout : m < s.drivers.outs.length)
    (ht : m < s.safety.tests.length) (hd : m < s.safety.proc.dark.length) (hdark : s.safety.dyke.dark.getD m false = false) :
    ((testBegun s m).safety.tests.getD m {}).phase = 1 ∧ ((testBegun s m).sdoOf m).hs.on = false ∧ ((testBegun s m).sdoOf m).ls.on = true := by
  obtain ⟨hhs, hls⟩ := tested_proc_out (f := fun _ => { phase := 1, due := false }) (on := true) h hm hs hout hd
  rw [hdark] at hls
  unfold testBegun
  exact ⟨tested_phase (f := fun _ => { phase := 1, due := false }) (c := .proc) (on := true) h hm ht, hhs, hls⟩

end

/-- Settles O14: each part changes the test and one dark pulse, and then the switches of the released output follow; an unproven
pulse leaves a safety F2. -/
theorem testPulsesRunTheirParts : Obligations.TestPulsesRunTheirParts := by
  intro s m us hc hv hm hs hout ht hpd hdd hp hd hf test
  have hfree : Released s m := ⟨hv, hp, hd, hf⟩
  have hgate := hfree.gate
  simp only [State.gateDisabled, Bool.or_eq_false_iff, Bool.not_eq_false'] at hgate
  obtain ⟨⟨⟨hdone, -⟩, -⟩, -⟩ := hgate
  have hbegun := testBegun_spec hfree hm hs hout ht hpd
  rw [exec_testPulseDue, exec_testStartAfterOn, exec_testGapExpiry]
  refine ⟨fun he hph hon hdark => ?due, fun he hph hon => ?wait, fun hdue hph hon hdark => ?afterOn, fun hph hdark => ?high,
    fun hph => ?gap, fun hph hdark => ?low, fun pp pd hno hph hq => ?fail⟩
  case due =>
    rw [if_pos (by rw [he, hs, hdone, show (s.safety.tests.getD m {}).phase = 0 from hph]; rfl), if_pos hon]
    exact ⟨_, rfl, hbegun hdark⟩
  case wait =>
    rw [if_pos (by rw [he, hs, hdone, show (s.safety.tests.getD m {}).phase = 0 from hph]; rfl), if_neg (by rw [hon]; decide)]
    have hget : (modAt s.safety.tests m (fun t => { t with due := true })).getD m {} = { s.safety.tests.getD m {} with due := true } := by
      rw [List.getD_eq_getElem?_getD, List.getD_eq_getElem?_getD, List.getElem?_eq_getElem ht, modAt_getElem?_self _ (List.getElem?_eq_getElem ht)]
      rfl
    refine ⟨_, rfl, ?_, ?_, rfl⟩
    · change ((modAt s.safety.tests m (fun t => { t with due := true })).getD m {}).phase = 0
      rw [hget]
      exact hph
    · change ((modAt s.safety.tests m (fun t => { t with due := true })).getD m {}).due = true
      rw [hget]
  case afterOn =>
    rw [if_pos (by rw [hdue, hon, show (s.safety.tests.getD m {}).phase = 0 from hph]; rfl)]
    exact ⟨_, rfl, hbegun hdark⟩
  case high =>
    obtain ⟨hhs, hls⟩ := tested_proc_out (f := fun t => { t with phase := 2 }) (on := false) hfree hm hs hout hpd
    rw [hdark] at hls
    have hphase := tested_phase (f := fun t => { t with phase := 2 }) (c := .proc) (on := false) hfree hm ht
    rw [darkPulseEnd_high hph, if_neg (by decide)]
    generalize (tested s .proc m (fun t => { t with phase := 2 }) false).settle = u at hhs hls hphase
    exact ⟨u, rfl, hphase, hhs, hls⟩
  case gap =>
    obtain ⟨-, hls⟩ := tested_dyke_out (f := fun t => { t with phase := 3 }) (on := true) hfree hm hs hout hdd
    have hphase := tested_phase (f := fun t => { t with phase := 3 }) (c := .dyke) (on := true) hfree hm ht
    rw [if_pos (by rw [show (s.safety.tests.getD m {}).phase = 2 from hph]; rfl)]
    generalize (tested s .dyke m (fun t => { t with phase := 3 }) true).settle = u at hls hphase
    exact ⟨u, rfl, hphase, hls⟩
  case low =>
    obtain ⟨hhs, hls⟩ := tested_dyke_out (f := fun t => { t with phase := 0 }) (on := false) hfree hm hs hout hdd
    rw [hdark] at hhs
    have hphase := tested_phase (f := fun t => { t with phase := 0 }) (c := .dyke) (on := false) hfree hm ht
    have hpassed : (tested s .dyke m (fun t => { t with phase := 0 }) false).settle.safety.passed = s.safety.passed := by
      rw [settle_unit]
      rfl
    rw [darkPulseEnd_low hph]
    generalize (tested s .dyke m (fun t => { t with phase := 0 }) false).settle = u at hhs hls hphase hpassed
    refine ⟨passedOne u, rfl, hphase, ?_, hhs, hls⟩
    rw [passedOne_passed, hpassed]
  case fail =>
    obtain ⟨hlocked, hidle⟩ := testFail_locksOut hc hq 1 (unproven pp pd) us
    rw [darkPulseEnd_high hph, if_pos (unproven_ne hno)]
    exact ⟨_, rfl, hlocked, hidle⟩

end Sys2Proof.Proofs
end

section
/-!
PROOF. O15.
-/
namespace Sys2Proof.Proofs
open Sys2Proof Sys2Proof.Machine Sys2Proof.Laws

section
variable {s t u : State} {n : Nat}

/-! ### The end of a lock-out (R470, R504, R514) -/

/-- `t` computes as `s` and has its lock-outs, its timed holds and the marks of its reset. -/
structure KeepsReset (s t : State) : Prop where
  common : t.common = s.common
  lockout : t.safety.proc.lockout = s.safety.proc.lockout ∧ t.safety.dyke.lockout = s.safety.dyke.lockout
  hold : t.safety.proc.holdOk = s.safety.proc.holdOk ∧ t.safety.dyke.holdOk = s.safety.dyke.holdOk
  ack : t.safety.ackPending = s.safety.ackPending ∧ t.safety.resetSince = s.safety.resetSince
  refused : t.safety.resetRefused = s.safety.resetRefused

namespace KeepsReset

theorem refl (s : State) : KeepsReset s s := ⟨rfl, ⟨rfl, rfl⟩, ⟨rfl, rfl⟩, ⟨rfl, rfl⟩, rfl⟩

theorem trans (h : KeepsReset s t) (k : KeepsReset t u) : KeepsReset s u where
  common := k.common.trans h.common
  lockout := ⟨k.lockout.1.trans h.lockout.1, k.lockout.2.trans h.lockout.2⟩
  hold := ⟨k.hold.1.trans h.hold.1, k.hold.2.trans h.hold.2⟩
  ack := ⟨k.ack.1.trans h.ack.1, k.ack.2.trans h.ack.2⟩
  refused := k.refused.trans h.refused

/-- In the common sequence a chain of steps that each keep the reset keeps it. -/
theorem foldl {α : Type} {f : State → α → State} (hf : ∀ s a, s.common = true → KeepsReset s (f s a)) :
    ∀ (l : List α) (s : State), s.common = true → KeepsReset s (l.foldl f s)
  | [], s, _ => refl s
  | a :: l, s, hc => (hf s a hc).trans (foldl hf l (f s a) ((hf s a hc).common.trans hc))

theorem of_collects (h : Collects s t) : KeepsReset s t := by
  have hs : t.safety = s.safety := by rw [h]
  exact ⟨h.common, by rw [hs]; exact ⟨rfl, rfl⟩, by rw [hs]; exact ⟨rfl, rfl⟩, by rw [hs]; exact ⟨rfl, rfl⟩, by rw [hs]⟩

theorem settle (s : State) : KeepsReset s s.settle := by
  obtain ⟨tests, seen, pd, dd, outs, o, f, hform⟩ := settle_form s
  rw [hform]
  exact ⟨rfl, ⟨rfl, rfl⟩, ⟨rfl, rfl⟩, ⟨rfl, rfl⟩, rfl⟩

/-- A body of the lane's own waits for the command order. -/
theorem body (hc : s.common = true) (b : Body) : KeepsReset s (s.reportBody b).collectOwn := by
  rw [collectOwn_common (s := s.reportBody b) hc]
  exact ⟨rfl, ⟨rfl, rfl⟩, ⟨rfl, rfl⟩, ⟨rfl, rfl⟩, rfl⟩

theorem told (h : Told s t) : KeepsReset s t := by
  have hs : t.safety = { s.safety with demandSeen := t.safety.demandSeen } := congrArg State.safety h
  exact ⟨h.common, by rw [hs]; exact ⟨rfl, rfl⟩, by rw [hs]; exact ⟨rfl, rfl⟩, by rw [hs]; exact ⟨rfl, rfl⟩, by rw [hs]⟩

theorem followInput (hc : s.common = true) (n : Nat) : KeepsReset s (s.followInput n) := by
  obtain ⟨v, heq, hv⟩ := followInput_common hc n
  have hstepped : KeepsReset s { s with safety := steppedUnit s n } := ⟨rfl, ⟨rfl, rfl⟩, ⟨rfl, rfl⟩, ⟨rfl, rfl⟩, rfl⟩
  rw [heq]
  exact (hstepped.trans (told hv)).trans (settle v)

end KeepsReset

/-- The lane with both channels released from their lock-out. -/
def unlocked (s : State) : State :=
  (s.updChan .proc (fun c => { c with lockout := false })).updChan .dyke (fun c => { c with lockout := false })

/-- The sources that stood when the lane was locked out end, in the collector and in the command order. -/
def sourcesEnded (s : State) (codes : List (Nat × Loc)) : State :=
  codes.foldl (fun s p => (s.reportBody (.sourceEnded p.1 p.2)).collectOwn) (codes.foldl (fun s p => s.endSource p.1 p.2) s)

/-- The system F2 line falls with the last system F2 (R514). -/
def lineEnded (s : State) : State := if s.systemF2Active then s else { s with faults := { s.faults with sysF2 := false } }

/-- The safety F2s that stand. -/
def safetyCodes (s : State) : List (Nat × Loc) :=
  (s.faults.active.filter (fun a => decide (0x300 ≤ a.code ∧ a.code < 0x308))).map (fun a => (a.code, a.loc))

theorem endLockout_eq (s : State) :
    s.endLockout = (List.range 8).foldl State.followInput (lineEnded (sourcesEnded (unlocked s) (safetyCodes (unlocked s)))).settle := rfl

theorem sourcesEnded_keepsReset (hc : s.common = true) (codes : List (Nat × Loc)) : KeepsReset s (sourcesEnded s codes) := by
  have hended := KeepsReset.foldl (f := fun s (p : Nat × Loc) => s.endSource p.1 p.2)
    (fun s p _ => .of_collects (endSource_collects s p.1 p.2)) codes s hc
  exact hended.trans (KeepsReset.foldl (f := fun s (p : Nat × Loc) => (s.reportBody (.sourceEnded p.1 p.2)).collectOwn)
    (fun s p hc => .body hc _) codes _ (hended.common.trans hc))

theorem lineEnded_keepsReset (s : State) : KeepsReset s (lineEnded s) := by
  unfold lineEnded
  split
  · exact .refl s
  · exact .of_collects rfl

/-- The end of a lock-out keeps all else of the reset. -/
theorem endLockout_keepsReset (hc : s.common = true) : KeepsReset (unlocked s) s.endLockout := by
  have hended := sourcesEnded_keepsReset (s := unlocked s) hc (safetyCodes (unlocked s))
  have hline := hended.trans (lineEnded_keepsReset _)
  have hsettled := hline.trans (.settle _)
  rw [endLockout_eq]
  exact hsettled.trans (.foldl (fun s n hc => .followInput hc n) _ _ (hsettled.common.trans hc))

/-- A granted reset, with its event handed on. -/
theorem resetGranted_keepsReset (hc : s.common = true) (e : EvBody) : KeepsReset (unlocked s) (s.endLockout.reportEvent e).collectOwn :=
  (endLockout_keepsReset hc).trans (.body ((endLockout_keepsReset hc).common.trans hc) (.event e))

/-! ### The outcome of a reset (Table 11.10) -/

/-- Both channels find every step of the deliberate reset met. -/
def StepsMet (s : State) (p d : Nat) (pc dc : Bool) : Prop :=
  pc = false ∧ dc = false ∧ s.causeStands .proc = false ∧ s.causeStands .dyke = false ∧
    s.safety.proc.holdOk ≠ none ∧ s.safety.dyke.holdOk ≠ none ∧ p ≤ 5000 ∧ d ≤ 5000

theorem resetResult_eq_zero (s : State) (p d : Nat) (pc dc : Bool) : s.resetResult p d pc dc = 0 ↔ StepsMet s p d pc dc := by
  unfold State.resetResult StepsMet
  by_cases hproc : (pc || s.causeStands .proc) = true
  · rw [if_pos hproc]
    simp only [Bool.or_eq_true] at hproc
    constructor
    · nofun
    · rintro ⟨hpc, -, hcause, -⟩
      simp [hpc, hcause] at hproc
  rw [if_neg hproc]
  simp only [Bool.or_eq_true, not_or, Bool.not_eq_true] at hproc
  by_cases hhold : s.safety.proc.holdOk.isNone = true
  · rw [if_pos hhold]
    constructor
    · nofun
    · rintro ⟨-, -, -, -, hsome, -⟩
      exact absurd (Option.isNone_iff_eq_none.mp hhold) hsome
  rw [if_neg hhold]
  by_cases hp : 5000 < p
  · rw [if_pos hp]
    constructor
    · nofun
    · rintro ⟨-, -, -, -, -, -, hle, -⟩
      omega
  rw [if_neg hp]
  by_cases hdyke : (dc || s.causeStands .dyke || s.safety.dyke.holdOk.isNone || decide (5000 < d)) = true
  · rw [if_pos hdyke]
    constructor
    · nofun
    · rintro ⟨-, hdc, -, hcause, -, hsome, -, hle⟩
      simp [hdc, hcause, hsome] at hdyke
      omega
  · rw [if_neg hdyke]
    simp only [Bool.or_eq_true, not_or, Bool.not_eq_true, decide_eq_true_eq, Option.isNone_iff_eq_none] at hhold hdyke
    obtain ⟨⟨⟨hdc, hcause⟩, hsome⟩, hle⟩ := hdyke
    exact ⟨fun _ => ⟨hproc.1, hdc, hproc.2, hcause, hhold, by simpa using hsome, by omega, by omega⟩, fun _ => rfl⟩

/-- The lane with the outcome of a reset noted and its holds used up. -/
def resetNoted (s : State) (refused : Bool) : State :=
  let s := (s.updChan .proc (fun c => { c with holdOk := none })).updChan .dyke (fun c => { c with holdOk := none })
  { s with safety := { s.safety with ackPending := none, resetSince := none, resetRefused := refused } }

/-- SAFETY_RESET (R474). -/
def resetEvent (s : State) (id r : Nat) : EvBody :=
  { code := 0x5C4, payload := [BitVec.ofNat 8 (Lane.num s.lane), BitVec.ofNat 8 id, BitVec.ofNat 8 r] }

theorem exec_heartbeatToggle_proc (s : State) : exec (.heartbeatToggle .proc) s = .next { s with safety := { s.safety with
    proc := { s.safety.proc with beat := !s.safety.proc.beat }, dyke := { s.safety.dyke with beatLost := false } } } := by
  change execHeartbeatToggle .proc s = _
  rfl

theorem exec_heartbeatToggle_dyke (s : State) : exec (.heartbeatToggle .dyke) s = .next { s with safety := { s.safety with
    dyke := { s.safety.dyke with beat := !s.safety.dyke.beat }, proc := { s.safety.proc with beatLost := false } } } := by
  change execHeartbeatToggle .dyke s = _
  rfl

/-- A reset that was not granted leaves the reset-refused F0 and its event (R471). -/
theorem resetRefused_spec (hc : u.common = true) (was : Bool) (ev : EvBody) : ∃ t,
    (u.irq7 was).found (mkFault 0x330 {} none (some ev)) = t ∧ t.safety = u.safety ∧ t.drivers = u.drivers ∧
    t.faults.reports = u.faults.reports ++ [{ code := 0x330, cls := .f0, loc := {}, lane := some u.lane, event := some ev }] := by
  obtain ⟨st, tx, hfound⟩ := irq7_found (s := u) (was := was) (code := 0x330) (cls := .f0) (ev := some ev) hc rfl rfl (by decide)
  exact ⟨_, hfound, rfl, rfl, rfl⟩

theorem exec_safetyReset {id : Nat} (p d : Nat) (pc dc : Bool) (h : s.safety.ackPending = some id) : exec (.safetyReset p d pc dc) s =
    .next (if s.resetResult p d pc dc = 0 then
      ((resetNoted s (s.safety.resetRefused || decide (s.resetResult p d pc dc ≠ 0))).endLockout.reportEvent
        (resetEvent s id (s.resetResult p d pc dc))).collectOwn
    else ((resetNoted s (s.safety.resetRefused || decide (s.resetResult p d pc dc ≠ 0))).irq7 s.safety.resetRefused).found
      (mkFault 0x330 {} none (some (resetEvent s id (s.resetResult p d pc dc))))) := by
  change execSafetyReset p d pc dc s = _
  unfold execSafetyReset
  rw [h]
  rfl

end

/-- Settles O15: a reset whose steps are met ends the lock-out and keeps the rest of the reset through what follows; another leaves
its fault. -/
theorem heartbeatAndDeliberateReset : Obligations.HeartbeatAndDeliberateReset := by
  intro s p d id pc dc hc
  refine ⟨exec_heartbeatToggle_proc s, exec_heartbeatToggle_dyke s, fun hack => ?_⟩
  intro ok
  have hok : s.resetResult p d pc dc = 0 ↔ ok := resetResult_eq_zero s p d pc dc
  rw [exec_safetyReset p d pc dc hack]
  by_cases hmet : s.resetResult p d pc dc = 0
  case pos =>
    rw [if_pos hmet, hmet, show decide ((0 : Nat) ≠ 0) = false from rfl, Bool.or_false]
    have hkeep := resetGranted_keepsReset (s := resetNoted s s.safety.resetRefused) hc (resetEvent s id 0)
    generalize ((resetNoted s s.safety.resetRefused).endLockout.reportEvent (resetEvent s id 0)).collectOwn = t at hkeep ⊢
    exact ⟨t, rfl, hkeep.ack.1, hkeep.ack.2, hkeep.hold.1, hkeep.hold.2, fun _ => ⟨hkeep.lockout.1, hkeep.lockout.2, hkeep.refused⟩,
      fun hno => absurd (hok.mp hmet) hno⟩
  case neg =>
    rw [if_neg hmet, decide_eq_true hmet, Bool.or_true]
    obtain ⟨t, hfound, hsafety, hdrivers, hreports⟩ := resetRefused_spec (u := resetNoted s true) hc s.safety.resetRefused
      (resetEvent s id (s.resetResult p d pc dc))
    rw [hfound]
    refine ⟨t, rfl, ?_⟩
    rw [hsafety, hdrivers]
    exact ⟨rfl, rfl, rfl, rfl, fun h => absurd (hok.mpr h) hmet, fun _ => ⟨rfl, rfl, rfl, rfl, _, rfl, hreports⟩⟩

end Sys2Proof.Proofs
end

section
/-!
SUPPORT. Inputs that follow their pins in a lane that starts (R461, R472): the lane may run its collector on its own, and then its own
events leave as records at once (R517).
-/
namespace Sys2Proof.Proofs
open Sys2Proof Sys2Proof.Machine Sys2Proof.Laws

section
variable {s t u : State} {n m : Nat} {k : SafeChan}

/-! ### What a lane holds of its own -/

/-- A body of the safety function: an event, alone or with its drive reaction. -/
def OwnBody (b : Body) : Prop := (∃ e, b = .event e) ∨ ∃ n e, b = .safetyDemand n e

/-- The lane holds events of its own alone. -/
def OwnEvents (s : State) : Prop := s.faults.reports = [] ∧ ∀ h ∈ s.order.held, ∀ b, h.body = some b → OwnBody b

/-- What a safety start leaves of the safety unit and the inputs do not change. -/
def startMarks (x : Safety) : Bool × Bool × Bool × Bool × BitVec 32 × BitVec 32 × Bool × List Byte × BitVec 8 :=
  (x.proc.lockout, x.dyke.lockout, x.proc.started, x.dyke.started, x.proc.setCrc, x.dyke.setCrc, x.startDone, x.setInForce, x.sealStart)

/-- `t` is `s` but for the switches, the marks of its inputs, and the events of its own that it holds or recorded. -/
structure Starts (s t : State) : Prop where
  frame : t = { s with safety := t.safety, drivers := t.drivers, order := t.order, free := t.free, events := t.events, host := t.host, tx := t.tx }
  marks : startMarks t.safety = startMarks s.safety
  own : OwnEvents t

theorem Starts.trans (h : Starts s t) (k : Starts t u) : Starts s u := ⟨by rw [k.frame, h.frame], k.marks.trans h.marks, k.own⟩

theorem Starts.refl (h : OwnEvents s) : Starts s s := ⟨rfl, rfl, h⟩

/-- Records of the lane's own. -/
def Recorded (s t : State) : Prop := t = { s with events := t.events, host := t.host, tx := t.tx }

theorem eventBody_recorded (s : State) (e : EvBody) (l : Option Lane) : Recorded s (s.eventBody e l) := by
  obtain ⟨r, h, -⟩ := eventBody_record s e l
  obtain ⟨ev, st, tx, hrec, -⟩ := record_eq s r
  rw [h, hrec]
  rfl

/-- A body of the lane's own, as a lane that runs its collector on its own takes it (R517). -/
def takeBody (s : State) (b : Body) : State :=
  match b with
  | .event e => s.eventBody e (some s.lane)
  | .safetyDemand _ e => s.eventBody e (some s.lane)
  | .sourceEnded code loc => s.endSource code loc
  | .fault r => s.takeNow r
  | _ => s

theorem takeBody_recorded {b : Body} (h : OwnBody b) (s : State) : Recorded s (takeBody s b) := by
  obtain ⟨e, rfl⟩ | ⟨n, e, rfl⟩ := h
  · exact eventBody_recorded s e _
  · exact eventBody_recorded s e _

theorem foldl_takeBody_recorded (l : List Body) : ∀ s : State, (∀ b ∈ l, OwnBody b) → Recorded s (l.foldl takeBody s) := by
  induction l with
  | nil => exact fun _ _ => rfl
  | cons b l ih =>
    intro s h
    have hb := takeBody_recorded (h b List.mem_cons_self) s
    have hl := ih (takeBody s b) fun b hb => h b (List.mem_cons_of_mem _ hb)
    rw [Recorded] at hb hl ⊢
    rw [List.foldl_cons, hl, hb]

/-- The lane with nothing of its own waiting. -/
def unheld (s : State) : State :=
  { s with faults := { s.faults with reports := [] }, order := { s.order with held := s.order.held.filter (fun h => h.body.isNone) } }

theorem collectOwn_alone (hc : ¬ s.common = true) : s.collectOwn =
    (s.order.held.filterMap (·.body)).foldl takeBody (s.faults.reports.foldl State.takeNow (unheld s)) := if_neg hc

theorem unheld_starts (h : OwnEvents s) : Starts s (unheld s) := by
  obtain ⟨hreports, -⟩ := h
  refine ⟨?_, rfl, rfl, fun q hq b hb => ?_⟩
  · unfold unheld
    rw [← hreports]
  · have hnone := (List.mem_filter.mp hq).2
    rw [hb] at hnone
    cases hnone

theorem Recorded.starts (h : Recorded s t) (hown : OwnEvents s) : Starts s t := by
  rw [Recorded] at h
  rw [h]
  exact ⟨rfl, rfl, hown⟩

/-- A lane takes events of its own as records, or hands them on (R349, R517). -/
theorem collectOwn_starts (h : OwnEvents s) : Starts s s.collectOwn ∧ s.collectOwn.safety = s.safety := by
  by_cases hc : s.common = true
  · rw [collectOwn_common hc]
    exact ⟨.refl h, rfl⟩
  · have hbodies : ∀ b ∈ s.order.held.filterMap (·.body), OwnBody b := fun b hb => by
      obtain ⟨q, hq, hqb⟩ := List.mem_filterMap.mp hb
      exact h.2 q hq b hqb
    have hrec := foldl_takeBody_recorded _ (unheld s) hbodies
    rw [collectOwn_alone hc, h.1]
    refine ⟨(unheld_starts h).trans (hrec.starts (unheld_starts h).own), ?_⟩
    rw [Recorded] at hrec
    rw [List.foldl_nil, hrec]
    rfl

/-! ### The steps of an input -/

theorem OwnEvents.add {b : Body} (h : OwnEvents s) (hb : OwnBody b) : OwnEvents (s.reportBody b) := by
  refine ⟨h.1, fun q hq b' hb' => ?_⟩
  obtain hq | hq := List.mem_append.mp hq
  · exact h.2 q hq b' hb'
  · rw [List.mem_singleton.mp hq] at hb'
    cases hb'
    exact hb

theorem reportBody_starts {b : Body} (h : OwnEvents s) (hb : OwnBody b) :
    Starts s (s.reportBody b).collectOwn ∧ (s.reportBody b).collectOwn.safety = s.safety := by
  have hadded : Starts s (s.reportBody b) := ⟨rfl, rfl, h.add hb⟩
  obtain ⟨hcollect, hsafety⟩ := collectOwn_starts hadded.own
  exact ⟨hadded.trans hcollect, hsafety⟩

theorem supersede_own (h : OwnEvents s) (m : Nat) : OwnEvents (s.supersede m) := by
  obtain hsame | ⟨tests, procDark, dykeDark, e, hform⟩ := supersede_cases s m
  · rwa [hsame]
  · have hadd : OwnEvents (s.reportBody (.event e)) := h.add (.inl ⟨e, rfl⟩)
    rw [hform]
    exact hadd

theorem settle_own (h : OwnEvents s) : OwnEvents s.settle := by
  have hyield (l : List Nat) : ∀ u : State, OwnEvents u → OwnEvents (l.foldl State.supersede u) := by
    induction l with
    | nil => exact fun _ h => h
    | cons m l ih => exact fun u h => ih _ (supersede_own h m)
  have houts (l : List Nat) : ∀ u : State, OwnEvents u → OwnEvents (l.foldl State.settleOutput u) := by
    induction l with
    | nil => exact fun _ h => h
    | cons m l ih =>
      intro u h
      refine ih _ ?_
      rw [settleOutput_eq]
      exact h
  rw [settle_yielded]
  refine houts _ _ (hyield _ _ ?_)
  rw [crossed_eq]
  exact h

theorem settle_starts (h : OwnEvents s) : Starts s s.settle := by
  have hown := settle_own h
  obtain ⟨tests, seen, pd, dd, outs, o, f, hform⟩ := settle_form s
  rw [hform] at hown ⊢
  exact ⟨rfl, rfl, hown⟩

theorem safetyDemand_starts (h : OwnEvents s) (n : Nat) (st : InState) :
    Starts s (s.safetyDemand n st) ∧ ∀ k, ((s.safetyDemand n st).chan k).ins = (s.chan k).ins := by
  unfold State.safetyDemand
  extract_lets pins was unit u
  obtain ⟨irq, tx, hirq⟩ := irq7_eq u was
  rw [hirq]
  have hmarked : Starts s { u with host := { u.host with irqStatus := irq }, tx := tx } := ⟨rfl, rfl, h⟩
  obtain ⟨hbody, hsafety⟩ := reportBody_starts hmarked.own (.inr ⟨n, _, rfl⟩)
  refine ⟨hmarked.trans hbody, fun k => ?_⟩
  rw [chan_congr k hsafety]
  cases k <;> rfl

theorem safetyClear_starts (h : OwnEvents s) (n : Nat) (st : InState) (mark : Bool) :
    Starts s (s.safetyClear n st mark) ∧ ∀ k, ((s.safetyClear n st mark).chan k).ins = (s.chan k).ins := by
  obtain ⟨hbody, hsafety⟩ := reportBody_starts h (.inl ⟨_, rfl⟩)
  exact ⟨hbody, fun k => congrArg Chan.ins (chan_congr k hsafety)⟩

/-- An input that follows its demand in a lane that holds events of its own alone. -/
theorem followInput_starts (h : OwnEvents s) (n : Nat) : Starts s (s.followInput n) ∧
    ∀ k, ((s.followInput n).chan k).ins = modAt (s.chan k).ins n (steppedIn s n) := by
  have hins (k : SafeChan) := steppedUnit_ins s n k
  unfold State.followInput
  extract_lets d live old f u new v
  have hu : u = { s with safety := steppedUnit s n } := rfl
  have hstep : Starts s u := ⟨rfl, rfl, h⟩
  rw [← hu] at hins
  clear_value u
  have hv : Starts u v ∧ ∀ k, (v.chan k).ins = (u.chan k).ins := by
    unfold v
    split
    · exact safetyDemand_starts hstep.own n _
    split
    · exact safetyClear_starts hstep.own n _ false
    · exact ⟨.refl hstep.own, fun _ => rfl⟩
  refine ⟨(hstep.trans hv.1).trans (settle_starts hv.1.own), fun k => ?_⟩
  rw [settle_chan_ins, hv.2, hins]

end
end Sys2Proof.Proofs
end

section
/-!
PROOF. O16.
-/
namespace Sys2Proof.Proofs
open Sys2Proof Sys2Proof.Machine Sys2Proof.Laws

section
variable {s t u : State} {n m : Nat} {k : SafeChan}

/-! ### Every input follows its pins -/

/-- What the step of an input depends on besides its state. -/
theorem steppedIn_congr (hmarks : startMarks t.safety = startMarks s.safety) (hins : ∀ k, (t.chan k).ins[n]? = (s.chan k).ins[n]?) :
    steppedIn t n = steppedIn s n := by
  have hget (k : SafeChan) : (t.chan k).ins.getD n {} = (s.chan k).ins.getD n {} := by
    rw [List.getD_eq_getElem?_getD, List.getD_eq_getElem?_getD, hins k]
  simp only [startMarks, Prod.mk.injEq] at hmarks
  obtain ⟨hproc, hdyke, -, -, -, -, hdone, hset, -⟩ := hmarks
  funext i
  unfold steppedIn State.siEnabled State.siOffDelay State.siManual State.lockedOut State.setByte
  rw [demanded_eq, demanded_eq, hget .proc, hget .dyke, hproc, hdyke, hdone, hset]

/-- Some inputs in turn: each takes its step, and no other changes. -/
theorem foldl_followInput (l : List Nat) (hl : l.Nodup) : ∀ s : State, OwnEvents s → Starts s (l.foldl State.followInput s) ∧
    ∀ n k, ((l.foldl State.followInput s).chan k).ins[n]? = if n ∈ l then (s.chan k).ins[n]?.map (steppedIn s n) else (s.chan k).ins[n]? := by
  induction l with
  | nil => exact fun s h => ⟨.refl h, fun n k => rfl⟩
  | cons m l ih =>
    intro s h
    obtain ⟨hm, hl⟩ := List.nodup_cons.mp hl
    obtain ⟨hstep, hins⟩ := followInput_starts h m
    obtain ⟨hrest, hfold⟩ := ih hl (s.followInput m) hstep.own
    rw [List.foldl_cons]
    refine ⟨hstep.trans hrest, fun n k => ?_⟩
    rw [hfold]
    by_cases hn : n = m
    · subst hn
      rw [if_neg hm, if_pos List.mem_cons_self, hins, modAt_getElem?, if_pos rfl]
    · have hother (k : SafeChan) : ((s.followInput m).chan k).ins[n]? = (s.chan k).ins[n]? := by rw [hins, modAt_getElem?_ne _ hn]
      rw [steppedIn_congr hstep.marks hother, hother]
      simp [hn]

/-! ### The start (R461, R464, R465, R467) -/

/-- The lane with the set that the seal word selects in force. -/
def setTaken (s : State) (p : List Byte) (word : BitVec 8) : State :=
  { s with safety := { s.safety with setInForce := p, sealStart := word, sealNow := word } }

/-- The lane with both channels begun, before the switches follow. -/
def begun (s : State) (p : List Byte) (word : BitVec 8) (lock : Bool) : State :=
  let v := setTaken s p word
  { s with safety := { v.safety with startDone := true
                                     proc := s.safety.proc.begin v.siEnabled (le p 0x7C 4) lock
                                     dyke := s.safety.dyke.begin v.siEnabled (le p 0x7C 4) lock } }

/-- The parameter set that the seal word selects. -/
def selectedSet (s : State) (word : BitVec 8) : List Byte := s.fuses (0x80 + word.toNat % 4 * 0x80) 0x80

/-- The lane once every channel started. -/
def safetyStarted (s : State) (word : BitVec 8) : State :=
  (List.range 8).foldl State.followInput (begun s (selectedSet s word) word (s.safety.proc.started || s.safety.dyke.started)).settle

theorem exec_safetyStartComplete (word : BitVec 8) (procOk dykeOk romOk : Bool) (s : State) :
    exec (.safetyStartComplete word procOk dykeOk romOk) s =
    .next (if !s.safety.vdykIn || !s.safety.safeSupplyIn || s.safety.startDone && s.safety.proc.started && s.safety.dyke.started then s
      else if !romOk then s.enterF3 (mkFault 0x323)
      else if !procOk then s.enterF3 (mkFault 0x322)
      else if !dykeOk then s.enterF3 (mkFault 0x324)
      else if !s.watermarkOk then s.enterF3 (mkFault 0x321)
      else if !setOk (selectedSet s word) word then s.enterF3 (mkFault 0x320)
      else safetyStarted s word) := rfl

/-- A lane whose supplies stand and whose channels have not started begins its checks. -/
theorem safetyStartComplete_checks (word : BitVec 8) (procOk dykeOk romOk : Bool) (hv : s.safety.vdykIn = true)
    (hs : s.safety.safeSupplyIn = true) (hp : s.safety.proc.started = false) :
    exec (.safetyStartComplete word procOk dykeOk romOk) s =
    .next (if !romOk then s.enterF3 (mkFault 0x323)
      else if !procOk then s.enterF3 (mkFault 0x322)
      else if !dykeOk then s.enterF3 (mkFault 0x324)
      else if !s.watermarkOk then s.enterF3 (mkFault 0x321)
      else if !setOk (selectedSet s word) word then s.enterF3 (mkFault 0x320)
      else safetyStarted s word) := by
  rw [exec_safetyStartComplete, if_neg]
  simp [hv, hs, hp]

/-- An enabled input of a channel that began is in DEMAND with the pin it had. -/
theorem begin_ins {en : Nat → Bool} {crc : Nat} {lock : Bool} (c : Chan) (hn : n < 8) (hen : en n = true) :
    (c.begin en crc lock).ins[n]? = some { c.ins.getD n {} with st := .demand, delay := false } := by
  simp [Chan.begin, demandAll, hn, hen]

/-- An input that begins in DEMAND goes on as its pins stand (Table 11.3). -/
theorem steppedIn_demand {i : SafeIn} (hen : s.siEnabled n = true) (hd : s.safety.startDone = true) (hl : s.lockedOut = false)
    (hi : i.st = .demand) : (steppedIn s n i).st = if s.demanded n then .demand else if s.siManual n then .waitRestart else .clear := by
  unfold steppedIn
  dsimp only
  rw [if_pos hen, hi, hd, hl]
  simp [inputNext]

/-- Both channels start together: the set is in force, no channel is locked out, and each enabled input stands as its pins do. -/
theorem safetyStarted_spec (word : BitVec 8) (hr : s.faults.reports = []) (hh : s.order.held = []) (hp : s.safety.proc.started = false)
    (hd : s.safety.dyke.started = false) : ∃ t, safetyStarted s word = t ∧
    startMarks t.safety = startMarks (begun s (selectedSet s word) word false).safety ∧ t.cfg = s.cfg ∧ t.axes = s.axes ∧
    ∀ n < 8, t.siEnabled n = true → ∀ k, ((t.chan k).ins.getD n {}).st =
      if s.demanded n then .demand else if t.siManual n then .waitRestart else .clear := by
  have hown : OwnEvents s := ⟨hr, fun q hq => by rw [hh] at hq; cases hq⟩
  unfold safetyStarted
  rw [hp, hd, Bool.or_false]
  generalize hp : selectedSet s word = p
  have hbegun : OwnEvents (begun s p word false) := hown
  have hsettled := settle_starts hbegun
  have hins (k : SafeChan) := settle_chan_ins (begun s p word false) k
  obtain ⟨hfold, hfollowed⟩ := foldl_followInput (List.range 8) List.nodup_range _ hsettled.own
  have hall := hsettled.trans hfold
  generalize (begun s p word false).settle = v at hins hsettled hfold hfollowed hall ⊢
  generalize (List.range 8).foldl State.followInput v = t at hfold hfollowed hall ⊢
  refine ⟨t, rfl, hall.marks, by rw [hall.frame]; rfl, by rw [hall.frame]; rfl, fun n hn hen k => ?_⟩
  have hset : t.safety.setInForce = p := by
    have hmarks := hall.marks
    simp only [startMarks, Prod.mk.injEq] at hmarks
    exact hmarks.2.2.2.2.2.2.2.1
  have hen' : (setTaken s p word).siEnabled n = true := by
    rw [State.siEnabled, State.setByte, hset] at hen
    exact hen
  have hchan (k : SafeChan) : ((begun s p word false).chan k).ins[n]? = some { (s.chan k).ins.getD n {} with st := .demand, delay := false } := by
    cases k with
    | proc => exact begin_ins s.safety.proc hn hen'
    | dyke => exact begin_ins s.safety.dyke hn hen'
  have hdem : (begun s p word false).demanded n = s.demanded n := by
    rw [demanded_eq, List.getD_eq_getElem?_getD, List.getD_eq_getElem?_getD, hchan .proc, hchan .dyke]
    rfl
  have hmanual : t.siManual n = (begun s p word false).siManual n := by
    rw [State.siManual, State.setByte, hset]
    rfl
  rw [List.getD_eq_getElem?_getD, hfollowed, if_pos (List.mem_range.mpr hn), steppedIn_congr hsettled.marks fun k => by rw [hins],
    hins, hchan, hmanual,
    ← hdem]
  exact steppedIn_demand hen' rfl rfl rfl

end

/-- Settles O16: a start whose checks hold begins both channels in DEMAND and then every input follows; a check that fails enters its
F3. -/
theorem safetyStartBeginsInDemand : Obligations.SafetyStartBeginsInDemand := by
  intro s word hv hss hp hd set
  have hchecks (procOk dykeOk romOk : Bool) := safetyStartComplete_checks (s := s) word procOk dykeOk romOk hv hss hp
  refine ⟨fun hw hset hr hh => ?start, fun hw hq => stops_of_enters ?watermark fun _ => hq, fun hw hset hq => stops_of_enters ?set fun _ => hq,
    stops_of_enters ?rom nofun, stops_of_enters ?proc nofun, stops_of_enters ?dyke nofun⟩
  case start =>
    obtain ⟨t, ht, hmarks, hcfg, haxes, hins⟩ := safetyStarted_spec word hr hh hp hd
    simp only [startMarks, Prod.mk.injEq] at hmarks
    obtain ⟨hplock, hdlock, hpstart, hdstart, hpcrc, hdcrc, hdone, hforce, hseal⟩ := hmarks
    refine ⟨t, ?_, hdone, hforce, hseal, hplock, hdlock, hpstart, hdstart, hpcrc.trans hdcrc.symm, hcfg, haxes, hins⟩
    rw [hchecks, hw, show setOk (selectedSet s word) word = true from hset, ht]
    simp only [Bool.not_true, Bool.false_eq_true, if_false]
  case watermark => rw [hchecks, hw]; simp only [Bool.not_true, Bool.not_false, Bool.false_eq_true, if_false, if_true]
  case set =>
    rw [hchecks, hw, show setOk (selectedSet s word) word = false from hset]
    simp only [Bool.not_true, Bool.not_false, Bool.false_eq_true, if_false, if_true]
  case rom => rw [hchecks]; simp only [Bool.not_false, if_true]
  case proc => rw [hchecks]; simp only [Bool.not_true, Bool.not_false, Bool.false_eq_true, if_false, if_true]
  case dyke => rw [hchecks]; simp only [Bool.not_true, Bool.not_false, Bool.false_eq_true, if_false, if_true]

end Sys2Proof.Proofs
end

section
/-!
PROOF. O17.
-/
namespace Sys2Proof.Proofs
open Sys2Proof Sys2Proof.Machine Sys2Proof.Laws

section
variable {s t u : State} {m n : Nat} {o : Sdo} {high : Bool}

/-! ### Numbers -/

/-- A binary32 reading looks at 32 bits alone. -/
theorem f32D_mod (v : Nat) : f32D (BitVec.ofNat 32 v).toNat = f32D v := by
  have hexp : bits (v % 2 ^ 32) 30 23 = bits v 30 23 := by norm_num [bits]; omega
  have hman : bits (v % 2 ^ 32) 22 0 = bits v 22 0 := by norm_num [bits]
  have hsign : bit (v % 2 ^ 32) 31 = bit v 31 := by
    unfold bit
    rw [show v % 2 ^ 32 / 2 ^ 31 % 2 = v / 2 ^ 31 % 2 by omega]
  rw [BitVec.toNat_ofNat, f32D, f32D, f32, f32, hexp, hman, hsign]

theorem clampR_unit (x : Rat) : clampR 0 1 x = max 0 (min 1 x) := by
  rw [clampR, maxR, minR, max_def, min_def]

/-! ### Switches of one output -/

theorem sw_updSw (o : Sdo) (f : Switch → Switch) : (o.updSw high f).sw high = f (o.sw high) ∧ (o.updSw high f).sw (!high) = o.sw (!high) := by
  cases high <;> exact ⟨rfl, rfl⟩

theorem await_cmd (w : Switch) : w.await.cmd = w.cmd ∧ w.await.on = w.on ∧ (w.await.cmd || w.await.waiting) = true := by
  unfold Switch.await
  split
  next h => exact ⟨rfl, rfl, by rw [h]; rfl⟩
  · exact ⟨rfl, rfl, Bool.or_true _⟩

/-- A side of a period begins: at once where the other gate is low, or as soon as it is (R483). -/
def startSide (o : Sdo) (high : Bool) : Sdo :=
  if (o.sw (!high)).low && !(o.sw (!high)).cmd then o.updSw high (fun w => w.turn true) else o.updSw high Switch.await

theorem startSide_side (o : Sdo) (high : Bool) : (((startSide o high).sw high).cmd || ((startSide o high).sw high).waiting) = true ∧
    (startSide o high).sw (!high) = o.sw (!high) := by
  unfold startSide
  split
  · obtain ⟨hself, hother⟩ := sw_updSw (high := high) o (fun w => w.turn true)
    rw [hself, hother, (turn_cmd _ true).1]
    exact ⟨rfl, rfl⟩
  · obtain ⟨hself, hother⟩ := sw_updSw (high := high) o Switch.await
    rw [hself, hother]
    exact ⟨(await_cmd _).2.2, rfl⟩

/-- An output with a duty. -/
def withDuty (o : Sdo) (duty : BitVec 32) : Sdo := { o with duty := duty }

/-- A period of an output that took its duty, by the share of it. -/
def periodOf (o : Sdo) (d : Rat) (period : Nat) : Sdo :=
  if d * period < 100 then startSide (o.updSw true (fun w => w.turn false)) false
  else if (1 - d) * period < 100 then startSide (o.updSw false (fun w => w.turn false)) true
  else if o.hs.cmd then { o.updSw true (fun w => w.turn false) with ls := o.ls.await }
  else (startSide o false).updSw true Switch.await

theorem period_eq (o : Sdo) (duty : BitVec 32) (period : Nat) :
    o.period duty period = periodOf (withDuty o duty) (max 0 (min 1 (f32D duty.toNat))) period := by
  rw [← clampR_unit]
  rfl

/-- What a period leaves of the switches of its output. -/
structure PeriodBegun (o' : Sdo) (share rest : Rat) : Prop where
  never : (o'.hs.cmd && o'.ls.cmd) = false
  low : share < 100 → o'.hs.cmd = false ∧ o'.hs.on = false ∧ (o'.ls.cmd || o'.ls.waiting) = true
  high : 100 ≤ share → rest < 100 → o'.ls.cmd = false ∧ o'.ls.on = false ∧ (o'.hs.cmd || o'.hs.waiting) = true
  both : 100 ≤ share → 100 ≤ rest → o'.hs.cmd = false ∧ (o'.ls.cmd || o'.ls.waiting) = true

theorem periodOf_begun (o : Sdo) (d : Rat) (period : Nat) : PeriodBegun (periodOf o d period) (d * period) ((1 - d) * period) := by
  unfold periodOf
  by_cases hshare : d * period < 100
  · rw [if_pos hshare]
    obtain ⟨hls, hhs⟩ := startSide_side (o.updSw true (fun w => w.turn false)) false
    obtain ⟨hcmd, hon⟩ := turn_cmd o.hs false
    generalize startSide (o.updSw true (fun w => w.turn false)) false = p at hls hhs ⊢
    have hps : p.hs = o.hs.turn false := hhs
    have hoff : p.hs.cmd = false := by rw [hps, hcmd]
    exact ⟨by rw [hoff]; rfl, fun _ => ⟨hoff, by rw [hps, hon], hls⟩,
      fun h => absurd hshare (not_lt.mpr h), fun h => absurd hshare (not_lt.mpr h)⟩
  rw [if_neg hshare]
  by_cases hrest : (1 - d) * period < 100
  · rw [if_pos hrest]
    obtain ⟨hhs, hls⟩ := startSide_side (o.updSw false (fun w => w.turn false)) true
    obtain ⟨hcmd, hon⟩ := turn_cmd o.ls false
    generalize startSide (o.updSw false (fun w => w.turn false)) true = p at hls hhs ⊢
    have hps : p.ls = o.ls.turn false := hls
    have hoff : p.ls.cmd = false := by rw [hps, hcmd]
    exact ⟨by rw [hoff, Bool.and_false], fun h => absurd h hshare, fun _ _ => ⟨hoff, by rw [hps, hon], hhs⟩,
      fun _ h => absurd hrest (not_lt.mpr h)⟩
  rw [if_neg hrest]
  by_cases hon : o.hs.cmd = true
  · rw [if_pos hon]
    have hoff : (o.hs.turn false).cmd = false := (turn_cmd o.hs false).1
    exact ⟨by change ((o.hs.turn false).cmd && _) = false; rw [hoff]; rfl, fun h => absurd h hshare,
      fun _ h => absurd h hrest,
      fun _ _ => ⟨hoff, (await_cmd o.ls).2.2⟩⟩
  · rw [if_neg hon]
    obtain ⟨hls, hhs⟩ := startSide_side o false
    generalize startSide o false = p at hls hhs ⊢
    have hps : p.hs = o.hs := hhs
    have hoff : p.hs.await.cmd = false := by rw [(await_cmd p.hs).1, hps]; simpa using hon
    exact ⟨by change (p.hs.await.cmd && _) = false; rw [hoff]; rfl, fun h => absurd h hshare,
      fun _ h => absurd h hrest, fun _ _ => ⟨hoff, hls⟩⟩

/-! ### Outputs in turn -/

/-- Outputs changed in turn, each as its own part of the state says. -/
theorem foldl_updSdo {F : State → Nat → Sdo → Sdo} (hF : ∀ s m n f, m ≠ n → F (s.updSdo n f) m = F s m) (l : List Nat) (hl : l.Nodup) :
    ∀ s : State, ∃ outs, l.foldl (fun s m => s.updSdo m (F s m)) s = { s with drivers := { s.drivers with outs := outs } } ∧
      outs.length = s.drivers.outs.length ∧
      ∀ m, outs[m]? = if m ∈ l then s.drivers.outs[m]?.map (F s m) else s.drivers.outs[m]? := by
  induction l with
  | nil => exact fun s => ⟨s.drivers.outs, rfl, rfl, fun _ => rfl⟩
  | cons n l ih =>
    intro s
    obtain ⟨hn, hl⟩ := List.nodup_cons.mp hl
    obtain ⟨outs, heq, hlen, hget⟩ := ih hl (s.updSdo n (F s n))
    rw [List.foldl_cons, heq]
    refine ⟨outs, rfl, hlen.trans (modAt_length _ _ _), fun m => ?_⟩
    rw [hget]
    by_cases h : m = n
    · subst h
      rw [if_neg hn, if_pos List.mem_cons_self]
      exact (modAt_getElem? _ _ _ _).trans (if_pos rfl)
    · rw [hF _ _ _ _ h, show (s.updSdo n (F s n)).drivers.outs[m]? = s.drivers.outs[m]? from modAt_getElem?_ne _ h]
      simp [h]

/-- An output at a PWM period. -/
def periodSdo (s : State) (m : Nat) (o : Sdo) : Sdo :=
  if s.bridgeRuns m then o.period (BitVec.ofNat 32 (s.sdoFld 3 m)) s.pwmPeriod else o

theorem bridgeRuns_updSdo_ne (f : Sdo → Sdo) (h : m ≠ n) : (s.updSdo n f).bridgeRuns m = s.bridgeRuns m := by
  have hfree : (s.updSdo n f).driverFree m = s.driverFree m := by
    unfold State.driverFree
    rw [show (s.updSdo n f).drivers.outs[m]? = s.drivers.outs[m]? from modAt_getElem?_ne _ h]
    rfl
  unfold State.bridgeRuns
  rw [hfree]
  rfl

theorem periodSdo_updSdo_ne (s : State) (m n : Nat) (f : Sdo → Sdo) (h : m ≠ n) : periodSdo (s.updSdo n f) m = periodSdo s m := by
  funext o
  unfold periodSdo
  rw [bridgeRuns_updSdo_ne f h]
  rfl

theorem exec_pwmPeriodStart (s : State) : exec .pwmPeriodStart s =
    .next ((List.range 4).foldl (fun s m => s.updSdo m (periodSdo s m)) s) := by
  change execPwmPeriodStart s = _
  have hstep (s : State) (m : Nat) : (if s.bridgeRuns m then s.updSdo m (fun o => o.period (BitVec.ofNat 32 (s.sdoFld 3 m)) s.pwmPeriod) else s) =
      s.updSdo m (periodSdo s m) := by
    unfold periodSdo
    split
    · rfl
    · exact (updSdo_id s m).symm
  unfold execPwmPeriodStart
  simp only [hstep]

/-! ### A waiting turn-on (R483) -/

/-- An output whose waiting switch turns on: the other one is off, and within a period it is due again. -/
def releasedSdo (s : State) (high : Bool) (o : Sdo) : Sdo :=
  let d := clampR 0 1 (f32D o.duty.toNat)
  let both := decide (100 ≤ d * s.pwmPeriod) && decide (100 ≤ (1 - d) * s.pwmPeriod)
  let o := o.updSw (!high) (fun x => { x.turn false with low := true })
  let o := o.updSw high (fun x => x.turn true)
  if both && high then o.updSw false Switch.await else o

theorem exec_interlockRelease (m : Nat) (high : Bool) (s : State) : exec (.interlockRelease m high) s =
    .next (if ((s.sdoOf m).sw high).waiting && s.bridgeRuns m then s.updSdo m (releasedSdo s high) else s) := rfl

theorem releasedSdo_switches (s : State) (high : Bool) (o : Sdo) : ((releasedSdo s high o).sw high).cmd = true ∧
    ((releasedSdo s high o).sw high).on = true ∧ ((releasedSdo s high o).sw (!high)).cmd = false ∧
    ((releasedSdo s high o).sw (!high)).on = false := by
  have hon (w : Switch) := turn_cmd w true
  have hoff (w : Switch) := turn_cmd w false
  unfold releasedSdo
  extract_lets d both o1 o2
  cases high with
  | false =>
    rw [Bool.and_false, if_neg Bool.false_ne_true]
    exact ⟨(hon _).1, (hon _).2, (hoff _).1, (hoff _).2⟩
  | true =>
    rw [Bool.and_true]
    have hls : o2.ls.cmd = false ∧ o2.ls.on = false := ⟨(hoff _).1, (hoff _).2⟩
    split
    · obtain ⟨hcmd, hkept, -⟩ := await_cmd o2.ls
      exact ⟨(hon _).1, (hon _).2, hcmd.trans hls.1, hkept.trans hls.2⟩
    · exact ⟨(hon _).1, (hon _).2, hls.1, hls.2⟩

theorem sdoOf_eq (h : s.drivers.outs[m]? = some o) : s.sdoOf m = o := by
  rw [State.sdoOf, List.getD_eq_getElem?_getD, h]
  rfl

end

/-- Settles O17: the outputs begin their periods in turn, each from its own part of the state, and a waiting switch turns on. -/
theorem bridgesInterlockTheirSwitches : Obligations.BridgesInterlockTheirSwitches := by
  refine ⟨fun s => ?_, fun s m high o ho hw hb => ?_⟩
  · obtain ⟨outs, heq, hlen, hget⟩ := foldl_updSdo periodSdo_updSdo_ne (List.range 4) List.nodup_range s
    rw [exec_pwmPeriodStart, heq]
    refine ⟨_, rfl, rfl, hlen, fun m hm o ho => ?_⟩
    have hout : outs[m]? = some (periodSdo s m o) := by rw [hget, if_pos (List.mem_range.mpr hm), ho]; rfl
    refine ⟨fun hb => ?_, fun hb => ⟨_, hout, ?_⟩⟩
    · rw [periodSdo, hb] at hout
      exact hout
    · obtain ⟨hnever, hlow, hhigh, hboth⟩ := periodOf_begun (withDuty o (BitVec.ofNat 32 (s.sdoFld 3 m)))
        (max 0 (min 1 (f32D (s.sdoFld 3 m)))) s.pwmPeriod
      rw [periodSdo, if_pos hb, period_eq, f32D_mod]
      exact ⟨hnever, hlow, hhigh, hboth⟩
  · obtain ⟨hcmd, hon, hocmd, hoon⟩ := releasedSdo_switches s high o
    rw [exec_interlockRelease, sdoOf_eq ho, if_pos (by rw [hw, hb]; rfl)]
    exact ⟨_, _, rfl, modAt_getElem?_self _ ho, hcmd, hon, hocmd, hoon, fun k hk => modAt_getElem?_ne _ hk, rfl⟩

end Sys2Proof.Proofs
end

section
/-!
SUPPORT. A fault of a safe drive output that opens every output (R480, R484, R487, R501): its report, the system-F2 line, and the marks of
the output, which the switches leave as they follow.
-/
namespace Sys2Proof.Proofs
open Sys2Proof Sys2Proof.Machine Sys2Proof.Laws

section
variable {s t u : State} {m n : Nat} {o : Sdo} {r : FaultRep}

/-- What the switches of an output leave of it as they follow. -/
def sdoMarks (o : Sdo) : Bool × Bool × Bool × Bool × Bool × Bool × BitVec 32 :=
  (o.shorted, o.failed, o.shortSeen, o.underSeen, o.stuckSeen, o.limitSeen, o.duty)

theorem settledSdo_marks (s : State) (m : Nat) (o : Sdo) : sdoMarks (settledSdo s m o) = sdoMarks o := by
  unfold settledSdo
  split
  · rfl
  dsimp only
  split <;> rfl

theorem settle_marks (hm : m < 4) (ho : s.drivers.outs[m]? = some o) : ∃ o', s.settle.drivers.outs[m]? = some o' ∧ sdoMarks o' = sdoMarks o := by
  rw [settle_outs hm, ho]
  exact ⟨_, rfl, settledSdo_marks _ m o⟩

/-- A change of one output, with the interrupt of its mark. -/
theorem updSdo_irq7 (s : State) (m : Nat) (f : Sdo → Sdo) (was : Bool) : ∃ st tx, (s.updSdo m f).irq7 was = { s with
    drivers := { s.drivers with outs := modAt s.drivers.outs m f }, host := { s.host with irqStatus := st }, tx := tx } := by
  obtain ⟨st, tx, h⟩ := irq7_eq (s.updSdo m f) was
  exact ⟨st, tx, h⟩

/-- What a SYSTEM F2 that a driver found leaves of the lane `s`: the report and the line, every switch off, and the parts of the lane that
neither the switches nor an interrupt reach as they were. -/
structure DriverF2 (s t : State) (r : FaultRep) : Prop where
  frame : t = { s with safety := t.safety, drivers := t.drivers, order := t.order, free := t.free, host := t.host, tx := t.tx, faults := t.faults }
  faults : t.faults = withF2 s r
  off : AllOff t

theorem settle_driverF2 (hc : s.common = true) (hcls : r.cls = .f2) (hscope : r.scope = 3) (hq : r.kindL = true → Quiet s r.code r.loc) :
    DriverF2 s (s.settle.found r) r := by
  have hsettled := settle_switches s
  obtain ⟨hsw, hoff⟩ := found_f2_spec (s := s.settle) (hsettled.common.trans hc) hcls hscope fun hk => hsettled.quiet (hq hk)
  obtain ⟨x, d, o, f, hform⟩ := hsettled.frame
  refine ⟨?_, ?_, hoff⟩
  · obtain ⟨x', d', o', f', hfound⟩ := hsw.frame
    rw [hfound, hform]
  · obtain ⟨x', d', o', f', hfound⟩ := hsw.frame
    rw [hfound, hform]
    rfl

theorem found_marks (hc : s.common = true) (hcls : r.cls = .f2) (hscope : r.scope = 3) (hq : r.kindL = true → Quiet s r.code r.loc)
    (hm : m < 4) (ho : s.drivers.outs[m]? = some o) : ∃ o', (s.found r).drivers.outs[m]? = some o' ∧ sdoMarks o' = sdoMarks o := by
  rw [found_f2 hc hcls hscope hq]
  exact settle_marks (s := { s with faults := withF2 s r }) hm ho

theorem settle_found_marks (hc : s.common = true) (hcls : r.cls = .f2) (hscope : r.scope = 3) (hq : r.kindL = true → Quiet s r.code r.loc)
    (hm : m < 4) (ho : s.drivers.outs[m]? = some o) :
    ∃ o', (s.settle.found r).drivers.outs[m]? = some o' ∧ sdoMarks o' = sdoMarks o := by
  have hsettled := settle_switches s
  obtain ⟨o1, ho1, h1⟩ := settle_marks hm ho
  obtain ⟨o2, ho2, h2⟩ := found_marks (hsettled.common.trans hc) hcls hscope (fun hk => hsettled.quiet (hq hk)) hm ho1
  exact ⟨o2, ho2, h2.trans h1⟩

/-- A change of an output with its mark's interrupt, and the SYSTEM F2 that goes with it. -/
theorem updSdo_f2 (f : Sdo → Sdo) (was : Bool) (hc : s.common = true) (hcls : r.cls = .f2) (hscope : r.scope = 3) (hk : r.kindL = false)
    (hm : m < 4) (ho : s.drivers.outs[m]? = some o) : ∃ t, (((s.updSdo m f).irq7 was).settle).found r = t ∧ DriverF2 s t r ∧
      ∃ o', t.drivers.outs[m]? = some o' ∧ sdoMarks o' = sdoMarks (f o) := by
  obtain ⟨st, tx, hform⟩ := updSdo_irq7 s m f was
  rw [hform]
  have hno {u : State} (h : r.kindL = true) : Quiet u r.code r.loc := by rw [hk] at h; cases h
  generalize hu : ({ s with
      drivers := { s.drivers with outs := modAt s.drivers.outs m f }
      host := { s.host with irqStatus := st }, tx := tx } : State) = u
  have hcu : u.common = true := by rw [← hu]; exact hc
  have hou : u.drivers.outs[m]? = some (f o) := by rw [← hu]; exact modAt_getElem?_self f ho
  have hfound := settle_driverF2 hcu hcls hscope hno
  refine ⟨_, rfl, ⟨?_, ?_, hfound.off⟩, settle_found_marks hcu hcls hscope hno hm hou⟩
  · rw [hfound.frame, ← hu]
  · rw [hfound.faults, ← hu]
    rfl

end
end Sys2Proof.Proofs
end

section
/-!
PROOF. O18.
-/
namespace Sys2Proof.Proofs
open Sys2Proof Sys2Proof.Machine Sys2Proof.Laws

section
variable {s t : State} {m : Nat} {o : Sdo} {high turnOn : Bool}

/-! ### The rows of the gate checks (R484, R487, R491) -/

/-- An output whose gate is stuck, or under its voltage, or at the end of its strength. -/
def stuckSdo (high : Bool) (o : Sdo) : Sdo := { o.updSw (!high) (fun x => x.turn false) with failed := true, stuckSeen := true }
def underSdo (high : Bool) (o : Sdo) : Sdo := { o.updSw high (fun x => x.turn false) with failed := true, underSeen := true }
def limitSdo (high turnOn : Bool) (o : Sdo) : Sdo :=
  { o.updSw high (fun x => if turnOn then { x with onHeld := 0 } else { x with offHeld := 0 }) with limitSeen := true }

/-- The fault of a gate with its SDO_GATE event. -/
def gateFault (s : State) (code m : Nat) (high : Bool) (kind : Nat) : FaultRep := mkFault code (locSdo m) none (some (s.gateEvent m high kind))

theorem exec_gateStuck (m : Nat) (high : Bool) (s : State) : exec (.gateStuck m high) s =
    .next (if !((s.sdoOf m).sw high).cmd && !((s.sdoOf m).sw high).low then
      (((s.updSdo m (stuckSdo high)).irq7 (s.sdoOf m).stuckSeen).settle).found (gateFault s 0x342 m high 2) else s) := rfl

theorem exec_gateUnder (m : Nat) (high : Bool) (s : State) : exec (.gateUnder m high) s =
    .next (if ((s.sdoOf m).sw high).cmd then
      (((s.updSdo m (underSdo high)).irq7 (s.sdoOf m).underSeen).settle).found (gateFault s 0x341 m high 1) else s) := rfl

theorem exec_gateLimit (m : Nat) (high turnOn : Bool) (s : State) : exec (.gateLimit m high turnOn) s =
    .next (if 16 ≤ (if turnOn then ((s.sdoOf m).sw high).onHeld else ((s.sdoOf m).sw high).offHeld) then
      ((s.updSdo m (limitSdo high turnOn)).irq7 (s.sdoOf m).limitSeen).found (gateFault s 0x346 m high 3) else s) := rfl

theorem exec_switchingEventEnd (m : Nat) (high turnOn : Bool) (time : Nat) (s : State) : exec (.switchingEventEnd m high turnOn (some time)) s =
    .next (if s.sdoFld 7 m = 1 then s.updSdo m (fun o => o.updSw high (fun w => w.adapt turnOn time (s.sdoFld 5 m))) else s) := rfl

/-- A switch that is proven off (R497). -/
def provenOff (w : Switch) : Switch := if w.cmd then w else { w with low := true, proven := true }

theorem exec_offCheckProven (m : Nat) (high : Bool) (s : State) :
    exec (.offCheckProven m high) s = .next (s.updSdo m (fun o => o.updSw high provenOff)) := rfl

/-- What a SYSTEM F2 of a gate leaves of the lane. -/
theorem DriverF2.raised {code kind : Nat} (h : DriverF2 s t (gateFault s code m high kind)) :
    t.faults.reports = s.faults.reports ++
      [{ code := code, cls := (mkFault code).cls, loc := locSdo m, lane := some s.lane, event := some (s.gateEvent m high kind) }] ∧
    t.cfg = s.cfg ∧ t.axes = s.axes ∧ t.power = s.power ∧ t.clock = s.clock ∧
    t.pending = s.pending := by
  obtain ⟨hframe, hfaults, -⟩ := h
  refine ⟨by rw [hfaults]; rfl, ?_, ?_, ?_, ?_, ?_⟩
  all_goals rw [hframe]

/-- The gate-limit F0 in the common sequence. -/
theorem gateLimit_found (f : Sdo → Sdo) (was : Bool) (hc : s.common = true) : ∃ st tx,
    ((s.updSdo m f).irq7 was).found (gateFault s 0x346 m high 3) = reported { s with
      drivers := { s.drivers with outs := modAt s.drivers.outs m f }, host := { s.host with irqStatus := st }, tx := tx }
      0x346 .f0 (locSdo m) (some (s.gateEvent m high 3)) := by
  obtain ⟨st, tx, hform⟩ := updSdo_irq7 s m f was
  refine ⟨st, tx, ?_⟩
  rw [hform]
  generalize hu : ({ s with
      drivers := { s.drivers with outs := modAt s.drivers.outs m f }
      host := { s.host with irqStatus := st }, tx := tx } : State) = u
  have hcu : u.common = true := by rw [← hu]; exact hc
  exact found_report hcu nofun rfl (by decide)

theorem limitSdo_switch (high turnOn : Bool) (o : Sdo) :
    (if turnOn then ((limitSdo high turnOn o).sw high).onHeld else ((limitSdo high turnOn o).sw high).offHeld) = 0 ∧
    ((limitSdo high turnOn o).sw high).cmd = (o.sw high).cmd ∧ ((limitSdo high turnOn o).sw high).on = (o.sw high).on := by
  cases high <;> cases turnOn <;> exact ⟨rfl, rfl, rfl⟩

/-! ### The strength of a gate (R491) -/

/-- The limits of the switching time, compared exactly. -/
theorem adaptStep_eq (time target step : Nat) : adaptStep time target step =
    if 1125 / 1000 * (target : Rat) < time ∧ step < 15 then step + 1
    else if (time : Rat) < 875 / 1000 * target ∧ 0 < step then step - 1 else step := by
  have habove : 1125 / 1000 * (target : Rat) < time ↔ 8 * time > 9 * target := by
    rw [gt_iff_lt, ← Nat.cast_lt (α := Rat)]
    push_cast
    constructor <;> intro h <;> linarith
  have hbelow : (time : Rat) < 875 / 1000 * target ↔ 8 * time < 7 * target := by
    rw [← Nat.cast_lt (α := Rat)]
    push_cast
    constructor <;> intro h <;> linarith
  simp only [adaptStep, habove, hbelow]

/-- The strength that a switching event uses, after it. -/
theorem adapt_strength (w : Switch) (turnOn : Bool) (time target : Nat) (h : turnOn = true ∨ w.soft = false) :
    (if turnOn then (w.adapt turnOn time target).strOn else (w.adapt turnOn time target).strOff) =
      adaptStep time target (if turnOn then w.strOn else w.strOff) := by
  cases turnOn with
  | true => rfl
  | false =>
    have hsoft : w.soft = false := h.resolve_left nofun
    simp [Switch.adapt, hsoft]

end

/-- Settles O18: a gate that fails opens every output, a strength at its end leaves an F0, and the other events change their switch
alone. -/
theorem gatesAreWatchedAndAdapted : Obligations.GatesAreWatchedAndAdapted := by
  refine ⟨fun s m high turnOn o hc hm ho => ?_, fun s m high turnOn time o ho => ?_⟩
  · intro ev raised
    rw [exec_gateStuck, exec_gateUnder, exec_gateLimit, sdoOf_eq ho]
    refine ⟨fun hcmd hlow => ?stuck, fun hcmd => ?under, fun hrun => ?limit⟩
    case stuck =>
      obtain ⟨t, heq, hf2, o', ho', hmarks⟩ := updSdo_f2 (r := gateFault s 0x342 m high 2) (stuckSdo high) o.stuckSeen hc rfl rfl rfl hm ho
      rw [if_pos (by rw [hcmd, hlow]; rfl), heq]
      simp only [sdoMarks, Prod.mk.injEq] at hmarks
      obtain ⟨-, hfailed, -, -, hstuck, -⟩ := hmarks
      exact ⟨t, rfl, hf2.raised, by rw [hf2.faults]; rfl, hf2.off, o', ho', hfailed, hstuck⟩
    case under =>
      obtain ⟨t, heq, hf2, o', ho', hmarks⟩ := updSdo_f2 (r := gateFault s 0x341 m high 1) (underSdo high) o.underSeen hc rfl rfl rfl hm ho
      rw [if_pos hcmd, heq]
      simp only [sdoMarks, Prod.mk.injEq] at hmarks
      obtain ⟨-, hfailed, -, hunder, -⟩ := hmarks
      exact ⟨t, rfl, hf2.raised, by rw [hf2.faults]; rfl, hf2.off, o', ho', hfailed, hunder⟩
    case limit =>
      obtain ⟨st, tx, hfound⟩ := gateLimit_found (m := m) (high := high) (limitSdo high turnOn) o.limitSeen hc
      rw [if_pos hrun, hfound]
      obtain ⟨hheld, hcmd, hon⟩ := limitSdo_switch high turnOn o
      exact ⟨_, rfl, ⟨rfl, rfl, rfl, rfl, rfl, rfl⟩, _, modAt_getElem?_self _ ho, rfl, hheld, hcmd, hon⟩
  · rw [exec_switchingEventEnd, exec_offCheckProven]
    refine ⟨fun hadapt => ?adapt, rfl, fun hcmd => ?proven⟩
    case adapt =>
      intro target step hused
      rw [if_pos hadapt]
      obtain ⟨hself, hother⟩ := sw_updSw (high := high) o (fun w => w.adapt turnOn time (s.sdoFld 5 m))
      refine ⟨_, _, rfl, rfl, modAt_getElem?_self _ ho, fun k hk => modAt_getElem?_ne _ hk, hother, ?_⟩
      rw [hself, adapt_strength _ _ _ _ hused, adaptStep_eq]
    case proven =>
      obtain ⟨hself, hother⟩ := sw_updSw (high := high) o provenOff
      have hproven : provenOff (o.sw high) = { o.sw high with low := true, proven := true } := if_neg (by rw [hcmd]; decide)
      rw [hproven] at hself
      exact ⟨_, _, rfl, rfl, modAt_getElem?_self _ ho, by rw [hself], by rw [hself], hother⟩

end Sys2Proof.Proofs
end

section
/-!
PROOF. O19.
-/
namespace Sys2Proof.Proofs
open Sys2Proof Sys2Proof.Machine Sys2Proof.Laws

section
variable {s t : State} {kind : Nat} {v : BitVec 16} {r : FaultRep}

/-! ### A supply monitor (R486) -/

/-- The drivers after a monitor tripped. -/
def tripped (d : Drivers) (kind : Nat) (v : BitVec 16) : Drivers :=
  if kind = 3 then { d with cpOk := false, vcpMv := BitVec.ofNat 12 v.toNat } else { d with vbrgOk := false, vbrgMv := v }

theorem tripped_ok (d : Drivers) (kind : Nat) (v : BitVec 16) : (tripped d kind v).vbrgOk = (if kind = 3 then d.vbrgOk else false) ∧
    (tripped d kind v).cpOk = (if kind = 3 then false else d.cpOk) := by
  unfold tripped
  split <;> exact ⟨rfl, rfl⟩

/-- The fault of a supply monitor with its SDO_SUPPLY event. -/
def supplyFault (s : State) (kind : Nat) (v : BitVec 16) : FaultRep :=
  mkFault (0x342 + kind) {} none
    (some { code := 0x602, payload := [BitVec.ofNat 8 (Lane.num s.lane), BitVec.ofNat 8 kind] ++ toLe 2 v.toNat })

theorem supplyFault_f2 (s : State) (v : BitVec 16) (h1 : 1 ≤ kind) (h3 : kind ≤ 3) :
    (supplyFault s kind v).cls = .f2 ∧ (supplyFault s kind v).scope = 3 := by
  obtain rfl | rfl | rfl : kind = 1 ∨ kind = 2 ∨ kind = 3 := by omega
  · exact ⟨rfl, rfl⟩
  · exact ⟨rfl, rfl⟩
  · exact ⟨rfl, rfl⟩

theorem exec_supplyMonitorTrip (kind : Nat) (v : BitVec 16) (s : State) : exec (.supplyMonitorTrip kind v) s =
    .next (if s.sdoFld 0 0xFF = 1 ∧ 1 ≤ kind ∧ kind ≤ 3 then
      ({ s with drivers := tripped s.drivers kind v } : State).settle.found (supplyFault { s with drivers := tripped s.drivers kind v } kind v)
    else s) := rfl

/-- Only the switches of the drivers follow a SYSTEM F2. -/
theorem found_f2_drivers (hc : s.common = true) (hcls : r.cls = .f2) (hscope : r.scope = 3) (hq : r.kindL = true → Quiet s r.code r.loc) :
    ∃ outs, (s.found r).drivers = { s.drivers with outs := outs } := by
  rw [found_f2 hc hcls hscope hq]
  exact ⟨_, settle_drivers { s with faults := withF2 s r }⟩

theorem settle_found_drivers (hc : s.common = true) (hcls : r.cls = .f2) (hscope : r.scope = 3) (hq : r.kindL = true → Quiet s r.code r.loc) :
    ∃ outs, (s.settle.found r).drivers = { s.drivers with outs := outs } := by
  have hsettled := settle_switches s
  obtain ⟨outs, h⟩ := found_f2_drivers (hsettled.common.trans hc) hcls hscope fun hk => hsettled.quiet (hq hk)
  rw [h, settle_drivers]
  exact ⟨outs, rfl⟩

/-! ### The end of the condition (R486, R504) -/

/-- Standing sources of no location that end in turn are each one body of the command order. -/
theorem foldl_endActive (l : List Nat) : ∀ s : State, s.common = true →
    ∃ extra, l.foldl (fun s c => if s.isActive c locNone then s.foundEnd c locNone else s) s =
      { s with order := { s.order with held := s.order.held ++ extra } } ∧
      ∀ c ∈ l, s.isActive c locNone = true → ∃ h ∈ extra, h.body = some (.sourceEnded c locNone) ∧ h.lane = s.lane := by
  induction l with
  | nil => exact fun s _ => ⟨[], by rw [List.append_nil]; rfl, nofun⟩
  | cons c l ih =>
    intro s hc
    rw [List.foldl_cons]
    by_cases h : s.isActive c locNone = true
    · rw [if_pos h, foundEnd_common hc, reportEnd_active h]
      obtain ⟨extra, heq, hmem⟩ := ih (withBody s (.sourceEnded c locNone)) hc
      refine ⟨_ :: extra, by rw [heq, withBody, List.append_assoc]; rfl, fun c' hc' hact => ?_⟩
      obtain rfl | hl := List.mem_cons.mp hc'
      · exact ⟨_, List.mem_cons_self, rfl, rfl⟩
      · obtain ⟨q, hq, hbody, hlane⟩ := hmem c' hl hact
        exact ⟨q, List.mem_cons_of_mem _ hq, hbody, hlane⟩
    · rw [if_neg h]
      obtain ⟨extra, heq, hmem⟩ := ih s hc
      refine ⟨extra, heq, fun c' hc' hact => ?_⟩
      obtain rfl | hl := List.mem_cons.mp hc'
      · exact absurd hact h
      · exact hmem c' hl hact

/-- The lane with both supplies of the drivers in range. -/
def suppliesBack (s : State) : State := { s with drivers := { s.drivers with vbrgOk := true, cpOk := true } }

theorem exec_supplyConditionEnd (s : State) : exec .supplyConditionEnd s =
    .next ([0x343, 0x344, 0x345].foldl (fun s c => if s.isActive c locNone then s.foundEnd c locNone else s) (suppliesBack s).settle) := rfl

/-- The lane with the charge pump up. -/
def supplyReady (s : State) : State := { s with drivers := { s.drivers with
  supplyOn := true, vbrgOk := !s.isActive 0x343 locNone && !s.isActive 0x344 locNone, cpOk := !s.isActive 0x345 locNone } }

theorem exec_driverSupplyReady (s : State) : exec .driverSupplyReady s =
    .next (if s.sdoFld 0 0xFF = 1 && !s.drivers.supplyOn then (supplyReady s).settle else s) := rfl

theorem settle_faults (s : State) : s.settle.faults = s.faults := by
  obtain ⟨x, d, o, f, h⟩ := (settle_switches s).frame
  rw [h]

theorem settle_lane (s : State) : s.settle.lane = s.lane := by
  obtain ⟨x, d, o, f, h⟩ := (settle_switches s).frame
  rw [h]
  rfl

theorem settle_isActive (s : State) (code : Nat) (loc : Loc) : s.settle.isActive code loc = s.isActive code loc := by
  unfold State.isActive
  rw [settle_faults]

end

/-- Settles O19: a trip opens every output with its SYSTEM F2; the end of the condition ends each source that stands. -/
theorem driverSuppliesHoldTheOutputs : Obligations.DriverSuppliesHoldTheOutputs := by
  intro s kind v hc ev
  rw [exec_supplyMonitorTrip, exec_supplyConditionEnd, exec_driverSupplyReady]
  refine ⟨fun hon h1 h3 hq => ?trip, ?ended, fun hon hoff => ?ready⟩
  case trip =>
    rw [if_pos ⟨hon, h1, h3⟩]
    have hu : supplyFault { s with drivers := tripped s.drivers kind v } kind v = supplyFault s kind v := rfl
    rw [hu]
    obtain ⟨hcls, hscope⟩ := supplyFault_f2 s v h1 h3
    obtain ⟨hvbrg, hcp⟩ := tripped_ok s.drivers kind v
    obtain ⟨-, hfaults, hoff⟩ := settle_driverF2 (s := { s with drivers := tripped s.drivers kind v }) hc hcls hscope fun _ => hq
    obtain ⟨outs, hdrivers⟩ := settle_found_drivers (s := { s with drivers := tripped s.drivers kind v }) hc hcls hscope fun _ => hq
    generalize ({ s with drivers := tripped s.drivers kind v } : State).settle.found (supplyFault s kind v) = t at hfaults hoff hdrivers ⊢
    refine ⟨t, rfl, hoff, by rw [hfaults]; rfl, by rw [hdrivers]; exact hvbrg, by rw [hdrivers]; exact hcp, ?_⟩
    rw [hfaults, ← hcls]
    rfl
  case ended =>
    have hdrivers := settle_drivers (suppliesBack s)
    have hcommon : (suppliesBack s).settle.common = true := (settle_switches _).common.trans hc
    have hlane : (suppliesBack s).settle.lane = s.lane := settle_lane _
    have hactive (c : Nat) : (suppliesBack s).settle.isActive c locNone = s.isActive c locNone := settle_isActive _ _ _
    generalize (suppliesBack s).settle = u at hdrivers hcommon hlane hactive ⊢
    obtain ⟨extra, heq, hmem⟩ := foldl_endActive [0x343, 0x344, 0x345] u hcommon
    rw [heq]
    refine ⟨_, rfl, by rw [hdrivers]; rfl, by rw [hdrivers]; rfl, by rw [hdrivers]; rfl, fun c hcode hact => ?_⟩
    obtain ⟨q, hq, hbody, hqlane⟩ := hmem c (by simpa using hcode) (by rw [hactive]; exact hact)
    exact ⟨q, List.mem_append_right _ hq, hbody, hqlane.trans hlane⟩
  case ready =>
    have hdrivers := settle_drivers (supplyReady s)
    have hfaults := settle_faults (supplyReady s)
    rw [if_pos (by rw [hon, hoff]; rfl)]
    generalize (supplyReady s).settle = t at hdrivers hfaults ⊢
    exact ⟨t, rfl, by rw [hdrivers]; rfl, by rw [hdrivers]; rfl, by rw [hdrivers]; rfl, hfaults⟩

end Sys2Proof.Proofs
end

section
/-!
PROOF. O20.
-/
namespace Sys2Proof.Proofs
open Sys2Proof Sys2Proof.Machine Sys2Proof.Laws

section
variable {s t u : State} {m : Nat} {o : Sdo} {high shunt : Bool} {v : BitVec 16}

/-! ### A short that was found (R493, R494) -/

/-- The drivers with a detection in the event being collected. -/
def collected (d : Drivers) (m : Nat) (high shunt : Bool) (v : BitVec 16) : Drivers :=
  { d with
    legs := setAt d.legs m true, sws := if 2 * m + b2n (!high) ∈ d.sws then d.sws else d.sws ++ [2 * m + b2n (!high)]
    shunts := if !shunt || decide (m ∈ d.shunts) then d.shunts else d.shunts ++ [m]
    shortVbrg := some (d.shortVbrg.getD v), vbrgMv := v }

/-- An output with a short found at one switch. -/
def shortSdo (high : Bool) (o : Sdo) : Sdo :=
  { (o.updSw high (fun w => { w.turn false with soft := true })).updSw (!high) (fun w => w.turn false) with shorted := true, shortSeen := true }

/-- The lane with a short found, before the interrupt of its mark and the switches that follow. -/
def shorted (s : State) (m : Nat) (high shunt : Bool) (v : BitVec 16) : State :=
  ({ s with drivers := collected s.drivers m high shunt v } : State).updSdo m (shortSdo high)

/-- The lane with the system-F2 line set. -/
def lineSet (s : State) (f : Collector) : State := { s with faults := { f with sysF2 := true } }

theorem shortFound_eq (s : State) (m : Nat) (high shunt : Bool) (v : BitVec 16) : s.shortFound m high shunt v =
    (lineSet ((shorted s m high shunt v).irq7 (s.sdoOf m).shortSeen) s.faults).settle := rfl

theorem turn_false_soft (w : Switch) : (w.turn false).soft = w.soft := by
  unfold Switch.turn
  rw [if_neg Bool.false_ne_true]
  split <;> rfl

/-- An output whose driver is not free is turned off. -/
theorem settledSdo_held (h : s.driverFree m = false) (o : Sdo) : settledSdo s m o = { o with hs := o.hs.turn false, ls := o.ls.turn false } := by
  unfold settledSdo
  rw [h]
  simp only [Bool.false_and, Bool.and_false, Bool.false_eq_true, if_false, ite_self]

/-- A shorted output is turned off as the switches follow, and keeps the short of its switch (R496). -/
theorem settle_shorted (hm : m < 4) (ho : s.drivers.outs[m]? = some o) (hshort : o.shorted = true) :
    s.settle.drivers.outs[m]? = some { o with hs := o.hs.turn false, ls := o.ls.turn false } := by
  have hfree : (yielded s).driverFree m = false := by
    unfold State.driverFree
    rw [yielded_drivers, ho]
    simp [hshort]
  rw [settle_outs hm, ho, Option.map_some, settledSdo_held hfree]

theorem shortSdo_soft (high : Bool) (o : Sdo) : ((shortSdo high o).sw high).soft = true := by
  cases high <;> rfl

theorem collected_short (d : Drivers) (high shunt : Bool) (v : BitVec 16) (hm : m < d.legs.length) :
    (collected d m high shunt v).legs[m]? = some true ∧ 2 * m + b2n (!high) ∈ (collected d m high shunt v).sws ∧
    (collected d m high shunt v).shortVbrg ≠ none ∧ (shunt = true → m ∈ (collected d m high shunt v).shunts) := by
  refine ⟨?_, ?_, nofun, fun hshunt => ?_⟩
  · change (setAt d.legs m true)[m]? = some true
    rw [setAt_getElem?, if_pos rfl, List.getElem?_eq_getElem hm]
    rfl
  · change _ ∈ (if 2 * m + b2n (!high) ∈ d.sws then d.sws else d.sws ++ [2 * m + b2n (!high)])
    split
    next h => exact h
    · exact List.mem_append_right _ List.mem_cons_self
  · change m ∈ (if !shunt || decide (m ∈ d.shunts) then d.shunts else d.shunts ++ [m])
    rw [hshunt]
    split
    next h => simpa using h
    · exact List.mem_append_right _ List.mem_cons_self

/-- What a short leaves: the line, every switch off, and the detection in the event being collected. -/
theorem shortFound_spec (s : State) (high shunt : Bool) (v : BitVec 16) (hm : m < 4) (ho : s.drivers.outs[m]? = some o) :
    ∃ t outs, s.shortFound m high shunt v = t ∧ AllOff t ∧ t.faults = { s.faults with sysF2 := true } ∧
      t.drivers = { collected s.drivers m high shunt v with outs := outs } ∧
      ∃ o', t.drivers.outs[m]? = some o' ∧ o'.shorted = true ∧ o'.shortSeen = true ∧ (o'.sw high).soft = true := by
  obtain ⟨st, tx, hirq⟩ := irq7_eq (shorted s m high shunt v) (s.sdoOf m).shortSeen
  rw [shortFound_eq, hirq]
  generalize hu : lineSet ({ shorted s m high shunt v with
    host := { (shorted s m high shunt v).host with irqStatus := st }, tx := tx } : State) s.faults = u
  have hfaults : u.faults = { s.faults with sysF2 := true } := by rw [← hu]; rfl
  have hdrivers : u.drivers = { collected s.drivers m high shunt v with outs := modAt s.drivers.outs m (shortSdo high) } := by rw [← hu]; rfl
  have hout : u.drivers.outs[m]? = some (shortSdo high o) := by rw [hdrivers]; exact modAt_getElem?_self _ ho
  refine ⟨_, u.settle.drivers.outs, rfl, settle_allOff (gateDisabled_of_sysF2 (by rw [hfaults])), (settle_faults u).trans hfaults, ?_,
    _, settle_shorted hm hout rfl, rfl, rfl, ?_⟩
  · rw [settle_drivers, hdrivers]
  · have hsoft := shortSdo_soft high o
    cases high with
    | true => exact (turn_false_soft _).trans hsoft
    | false => exact (turn_false_soft _).trans hsoft

/-! ### The rows -/

theorem exec_shortDetect (m : Nat) (high : Bool) (v : BitVec 16) (s : State) : exec (.shortDetect m high v) s =
    .next (if ((s.sdoOf m).sw high).live then s.shortFound m high false v else s) := rfl

theorem exec_shuntShortDetect (m : Nat) (v : BitVec 16) (high : Bool) (h : s.sdoFld 10 m = if high then 1 else 2) :
    exec (.shuntShortDetect m v) s = .next (s.shortFound m high true v) := by
  change execShuntShortDetect m v s = _
  unfold execShuntShortDetect
  rw [h]
  cases high <;> rfl

/-- The lane with its collected event taken out. -/
def uncollected (s : State) : State :=
  { s with drivers := { s.drivers with legs := List.replicate 4 false, sws := [], shunts := [], shortVbrg := none } }

/-- The legs of the event being collected. -/
def shortLegs (s : State) : List Nat := (List.range 4).filter (fun m => s.drivers.legs.getD m false)

/-- SDO_SHORT. -/
def shortEvent (s : State) (v : BitVec 16) : EvBody := { code := 0x600, payload := [BitVec.ofNat 8 (Lane.num s.lane),
  BitVec.ofNat 8 (maskOf (shortLegs s)), BitVec.ofNat 8 (maskOf s.drivers.sws), BitVec.ofNat 8 (maskOf s.drivers.shunts)] ++ toLe 2 v.toNat }

theorem exec_sdoShort (h : s.drivers.shortVbrg = some v) : exec .sdoShort s =
    .next ((uncollected s).found (mkFault 0x340 (locSdo ((shortLegs s).headD 0)) none (some (shortEvent s v)))) := by
  change execSdoShort s = _
  unfold execSdoShort
  rw [h]
  rfl

end

/-- Settles O20: a detection opens its output and every other, and the event that closes is one SYSTEM F2. -/
theorem shortsTurnEveryOutputOff : Obligations.ShortsTurnEveryOutputOff := by
  intro s m high v o hc hm ho hlegs ev found
  have hfound (high shunt : Bool) : ∃ t, s.shortFound m high shunt v = t ∧ found t high ∧ (shunt = true → m ∈ t.drivers.shunts) := by
    obtain ⟨t, outs, heq, hoff, hfaults, hdrivers, hout⟩ := shortFound_spec s high shunt v hm ho
    obtain ⟨hleg, hsw, hvbrg, hshunt⟩ := collected_short s.drivers high shunt v hlegs
    have hbit : (if high then 0 else 1) = b2n (!high) := by cases high <;> rfl
    refine ⟨t, heq, ⟨hoff, hfaults, by rw [hdrivers]; exact hleg, ?_, by rw [hdrivers]; exact hvbrg, hout⟩,
      fun h => by rw [hdrivers]; exact hshunt h⟩
    rw [hdrivers, hbit]
    exact hsw
  refine ⟨fun hlive => ?detect, fun hf => ?shuntHigh, fun hf => ?shuntLow, fun w hw => ?closes⟩
  case detect =>
    obtain ⟨t, heq, ht, -⟩ := hfound high false
    rw [exec_shortDetect, sdoOf_eq ho, if_pos (by obtain h | h := hlive <;> simp [Switch.live, h]), heq]
    exact ⟨t, rfl, ht⟩
  case shuntHigh =>
    obtain ⟨t, heq, ht, hshunt⟩ := hfound true true
    rw [exec_shuntShortDetect m v true hf, heq]
    exact ⟨t, rfl, ht, hshunt rfl⟩
  case shuntLow =>
    obtain ⟨t, heq, ht, hshunt⟩ := hfound false true
    rw [exec_shuntShortDetect m v false hf, heq]
    exact ⟨t, rfl, ht, hshunt rfl⟩
  case closes =>
    rw [exec_sdoShort hw]
    generalize hr : mkFault 0x340 (locSdo ((shortLegs s).headD 0)) none (some (shortEvent s w)) = r
    have hcls : r.cls = .f2 := by rw [← hr]; rfl
    have hscope : r.scope = 3 := by rw [← hr]; rfl
    have hq {u : Machine.State} (hk : r.kindL = true) : Quiet u r.code r.loc := by rw [← hr] at hk; cases hk
    obtain ⟨hsw, hoff⟩ := found_f2_spec (s := uncollected s) hc hcls hscope hq
    obtain ⟨outs, hdrivers⟩ := found_f2_drivers (s := uncollected s) hc hcls hscope hq
    obtain ⟨x, d, q, f, hform⟩ := hsw.frame
    refine ⟨_, (shortLegs s).headD 0, rfl, by rw [hdrivers]; rfl, by rw [hdrivers]; rfl, by rw [hdrivers]; rfl, by rw [hdrivers]; rfl,
      by rw [hform]; rfl, hoff, ?_⟩
    rw [hform, ← hr]
    rfl

end Sys2Proof.Proofs
end

section
/-!
PROOF. O24.
-/
namespace Sys2Proof.Proofs
open Sys2Proof Sys2Proof.Machine Sys2Proof.Laws

section
variable {s t : State}

/-! ### PD_AON (R592, R632) -/

theorem exec_vaonPowerOn (s : State) : exec .vaonPowerOn s =
    .next { s.aonReset with power := { s.aonReset.power with vaon := true, mode := .standby } } := rfl

theorem exec_vaonPor (s : State) : exec .vaonPor s = .next { s.aonReset with power := { s.aonReset.power with vaon := false } } := rfl

/-! ### Resets of the core (R516, R593, R602) -/

/-- `t` holds reset values but for the dyke, the fuses, the peat store and what PD_AON keeps of F3 and refresh. -/
def CoreFresh (s t : State) : Prop :=
  t.clock = {} ∧ t.net = {} ∧ t.axes = [] ∧ t.cfg = {} ∧ t.order = {} ∧ t.events = {} ∧ t.acq = {} ∧
  t.faults = {} ∧ t.drivers = {} ∧
  t.kernels = {} ∧ t.time = {} ∧ t.engines = List.replicate 16 {} ∧ t.safety.proc = {} ∧
  t.safety.startDone = false ∧ t.lanes.addr = none ∧
  t.power.booted = false ∧ t.power.steward = false ∧ t.safety.dyke = s.safety.dyke ∧ t.safety.watermark = s.safety.watermark ∧
  t.power.slots = s.power.slots ∧ t.power.copies = s.power.copies ∧ t.power.f3Record = s.power.f3Record ∧
  t.power.refreshRec = s.power.refreshRec ∧ t.pending = s.pending

theorem coreReset_fresh (s : State) : CoreFresh s s.coreReset :=
  ⟨rfl, rfl, rfl, rfl, rfl, rfl, rfl, rfl, rfl, rfl, rfl, rfl, rfl, rfl, rfl, rfl, rfl, rfl, rfl, rfl, rfl, rfl, rfl, rfl⟩

/-- The lane that the core power-on reset leaves: F3 and supplies gone, and STANDBY where PWR_EN is low. -/
def coreOff (s : State) : State := { s.coreReset with power := { s.coreReset.power with
  f3Reg := false, supplies := false, mode := if s.power.pwrEn then s.power.mode else .standby } }

theorem exec_vddCorePor (s : State) : exec .vddCorePor s = .next (coreOff s) := rfl

theorem coreOff_fresh (s : State) : CoreFresh s (coreOff s) := coreReset_fresh s

theorem coreOff_mode (h : s.power.pwrEn = false) : (coreOff s).power.mode = .standby := if_neg (by rw [h]; exact Bool.false_ne_true)

theorem exec_resetNAssert (s : State) : exec .resetNAssert s = .next (if s.power.mode == .standby then s else s.coreReset) := rfl

/-! ### The safety function's own supplies (R444, R603) -/

/-- The lane with the dyke at its reset values, on VDYK or without it. -/
def dykeReset (s : State) (vdyk : Bool) : State := { s with safety := { s.safety with dyke := {}, vdykIn := vdyk } }

theorem exec_vdykPor (s : State) : exec .vdykPor s = .next (dykeReset s false).settle := rfl

theorem exec_vdykInRange (s : State) : exec .vdykInRange s = .next (if s.safety.vdykIn then s else (dykeReset s true).settle) := rfl

theorem gateDisabled_of_lockedOut (h : s.lockedOut = true) : s.gateDisabled = true := by simp [State.gateDisabled, h]

theorem dykeReset_settle (s : State) (vdyk : Bool) : ∃ t, (dykeReset s vdyk).settle = t ∧ AllOff t ∧ t.safety.vdykIn = vdyk ∧
    t.safety.dyke.lockout = true ∧ t.safety.dyke.started = false ∧ t.safety.proc.ins = s.safety.proc.ins ∧ t.cfg = s.cfg ∧
    t.faults = s.faults ∧ t.power = s.power := by
  have hlock : (dykeReset s vdyk).lockedOut = true := Bool.or_true _
  have hoff := settle_allOff (gateDisabled_of_lockedOut hlock)
  obtain ⟨tests, seen, pd, dd, outs, o, f, hform⟩ := settle_form (dykeReset s vdyk)
  generalize (dykeReset s vdyk).settle = t at hoff hform ⊢
  exact ⟨t, rfl, hoff, by rw [hform]; rfl, by rw [hform]; rfl, by rw [hform]; rfl, by rw [hform]; rfl, by rw [hform]; rfl, by rw [hform]; rfl,
    by rw [hform]; rfl⟩

/-- The lane with the reference valid and the safety processor at its reset values. -/
def referenceIn (s : State) : State := { s with
  power := { s.power with refValid := true }, safety := { s.safety with proc := {}, safeSupplyIn := true } }

theorem exec_referenceValid (s : State) : exec .referenceValid s =
    .next (if s.power.supplies && !s.power.refValid then (referenceIn s).settle else s) := rfl

theorem referenceIn_settle (s : State) : ∃ t, (referenceIn s).settle = t ∧ AllOff t ∧ t.power = { s.power with refValid := true } ∧
    t.safety.safeSupplyIn = true ∧ t.safety.proc.started = false ∧ t.safety.proc.lockout = true ∧ t.faults = s.faults := by
  have hoff := settle_allOff (gateDisabled_of_lockedOut (s := referenceIn s) rfl)
  obtain ⟨tests, seen, pd, dd, outs, o, f, hform⟩ := settle_form (referenceIn s)
  generalize (referenceIn s).settle = t at hoff hform ⊢
  exact ⟨t, rfl, hoff, by rw [hform]; rfl, by rw [hform]; rfl, by rw [hform]; rfl, by rw [hform]; rfl, by rw [hform]; rfl⟩

/-! ### Wakes (R598) -/

/-- The lane with a wake begun. -/
def woken (s : State) : State := { s with
  power := { s.power with pwrEn := true, mode := .operating, wakeKind := none }, lanes := { s.lanes with role := .unassigned } }

theorem exec_wakeQualified (s : State) : exec .wakeQualified s = .next (if s.power.vaon && s.power.mode == .standby then woken s else s) := rfl

theorem exec_suppliesInRange (s : State) : exec .suppliesInRange s =
    .next (if s.power.pwrEn then { s with power := { s.power with supplies := true } } else s) := rfl

theorem exec_pciePerstnAssert (s : State) : exec .pciePerstnAssert s =
    .next { s with host := { s.host with endpoint := false, linkUp := false, retry := true, msix := [] } } := rfl

theorem exec_pciePerstnRelease (s : State) : exec .pciePerstnRelease s =
    .next { s with host := { s.host with endpoint := true, retry := !s.power.steward } } := rfl

end

/-- Settles O24: each step writes its reset values, and what follows a lock-out is off. -/
theorem suppliesResetsAndWakes : Obligations.SuppliesResetsAndWakes := by
  intro s fresh
  refine ⟨⟨_, exec_vaonPowerOn s, rfl, rfl, rfl, rfl, rfl, rfl, rfl⟩, ⟨_, exec_vaonPor s, rfl, rfl, rfl, rfl, rfl, rfl⟩,
    ⟨_, exec_vddCorePor s, coreOff_fresh s, rfl, rfl, coreOff_mode⟩, fun hmode => ?reset, fun hmode => ?standby, ?dyke, fun hin => ?vdyk,
    fun hvaon hmode => ?wake, fun hen => ?supplies, fun hs hr => ?reference, exec_pciePerstnAssert s, exec_pciePerstnRelease s⟩
  case reset =>
    rw [exec_resetNAssert, if_neg (by simpa using hmode)]
    exact ⟨_, rfl, coreReset_fresh s, rfl, rfl, rfl, rfl⟩
  case standby => rw [exec_resetNAssert, if_pos (by simpa using hmode)]
  case dyke =>
    obtain ⟨t, heq, hoff, hvdyk, hlock, -, hins, hcfg, hfaults, hpower⟩ := dykeReset_settle s false
    rw [exec_vdykPor, heq]
    exact ⟨t, rfl, hoff, hvdyk, hlock, hins, hcfg, hfaults, hpower⟩
  case vdyk =>
    obtain ⟨t, heq, hoff, hvdyk, hlock, hstarted, -, -, hfaults, -⟩ := dykeReset_settle s true
    rw [exec_vdykInRange, if_neg (by rw [hin]; exact Bool.false_ne_true), heq]
    exact ⟨t, rfl, hoff, hvdyk, hstarted, hlock, hfaults⟩
  case wake =>
    rw [exec_wakeQualified, if_pos (by rw [hvaon, hmode]; rfl)]
    exact ⟨_, rfl, rfl, rfl, rfl, rfl, rfl⟩
  case supplies => rw [exec_suppliesInRange, if_pos hen]
  case reference =>
    obtain ⟨t, heq, hrest⟩ := referenceIn_settle s
    rw [exec_referenceValid, if_pos (by rw [hs, hr]; rfl), heq]
    exact ⟨t, rfl, hrest⟩

end Sys2Proof.Proofs
end

section
/-!
PROOF. O25.
-/
namespace Sys2Proof.Proofs
open Sys2Proof Sys2Proof.Machine Sys2Proof.Laws

section
variable {s t : State} {i : Nat} {pass : Nat → Bool}

/-! ### Image selection (R619) -/

/-- The lane without an image: it serves loading, in its F3. -/
def noImage (s : State) : State := { s with power := { s.power with noImage := true } }.enterF3 (mkFault 0x38F)

/-- The lane that runs a slot, and the one that fell back to it. -/
def runs (s : State) (i : Nat) : State := { s with power := { s.power with running := some i } }
def fellBack (s : State) (i : Nat) : State :=
  { s with power := { s.power with running := some i, pending := s.power.pending ++ [mkFault 0x38E] } }

/-- The other slot passes, after slot `i` did not. -/
def otherPasses (s : State) (i : Nat) (pass : Nat → Bool) : Bool := (s.power.slots.getD (1 - i) {}).st == .verified && pass (1 - i)

/-- Image selection once a slot was found that did not pass. -/
def retried (s : State) (i : Nat) (pass : Nat → Bool) : State :=
  if otherPasses s i pass then fellBack s (1 - i)
  else noImage (if (s.power.slots.getD (1 - i) {}).st == .verified then s.slotBad (1 - i) else s)

/-- Image selection with the outcome of each slot's check. -/
def imagePicked (s : State) (pass : Nat → Bool) : State :=
  match s.firstSlot with
  | some i => if pass i then runs s i else retried (s.slotBad i) i pass
  | none => noImage s

/-- The boot ROM has run. -/
def bootRun (s : State) : State := { s with power := { s.power with booted := true } }

/-- The outcome of each slot's check. -/
def slotPass (p0 p1 : Bool) (i : Nat) : Bool := if i = 0 then p0 else p1

theorem exec_bootRomComplete (p0 p1 : Bool) (hv : s.power.refValid = true) (hb : s.power.booted = false) (hf : s.power.f3Reg = false) :
    exec (.bootRomComplete p0 p1) s = .next (imagePicked (bootRun s) (slotPass p0 p1)) := by
  change execBootRomComplete p0 p1 s = _
  unfold execBootRomComplete
  extract_lets pass old v oldFaults w oldPower
  rw [if_neg (by simp [hv, hb])]
  have hw : w = bootRun s := if_neg (by rw [show v.power.f3Reg = s.power.f3Reg from rfl, hf]; exact Bool.false_ne_true)
  clear_value w
  rw [← hw]
  rfl

/-- An F3 leaves the images and the slot that runs. -/
theorem f3Stopped_images {code : Nat} (h : F3Stopped s t code) : t.power.noImage = s.power.noImage ∧ t.power.running = s.power.running := by
  obtain ⟨-, hnew, hold, -⟩ := h
  by_cases hf : s.faults.f3 = true
  · rw [(hold hf).2]
    exact ⟨rfl, rfl⟩
  · rw [(hnew (by simpa using hf)).2]
    exact ⟨rfl, rfl⟩

theorem noImage_spec (s : State) : ∃ t, noImage s = t ∧ t.power.noImage = true ∧ t.faults.f3 = true ∧ AllOff t ∧
    t.power.running = s.power.running := by
  have hstopped := enterF3_stops (s := { s with power := { s.power with noImage := true } }) (r := mkFault 0x38F) nofun
  refine ⟨_, rfl, ?_⟩
  unfold noImage
  generalize State.enterF3 _ (mkFault 0x38F) = t at hstopped ⊢
  obtain ⟨hno, hrun⟩ := f3Stopped_images hstopped
  obtain ⟨hf3, -, -, hoff, -⟩ := hstopped
  exact ⟨hno, hf3, hoff, hrun⟩

/-- The slot that two slots leave to be checked first. -/
def pickSlot (a b : Slot) : Option Nat :=
  if a.st == .verified && b.st == .verified then some (if a.seq ≤ b.seq then 1 else 0)
  else if a.st == .verified then some 0 else if b.st == .verified then some 1 else none

theorem firstSlot_eq (s : State) : s.firstSlot = pickSlot (s.power.slots.getD 0 {}) (s.power.slots.getD 1 {}) := rfl

theorem pickSlot_first {a b : Slot} (h : a.st = .verified) (hlow : b.st = .verified → b.seq < a.seq) : pickSlot a b = some 0 := by
  unfold pickSlot
  by_cases hb : b.st = .verified
  · simp [h, hb, Nat.not_le.mpr (hlow hb)]
  · simp [h, hb]

theorem pickSlot_second {a b : Slot} (h : b.st = .verified) (hlow : a.st = .verified → a.seq ≤ b.seq) : pickSlot a b = some 1 := by
  unfold pickSlot
  by_cases ha : a.st = .verified
  · simp [h, ha, hlow ha]
  · simp [h, ha]

theorem pickSlot_verified {a b : Slot} (h : pickSlot a b = some i) : (i = 0 ∧ a.st = .verified) ∨ (i = 1 ∧ b.st = .verified) := by
  unfold pickSlot at h
  by_cases ha : a.st = .verified
  · by_cases hb : b.st = .verified
    · simp only [ha, hb, beq_self_eq_true, Bool.and_self, if_true] at h
      split at h
      · exact .inr ⟨(Option.some.inj h).symm, hb⟩
      · exact .inl ⟨(Option.some.inj h).symm, ha⟩
    · simp [ha, hb] at h
      exact .inl ⟨h.symm, ha⟩
  · by_cases hb : b.st = .verified
    · simp [ha, hb] at h
      exact .inr ⟨h.symm, hb⟩
    · simp [ha, hb] at h

/-- The slot checked first is verified. -/
theorem firstSlot_verified (h : s.firstSlot = some i) : i ≤ 1 ∧ (s.power.slots.getD i {}).st = .verified := by
  rw [firstSlot_eq] at h
  obtain ⟨rfl, hv⟩ | ⟨rfl, hv⟩ := pickSlot_verified h
  · exact ⟨by omega, hv⟩
  · exact ⟨le_rfl, hv⟩

theorem slotBad_slots (s : State) (i k : Nat) : (s.slotBad i).power.slots[k]? =
    if k = i then s.power.slots[k]?.map (fun x => { x with st := .bad }) else s.power.slots[k]? := modAt_getElem? _ _ _ _

theorem slotBad_other (s : State) (hi : i ≤ 1) : (s.slotBad i).power.slots.getD (1 - i) {} = s.power.slots.getD (1 - i) {} := by
  rw [List.getD_eq_getElem?_getD, List.getD_eq_getElem?_getD, slotBad_slots, if_neg (by omega)]

/-- The slot checked first runs where it passes. -/
theorem imagePicked_runs (h : s.firstSlot = some i) (hp : pass i = true) : imagePicked s pass = runs s i := by
  unfold imagePicked
  rw [h]
  exact if_pos hp

/-- The other slot runs where the first one did not pass (R619). -/
theorem imagePicked_fallsBack (h : s.firstSlot = some i) (hp : pass i = false) (ho : (s.power.slots.getD (1 - i) {}).st = .verified)
    (hop : pass (1 - i) = true) : imagePicked s pass = fellBack (s.slotBad i) (1 - i) := by
  have hother : otherPasses (s.slotBad i) i pass = true := by
    rw [otherPasses, slotBad_other s (firstSlot_verified h).1, ho, hop]
    rfl
  unfold imagePicked
  rw [h]
  change (if pass i = true then _ else _) = _
  rw [if_neg (by rw [hp]; exact Bool.false_ne_true), retried, if_pos hother]

/-- Where no verified slot passes, there is no image. -/
theorem imagePicked_none (h : ∀ i ≤ 1, (s.power.slots.getD i {}).st = .verified → pass i = false) :
    ∃ u, imagePicked s pass = noImage u ∧ u.power.running = s.power.running := by
  unfold imagePicked
  cases hfirst : s.firstSlot with
  | none => exact ⟨s, rfl, rfl⟩
  | some i =>
    obtain ⟨hi, hver⟩ := firstSlot_verified hfirst
    have hother : otherPasses (s.slotBad i) i pass = false := by
      rw [otherPasses, slotBad_other s hi]
      by_cases hv : (s.power.slots.getD (1 - i) {}).st = .verified
      · rw [h _ (by omega) hv, Bool.and_false]
      · rw [beq_eq_false_iff_ne.mpr hv, Bool.false_and]
    dsimp only
    rw [if_neg (by rw [h i hi hver]; exact Bool.false_ne_true), retried, if_neg (by rw [hother]; exact Bool.false_ne_true)]
    refine ⟨_, rfl, ?_⟩
    split <;> rfl

end

/-- Settles O25: the first slot, the other one, or neither. -/
theorem bootRomSelectsAnImage : Obligations.BootRomSelectsAnImage := by
  intro s p0 p1 a b hv hb hslots hf run fallback
  have hs : (bootRun s).power.slots = [a, b] := hslots
  have h0 : (bootRun s).power.slots.getD 0 {} = a := by rw [hs]; rfl
  have h1 : (bootRun s).power.slots.getD 1 {} = b := by rw [hs]; rfl
  have hfirst (ha : a.st = .verified) (hlow : b.st = .verified → b.seq < a.seq) : (bootRun s).firstSlot = some 0 := by
    rw [firstSlot_eq, h0, h1]
    exact pickSlot_first ha hlow
  have hsecond (hb : b.st = .verified) (hlow : a.st = .verified → a.seq ≤ b.seq) : (bootRun s).firstSlot = some 1 := by
    rw [firstSlot_eq, h0, h1]
    exact pickSlot_second hb hlow
  have hfell (i : Nat) (hi : i ≤ 1) (heq : imagePicked (bootRun s) (slotPass p0 p1) = fellBack ((bootRun s).slotBad i) (1 - i)) :
      fallback i (imagePicked (bootRun s) (slotPass p0 p1)) := by
    have hother : 1 - i ≠ i := by omega
    have hin : i < s.power.slots.length := by rw [hslots]; exact Nat.lt_succ_of_le hi
    rw [heq]
    refine ⟨rfl, rfl, rfl, ?_, (slotBad_slots _ _ _).trans (if_neg hother), rfl, rfl⟩
    rw [show (fellBack ((bootRun s).slotBad i) (1 - i)).power.slots = ((bootRun s).slotBad i).power.slots from rfl, slotBad_slots, if_pos rfl,
      show (bootRun s).power.slots[i]? = s.power.slots[i]? from rfl, List.getElem?_eq_getElem hin]
    rfl
  rw [exec_bootRomComplete p0 p1 hv hb hf]
  refine ⟨_, rfl, fun ha hlow hp => ?first, fun hb hlow hp => ?second, fun ha hb hlow hp hop => hfell 0 (by omega) ?back0,
    fun ha hb hlow hp hop => hfell 1 le_rfl ?back1, fun ha hb => ?neither⟩
  case first =>
    rw [imagePicked_runs (hfirst ha hlow) hp]
    exact ⟨rfl, rfl, rfl⟩
  case second =>
    rw [imagePicked_runs (hsecond hb hlow) hp]
    exact ⟨rfl, rfl, rfl⟩
  case back0 => exact imagePicked_fallsBack (hfirst ha fun _ => hlow) hp (by rw [h1]; exact hb) hop
  case back1 => exact imagePicked_fallsBack (hsecond hb fun _ => hlow) hp (by rw [h0]; exact ha) hop
  case neither =>
    obtain ⟨u, heq, hrun⟩ := imagePicked_none (s := bootRun s) (pass := slotPass p0 p1) fun i hi hver => by
      obtain rfl | rfl : i = 0 ∨ i = 1 := by omega
      · exact ha (by rw [← h0]; exact hver)
      · exact hb (by rw [← h1]; exact hver)
    obtain ⟨t, ht, hno, hf3, hoff, hkept⟩ := noImage_spec u
    rw [heq, ht]
    exact ⟨hno, hf3, hoff, hkept.trans hrun⟩

end Sys2Proof.Proofs
end

section
/-!
PROOF. O26.
-/
namespace Sys2Proof.Proofs
open Sys2Proof Sys2Proof.Machine Sys2Proof.Laws

section
variable {s t u : State} {i : Nat} {c : Settings}

/-! ### What a restore takes over (R612) -/

theorem length_insertBy {α : Type} (f : α → Nat) (a : α) : ∀ l : List α, (insertBy f a l).length = l.length + 1
  | [] => rfl
  | b :: l => by
    rw [insertBy]
    split
    · rfl
    · rw [List.length_cons, length_insertBy f a l, List.length_cons]

theorem length_sortBy {α : Type} (f : α → Nat) : ∀ l : List α, (sortBy f l).length = l.length
  | [] => rfl
  | a :: l => by rw [sortBy, length_insertBy, length_sortBy f l, List.length_cons]

/-- `t` is `s` but for its ports. -/
def OnlyPorts (s t : State) : Prop := t = { s with branches := t.branches, trunks := t.trunks, relays := t.relays, weirs := t.weirs }

theorem OnlyPorts.trans (h : OnlyPorts s t) (k : OnlyPorts t u) : OnlyPorts s u := by
  rw [OnlyPorts] at h k ⊢
  rw [k, h]

theorem OnlyPorts.foldl {α : Type} {f : State → α → State} (hf : ∀ s a, OnlyPorts s (f s a)) :
    ∀ (l : List α) (s : State), OnlyPorts s (l.foldl f s)
  | [], _ => rfl
  | a :: l, s => (hf s a).trans (foldl hf l (f s a))

theorem setLink_onlyPorts (s : State) (n : Nat) (st : LinkState) : OnlyPorts s (s.setLink n st) := by
  unfold State.setLink State.updLink
  split
  · rfl
  split
  · rfl
  split
  · rfl
  split
  · rfl
  split
  · rfl
  · rfl

theorem followLinks_onlyPorts (s : State) : OnlyPorts s s.followLinks := by
  refine .foldl (fun s n => ?_) _ s
  split
  · split
    · exact setLink_onlyPorts s n _
    · rfl
  · split
    · rfl
    · exact setLink_onlyPorts s n _

/-- A node of a restored map. -/
def restoredNode (c : Settings) (e : NodeEntry) : NodeRt := { node := nodeIndex e, schedId := (kvGet c.schedIds (nodeIndex e)).getD 0 }

/-- The lane with the content of a copy, before its ports follow. -/
def contentOf (s : State) (c : Settings) : State := { s with
  cfg := c.cfg, axes := (sortBy (fun (e : AxisEntry) => e.axis) c.cfg.map.axes).map c.axis, nodes := c.cfg.map.nodes.map (restoredNode c)
  coupling := { coef := c.groupCoefs }, kernels := { held := c.kernels }, groups := List.replicate 16 {},
  power := { s.power with fresh := true } }

theorem restore_eq (s : State) (c : Settings) : s.restore c = (contentOf s c).loadScheds.followLinks := rfl

theorem restore_onlyPorts (s : State) (c : Settings) : OnlyPorts (contentOf s c) (s.restore c) := by
  rw [restore_eq]
  have hloaded : OnlyPorts (contentOf s c) (contentOf s c).loadScheds := rfl
  exact hloaded.trans (followLinks_onlyPorts _)

/-- The settings of `t` are those of a copy, with every axis in OFF. -/
structure HoldsCopy (c : Settings) (t : State) : Prop where
  cfg : t.cfg = c.cfg
  kernels : t.kernels = { held := c.kernels }
  coef : t.coupling.coef = c.groupCoefs
  nodes : t.nodes.length = c.cfg.map.nodes.length
  axes : t.axes.length = c.cfg.map.axes.length
  off : ∀ x ∈ t.axes, x.st = .off ∧ x.law = {} ∧ x.entry ∈ c.cfg.map.axes

/-- `t` is `s` but for its settings, its ports and the mark of a restore. -/
def KeepsLane (s t : State) : Prop := t.power = { s.power with fresh := t.power.fresh } ∧ t.lanes = s.lanes ∧ t.faults = s.faults

theorem restore_spec (s : State) (c : Settings) : HoldsCopy c (s.restore c) ∧ KeepsLane s (s.restore c) := by
  have h := restore_onlyPorts s c
  generalize s.restore c = t at h ⊢
  rw [OnlyPorts] at h
  have haxes : t.axes = (sortBy (fun (e : AxisEntry) => e.axis) c.cfg.map.axes).map c.axis := by rw [h]; rfl
  have hpower : t.power = { s.power with fresh := true } := by rw [h]; rfl
  refine ⟨⟨by rw [h]; rfl, by rw [h]; rfl, by rw [h]; rfl, ?_, ?_, fun x hx => ?_⟩, ?_, by rw [h]; rfl, by rw [h]; rfl⟩
  · rw [show t.nodes = c.cfg.map.nodes.map (restoredNode c) by rw [h]; rfl, List.length_map]
  · rw [haxes, List.length_map, length_sortBy]
  · rw [haxes] at hx
    obtain ⟨e, he, rfl⟩ := List.mem_map.mp hx
    exact ⟨rfl, rfl, (mem_sortBy _ e _).mp he⟩
  · rw [hpower]

theorem factory_spec (s : State) : HoldsCopy {} s.factory ∧ KeepsLane s s.factory := by
  obtain ⟨⟨hcfg, hkernels, hcoef, hnodes, haxes, hoff⟩, -, hlanes, hfaults⟩ := restore_spec s {}
  unfold State.factory
  generalize s.restore {} = t at *
  exact ⟨⟨hcfg, hkernels, hcoef, hnodes, haxes, hoff⟩, rfl, hlanes, hfaults⟩

/-! ### The start of the steward (R516, R605, R611, R613) -/

/-- The copy that a restore takes. -/
def restoredFrom (s : State) (pick : Option Nat) : State :=
  match pick with | some i => s.restore (s.power.copies.getD i {}) | none => s.factory

/-- A copy holds, with its kernel images. -/
def goodCopy (s : State) (ok : Nat → Bool) (i : Nat) : Bool := (s.power.copies.getD i {}).valid && ok i

/-- The start-up faults of a restore. -/
def startFaults (s : State) (ok : Nat → Bool) (pick : Option Nat) : List FaultRep :=
  if pick.isNone then [mkFault 0x38D] else if goodCopy s ok 0 && goodCopy s ok 1 then [] else [mkFault 0x38C]

/-- The steward has started. -/
def stewardUp (s : State) (pick : Option Nat) (held : List FaultRep) : State :=
  { s with power := { s.power with steward := true, restored := pick, pending := s.power.pending ++ held } }

/-- An F3 from before the power cycle is noted (R516). -/
def f3Noted (s : State) : State :=
  match s.power.f3Record with
  | some (code, count) =>
    if s.power.f3Reg then s
    else ({ s with faults := { s.faults with f3Prev := true, f3PrevCode := code } } : State).reportEvent (s.historyEvent code.toNat count.toNat)
  | none => s

/-- The lane after the start of the steward. -/
def started (s : State) (ok : Nat → Bool) : State :=
  f3Noted (stewardUp (restoredFrom s (s.newest ok)) (s.newest ok) (startFaults s ok (s.newest ok)))

theorem checkStart_noAddress (h : s.lanes.addr = none) : s.checkStart = s := if_pos (by simp [h])

theorem f3Noted_form (s : State) : ∃ f o, f3Noted s = { s with faults := f, order := o } := by
  unfold f3Noted
  split
  · split
    · exact ⟨_, _, rfl⟩
    · exact ⟨_, _, rfl⟩
  · exact ⟨_, _, rfl⟩

theorem f3Noted_prev {code : BitVec 12} {count : BitVec 32} (h : s.power.f3Record = some (code, count)) (hr : s.power.f3Reg = false) :
    (f3Noted s).faults.f3Prev = true ∧ (f3Noted s).faults.f3PrevCode = code := by
  unfold f3Noted
  rw [h]
  dsimp only
  rw [if_neg (by rw [hr]; exact Bool.false_ne_true)]
  exact ⟨rfl, rfl⟩

theorem exec_settingsRestore {k0 k1 : Bool} (hb : s.power.booted = true) (hs : s.power.steward = false) (hi : s.power.noImage = false) :
    exec (.settingsRestore k0 k1) s = .next (started s (slotPass k0 k1)).checkStart := by
  change execSettingsRestore k0 k1 s = _
  unfold execSettingsRestore
  extract_lets ok good pick v held oldPower w oldFaults z
  have hz : z = f3Noted w := rfl
  clear_value z
  have hw : w = stewardUp v pick held := rfl
  clear_value w
  have hheld : held = startFaults s ok pick := rfl
  clear_value held
  have hv : v = restoredFrom s pick := rfl
  clear_value v
  rw [if_neg (by simp [hb, hs, hi]), hz, hw, hheld, hv]
  rfl

/-- The copy that is newest among those that hold with their kernel images (R611). -/
theorem newest_good (s : State) (ok : Nat → Bool) : s.newest ok =
    newestOf { s.power.copies.getD 0 {} with valid := goodCopy s ok 0 } { s.power.copies.getD 1 {} with valid := goodCopy s ok 1 } := rfl

/-- A restored lane without an address keeps what its copy gave, and holds its start-up faults. -/
theorem started_spec {ok : Nat → Bool} (ha : s.lanes.addr = none) : ∃ t, (started s ok).checkStart = t ∧ t.power.steward = true ∧
    t.power.restored = s.newest ok ∧ t.power.pending = s.power.pending ++ startFaults s ok (s.newest ok) ∧
    (∀ i, s.newest ok = some i → HoldsCopy (s.power.copies.getD i {}) t) ∧ (s.newest ok = none → HoldsCopy {} t) ∧
    ∀ code count, s.power.f3Record = some (code, count) → s.power.f3Reg = false → t.faults.f3Prev = true ∧ t.faults.f3PrevCode = code := by
  have hfrom : (∀ i, s.newest ok = some i → HoldsCopy (s.power.copies.getD i {}) (restoredFrom s (s.newest ok))) ∧
      (s.newest ok = none → HoldsCopy {} (restoredFrom s (s.newest ok))) ∧ KeepsLane s (restoredFrom s (s.newest ok)) := by
    unfold restoredFrom
    cases s.newest ok with
    | none => exact ⟨nofun, fun _ => (factory_spec s).1, (factory_spec s).2⟩
    | some i => exact ⟨fun j hj => by cases hj; exact (restore_spec s _).1, nofun, (restore_spec s _).2⟩
  unfold started
  generalize s.newest ok = pick at hfrom ⊢
  generalize startFaults s ok pick = held
  generalize restoredFrom s pick = v at hfrom ⊢
  obtain ⟨hsome, hnone, hpower, hlanes, -⟩ := hfrom
  have hprev (code count) := f3Noted_prev (s := stewardUp v pick held) (code := code) (count := count)
  obtain ⟨f, o, hform⟩ := f3Noted_form (stewardUp v pick held)
  rw [hform] at hprev ⊢
  have hkept {c : Settings} (h : HoldsCopy c v) : HoldsCopy c { stewardUp v pick held with faults := f, order := o } :=
    ⟨h.cfg, h.kernels, h.coef, h.nodes, h.axes, h.off⟩
  refine ⟨_, checkStart_noAddress (by rw [← ha, ← hlanes]; rfl), rfl, rfl, ?_, fun i hi => hkept (hsome i hi), fun hi => hkept (hnone hi),
    fun code count hrec hreg => hprev code count ?_ ?_⟩
  · change v.power.pending ++ held = _
    rw [hpower]
  · change v.power.f3Record = _
    rw [hpower]
    exact hrec
  · change v.power.f3Reg = _
    rw [hpower]
    exact hreg

/-! ### The newer of two copies (R611) -/

theorem newestOf_first {a b : Settings} (ha : a.valid = true) (h : b.valid = true → b.saveSeq < a.saveSeq) : newestOf a b = some 0 := by
  unfold newestOf
  cases hb : b.valid with
  | true => simp [ha, Nat.not_le.mpr (h hb)]
  | false => simp [ha]

theorem newestOf_second {a b : Settings} (hb : b.valid = true) (h : a.valid = true → a.saveSeq ≤ b.saveSeq) : newestOf a b = some 1 := by
  unfold newestOf
  cases ha : a.valid with
  | true => simp [hb, h ha]
  | false => simp [hb]

theorem newestOf_none {a b : Settings} (ha : a.valid = false) (hb : b.valid = false) : newestOf a b = none := by
  simp [newestOf, ha, hb]

/-- Some copy holds where one of two does. -/
theorem newestOf_isSome {a b : Settings} (h : a.valid = true ∨ b.valid = true) : (newestOf a b).isNone = false := by
  unfold newestOf
  cases ha : a.valid with
  | true => cases hb : b.valid with
    | true => simp
    | false => simp
  | false =>
    have hb : b.valid = true := h.resolve_left (by rw [ha]; exact Bool.false_ne_true)
    simp [hb]

end

/-- Settles O26: the copy taken is the newest that holds, and the start of the steward keeps what it gave. -/
theorem settingsAreRestoredAtTheStart : Obligations.SettingsAreRestoredAtTheStart := by
  intro s k0 k1 a b hb hs hi hcopies haddr ok0 ok1 from_
  have h0 : s.power.copies.getD 0 {} = a := by rw [hcopies]; rfl
  have h1 : s.power.copies.getD 1 {} = b := by rw [hcopies]; rfl
  have hnewest : s.newest (slotPass k0 k1) = newestOf { a with valid := a.valid && k0 } { b with valid := b.valid && k1 } := by
    rw [newest_good, goodCopy, goodCopy, h0, h1]
    rfl
  have hfaults (pick : Option Nat) : startFaults s (slotPass k0 k1) pick =
      if pick.isNone then [mkFault 0x38D] else if (a.valid && k0) && (b.valid && k1) then [] else [mkFault 0x38C] := by
    rw [startFaults, goodCopy, goodCopy, h0, h1]
    rfl
  obtain ⟨t, heq, hsteward, hrestored, hpending, hsome, hnone, hprev⟩ := started_spec (s := s) (ok := slotPass k0 k1) haddr
  have hfrom (i : Nat) (c : Settings) (hc : s.power.copies.getD i {} = c) (hi : s.newest (slotPass k0 k1) = some i) : from_ c i t := by
    obtain ⟨hcfg, hkernels, hcoef, hnodes, haxes, hoff⟩ := hsome i hi
    rw [hc] at hcfg hkernels hcoef hnodes haxes hoff
    exact ⟨hcfg, by rw [hkernels], hcoef, hrestored.trans hi, hnodes, haxes, hoff⟩
  rw [exec_settingsRestore hb hs hi, heq]
  rw [hfaults] at hpending
  refine ⟨t, rfl, hsteward, fun hok0 hlow => hfrom 0 a h0 (hnewest.trans (newestOf_first hok0 hlow)),
    fun hok1 hlow => hfrom 1 b h1 (hnewest.trans (newestOf_second hok1 hlow)), fun hno0 hno1 => ?neither, fun hok0 hok1 => ?both,
    fun hone => ?one, hprev⟩
  case neither =>
    have hpick := hnewest.trans (newestOf_none (Bool.eq_false_iff.mpr hno0) (Bool.eq_false_iff.mpr hno1))
    obtain ⟨hcfg, hkernels, -, -, haxes, -⟩ := hnone hpick
    rw [hpick] at hrestored hpending
    exact ⟨hcfg, List.eq_nil_of_length_eq_zero haxes, hkernels, hrestored, hpending⟩
  case both =>
    rw [hnewest, newestOf_isSome (.inl hok0), if_neg Bool.false_ne_true, if_pos (by rw [hok0, hok1]; rfl), List.append_nil] at hpending
    exact hpending
  case one =>
    rw [hnewest] at hpending
    obtain ⟨hok0, hno1⟩ | ⟨hno0, hok1⟩ := hone
    · rw [newestOf_isSome (.inl hok0), if_neg Bool.false_ne_true,
        if_neg (by rw [Bool.eq_false_iff.mpr hno1, Bool.and_false]; exact Bool.false_ne_true)] at hpending
      exact hpending
    · rw [newestOf_isSome (.inr hok1), if_neg Bool.false_ne_true,
        if_neg (by rw [Bool.eq_false_iff.mpr hno0, Bool.false_and]; exact Bool.false_ne_true)] at hpending
      exact hpending

end Sys2Proof.Proofs
end

section
/-!
PROOF. O27.
-/
namespace Sys2Proof.Proofs
open Sys2Proof Sys2Proof.Machine Sys2Proof.Laws

section
variable {s t u : State} {c : Settings} {f : FwLoad} {ok : Bool}

/-! ### Saves (R589, R609) -/

/-- The lane with a save ended, and its result. -/
def saveDone (s : State) (result : BitVec 8) (at_ : BitVec 32) : State :=
  { s with power := { s.power with saving := none, lastResult := result, lastSave := at_ } }

theorem settingsSaveComplete_ok (hs : s.power.saving = some c) (hv : c.valid = true) :
    exec (.settingsSaveComplete true) s = .next (saveDone (s.saveEnd c) 1 (BitVec.ofNat 32 s.clock.cycle)) := by
  change execSettingsSaveComplete true s = _
  unfold execSettingsSaveComplete
  rw [hs]
  dsimp only
  rw [if_neg (by rw [hv]; decide)]
  rfl

theorem settingsSaveComplete_failed (hs : s.power.saving = some c) (hv : c.valid = true) :
    exec (.settingsSaveComplete false) s = .next ((saveDone s 2 s.power.lastSave).found (mkFault 0x390)) := by
  change execSettingsSaveComplete false s = _
  unfold execSettingsSaveComplete
  rw [hs]
  dsimp only
  rw [if_neg (by rw [hv]; decide)]
  rfl

/-! ### Firmware (R590, R620) -/

/-- The image of a load. -/
def loadImage (f : FwLoad) : List Byte := (List.range f.length).map (fun k => (kvGet f.data k).getD (Config.openByte f.id k))

/-- The slot that a checked load leaves. -/
def checkedSlot (s : State) (f : FwLoad) (ok : Bool) : Slot :=
  if ok then { st := .verified, seq := (s.power.slots.getD (1 - s.loadSlot) {}).seq + 1, release := BitVec.ofNat 16 (le (loadImage f) 2 2)
               image := loadImage f }
  else { st := .bad, seq := (s.power.slots.getD s.loadSlot {}).seq, release := BitVec.ofNat 16 (le (loadImage f) 2 2), image := loadImage f }

theorem checkedSlot_st (s : State) (f : FwLoad) (ok : Bool) : (checkedSlot s f ok).st = (if ok then .verified else .bad) ∧
    (ok = true → (checkedSlot s f ok).seq = (s.power.slots.getD (1 - s.loadSlot) {}).seq + 1) := by
  cases ok with
  | true => exact ⟨rfl, fun _ => rfl⟩
  | false => exact ⟨rfl, nofun⟩

/-- The lane with a load checked. -/
def loadChecked (s : State) (x : Slot) (result : BitVec 8) : State :=
  { s with power := { s.power with slots := setAt s.power.slots s.loadSlot x, fw := none, lastResult := result } }

theorem fwCheckComplete_checking (ok : Bool) (hf : s.power.fw = some f) (hc : f.checking = true) :
    exec (.fwCheckComplete ok) s = .next (loadChecked s (checkedSlot s f ok) (if ok then 3 else 5)) := by
  change execFwCheckComplete ok s = _
  unfold execFwCheckComplete
  rw [hf]
  dsimp only
  rw [if_neg (by rw [hc]; decide)]
  rfl

theorem fwLoadLapse_idle (hf : s.power.fw = some f) (hc : f.checking = false) (hl : f.last + 65536 ≤ s.clock.cycle) :
    exec .fwLoadLapse s = .next { s with power := { s.power with fw := none } } := by
  change execFwLoadLapse s = _
  unfold execFwLoadLapse
  rw [hf]
  dsimp only
  rw [if_pos (by rw [hc]; simpa using hl)]

/-! ### Standby (R599) -/

/-- A block without its supply has every switch off (R488). -/
theorem settle_unpowered (h : s.drivers.supplyOn = false) : AllOff s.settle := by
  intro m hm o ho
  rw [settle_outs hm, Option.map_eq_some_iff] at ho
  obtain ⟨o', -, rfl⟩ := ho
  have hfree : (yielded s).driverFree m = false := by
    unfold State.driverFree
    rw [yielded_drivers, h]
    rfl
  rw [settledSdo_held hfree]
  exact sdoOff_turn o'

/-- The lane with a running save ended. -/
def saveEnded (s : State) : State := match s.power.saving with | some c => if c.valid then s.saveEnd c else s | none => s

theorem saveEnded_form (s : State) : ∃ copies, saveEnded s = { s with power := { s.power with copies := copies } } := by
  unfold saveEnded
  split
  · split
    · exact ⟨_, rfl⟩
    · exact ⟨_, rfl⟩
  · exact ⟨_, rfl⟩

/-- The lane with the driver block and the host port stopped. -/
def blockStopped (s : State) : State := { s with
  drivers := { s.drivers with supplyOn := false, cpOk := false }, host := { s.host with linkUp := false } }

/-- The lane with PWR_EN taken low. -/
def poweredDown (s : State) : State := { s with power := { s.power with
  saving := none, fw := none, standbyDue := false, pwrEn := false, aonSpare := s.lanes.addr == some .s
  aonRefresh := s.fld tgtCluster 0x080F 2 0, mode := if s.power.supplies then s.power.mode else .standby } }

theorem poweredDown_allOff (h : AllOff s) : AllOff (poweredDown s) := fun m hm o ho => h m hm o ho

/-- What stays as PWR_EN goes low, and what does not. -/
theorem poweredDown_keeps (s : State) : (poweredDown s).power.pwrEn = false ∧ (poweredDown s).power.standbyDue = false ∧
    (poweredDown s).power.fw = none ∧ (poweredDown s).power.saving = none ∧ (poweredDown s).drivers = s.drivers ∧
    (poweredDown s).host = s.host ∧ (poweredDown s).power.aonSpare = (s.lanes.addr == some .s) ∧ (poweredDown s).cfg = s.cfg :=
  ⟨rfl, rfl, rfl, rfl, rfl, rfl, rfl, rfl⟩

theorem blockStopped_keeps (s : State) : (blockStopped s).drivers.supplyOn = false ∧ (blockStopped s).host.linkUp = false ∧
    (blockStopped s).lanes = s.lanes ∧ (blockStopped s).cfg = s.cfg := ⟨rfl, rfl, rfl, rfl⟩

theorem standbyEntry_due (h : s.power.standbyDue = true) : exec .standbyEntry s = .next (poweredDown (blockStopped (saveEnded s)).settle) := by
  change execStandbyEntry s = _
  unfold execStandbyEntry
  extract_lets v oldDrivers oldHost w z oldPower
  rw [if_neg (by rw [h]; decide)]
  have hz : z = w.settle := rfl
  clear_value z
  have hw : w = blockStopped v := rfl
  clear_value w
  have hv : v = saveEnded s := rfl
  clear_value v
  rw [← hv, ← hw, ← hz]
  rfl

/-- What standby leaves of a lane whose driver block stopped. -/
theorem poweredDown_spec (s : State) : ∃ t, poweredDown (blockStopped (saveEnded s)).settle = t ∧ t.power.pwrEn = false ∧
    t.power.standbyDue = false ∧ t.power.fw = none ∧ t.power.saving = none ∧ t.drivers.supplyOn = false ∧ AllOff t ∧
    t.host.linkUp = false ∧ t.power.aonSpare = (s.lanes.addr == some .s) ∧ t.cfg = s.cfg := by
  obtain ⟨copies, hended⟩ := saveEnded_form s
  have hlanes : (saveEnded s).lanes = s.lanes := by rw [hended]
  have hcfg : (saveEnded s).cfg = s.cfg := by rw [hended]
  obtain ⟨hsupply, hlink, hulanes, hucfg⟩ := blockStopped_keeps (saveEnded s)
  generalize blockStopped (saveEnded s) = u at hsupply hlink hulanes hucfg ⊢
  have hoff : AllOff u.settle := settle_unpowered hsupply
  have hdrivers := settle_drivers u
  obtain ⟨x, d, o, f, hform⟩ := (settle_switches u).frame
  have hvhost : u.settle.host = u.host := by rw [hform]
  have hvlanes : u.settle.lanes = u.lanes := by rw [hform]
  have hvcfg : u.settle.cfg = u.cfg := by rw [hform]
  generalize u.settle = v at hoff hdrivers hvhost hvlanes hvcfg ⊢
  obtain ⟨hpwr, hdue, hfw, hsaving, hpdrivers, hphost, hspare, hpcfg⟩ := poweredDown_keeps v
  refine ⟨_, rfl, hpwr, hdue, hfw, hsaving, ?_, poweredDown_allOff hoff, ?_, ?_, ?_⟩
  · rw [hpdrivers, hdrivers]
    exact hsupply
  · rw [hphost, hvhost]
    exact hlink
  · rw [hspare, hvlanes, hulanes, hlanes]
  · rw [hpcfg, hvcfg, hucfg, hcfg]

end

/-- Settles O27: each end writes its part of the peat store and its result, and the rest stays. -/
theorem savesFirmwareAndStandby : Obligations.SavesFirmwareAndStandby := by
  intro s c a b f hcopies hc other
  refine ⟨fun hs hv => ⟨?saved, ?failed⟩, fun hf hch hlen ok => ?checked, fun hf hch hl => fwLoadLapse_idle hf hch hl, fun hdue => ?standby⟩
  case saved =>
    have htarget := saveTarget_le s
    have hin : s.saveTarget < s.power.copies.length := by rw [hcopies]; exact Nat.lt_succ_of_le htarget
    rw [settingsSaveComplete_ok hs hv]
    refine ⟨_, rfl, rfl, rfl, rfl, ?_, ?_, rfl⟩
    · change (setAt s.power.copies s.saveTarget _)[s.saveTarget]? = _
      rw [setAt_getElem?, if_pos rfl, List.getElem?_eq_getElem hin]
      rfl
    · change (setAt s.power.copies s.saveTarget _)[1 - s.saveTarget]? = _
      rw [setAt_getElem?, if_neg (by omega)]
  case failed =>
    rw [settingsSaveComplete_failed hs hv]
    have hfound := found_report (s := saveDone s 2 s.power.lastSave) (code := 0x390) (loc := locNone) (ev := none) hc nofun rfl (by decide)
    refine ⟨_, congrArg _ hfound, rfl, rfl, rfl, rfl, rfl⟩
  case checked =>
    obtain ⟨hst, hseq⟩ := checkedSlot_st s f ok
    rw [fwCheckComplete_checking ok hf hch]
    refine ⟨_, checkedSlot s f ok, rfl, rfl, rfl, ?_, hst, hseq, rfl, fun i hi => ?_⟩
    · change (setAt s.power.slots s.loadSlot _)[s.loadSlot]? = _
      rw [setAt_getElem?, if_pos rfl, List.getElem?_eq_getElem hlen]
      rfl
    · change (setAt s.power.slots s.loadSlot _)[i]? = _
      rw [setAt_getElem?, if_neg hi]
  case standby =>
    obtain ⟨t, heq, hrest⟩ := poweredDown_spec s
    rw [standbyEntry_due hdue, heq]
    exact ⟨t, rfl, hrest⟩

end Sys2Proof.Proofs
end

section
/-!
PROOF. O30.
-/
namespace Sys2Proof.Proofs
open Sys2Proof Sys2Proof.Machine Sys2Proof.Laws

section
variable {s : State} {n : Nat} {b : Mailbox} {r : Req}

/-! ### Bells (R541) -/

theorem bellIgnored_eq (hb : s.host.boxes[n]? = some b) :
    s.bellIgnored n = { s with host := { s.host with boxes := s.host.boxes.set n { b with ignored := true } } } := by
  unfold State.bellIgnored
  dsimp only
  rw [modAt_eq_set _ hb]

theorem releaseBox_eq (hb : s.host.boxes[n]? = some b) (hon : s.hostOn = true) : s.releaseBox n =
    if b.st = .done then { s with host := { s.host with boxes := s.host.boxes.set n { b with st := .idle } } } else s.bellIgnored n := by
  unfold State.releaseBox
  rw [hb]
  dsimp only
  rw [if_neg (by rw [hon]; decide)]
  by_cases hst : b.st = .done
  · rw [if_neg (by rw [hst]; decide), if_pos hst, modAt_eq_set _ hb]
  · rw [if_pos (by simpa using hst), if_neg hst]

theorem submit_busy (hb : s.host.boxes[n]? = some b) (hon : s.hostOn = true) (hst : b.st ≠ .idle) : s.submit n r = s.bellIgnored n := by
  unfold State.submit
  rw [hb]
  dsimp only
  rw [if_neg (by rw [hon]; decide), if_pos (by simpa using hst)]

/-- An idle mailbox takes the command, and the lane serves it. -/
theorem submit_idle (hb : s.host.boxes[n]? = some b) (hon : s.hostOn = true) (hst : b.st = .idle)
    (hr : r.origin = .mailbox n) : s.submit n r = (taken s n).serve r := by
  have hsame : { r with origin := .mailbox n } = r := by rw [← hr]
  unfold State.submit
  rw [hb]
  dsimp only
  rw [if_neg (by rw [hon]; decide), if_neg (by rw [hst]; decide), hsame]
  rfl

theorem exec_doorbell (hb : s.host.boxes[n]? = some b) : exec (.doorbell n) s = .next (s.submit n (b.req n)) := by
  change execDoorbell n s = _
  unfold execDoorbell
  rw [hb]

theorem exec_release (n : Nat) (s : State) : exec (.release n) s = .next (s.releaseBox n) := rfl

theorem exec_identify (r : Req) (s : State) : exec (.identify .service r) s = .next (s.opRow 0x0001 .service r) := rfl

/-- A command that names its mailbox is submitted there. -/
theorem opRow_mailbox (op : Nat) (hr : r.origin = .mailbox n) : s.opRow op .service r = s.submit n { r with opcode := op } := by
  unfold State.opRow
  dsimp only
  rw [hr]

/-! ### Refusals of the header (R542) -/

/-- A refusal of the lane itself is the answer, with the mailbox-malformed F0 where the header is malformed. -/
theorem serve_refused {v : Verdict} (h : (taken s n).laneCheck r = some v) :
    (taken s n).serve r = (if headerBad r then (taken s n).found (mkFault 0x107) else taken s n).respond r v 0 := by
  unfold State.serve
  rw [h]

theorem laneCheck_unknown {u : State} (h : opInfo r.opcode = none) : u.laneCheck r = some (refuse stUnknownOp) := by
  unfold State.laneCheck
  rw [h]

theorem laneCheck_malformed {u : State} {i : OpInfo} (hi : opInfo r.opcode = some i)
    (h : 240 < r.payload.length ∨ r.cls ≠ i.cls ∨ 2 ≤ r.flags.toNat ∨
    (r.box.any (fun n => decide (n < 2)) ∧ i.cls ≠ 0)) : u.laneCheck r = some (refuse stRange) ∧ headerBad r = true := by
  constructor
  · unfold State.laneCheck
    rw [hi]
    exact if_pos h
  · unfold headerBad
    rw [hi]
    simpa [or_assoc] using h

theorem malformed_found (hc : s.common = true) : (taken s n).found (mkFault 0x107) = reported (taken s n) 0x107 .f0 locNone :=
  found_report (s := taken s n) (loc := locNone) (ev := none) hc nofun rfl (by decide)

end

/-- Settles O30: a bell that the mailbox's state does not take is marked; a refusal of the header is the answer. -/
theorem mailboxesFollowTheirStates : Obligations.MailboxesFollowTheirStates := by
  intro s n b r hb hon himage with_
  rw [exec_release, releaseBox_eq hb hon, exec_doorbell hb, exec_identify]
  refine ⟨fun hst => by rw [if_pos hst], fun hst => by rw [if_neg hst, bellIgnored_eq hb],
    fun hst => by rw [submit_busy hb hon hst, bellIgnored_eq hb], fun hst op hop hinfo => ?unknown, fun hop => ?identify,
    fun hst hr hbad hc => ?malformed⟩
  case unknown =>
    have hserve : s.submit n (b.req n) = (taken s n).respond (b.req n) (refuse stUnknownOp) 0 := by
      have hnone : opInfo (b.req n).opcode = none := by rw [hop]; exact hinfo
      have hgood : headerBad (b.req n) = false := by rw [headerBad, hnone]
      rw [submit_idle hb hon hst rfl, serve_refused (laneCheck_unknown hnone), if_neg (by rw [hgood]; exact Bool.false_ne_true)]
    obtain ⟨boxes, tx, heq, -, hans⟩ := respond_answers (r := b.req n) (v := refuse stUnknownOp) hb rfl rfl (le_lt _ _ 2) (by decide) (by decide)
    rw [hop] at hans
    exact ⟨_, (exec_doorbell hb).trans (congrArg _ hserve), hans, by rw [heq]; rfl⟩
  case identify =>
    rw [opRow_mailbox 0x0001 (show (b.req n).origin = .mailbox n from rfl), ← hop]
  case malformed =>
    have hbox : (({ r with opcode := 1 } : Req).box.any (fun n => decide (n < 2))) = decide (n < 2) := by
      rw [Req.box, hr]
      rfl
    obtain ⟨hcheck, hhead⟩ := laneCheck_malformed (u := taken s n) (r := { r with opcode := 1 }) (i := opRead) rfl (by
      obtain h | h | h | h := hbad
      · exact .inl h
      · exact .inr (.inl h)
      · exact .inr (.inr (.inl h))
      · exact .inr (.inr (.inr ⟨by rw [hbox]; exact decide_eq_true h, by decide⟩)))
    have hserve : s.opRow 0x0001 .service r =
        (reported (taken s n) 0x107 .f0 locNone).respond { r with opcode := 1 } (refuse stRange) 0 := by
      rw [opRow_mailbox 0x0001 hr, submit_idle (r := { r with opcode := 1 }) hb hon hst hr, serve_refused hcheck, if_pos hhead, malformed_found hc]
    obtain ⟨boxes, tx, heq, -, hans⟩ := respond_answers (u := reported (taken s n) 0x107 .f0 locNone) (r := { r with opcode := 1 })
      (v := refuse stRange) hb rfl hr (show 1 < 65536 by decide) (by decide) (by decide)
    exact ⟨_, (exec_identify r s).trans (congrArg _ hserve), hans, by rw [heq]; rfl⟩

end Sys2Proof.Proofs
end

section
/-!
PROOF. O31.
-/
namespace Sys2Proof.Proofs
open Sys2Proof Sys2Proof.Machine Sys2Proof.Laws

section
variable {s : State} {n : Nat} {b : Mailbox} {r : Req}

/-! ### The rows of the command order (R563) -/

/-- Each row is the step of its opcode. -/
theorem orderRows_exec : ∀ p ∈ orderRows, ∀ (r : Req) (s : State), exec (p.2.2 .service r) s = .next (s.opRow p.1 .service r) := by
  refine List.forall_mem_append.mpr ⟨?_, ?_⟩
  all_goals
    simp only [List.forall_mem_cons, List.not_mem_nil, false_implies, implies_true, and_true]
    and_intros
    all_goals exact fun _ _ => rfl

/-- Each row has the class of its opcode, and none is FAULT_INJECT. -/
theorem orderRows_info {p : Nat × Nat × (Phase → Req → Instr)} (hp : p ∈ orderRows) :
    opInfo p.1 = some (opOrder p.2.1) ∧ p.1 ≠ 0x000C := by
  have hall : ∀ q ∈ orderRows.map (fun p => (p.1, p.2.1)), opInfo q.1 = some (opOrder q.2) ∧ q.1 ≠ 0x000C := by decide
  exact hall _ (List.mem_map_of_mem hp)

/-! ### A command that waits (R544, R545) -/

/-- A voting lane that is not stopped lets a well-formed command of the command order through. -/
theorem laneCheck_ordered {u : State} {c : Nat} (hi : opInfo r.opcode = some (opOrder c)) (hop : r.opcode ≠ 0x000C)
    (hlen : r.payload.length ≤ 240)
    (hcls : r.cls = c) (hflags : r.flags.toNat < 2) (hbox : r.box.any (fun n => decide (n < 2)) = true → c = 0)
    (himage : u.power.noImage = false) (hf3 : u.faults.f3 = false) (hv : u.voting = true) (hs : u.stopped = false) : u.laneCheck r = none := by
  unfold State.laneCheck
  rw [hi]
  dsimp only
  rw [if_neg ?_, if_neg (by rw [himage]; decide), if_neg (by rw [hf3]; simp), if_neg (by simp [opOrder]), if_neg hop, if_neg (by rw [hv]; simp),
    if_neg (by rw [hs]; simp)]
  rintro (h | h | h | ⟨h, hc⟩)
  · omega
  · exact h hcls
  · omega
  · exact hc (hbox h)

theorem alone_voting {u : State} (hv : u.voting = true) (hs : u.stopped = false) : u.alone = false := by
  have hrole : u.lanes.role = .voting := by simpa [State.voting] using hv
  simp [State.alone, hs, hrole]

/-- The command is held for the cut by the voice lane and passed on by another one. -/
def waiting (s : State) (h : Held) : Order :=
  if s.isVoice then { s.order with held := s.order.held ++ [h] } else { s.order with forward := s.order.forward ++ [h] }

theorem serve_ordered {u : State} {c : Nat} (hi : opInfo r.opcode = some (opOrder c)) (hcheck : u.laneCheck r = none) (halone : u.alone = false) :
    u.serve r = { u with order := waiting u { req := r, lane := u.lane } } := by
  unfold State.serve waiting
  rw [hcheck, hi]
  dsimp only
  rw [if_neg (by simp [opOrder]), if_neg (by rw [halone]; decide)]
  split <;> rfl

theorem took_status (b : Mailbox) : byteAt (took b).rsp 2 = 0xFF := by
  have hpad : (padTo 2 b.rsp).length = 2 := by
    simp [padTo]
    omega
  rw [took, byteAt, patch, List.append_assoc, List.getD_append_right _ _ _ _ (by rw [hpad]), hpad]
  rfl

end

/-- Settles O31: the mailbox takes the command, the lane's checks let it through, and it waits. -/
theorem orderedCommandsWaitForTheCut : Obligations.OrderedCommandsWaitForTheCut := by
  intro s n b r hb hst hon himage hf3 hv hs hr hlen hflags p hp hcls hlow h
  obtain ⟨hi, hop⟩ := orderRows_info hp
  have hbox : ({ r with opcode := p.1 } : Req).box.any (fun n => decide (n < 2)) = true → p.2.1 = 0 := fun hany => by
    rw [Req.box, hr] at hany
    rw [← hcls]
    exact hlow (of_decide_eq_true hany)
  have hcheck : (taken s n).laneCheck { r with opcode := p.1 } = none :=
    laneCheck_ordered (r := { r with opcode := p.1 }) hi hop hlen hcls hflags hbox himage hf3 hv hs
  refine ⟨took b, rfl, took_status b, rfl, rfl, ?_⟩
  rw [orderRows_exec p hp, opRow_mailbox p.1 hr, submit_idle (r := { r with opcode := p.1 }) hb hon hst hr,
    serve_ordered hi hcheck (alone_voting (u := taken s n) hv hs), taken, modAt_eq_set took hb]
  rfl

end Sys2Proof.Proofs
end

section
/-!
SUPPORT. A local read from its mailbox to its answer (R563), and what each read answers (Tables 15.5 to 15.14).
-/
namespace Sys2Proof.Proofs
open Sys2Proof Sys2Proof.Machine Sys2Proof.Laws

section
variable {s u : State} {n op : Nat} {r : Req} {c : Instr} {v : Verdict} {rsp : List Byte}

/-! ### A local read that the host submits -/

theorem laneCheck_read (h : Submits s n r) (hi : opInfo op = some opRead) : (taken s n).laneCheck { r with opcode := op } = none := by
  obtain ⟨-, himage, h2, hcls, horigin, hlen, hflags, -⟩ := h
  have himage' : (taken s n).power.noImage = false := himage
  unfold State.laneCheck
  rw [hi]
  dsimp only
  rw [if_neg ?_, if_neg (by rw [himage']; decide), if_neg (by simp [opRead]), if_pos (show opRead.rd = true from rfl)]
  simp only [Req.box, horigin, Option.any_some, decide_eq_true_eq, opRead]
  omega

/-- A local read is answered at once; only what serving it changed and the answer tell the state after it from the one before. -/
theorem serves_read {t0 : State} (h : Submits s n r) (hc : exec c s = .next (s.opRow op .service r)) (hi : opInfo op = some opRead)
    (hop : op < 65536) (hs : (taken s n).serveLocal { r with opcode := op } = ({ rsp := rsp }, { t0 with host := (taken s n).host }))
    (hlen : rsp.length < 65536) : Serves c s n r op 0 rsp t0 := by
  have hrow : s.opRow op .service r = ({ t0 with host := (taken s n).host } : State).respond { r with opcode := op } { rsp := rsp } 0 := by
    simp only [opRow_submits h, State.serve, laneCheck_read h hi, hi, hs]
    rfl
  obtain ⟨-, -, -, -, horigin, -, -, b, hb, -⟩ := h
  obtain ⟨boxes, tx, heq, -, hans⟩ := respond_answers (u := { t0 with host := (taken s n).host }) (r := { r with opcode := op })
    (v := { rsp := rsp }) hb rfl horigin hop (show 0 < 256 by decide) hlen
  exact ⟨_, hc.trans (congrArg _ hrow), hans, by rw [heq]⟩

/-- A local read that changes nothing. -/
theorem serves_pure (h : Submits s n r) (hc : exec c s = .next (s.opRow op .service r)) (hi : opInfo op = some opRead) (hop : op < 65536)
    (hs : (taken s n).serveLocal { r with opcode := op } = (v, taken s n)) (hv : v = { rsp := rsp }) (hlen : rsp.length < 65536) :
    Serves c s n r op 0 rsp s :=
  serves_read h hc hi hop (by rw [hs, hv]; rfl) hlen

end

/-! ### What each read answers -/

theorem le_prefix {pre post : List Byte} {o n : Nat} (h : o + n ≤ pre.length) : le (pre ++ post) o n = le pre o n := by
  unfold le
  rw [List.drop_append_of_le_length (by omega), List.take_append_of_le_length (by simp; omega)]

theorem le_last {pre : List Byte} {o : Nat} (n v : Nat) (h : pre.length = o) : le (pre ++ toLe n v) o n = v % 256 ^ n := by
  unfold le
  rw [← h, List.drop_left, List.take_of_length_le (by simp), leNat_toLe]

section
variable {s : State} {r : Req} {t : Nat} {p : List Byte} (ht : r.target.toNat = t) (hp : r.payload = p)
include ht hp

theorem plainReq_of (h : t = 0xFFFF ∧ p = []) : plainReq r = true := by
  obtain ⟨rfl, rfl⟩ := h
  simp [plainReq, isNoneT, ht, hp]

theorem checkIdentify_plain (h : t = 0xFFFF ∧ p = []) (himage : s.power.noImage = false) : checkIdentify s r =
    { rsp := toLe 2 0x0160 ++ [0xB0, 0] ++ toLe 2 0x0302 ++ toLe 2 0x0104 ++ [BitVec.ofNat 8 ((s.lanes.addr.map Lane.num).getD 0xFF)] ++
        [BitVec.ofNat 8 (roleCode s.lanes.role)] ++ [BitVec.ofNat 8 s.config] ++
        [BitVec.ofNat 8 (b2n s.lanes.spareEn + 2 * b2n s.power.head)] ++ toLe 8 s.power.chipId.toNat } := by
  unfold checkIdentify
  rw [plainReq_of ht hp h, himage]
  simp

theorem checkFieldRead_one {d : FieldDef} (hlen : p.length = 8) (hd : refDef (keyAt t p 0) = some d) (hu : s.unknownObject t = false) :
    checkFieldRead s r =
    { rsp := toLe 8 (s.readPair ((keyAt t p 0).canon d) d).1 ++ toLe 8 (s.readPair ((keyAt t p 0).canon d) d).2 } := by
  unfold checkFieldRead
  rw [ht, hp, hlen, hu]
  simp [List.range_succ, hd]

theorem checkFaultList_eq (h : t = 0xFFFF) (hlen : p.length = 2) : checkFaultList s r =
    { rsp := toLe 2 s.faultEntries.length ++ [BitVec.ofNat 8 ((s.faultEntries.drop (le p 0 2)).take 19).length] ++
        ((s.faultEntries.drop (le p 0 2)).take 19).flatten } := by
  unfold checkFaultList
  rw [if_neg (by simp [isNoneT, ht, h, hp, hlen]), hp]

theorem checkKernelInfo_eq {k : KInfo} (hk : isKernelT t = true) (h : p = []) (hi : s.kinfo? (tNum t) = some k) : checkKernelInfo s r =
    { rsp := [BitVec.ofNat 8 (tNum t)] ++ [0] ++ toLe 2 k.bundles ++ toLe 4 k.cost ++ toLe 4 k.localBytes ++ toLe 4 k.ctxBytes ++
        toLe 4 k.crc.toNat ++ [BitVec.ofNat 8 (s.cfg.map.axes.filter (fun a => a.kernel == tNum t)).length] ++
        [BitVec.ofNat 8 (b2n (s.cfg.stagedMap.axes.any (fun a => a.kernel == tNum t)))] ++ [0, 0] } := by
  unfold checkKernelInfo
  rw [ht, hp, h]
  dsimp only
  rw [hk, hi]
  simp

theorem checkFeedbackStatus_eq {a : Axis} (h160 : t < 160) (h : p = []) (ha : s.axis? t = some a) : checkFeedbackStatus s r =
    { rsp := toLe 4 a.dec.illTotal.toNat ++ [BitVec.ofNat 8 (min 255 (a.dec.illWin.map (·.2)).sum)] ++ [BitVec.ofNat 8 (min 255 a.dec.misCount)] ++
        [BitVec.ofNat 8 (b2n (a.dec.dir ≠ 0) + 2 * b2n (0 < a.dec.dir) + 4 * b2n a.dec.deferred.isSome)] ++ [BitVec.ofNat 8 a.dec.lastRef] ++
        toLe 4 ((a.dec.index.map (·.toNat)).getD 0) ++ toLe 4 (a.dec.pos.toNat / 65536) ++ toLe 2 (a.dec.pos.toNat % 65536) ++
        toLe 2 (min 0xFFFF a.dec.since) ++ toLe 4 (ofSigned 32 a.dec.speed) } := by
  unfold checkFeedbackStatus
  rw [ht, hp, h]
  dsimp only
  rw [ha]
  simp [isAxisT, h160]

theorem checkNodeResult_none (h : t = 0xFFFF) (hlen : p.length = 4) (hno : ∀ q ∈ s.services.reqs, q.tag.toNat ≠ le p 0 4) :
    checkNodeResult s r = { rsp := [0xFF, 0, 0, 0] } := by
  have hfind : s.services.reqs.find? (fun q => q.tag.toNat == le p 0 4) = none := List.find?_eq_none.mpr fun q hq => by simpa using hno q hq
  unfold checkNodeResult
  rw [if_neg (by simp [isNoneT, ht, h, hp, hlen]), hp, hfind]

theorem checkNodeResult_some {q : NodeReq} (h : t = 0xFFFF) (hlen : p.length = 4)
    (hq : s.services.reqs.find? (fun q => q.tag.toNat == le p 0 4) = some q) :
    checkNodeResult s r = { rsp := [q.outcome] ++ [BitVec.ofNat 8 q.data.length] ++ toLe 2 q.index.toNat ++ q.data.take 236 } := by
  unfold checkNodeResult
  rw [if_neg (by simp [isNoneT, ht, h, hp, hlen]), hp, hq]
  simp

theorem checkNodeReport_eq {x : NodeRt} (hn : isNodeT t = true) (hlen : p.length = 1) (hx : s.node? (nodeOfT t) = some x) :
    checkNodeReport s r =
    { rsp := toLe 4 (x.reportCycle.getD 0) ++ [BitVec.ofNat 8 ((x.report.drop (byteAt p 0)).take 232).length] ++ [0, 0, 0] ++
        (x.report.drop (byteAt p 0)).take 232 } := by
  unfold checkNodeReport
  rw [ht, hp]
  dsimp only
  rw [hn, hx]
  simp [hlen]

theorem checkNodeEvents_none (h : t = 0xFFFF) (hlen : p.length = 4) (he : s.services.events = []) :
    checkNodeEvents s r = { rsp := toLe 4 s.services.nextSeq.toNat ++ [0, 0, 0, 0] } := by
  unfold checkNodeEvents
  rw [if_neg (by simp [isNoneT, ht, h, hp, hlen]), he]
  simp

theorem checkWatermarkRead_eq (h : t = 0xFFFF) (hlen : p.length = 3) (h1 : 1 ≤ byteAt p 2) (h224 : byteAt p 2 ≤ 224)
    (hend : le p 0 2 + byteAt p 2 ≤ 2048) : checkWatermarkRead s r = { rsp := s.fuses (le p 0 2) (byteAt p 2) } := by
  unfold checkWatermarkRead
  rw [hp]
  dsimp only
  rw [if_neg]
  simp [isNoneT, ht, h, hlen]
  omega

theorem checkCoeffRead_one {a : Axis} (h160 : t < 160) (ha : s.axis? t = some a) (hlen : p.length = 4)
    (h1 : byteAt p 1 < (s.dimsOf (.axis t) (byteAt p 0)).1) (h2 : byteAt p 2 < (s.dimsOf (.axis t) (byteAt p 0)).2) : checkCoeffRead s r =
    { rsp := toLe 4 (s.coefOf (.axis t)).gen.toNat ++ toLe 4 (toF32 (((kvGet (s.coefOf (.axis t)).elems (byteAt p 0, byteAt p 1, byteAt p 2)).map
        (q31 (s.expNow (.axis t) (byteAt p 0)))).getD 0)).toNat } := by
  have howner : coefOwner t = some (.axis t) := by simp [coefOwner, isAxisT, h160]
  unfold checkCoeffRead
  rw [ht, hp, howner, hlen]
  simp [ha, List.range_succ, h1, h2]

/-- The one event of the ring, asked for by its sequence number. -/
theorem checkNodeEvents_last {e : NodeEvent} {rest : List NodeEvent} (h : t = 0xFFFF) (hlen : p.length = 4) (he : s.services.events = e :: rest)
    (hrest : rest.length < 256) (hwant : BitVec.ofNat 32 (le p 0 4) = s.services.nextSeq - 1) :
    checkNodeEvents s r = { rsp := toLe 4 (e.seq + 1).toNat ++ [1, 0, 0, 0] ++ toLe 4 e.seq.toNat ++ e.bytes } := by
  have hring : (e :: rest).reverse.length = rest.length + 1 := by simp
  have hback : (s.services.nextSeq - (s.services.nextSeq - 1)).toNat ≤ rest.length + 1 := by
    rw [show s.services.nextSeq - (s.services.nextSeq - 1) = 1 by bv_omega]
    simp
  have hskip : (s.services.nextSeq - 1 - (s.services.nextSeq - BitVec.ofNat 32 (rest.length + 1))).toNat = rest.length := by
    have hlt : rest.length + 1 < 2 ^ 32 := by omega
    bv_omega
  have hpart : ((e :: rest).reverse.drop rest.length).take 7 = [e] := by simp
  unfold checkNodeEvents
  rw [if_neg (by simp [isNoneT, ht, h, hp, hlen]), hp, he]
  dsimp only
  rw [hwant, hring, if_pos hback, hskip, hpart]
  simp

theorem checkStoreStatus_plain (h : t = 0xFFFF ∧ p = []) : checkStoreStatus s r =
    { rsp := [BitVec.ofNat 8 (b2n s.power.saving.isSome + 2 * b2n (s.power.fw.any (fun f => !f.checking)) +
           4 * b2n (s.power.fw.any (·.checking)))] ++
        [BitVec.ofNat 8 ((s.newest (fun _ => true)).getD 0xFF)] ++ [BitVec.ofNat 8 (s.power.running.getD 0xFF)] ++ [s.power.lastResult] ++
        toLe 4 s.power.lastSave.toNat ++ toLe 2 (s.power.slots.getD 0 {}).release.toNat ++ toLe 2 (s.power.slots.getD 1 {}).release.toNat } := by
  unfold checkStoreStatus
  rw [plainReq_of ht hp h]
  simp

/-- A frame that one answer holds is read whole, and leaves the queue. -/
theorem ethRecv_whole {f : List Byte} {rest : List (List Byte)} (h : t = 0xFFFF) (hlen : p.length = 2) (ho : le p 0 2 = 0)
    (hrx : s.time.ethRx = f :: rest) (hpos : 0 < f.length) (hf : f.length ≤ 232) : ethRecv s r =
    ({ rsp := toLe 2 f.length ++ toLe 2 0 ++ toLe 2 (rest.length + 1) ++ [0, 0] ++ f }, { s with time := { s.time with ethRx := rest } }) := by
  have hpart : (f.drop 0).take 232 = f := by simpa using hf
  unfold ethRecv
  rw [if_neg (by simp [isNoneT, ht, h, hp, hlen]), hp, ho, hrx]
  dsimp only
  rw [hpart]
  simp [hpos]

/-- TIME_READ draws two free values: its answer carries the count, an offset within the cycle and the mapped time of that instant. -/
theorem timeRead_plain (h : t = 0xFFFF ∧ p = []) : ∃ rsp off, off < max 1 s.tNs ∧
    timeRead s r = ({ rsp := rsp }, { s with free := s.free + 2 }) ∧ rsp.length = 40 ∧ le rsp 12 8 = s.clock.cycle % 2 ^ 64 ∧
    le rsp 20 4 = off % 2 ^ 32 ∧ le rsp 24 8 = (s.mapped s.clock.cycle off).toNat := by
  have hmod : ∀ x, x % max 1 s.tNs < max 1 s.tNs := fun x => Nat.mod_lt _ (by omega)
  unfold timeRead
  rw [plainReq_of ht hp h, if_neg (by decide)]
  dsimp only [State.draw]
  refine ⟨_, (Config.openWord s.free).toNat % max 1 s.tNs, hmod _, rfl, by simp, ?_, ?_, ?_⟩
  · rw [le_prefix (by simp), le_prefix (by simp), le_prefix (by simp), le_prefix (by simp), le_last _ _ (by simp)]
    rfl
  · rw [le_prefix (by simp), le_prefix (by simp), le_prefix (by simp), le_last _ _ (by simp)]
    rfl
  · rw [le_prefix (by simp), le_prefix (by simp), le_last _ _ (by simp)]
    exact Nat.mod_eq_of_lt (BitVec.isLt _)

end

theorem readPair_same {s : State} {k : FieldKey} {d : FieldDef} (ho : s.stagedOnly k.target = false) (hd : d.cls ≠ .staged) :
    s.readPair k d = (s.readValue k, s.readValue k) := by
  simp [State.readPair, ho, hd]

theorem faultEntry_length (inst code cls loc left axis : Nat) : (faultEntry inst code cls loc left axis).length = 12 := by
  simp [faultEntry]

theorem faultEntries_length (s : State) : ∀ e ∈ s.faultEntries, e.length = 12 := by
  intro e he
  simp only [State.faultEntries, List.mem_append, List.mem_map] at he
  obtain ⟨x, -, rfl⟩ | ⟨x, -, rfl⟩ := he <;> exact faultEntry_length ..

theorem flatten_length_le {l : List (List Byte)} {m : Nat} (h : ∀ e ∈ l, e.length = m) : l.flatten.length = l.length * m := by
  rw [List.length_flatten, List.eq_replicate_of_mem (a := m) (l := l.map List.length) (by simpa using h)]
  simp

end Sys2Proof.Proofs
end

section
/-!
PROOF of O32: the local reads. Each clause is the read's answer (what it answers at the state in which the mailbox was taken) put into
the one rule of a local read.
-/
namespace Sys2Proof.Proofs
open Sys2Proof Sys2Proof.Machine Sys2Proof.Laws

/-- Settles O32: a local read is served at once, and each read's own lemma says what it answers. -/
theorem localReadsAnswerAtOnce : Obligations.LocalReadsAnswerAtOnce := by
  unfold Obligations.LocalReadsAnswerAtOnce
  intro s n r h p t plain reads b8 le4
  have himage : (taken s n).power.noImage = false := h.2.1
  refine ⟨?_, ?_, ?_, ?_, ?_, ?_, ?_, ?_, ?_, ?_, ?_, ?_, ?_, ?_, ?_⟩
  case refine_1 =>
    intro hplain
    exact serves_pure h rfl rfl (by decide) rfl (checkIdentify_plain (s := taken s n) rfl rfl hplain himage) (by simp [b8])
  case refine_2 =>
    intro d k hlen hk hd hu ho hcls v
    subst hk
    have hpair := readPair_same (s := taken s n) (k := (keyAt t p 0).canon d) ho hcls
    exact serves_pure h rfl rfl (by decide) rfl ((checkFieldRead_one (s := taken s n) rfl rfl hlen hd hu).trans (by rw [hpair]; rfl)) (by simp [v])
  case refine_3 =>
    intro hnone hlen l part
    have hpart : part.flatten.length = part.length * 12 :=
      flatten_length_le fun e he => faultEntries_length s e (List.mem_of_mem_drop (List.mem_of_mem_take he))
    have hcount : part.length ≤ 19 := List.length_take_le _ _
    exact serves_pure h rfl rfl (by decide) rfl (checkFaultList_eq (s := taken s n) rfl rfl hnone hlen) (by simp [b8, hpart]; omega)
  case refine_4 =>
    intro a h160 ha hlen e d h1 h2
    exact serves_pure h rfl rfl (by decide) rfl (checkCoeffRead_one (s := taken s n) rfl rfl h160 ha hlen h1 h2) (by simp [le4])
  case refine_5 =>
    intro k hk hp hi
    exact serves_pure h rfl rfl (by decide) rfl (checkKernelInfo_eq (s := taken s n) rfl rfl hk hp hi) (by simp [b8, le4])
  case refine_6 =>
    intro a h160 hp ha d
    exact serves_pure h rfl rfl (by decide) rfl (checkFeedbackStatus_eq (s := taken s n) rfl rfl h160 hp ha) (by simp [b8, le4])
  case refine_7 =>
    intro hnone hlen hno
    exact serves_pure h rfl rfl (by decide) rfl (checkNodeResult_none (s := taken s n) rfl rfl hnone hlen hno) (by simp)
  case refine_8 =>
    intro q hnone hlen hq
    exact serves_pure h rfl rfl (by decide) rfl (checkNodeResult_some (s := taken s n) rfl rfl hnone hlen hq) (by simp [b8]; omega)
  case refine_9 =>
    intro x hnode hlen hx d
    have hd : d.length ≤ 232 := List.length_take_le _ _
    exact serves_pure h rfl rfl (by decide) rfl (checkNodeReport_eq (s := taken s n) rfl rfl hnode hlen hx) (by simp [b8, le4]; omega)
  case refine_10 =>
    intro hnone hlen he
    exact serves_pure h rfl rfl (by decide) rfl (checkNodeEvents_none (s := taken s n) rfl rfl hnone hlen he) (by simp [le4])
  case refine_11 =>
    intro e rest hnone hlen he hrest hbytes hwant
    exact serves_pure h rfl rfl (by decide) rfl (checkNodeEvents_last (s := taken s n) rfl rfl hnone hlen he hrest hwant) (by simp [le4]; omega)
  case refine_12 =>
    intro hplain
    obtain ⟨rsp, off, hoff, hserve, hlen, hcount, hoffset, hmapped⟩ :=
      timeRead_plain (s := taken s n) (r := { r with opcode := 0x0600 }) rfl rfl hplain
    exact ⟨rsp, off, hoff, serves_read h rfl rfl (by decide) hserve (by omega), hcount, hoffset, hmapped⟩
  case refine_13 =>
    intro f rest hnone hlen ho hrx hpos hf
    exact serves_read h rfl rfl (by decide) (ethRecv_whole (s := taken s n) (r := { r with opcode := 0x0602 }) rfl rfl hnone hlen ho hrx hpos hf)
      (by simp; omega)
  case refine_14 =>
    intro hnone hlen o m h1 h224 hend
    exact serves_pure h rfl rfl (by decide) rfl (checkWatermarkRead_eq (s := taken s n) rfl rfl hnone hlen h1 h224 hend)
      (by simp [State.fuses]; omega)
  case refine_15 =>
    intro hplain
    exact serves_pure h rfl rfl (by decide) rfl (checkStoreStatus_plain (s := taken s n) rfl rfl hplain) (by simp [b8, le4])

end Sys2Proof.Proofs
end

section
/-!
SUPPORT. Timers, records and F2s of the collector (R507 to R514): a fault record of the common sequence, timers that are stopped, an F2
that acts on its axes and outputs, and the queue of notices; records are only added.
-/
namespace Sys2Proof.Proofs
open Sys2Proof Sys2Proof.Machine Sys2Proof.Laws

/-! ### Records are only added within a cycle -/

/-- `t` has at least as many records of the cycle as `s`. -/
def Grows (s t : State) : Prop := s.events.fresh.length ≤ t.events.fresh.length

namespace Grows
variable {s t u : State}

theorem of_events (h : t.events = s.events) : Grows s t := by rw [Grows, h]

theorem trans (h : Grows s t) (k : Grows t u) : Grows s u := Nat.le_trans h k

theorem foldl {α : Type} {f : State → α → State} (hf : ∀ s a, Grows s (f s a)) : ∀ (l : List α) (s : State), Grows s (l.foldl f s)
  | [], _ => of_events rfl
  | a :: l, s => (hf s a).trans (foldl hf l (f s a))

theorem record (s : State) (r : EvRec) : Grows s (s.record r) := by
  unfold State.record
  split
  · simp [Grows]
  · obtain ⟨st, tx, h⟩ := ringWrite_eq s { r with seq := s.events.ownSeq }
    rw [h]
    exact Nat.le_refl _

theorem faultRecord (s : State) (kind code cls : Nat) (loc : Loc) (lane : Option Lane) (inst cycles raise : Nat) :
    Grows s (s.faultRecord kind code cls loc lane inst cycles raise) := (record s _).trans (of_events rfl)

theorem eventAfter (s : State) (r : FaultRep) : Grows s (s.eventAfter r) := by
  unfold State.eventAfter
  split
  next e _ =>
    obtain ⟨rec, h, -⟩ := eventBody_record s e r.lane
    rw [h]
    exact record s rec
  next => exact of_events rfl

theorem irq7 (s : State) (was : Bool) : Grows s (s.irq7 was) := by
  obtain ⟨st, tx, h⟩ := irq7_eq s was
  rw [h]
  exact of_events rfl

theorem discardPoints (s : State) (n : Nat) : Grows s (s.discardPoints n) := by
  unfold State.discardPoints
  dsimp only
  split
  · exact of_events rfl
  · exact trans (of_events (t := s.updMot n _) rfl) (record _ _)

theorem endMotion (s : State) (n : Nat) : Grows s (s.endMotion n) := by
  unfold State.endMotion
  split
  · exact discardPoints s n
  · exact of_events rfl
  · exact of_events rfl

theorem toRest (s : State) (n : Nat) : Grows s (s.toRest n) := of_events rfl

/-- An axis that enters FAULTED records at most the points it discards (R154, R165). -/
theorem enter_faulted (s : State) (n : Nat) : Grows s (s.enter n .faulted) := by
  have hleave : Grows s ((s.endMotion n).toRest n) := (endMotion s n).trans (toRest _ n)
  unfold State.enter
  split
  · exact of_events rfl
  next a _ =>
    have hhook : Grows s (s.motionHook n a.entry.ty a.st .faulted false) := by
      unfold State.motionHook
      extract_lets u
      have hu : Grows s u := by
        unfold u
        split
        · split
          · exact hleave
          · exact hleave
          · exact of_events rfl
        · exact of_events rfl
      exact (hu.trans (discardPoints u n)).trans (of_events rfl)
    dsimp only
    generalize s.motionHook n a.entry.ty a.st .faulted false = u at hhook ⊢
    have hset : Grows s (u.updAxis n (fun x => { x with st := .faulted })) := hhook.trans (of_events rfl)
    cases a.st <;> exact hset

theorem faultDue (s : State) (r : FaultRep) (n : Nat) : Grows s (s.faultDue r n) := by
  unfold State.faultDue
  split
  · split
    · exact of_events rfl
    · unfold State.faultAxis
      split
      · split
        · exact of_events rfl
        · exact enter_faulted s n
      · exact of_events rfl
  · exact of_events rfl

theorem settle (s : State) : Grows s s.settle := by
  obtain ⟨x, d, o, f, h⟩ := (settle_switches s).frame
  rw [h]
  exact of_events rfl

end Grows

/-! ### Fault records and stopped timers (R509, R524) -/

theorem faultRecord_common {s : State} (h : s.common = true) (kind code cls : Nat) (loc : Loc) (lane : Option Lane) (inst cycles raise : Nat) :
    ∃ e q, s.faultRecord kind code cls loc lane inst cycles raise =
      { s with events := { s.events with fresh := s.events.fresh ++ [e] }, acq := q } := by
  unfold State.faultRecord
  dsimp only
  rw [record_common s _ h]
  exact ⟨_, _, rfl⟩

/-- Timers that are stopped leave a record each. -/
theorem stopTimers_common (kind : Nat) : ∀ (l : List Timer) {s : State}, s.common = true → ∃ es q,
    l.foldl (fun s t => s.stopTimer kind t) s = { s with
      faults := { s.faults with timers := s.faults.timers.filter (fun x => l.all (fun t => x.inst ≠ t.inst)) }
      events := { s.events with fresh := s.events.fresh ++ es }, acq := q } ∧ es.length = l.length
  | [], s, _ => ⟨[], s.acq, by simp, rfl⟩
  | t :: l, s, h => by
    obtain ⟨e, q, hstop⟩ := faultRecord_common
      (s := { s with faults := { s.faults with timers := s.faults.timers.filter (fun x => x.inst ≠ t.inst) } }) h
      kind t.rep.code 1 t.rep.loc t.rep.lane t.inst.toNat 0 t.start
    have hone : s.stopTimer kind t = { s with
        faults := { s.faults with timers := s.faults.timers.filter (fun x => x.inst ≠ t.inst) }
        events := { s.events with fresh := s.events.fresh ++ [e] }, acq := q } := hstop
    have hcommon : (s.stopTimer kind t).common = true := by
      rw [hone]
      exact h
    obtain ⟨es, q', hrest, hlen⟩ := stopTimers_common kind l hcommon
    refine ⟨e :: es, q', ?_, by simp [hlen]⟩
    rw [List.foldl_cons, hrest, hone]
    simp [List.filter_filter, Bool.and_comm]

/-- FAULT_ACK: every timer that it names is stopped, and no other. -/
theorem ack_common {s : State} (h : s.common = true) (inst : Nat) :
    ∃ es q, s.ack inst = { s with
      faults := { s.faults with timers := s.faults.timers.filter (fun t => !(inst == 0xFFFFFFFF || t.inst.toNat == inst)) }
      events := { s.events with fresh := s.events.fresh ++ es }, acq := q } ∧
      es.length = (s.faults.timers.filter (fun t => inst == 0xFFFFFFFF || t.inst.toNat == inst)).length := by
  obtain ⟨es, q, hstop, hlen⟩ := stopTimers_common frHandled
    (s.faults.timers.filter (fun t => inst == 0xFFFFFFFF || t.inst.toNat == inst)) h
  have hkept : s.faults.timers.filter (fun x =>
        (s.faults.timers.filter (fun t => inst == 0xFFFFFFFF || t.inst.toNat == inst)).all (fun t => x.inst ≠ t.inst)) =
      s.faults.timers.filter (fun t => !(inst == 0xFFFFFFFF || t.inst.toNat == inst)) := by
    refine List.filter_congr fun x hx => Bool.eq_iff_iff.mpr ?_
    simp only [List.all_eq_true, List.mem_filter, decide_eq_true_eq, Bool.not_eq_true', and_imp]
    refine ⟨fun hall => ?_, fun hx t _ ht heq => ?_⟩
    · by_contra hnamed
      exact hall x hx (by simpa only [Bool.not_eq_false] using hnamed) rfl
    · rw [heq, ht] at hx
      exact Bool.noConfusion hx
  rw [hkept] at hstop
  exact ⟨es, q, hstop, hlen⟩

/-! ### An F2 that acts (R513) -/

theorem faultDue_onAxis (s : State) (r : FaultRep) (n : Nat) : OnAxis False n s (s.faultDue r n) := by
  unfold State.faultDue
  cases h : s.axis? n with
  | none => exact .refl s
  | some a =>
    dsimp only
    split
    · exact .updAxis (fun _ => rfl) nofun
    · exact (faultAxis_spec h).1

/-- A due axis that is not OFF is FAULTED at once (R62). -/
theorem faultDue_due {s : State} {r : FaultRep} {n : Nat} {z : Axis} (hz : s.axis? n = some z) (hdue : s.due z = true) (hoff : z.st ≠ .off) :
    ((s.faultDue r n).axis? n).map (·.st) = some .faulted := by
  unfold State.faultDue
  rw [hz]
  dsimp only
  rw [if_neg (by simp [hdue])]
  exact (faultAxis_spec hz).2 hoff

/-- A FAULTED axis stays FAULTED. -/
theorem faultDue_stays {s : State} {r : FaultRep} {n : Nat} (h : (s.axis? n).map (·.st) = some .faulted) (m : Nat) :
    ((s.faultDue r m).axis? n).map (·.st) = some .faulted := by
  by_cases hm : n = m
  · subst hm
    obtain ⟨z, hz, hst⟩ := Option.map_eq_some_iff.mp h
    unfold State.faultDue
    rw [hz]
    dsimp only
    split
    · refine Eq.trans ?_ h
      exact OnAxis.state (.updAxis (st := True) (fun _ => rfl) fun _ _ => rfl) trivial
    · exact (faultAxis_spec hz).2 (by rw [hst]; decide)
  · rw [(faultDue_onAxis s r m).others n hm, h]

theorem foldl_faultDue_stays {r : FaultRep} {n : Nat} : ∀ (l : List Nat) {s : State}, (s.axis? n).map (·.st) = some .faulted →
    ((l.foldl (fun s n => s.faultDue r n) s).axis? n).map (·.st) = some .faulted
  | [], _, h => h
  | m :: l, _, h => foldl_faultDue_stays l (faultDue_stays h m)

theorem foldl_faultDue_faults (r : FaultRep) : ∀ (l : List Nat) (s : State), (l.foldl (fun s n => s.faultDue r n) s).faults = s.faults
  | [], _ => rfl
  | n :: l, s => (foldl_faultDue_faults r l _).trans (faultDue_onAxis s r n).faults

/-- The axes that an F2 concerns (R505). -/
def concerned (s : State) (r : FaultRep) : List Nat := (s.axes.map (·.entry.axis)).filter (fun n => s.concerns r.code r.loc n)

/-- The lane with an F2 at its axes. -/
def f2Taken (s : State) (r : FaultRep) : State := (concerned s r).foldl (fun s n => s.faultDue r n) s

/-- The lane with an F2 at its axes and in its collector. -/
def f2Marked (s : State) (r : FaultRep) : State :=
  { f2Taken s r with faults := { (f2Taken s r).faults with
      f2Seen := true, sysF2 := (f2Taken s r).faults.sysF2 || decide (r.scope = 3 ∨ (r.scope = 2 ∧ 8 ≤ r.loc.num)) } }

theorem actF2_eq (s : State) (r : FaultRep) : s.actF2 r =
    if r.scope = 3 ∨ (r.scope = 2 ∧ 8 ≤ r.loc.num) then ((f2Marked s r).irq7 (f2Taken s r).faults.f2Seen).settle
    else (f2Marked s r).irq7 (f2Taken s r).faults.f2Seen := rfl

theorem irq7_faults (s : State) (was : Bool) : (s.irq7 was).faults = s.faults := by
  obtain ⟨st, tx, h⟩ := irq7_eq s was
  rw [h]

theorem irq7_axis? (s : State) (was : Bool) (n : Nat) : (s.irq7 was).axis? n = s.axis? n := by
  obtain ⟨st, tx, h⟩ := irq7_eq s was
  rw [h]
  rfl

theorem actF2_grows (s : State) (r : FaultRep) : Grows s (s.actF2 r) := by
  have htaken : Grows s (f2Taken s r) := .foldl (f := fun s n => s.faultDue r n) (fun s n => .faultDue s r n) (concerned s r) s
  have hevents : (f2Marked s r).events = (f2Taken s r).events := rfl
  have hmarked : Grows s (f2Marked s r) := htaken.trans (.of_events hevents)
  rw [actF2_eq]
  generalize f2Marked s r = u at hmarked
  split
  · exact (hmarked.trans (.irq7 u _)).trans (.settle _)
  · exact hmarked.trans (.irq7 u _)

/-- An F2 of an axis makes it FAULTED where the axis is due and not OFF. -/
theorem actF2_axis {s : State} {r : FaultRep} {n : Nat} {z : Axis} (hscope : r.scope = 0) (hloc : r.loc.axis = some n) (hz : s.axis? n = some z)
    (hdue : s.due z = true) (hoff : z.st ≠ .off) : ((s.actF2 r).axis? n).map (·.st) = some .faulted := by
  have hconcerns (m : Nat) : s.concerns r.code r.loc m = true ↔ m = n := by
    have hscope' : ({ code := r.code, loc := r.loc } : FaultRep).scope = 0 := hscope
    unfold State.concerns
    rw [hscope', hloc]
    exact beq_iff_eq.trans ⟨fun h => (Option.some.inj h).symm, fun h => by rw [h]⟩
  have hmem : n ∈ concerned s r := by
    have hid : z.entry.axis = n := beq_iff_eq.mp (List.find?_some (p := fun a : Axis => a.entry.axis == n) hz)
    exact List.mem_filter.mpr ⟨List.mem_map.mpr ⟨z, List.mem_of_find?_eq_some hz, hid⟩, (hconcerns n).mpr rfl⟩
  have hall : ∀ m ∈ concerned s r, m = n := fun m hm => (hconcerns m).mp (List.mem_filter.mp hm).2
  have htaken : ((f2Taken s r).axis? n).map (·.st) = some .faulted := by
    unfold f2Taken
    generalize concerned s r = ns at hmem hall
    cases ns with
    | nil => exact absurd hmem List.not_mem_nil
    | cons m ns =>
      rw [hall m List.mem_cons_self]
      exact foldl_faultDue_stays ns (faultDue_due hz hdue hoff)
  rw [actF2_eq, if_neg (by omega), irq7_axis?]
  exact htaken

/-- What an F2 marks in the collector. -/
theorem actF2_faults (s : State) (r : FaultRep) : (s.actF2 r).faults = { s.faults with
    f2Seen := true, sysF2 := s.faults.sysF2 || decide (r.scope = 3 ∨ (r.scope = 2 ∧ 8 ≤ r.loc.num)) } := by
  have htaken : (f2Taken s r).faults = s.faults := foldl_faultDue_faults r _ s
  have hmarked : (f2Marked s r).faults = { s.faults with
      f2Seen := true, sysF2 := s.faults.sysF2 || decide (r.scope = 3 ∨ (r.scope = 2 ∧ 8 ≤ r.loc.num)) } := by rw [← htaken]; rfl
  rw [actF2_eq]
  split
  · rw [settle_faults, irq7_faults, hmarked]
  · rw [irq7_faults, hmarked]

/-- A SYSTEM F2 turns every switch off. -/
theorem actF2_allOff {s : State} {r : FaultRep} (h : r.scope = 3) : AllOff (s.actF2 r) := by
  rw [actF2_eq, if_pos (.inl h)]
  refine settle_allOff (gateDisabled_of_sysF2 ?_)
  rw [irq7_faults]
  simp [f2Marked, h]

/-! ### The queue of notices (R512) -/

/-- `t` is `s` but for the queue of notices with the records of what it held. -/
structure Frees (s t : State) : Prop where
  frame : t = { s with faults := { s.faults with queue := t.faults.queue, dropped := t.faults.dropped }, events := t.events, acq := t.acq,
                       host := t.host, tx := t.tx }
  grows : Grows s t

namespace Frees
variable {s t u : State}

theorem refl (s : State) : Frees s s := ⟨rfl, .of_events rfl⟩

theorem trans (h : Frees s t) (k : Frees t u) : Frees s u := ⟨by rw [k.frame, h.frame], h.grows.trans k.grows⟩

theorem foldl {α : Type} {f : State → α → State} (hf : ∀ s a, Frees s (f s a)) : ∀ (l : List α) (s : State), Frees s (l.foldl f s)
  | [], s => refl s
  | a :: l, s => (hf s a).trans (foldl hf l (f s a))

theorem record (s : State) (r : EvRec) : Frees s (s.record r) := by
  refine ⟨?_, .record s r⟩
  obtain ⟨ev, st, tx, h, -⟩ := record_eq s r
  rw [h]

theorem faultRecord (s : State) (kind code cls : Nat) (loc : Loc) (lane : Option Lane) (inst cycles raise : Nat) :
    Frees s (s.faultRecord kind code cls loc lane inst cycles raise) := (record s _).trans ⟨rfl, .of_events rfl⟩

theorem eventAfter (s : State) (r : FaultRep) : Frees s (s.eventAfter r) := by
  unfold State.eventAfter
  split
  next e _ =>
    obtain ⟨rec, h, -⟩ := eventBody_record s e r.lane
    rw [h]
    exact record s rec
  next => exact refl s

theorem releaseQueue (s : State) : Frees s s.releaseQueue := by
  unfold State.releaseQueue
  split
  · extract_lets q d f t u
    have ht : Frees s t := ⟨rfl, .of_events rfl⟩
    have hu : Frees s u := ht.trans (foldl (fun u n => (faultRecord u _ _ _ _ _ _ _ _).trans (eventAfter _ n.rep)) q t)
    split
    · exact hu
    · exact hu.trans (record u _)
  · exact refl s

end Frees

end Sys2Proof.Proofs
end

section
/-!
PROOF of O40: the fault commands (R509, R514, R520) and a handling timer that expires (R510).
-/
namespace Sys2Proof.Proofs
open Sys2Proof Sys2Proof.Machine Sys2Proof.Laws

/-! ### FAULT_CLEAR (R514) -/

/-- An output that no short and no stuck gate holds off. -/
def Unheld (o : Sdo) : Prop := o.shorted = false ∧ o.failed = false

theorem settledSdo_unheld {s : State} {m : Nat} {o : Sdo} (h : Unheld o) : Unheld (settledSdo s m o) := by
  unfold settledSdo
  split
  · exact h
  split
  · exact h
  · exact h

theorem settle_unheld {s : State} (h : ∀ (m : Nat) (o : Sdo), s.drivers.outs[m]? = some o → Unheld o) {m : Nat} {o : Sdo}
    (ho : s.settle.drivers.outs[m]? = some o) : Unheld o := by
  rw [settle_yielded, foldl_settleOutput_outs _ List.nodup_range, yielded_drivers] at ho
  split at ho
  · obtain ⟨o', ho', rfl⟩ := Option.map_eq_some_iff.mp ho
    exact settledSdo_unheld (h m o' ho')
  · exact h m o ho

/-- The state in which FAULT_CLEAR forms its record. -/
def cleared (s : State) : State := { s with
  faults := { s.faults with sysF2 := false }
  drivers := { s.drivers with outs := s.drivers.outs.map (fun o => { o with shorted := false, failed := false }) } }

theorem faultClear_unblocked {s : State} (hb : s.clearBlocked = false) (hf3 : s.faults.f3 = false) (tag : BitVec 32) :
    s.faultClear tag = (cleared s).clearedRecord.settle := by
  unfold State.faultClear
  rw [if_neg (by simp [hb, hf3])]
  rfl

theorem faultClear_blocked {s : State} (hb : s.clearBlocked = true) (tag : BitVec 32) :
    s.faultClear tag = s.event 0x401 0xFF (toLe 4 tag.toNat ++ toLe 2 0x0009 ++ [0xFF]) := by
  unfold State.faultClear
  rw [if_pos (by simp [hb])]
  rfl

/-- FAULT_CLEAR ends the system F2 and what held single outputs off, with one record; axes and configuration stay. -/
theorem faultClear_ends {s : State} (hc : s.common = true) (hb : s.clearBlocked = false) (hf3 : s.faults.f3 = false) (tag : BitVec 32) :
    (s.faultClear tag).faults = { s.faults with sysF2 := false } ∧ (∃ e, (s.faultClear tag).events.fresh = s.events.fresh ++ [e]) ∧
    (s.faultClear tag).axes = s.axes ∧ (s.faultClear tag).cfg = s.cfg ∧
    ∀ (m : Nat) (o : Sdo), (s.faultClear tag).drivers.outs[m]? = some o → o.shorted = false ∧ o.failed = false := by
  rw [faultClear_unblocked hb hf3]
  have hrec : (cleared s).clearedRecord = _ := record_common (cleared s) _ hc
  rw [hrec]
  generalize hu : State.mk _ _ _ _ _ _ _ _ _ _ _ _ _ _ _ _ _ _ _ _ _ _ _ _ _ _ _ _ _ = u
  have hout : ∀ (m : Nat) (o : Sdo), u.drivers.outs[m]? = some o → Unheld o := by
    intro m o ho
    subst hu
    obtain ⟨o', -, rfl⟩ := Option.map_eq_some_iff.mp (List.getElem?_map.symm.trans ho)
    exact ⟨rfl, rfl⟩
  obtain ⟨x, d, o, f, hframe⟩ := (settle_switches u).frame
  refine ⟨?_, ?_, ?_, ?_, fun m o ho => settle_unheld hout ho⟩
  · rw [hframe, ← hu]
    rfl
  · rw [hframe, ← hu]
    exact ⟨_, rfl⟩
  · rw [hframe, ← hu]
    rfl
  · rw [hframe, ← hu]
    rfl

/-! ### FAULT_RAISE (R520) -/

/-- The host-test source at no axis, as FAULT_RAISE names its class. -/
def hostTest (cls : Nat) : FaultRep := { code := 0x13F, cls := if cls = 0 then .f0 else .f1, loc := locNone }

theorem faultRaise_none (s : State) (cls : Nat) : s.faultRaise none cls = s.takeNow (hostTest cls) := rfl

/-- The lane with the number of the next fault taken (R507). -/
def withNextInst (s : State) : State := { s with faults := { s.faults with inst := nextInst s.faults.inst } }

/-- The handling timer that an F1 starts (R508). -/
def raisedTimer (s : State) (r : FaultRep) : Timer :=
  { inst := nextInst s.faults.inst, rep := r, start := s.clock.cycle, expiry := s.clock.cycle + s.handlingCycles }

section
variable {s : State} {r : FaultRep} (ht : s.faults.timers = []) (hk : r.kindL = false) (he : r.event = none)
include ht hk he

/-- With no timer running an F0 is numbered and recorded (R507). -/
theorem takeFault_f0 (hcls : r.cls = .f0) : s.takeFault r =
    ((withNextInst s).faultRecord frRaised r.code 0 r.loc r.lane (nextInst s.faults.inst).toNat 0 s.clock.cycle, []) := by
  simp [State.takeFault, ht, hk, he, hcls, State.activate, State.eventAfter, withNextInst]

/-- With no timer running an F1 is numbered, recorded and timed (R507, R508). -/
theorem takeFault_f1 (hcls : r.cls = .f1) {u : State} (hu : (withNextInst s).faultRecord frRaised r.code 1 r.loc r.lane (nextInst s.faults.inst).toNat
      (withNextInst s).handlingCycles s.clock.cycle = u) : s.takeFault r =
    ({ u with faults := { u.faults with timers := u.faults.timers ++ [raisedTimer s r] } }, []) := by
  subst hu
  simp [State.takeFault, ht, hk, he, hcls, State.activate, State.eventAfter, withNextInst]
  rfl

end

/-- With no timer running the host test is numbered and recorded, and as an F1 timed. -/
theorem hostTest_taken {s : State} (hc : s.common = true) (ht : s.faults.timers = []) (cls : Nat) : ∃ e q y,
    s.takeNow (hostTest cls) = { s with
      events := { s.events with fresh := s.events.fresh ++ [e] }
      acq := q
      faults := { s.faults with inst := nextInst s.faults.inst, timers := if cls = 0 then [] else [y] } } ∧
    y.inst = nextInst s.faults.inst ∧ y.rep.code = 0x13F ∧ y.start = s.clock.cycle ∧ y.expiry = s.clock.cycle + s.handlingCycles := by
  unfold State.takeNow
  by_cases h0 : cls = 0
  · obtain ⟨e, q, hrec⟩ := faultRecord_common (s := withNextInst s) hc frRaised (hostTest cls).code 0 (hostTest cls).loc (hostTest cls).lane
      (nextInst s.faults.inst).toNat 0 s.clock.cycle
    refine ⟨e, q, raisedTimer s (hostTest cls), ?_, rfl, rfl, rfl, rfl⟩
    rw [takeFault_f0 ht rfl rfl (by simp [hostTest, h0]), hrec, if_pos h0, ← ht]
    rfl
  · obtain ⟨e, q, hrec⟩ := faultRecord_common (s := withNextInst s) hc frRaised (hostTest cls).code 1 (hostTest cls).loc (hostTest cls).lane
      (nextInst s.faults.inst).toNat (withNextInst s).handlingCycles s.clock.cycle
    refine ⟨e, q, raisedTimer s (hostTest cls), ?_, rfl, rfl, rfl, rfl⟩
    rw [takeFault_f1 ht rfl rfl (by simp [hostTest, h0]) hrec, if_neg h0]
    dsimp only [List.foldl_nil]
    rw [show (withNextInst s).faults.timers = [] from ht]
    rfl

/-! ### A timer that expires (R510) -/

/-- The expired timer is recorded as ESCALATED; what follows is the F2 of its scope. -/
theorem expire_common {s : State} (hc : s.common = true) (x : Timer) : ∃ e q active was irq tx, s.expire x = (({ s with
    faults := { s.faults with timers := s.faults.timers.filter (fun y => y.inst ≠ x.inst), escSeen := was, active := active }
    events := { s.events with fresh := s.events.fresh ++ [e] }
    acq := q
    host := { s.host with irqStatus := irq }
    tx := tx } : State).actF2 x.rep) ∧ was = true := by
  let u : State := ({ s with faults := { s.faults with timers := s.faults.timers.filter (fun y => y.inst ≠ x.inst), escSeen := true } } :
    State).raiseActive x.rep
  obtain ⟨e, q, hrec⟩ := faultRecord_common (s := u) hc frEscalated x.rep.code 2 x.rep.loc x.rep.lane x.inst.toNat 0 x.start
  obtain ⟨irq, tx, hirq⟩ := irq7_eq (u.faultRecord frEscalated x.rep.code 2 x.rep.loc x.rep.lane x.inst.toNat 0 x.start) s.faults.escSeen
  refine ⟨e, q, u.faults.active, true, irq, tx, ?_, rfl⟩
  have hexp : s.expire x = ((u.faultRecord frEscalated x.rep.code 2 x.rep.loc x.rep.lane x.inst.toNat 0 x.start).irq7
    s.faults.escSeen).actF2 x.rep := rfl
  rw [hexp, hirq, hrec]
  rfl

/-- What an expired timer leaves once the queue of notices is released. -/
theorem expired {s : State} (hc : s.common = true) (x : Timer) {t : State} (ht : t = (s.expire x).releaseQueue) :
    t.faults.timers = s.faults.timers.filter (fun y => y.inst ≠ x.inst) ∧ t.faults.escSeen = true ∧ t.faults.f2Seen = true ∧
    s.events.fresh.length < t.events.fresh.length ∧ t.cfg = s.cfg ∧
    (∀ n z, x.rep.scope = 0 → x.rep.loc.axis = some n → s.axis? n = some z → s.due z = true → z.st ≠ .off →
      (t.axis? n).map (·.st) = some .faulted) ∧
    (x.rep.scope = 3 → t.faults.sysF2 = true ∧ AllOff t) := by
  obtain ⟨e, q, active, was, irq, tx, hexp, hwas⟩ := expire_common hc x
  have hfreed := Frees.releaseQueue (s.expire x)
  rw [← ht, hexp] at hfreed
  generalize hu : ({ s with
    faults := { s.faults with timers := s.faults.timers.filter (fun y => y.inst ≠ x.inst), escSeen := was, active := active }
    events := { s.events with fresh := s.events.fresh ++ [e] }
    acq := q
    host := { s.host with irqStatus := irq }
    tx := tx } : State) = u at hfreed
  obtain ⟨hframe, hgrows⟩ := hfreed
  have hfaults := actF2_faults u x.rep
  have hmore := (actF2_grows u x.rep).trans hgrows
  have hfresh : u.events.fresh.length = s.events.fresh.length + 1 := by
    rw [← hu]
    simp
  have haxis (n : Nat) : t.axis? n = (u.actF2 x.rep).axis? n := by
    rw [hframe]
    rfl
  refine ⟨?_, ?_, ?_, ?_, ?_, fun n z h0 hloc hz hdue hoff => ?_, fun h3 => ⟨?_, fun m hm o ho => ?_⟩⟩
  · rw [hframe, hfaults, ← hu]
  · rw [hframe, hfaults, ← hu]
    exact hwas
  · rw [hframe, hfaults]
  · rw [Grows] at hmore
    omega
  · rw [hframe, (actF2_reacts u x.rep).cfg, ← hu]
  · rw [haxis]
    exact actF2_axis h0 hloc (by rw [← hu]; exact hz) (by rw [← hu]; exact hdue) hoff
  · rw [hframe, hfaults]
    simp [h3]
  · rw [hframe] at ho
    exact actF2_allOff h3 m hm o ho

/-! ### The obligation -/

/-- Settles O40: each command's operation finds the state without the command's place, and a timer that expires is an F2. -/
theorem faultCommandsAndTimers : Obligations.FaultCommandsAndTimers := by
  intro s a rest r x hc s0 f inst named next
  refine ⟨fun h hf3 => ⟨fun hop _ => ?ack, fun hop hb => ?clear, fun hop hb => ?blocked, fun hop htarget ht => ?raise⟩, fun hfind => ?expiry,
    fun i hnone => ?none⟩
  case ack =>
    obtain ⟨es, q, hack, hlen⟩ := ack_common (s := s0) hc inst
    refine ⟨s0.ack inst, es, effectRow_next rfl h hop rfl ?_, ?_, hlen⟩
    · simp only [State.effectOp, hop]
      exact if_neg (Bool.eq_false_iff.mp hf3)
    · rw [hack]
      rfl
  case clear =>
    refine ⟨s0.faultClear r.tag, effectRow_next rfl h hop rfl ?_, faultClear_ends (s := s0) hc hb hf3 r.tag⟩
    simp only [State.effectOp, hop]
    rfl
  case blocked =>
    refine ⟨s0.faultClear r.tag, effectRow_next rfl h hop rfl ?_, ?_⟩
    · simp only [State.effectOp, hop]
      rfl
    · rw [faultClear_blocked (s := s0) hb]
      exact event_recorded (s := s0) hc (by decide) (by decide) _
  case raise =>
    obtain ⟨e, q, y, htaken, hinst, hcode, hstart, hexpiry⟩ := hostTest_taken (s := s0) hc ht (byteAt r.payload 0)
    refine ⟨s0.takeNow (hostTest (byteAt r.payload 0)), e, y, effectRow_next rfl h hop rfl ?_, ?_, hinst, hcode, hstart, hexpiry⟩
    · simp only [State.effectOp, hop, htarget]
      rfl
    · rw [htaken]
      rfl
  case expiry =>
    refine ⟨(s.expire x).releaseQueue, ?_, expired hc x rfl⟩
    change execHandlingTimerExpiry x.inst s = _
    rw [execHandlingTimerExpiry, hfind]
  case none =>
    change execHandlingTimerExpiry i s = _
    rw [execHandlingTimerExpiry, hnone]

end Sys2Proof.Proofs
end
